-- ==== Sys2Proof/Word.lean ====
section
/-! DEFINITION. The word types of the block and the shape of a register field (R8, R22). -/
namespace Sys2Proof

/-- A 32-bit register (R22). -/
abbrev Word := BitVec 32

/-- One byte of memory. -/
abbrev Byte := BitVec 8

/-- The access codes of R8; `rsv` is a reserved field (R9). -/
inductive Acc where
  | ro | rw | w1c | w1s | wo | rwl | rwd | rsv
deriving DecidableEq, Repr

/-- A register field: the offset of its register in the page, its bits, its access code, its
reset value, and the distance to the same field of the next instance (0: a single register). -/
structure Fld where
  off : Nat
  hi : Nat
  lo : Nat
  acc : Acc
  rst : Nat
  str : Nat
deriving DecidableEq, Repr

/-- A register or an array of `count` registers `stride` bytes apart; `pair` marks a _LO register
whose _HI half lies at the next offset (R11). -/
structure RegDef where
  off : Nat
  stride : Nat
  count : Nat
  pair : Bool
  flds : List Fld
deriving DecidableEq, Repr

/-- The engine families that share the engine page layout (R239, R277, R308). -/
inductive EngKind where
  | fe | me | ad | ld | le | pe | td | vd | hq | xc | nb
deriving DecidableEq, Repr

/-- The kinds of register page of the page directory (R45). -/
inductive PageKind where
  | sys | keeper | pwr | pylon | pylonRef | pylonTrig | keystone | parapet | tollhouse | eventHub
  | trestle0 | trestle1 | trestle2 | trestle3 | domain | deck | deckVariant | pier | bay
  | eng (k : EngKind)
  | au | lane | em | cp | lk | pool | router | truss | bm | hbmPhy | cluster | pcie | xspi | pmbus
  | uart | gpio | debug
deriving DecidableEq, Repr

/-- Who makes an access: the Truss SOURCE (R383), the privilege PRIV (R385: 0 U-mode, 1 S-mode,
2 host, 3 M-mode or Keeper), the CTX, and for the host the function (0 the physical function). -/
structure Who where
  source : Nat
  priv : Nat
  ctx : Nat
  fn : Nat
deriving DecidableEq, Repr

/-- A dynamic access of a memory: a load, a store, or an AMO with its AOP (R386, R450). -/
inductive DynKind where
  | read | write
  | amo (aop cmp : Nat)
deriving DecidableEq, Repr

/-- A packet header (R385). -/
structure Packet where
  dx : Nat
  dy : Nat
  cmd : Nat
  cls : Nat
  priv : Nat
  ctx : Nat
  len : Nat
  source : Nat
  tag : Nat
  addr : Nat
deriving DecidableEq, Repr

/-- How an engine operation comes to be issued: by entry `i` of the slot table in force (`r` = 0) or of the SUBTAB of the
replay of window `r` − 1; by the CHAIN of the unit's last operation (R204); as a dynamic job in a lent window, by the address
of its descriptor (R497). -/
inductive IssueBy where
  | table (r i : Nat)
  | chain (unit : Nat)
  | lent (unit : Nat) (addr ctx : Nat)
deriving DecidableEq, Repr

end Sys2Proof
end

