-- ==== Sys2Proof/Syntax.lean ====
section
/-! DEFINITION. The commands of the block and their operands: one constructor per row of the table. -/
namespace Sys2Proof

/-- The commands of the block: one constructor per row of spec/opcode_table.json, in its order. -/
inductive Instr where
  /-- REGISTER_WRITE (R8): A write to a register page field that has no step of its own sets the field according to its access code after the access checks. -/
  | registerWrite (w : Who) (addr : BitVec 48) (width : Fin 17) (value : BitVec 64)
  /-- LO_READ_LATCH (R11): A read of a _LO register latches the whole 64-bit value so that a later _HI read returns its upper half. -/
  | loReadLatch (w : Who) (addr : BitVec 48) (width : Fin 17)
  /-- PG_CTRL_WRITE (R27): A write of PG_CTRL sets ENABLE, OUT_EN and MODE, testing RWD fields against the prior ENABLE, and may start or stop the block. -/
  | pgCtrlWrite (w : Who) (p : Fin 4096) (value : BitVec 32)
  /-- PG_IRQ_FORCE_WRITE (R29): A write of PG_IRQ_FORCE sets pending interrupt bits in DIAGNOSTIC mode and is otherwise refused. -/
  | pgIrqForceWrite (w : Who) (p : Fin 4096) (value : BitVec 32)
  /-- ERR_CAP_CLEAR (R30): Writing 1 to PG_ERR_CAP0.VALID clears the capture, OVF and CAP1 to CAP3. -/
  | errCapClear (w : Who) (p : Fin 4096)
  /-- PAGE_LOCK (R33): A write of PG_LOCK with LOCK and the key 0xA5C3 freezes the page's RWL and RWD fields until reset. -/
  | pageLock (w : Who) (p : Fin 4096) (key : BitVec 16)
  /-- PY_AIR_READ (R50): A read of PY_AIR_LO latches the air count, PTP time and every TB_NOW register. -/
  | pyAirRead (w : Who)
  /-- PPS_IN_EDGE (R79): An accepted PPS_IN marking edge is captured as a phase measurement and used for stepping, slewing or lock. -/
  | ppsInEdge (demand : Int)
  /-- PPS_MISS (R80): No accepted marking edge for 1.5 s, and every further second, records PPS_MISS. -/
  | ppsMiss
  /-- PPS_STUCK (R80): A filtered PPS_IN level unchanged for 2 s sets STUCK and records PPS_STUCK once. -/
  | ppsStuck
  /-- TOD_LABEL_WRITE (R81): A write of TOD_HI commits a seconds label to the next accepted marking edge. -/
  | todLabelWrite (w : Who) (value : Nat)
  /-- COARSE_STEP (R55): A write of PY_COARSE_HI adds the signed offset to the air count as a step when the Pylon is UNSET or ACQUIRING and no plan is armed. -/
  | coarseStep (w : Who) (value : Nat)
  /-- REF_OFS_COMMIT (R70): A write of REF_OFS_AIR commits the PTP offset as one phase measurement for an enabled KIND 3 slot. -/
  | refOfsCommit (w : Who) (slot : Fin 8) (value : Nat) (demand : Int)
  /-- REF_SLOT_ENABLE (R71): Setting EN of a reference slot moves it from OFF to QUALIFYING. -/
  | refSlotEnable (w : Who) (slot : Fin 8) (value : Nat)
  /-- REF_SLOT_DISABLE (R71): Clearing EN of a reference slot moves it to OFF and deselects it. -/
  | refSlotDisable (w : Who) (slot : Fin 8) (value : Nat)
  /-- REF_LOSS_OF_SIGNAL (R69): A slot's loss-of-signal condition disqualifies it at once and may send the Pylon to HOLDOVER. -/
  | refLossOfSignal (slot : Fin 8)
  /-- REF_SECOND_BOUNDARY (R72): At each whole second the Pylon advances qualification and wait-to-restore counts, selects references and applies the holdover model. -/
  | refSecondBoundary (y1 y16 y256 : List Int) (die : BitVec 16) (back : BitVec 8)
  /-- DRIFT_RESULT_POST (R75): 1 ms after each drift window ends the Pylon posts the result and disqualifies a drifter or clears MODEL_V. -/
  | driftResultPost
  /-- HOLDOVER_MODEL_UPDATE (R77): At the end of each 256 s window while LOCKED and learning, the Pylon updates the temperature table and refits the model. -/
  | holdoverModelUpdate (offset : Int)
  /-- TRG_IDX_WRITE (R92): A write of TRG_IDX loads the selected trigger entry into the staging registers. -/
  | trgIdxWrite (w : Who) (value : Nat)
  /-- TRG_ARM (R64): TRG_CMD ARM applies the staged values to the entry after the range and owner checks. -/
  | trgArm (w : Who)
  /-- TRG_DISARM (R92): TRG_CMD DISARM disarms the staged entry. -/
  | trgDisarm (w : Who)
  /-- TRIGGER_FIRE (R65): An armed trigger entry reaches its target, fires its action at its destination after L cy and retargets or disarms. -/
  | triggerFire (idx : Fin 1024)
  /-- PPS_OUT_PULSE (R83): While the air count is valid PPS_OUT rises at each whole second, advanced by PPSO_ADV. -/
  | ppsOutPulse
  /-- PPS_OUT_END (R83): PPS_OUT falls when its configured width has elapsed. -/
  | ppsOutEnd
  /-- GPIO_INPUT_CHANGE (R85): A GPIO level change that holds for the filter time is accepted and, when selected, captured into the queue. -/
  | gpioInputChange (pin : Fin 48) (level held : Bool)
  /-- STUCK (R87): A GPIO pin held active for its STUCK time sets its stuck bit. -/
  | stuck (pin : Fin 48)
  /-- GPIO_CAP_POP (R88): A read of GPIO_CAP_INFO pops the oldest capture into the latch. -/
  | gpioCapPop (w : Who)
  /-- LOAD (R121): DK_CMD LOAD checks a plan image and copies its load sections into deck memory. -/
  | load (w : Who) (slot : Fin 2)
  /-- PLAN_LOAD_DONE (R121): The copy of the load sections completes and DK_RESULT reports the outcome. -/
  | planLoadDone
  /-- ARM (R122): DK_CMD ARM arms a loaded plan for an instant S with initial variants and phase, after the refusal checks. -/
  | arm (w : Who) (slot : Fin 2)
  /-- DISARM (R122): DK_CMD DISARM withdraws an armed plan before S minus one span or is refused. -/
  | disarm (w : Who)
  /-- STOP (R126): DK_CMD STOP names a span boundary at which the running plan stops. -/
  | stop (w : Who)
  /-- UNLOAD (R132): DK_CMD UNLOAD frees a loaded plan slot. -/
  | unload (w : Who) (slot : Fin 2)
  /-- SWAP_COMMIT (R123): At S minus one span the deck commits the armed plan, checks the draining of the running variant and latches VAR0. -/
  | swapCommit
  /-- PLAN_START (R123): At S the new plan starts, the old one stops, plan trigger entries are written and carried state passes on. -/
  | planStart
  /-- VARIANT_LATCH (R118): At each span start the deck latches and checks the selection for the span after next, fixes its thermal class and degraded substitute. -/
  | variantLatch
  /-- VARIANT_SELECT (R118): A write of DV_SEL selects the variant of a tagged span. -/
  | variantSelect (w : Who) (value : Nat)
  /-- LEASE_RENEW (R130): A write of DK_LEASE.RENEW sets the lease end 16 spans ahead. -/
  | leaseRenew (w : Who) (value : Nat)
  /-- LEASE_LAPSE (R130): When the air count reaches the lease end the approach units stop sending under the plan. -/
  | leaseLapse
  /-- PLAN_STOP (R126): At a STOP instant, or at the end of a span after a halting event, the plan stops and its trigger entries are disarmed. -/
  | planStop
  /-- FAIL_SET (R129): A write of DK_FAIL_SET adds a unit to the FAILED set. -/
  | failSet (w : Who) (value : Nat)
  /-- FAIL_REMOVE (R129): Writing 1 to DK_FAILn.VALID removes the unit at the next latch. -/
  | failRemove (w : Who) (n : Fin 8) (value : Nat)
  /-- UNIT_FAULT (R127): A unit reports a checked fault to the deck, which schedules a replay or marks the outputs FAULT. -/
  | unitFault (unit : Fin 65536)
  /-- REPLAY_RUN (R127): At the start of its replay window the deck runs the step's substitute slot table. -/
  | replayRun (win : Fin 8)
  /-- PIER_START (R151): The slot-table operation starts a pier program at a PM address with the section's CTX. -/
  | slotPierStart (r i : Nat)
  /-- AU_RX_OPEN (R352): The slot-table operation opens a reception buffer filled with the substitute. -/
  | slotAuRxOpen (r i : Nat)
  /-- AU_RX_CLOSE (R355): The slot-table operation closes a reception buffer and writes its map, record and erasure bit. -/
  | slotAuRxClose (r i : Nat)
  /-- AU_TX_SEND (R360): The slot-table operation builds a frame or CPRI data from a transmit descriptor for departure. -/
  | slotAuTxSend (b : IssueBy)
  /-- BM_XFER (R425): The slot-table operation moves data between bulk memory and deck SRAM. -/
  | slotBmXfer (r i : Nat)
  /-- BM_REFRESH (R427): The slot-table operation refreshes the plan-refreshed pseudo-channels in its mask. -/
  | slotBmRefresh (r i : Nat)
  /-- RING_WRITE (R485): The slot-table operation appends a token to a handoff ring. -/
  | slotRingWrite (r i : Nat)
  /-- LEND (R99): The slot-table operation opens a lent window of an engine for the dynamic class. -/
  | slotLend (r i : Nat)
  /-- POWER (R591): The slot-table operation requests a domain state with a fixed latency. -/
  | slotPower (r i : Nat)
  /-- DECK_XFER (R391): The slot-table operation makes a router's mover copy deck SRAM units as one class-0 packet. -/
  | slotDeckXfer (r i : Nat)
  /-- NOP (R108): The slot-table operation does nothing. -/
  | slotNop (r i : Nat)
  /-- REFRESH_MISS (R116): A controller reaching a refresh interval limit refreshes itself and halts the plan. -/
  | refreshMiss (g : Fin 64)
  /-- EV0 (R163): EV0 is raised in a pier when its deck signal line takes effect and EV0 is enabled. -/
  | ev0 (p : Fin 64)
  /-- EV1 (R163): EV1 is raised once when the span offset reaches EVCMP and EV1 is enabled. -/
  | ev1 (p : Fin 64)
  /-- PIER_EVENT_TAKE (R165): A pending event is taken at the first eligible cycle, switching to the shadow bank and starting the handler. -/
  | pierEventTake (p : Fin 64)
  /-- VADD (R185): Saturating lane-wise add. -/
  | pierVadd (p : Fin 64) (va : Fin 2) (chk : Fin 3)
  /-- VSUB (R185): Saturating lane-wise subtract. -/
  | pierVsub (p : Fin 64) (va : Fin 2) (chk : Fin 3)
  /-- VNEG (R185): Saturating lane-wise negate. -/
  | pierVneg (p : Fin 64) (va : Fin 2) (chk : Fin 3)
  /-- VABS (R185): Saturating lane-wise absolute value. -/
  | pierVabs (p : Fin 64) (va : Fin 2) (chk : Fin 3)
  /-- VCONJ (R185): Complex conjugate of each element. -/
  | pierVconj (p : Fin 64) (va : Fin 2) (chk : Fin 3)
  /-- VAND (R185): Bitwise AND of vectors. -/
  | pierVand (p : Fin 64) (va : Fin 2) (chk : Fin 3)
  /-- VOR (R185): Bitwise OR of vectors. -/
  | pierVor (p : Fin 64) (va : Fin 2) (chk : Fin 3)
  /-- VXOR (R185): Bitwise XOR of vectors. -/
  | pierVxor (p : Fin 64) (va : Fin 2) (chk : Fin 3)
  /-- VANDN (R185): Bitwise AND NOT of vectors. -/
  | pierVandn (p : Fin 64) (va : Fin 2) (chk : Fin 3)
  /-- VSHL (R185): Saturating lane-wise left shift. -/
  | pierVshl (p : Fin 64) (va : Fin 2) (chk : Fin 3)
  /-- VSRA (R185): Rounded lane-wise arithmetic right shift. -/
  | pierVsra (p : Fin 64) (va : Fin 2) (chk : Fin 3)
  /-- VCLIP (R185): Lane-wise clip to a power-of-two range. -/
  | pierVclip (p : Fin 64) (va : Fin 2) (chk : Fin 3)
  /-- VBFLY (R185): Butterfly writing sum and difference into a register pair. -/
  | pierVbfly (p : Fin 64) (va : Fin 2) (chk : Fin 3)
  /-- VBFLYJ (R185): Butterfly with the second operand rotated by −j. -/
  | pierVbflyj (p : Fin 64) (va : Fin 2) (chk : Fin 3)
  /-- VCMUL (R185): Complex multiply with shift, rounding and saturation. -/
  | pierVcmul (p : Fin 64) (va : Fin 2) (chk : Fin 3)
  /-- VRMUL (R185): Real lane-wise multiply with shift, rounding and saturation. -/
  | pierVrmul (p : Fin 64) (va : Fin 2) (chk : Fin 3)
  /-- VCMAC (R186): Complex multiply-accumulate into an accumulator. -/
  | pierVcmac (p : Fin 64) (va : Fin 2) (chk : Fin 3)
  /-- VCMACN (R186): Complex multiply-subtract from an accumulator. -/
  | pierVcmacn (p : Fin 64) (va : Fin 2) (chk : Fin 3)
  /-- VCMACZ (R186): Complex multiply into a cleared accumulator. -/
  | pierVcmacz (p : Fin 64) (va : Fin 2) (chk : Fin 3)
  /-- VRMAC (R186): Real multiply-accumulate into an accumulator. -/
  | pierVrmac (p : Fin 64) (va : Fin 2) (chk : Fin 3)
  /-- VRMACZ (R186): Real multiply into a cleared accumulator. -/
  | pierVrmacz (p : Fin 64) (va : Fin 2) (chk : Fin 3)
  /-- VRDO (R185): Accumulator readout with shift, rounding and saturation. -/
  | pierVrdo (p : Fin 64) (va : Fin 2) (chk : Fin 3)
  /-- VWSET (R185): Set accumulator lanes from shifted vector lanes. -/
  | pierVwset (p : Fin 64) (va : Fin 2) (chk : Fin 3)
  /-- VWADD (R185): Saturating accumulator add. -/
  | pierVwadd (p : Fin 64) (va : Fin 2) (chk : Fin 3)
  /-- VWSUB (R185): Saturating accumulator subtract. -/
  | pierVwsub (p : Fin 64) (va : Fin 2) (chk : Fin 3)
  /-- VPERM (R188): Permute elements of two vectors by an index vector. -/
  | pierVperm (p : Fin 64) (chk : Fin 3)
  /-- VROT (R188): Rotate vector elements. -/
  | pierVrot (p : Fin 64) (chk : Fin 3)
  /-- VALIGN (R188): Extract an aligned window from two vectors. -/
  | pierValign (p : Fin 64) (chk : Fin 3)
  /-- VDEINT (R190): Select every F-th item of two vectors. -/
  | pierVdeint (p : Fin 64) (chk : Fin 3)
  /-- VINTL (R188): Interleave halves of two vectors. -/
  | pierVintl (p : Fin 64) (chk : Fin 3)
  /-- VBCAST (R188): Broadcast an element or scalar to every element. -/
  | pierVbcast (p : Fin 64) (chk : Fin 3)
  /-- VEXT (R188): Extract an element into a scalar. -/
  | pierVext (p : Fin 64) (chk : Fin 3)
  /-- VINS (R188): Insert a scalar as an element. -/
  | pierVins (p : Fin 64) (chk : Fin 3)
  /-- VSIGN (R188): Negate lanes selected by a sequence slice. -/
  | pierVsign (p : Fin 64) (chk : Fin 3)
  /-- VRAMP (R188): Build a ramp of values with a step. -/
  | pierVramp (p : Fin 64) (chk : Fin 3)
  /-- VSEQI (R191): Initialise the Gold sequence state from a seed. -/
  | pierVseqi (p : Fin 64) (chk : Fin 3)
  /-- VSEQ (R191): Generate 1,024 sequence bits from a state. -/
  | pierVseq (p : Fin 64) (chk : Fin 3)
  /-- VSEQA (R191): Advance the sequence state n steps. -/
  | pierVseqa (p : Fin 64) (chk : Fin 3)
  /-- VMAX (R189): Search the maximum lane with its index. -/
  | pierVmax (p : Fin 64) (chk : Fin 3)
  /-- VMIN (R189): Search the minimum lane with its index. -/
  | pierVmin (p : Fin 64) (chk : Fin 3)
  /-- VBEXP (R189): Find the block exponent of 16-bit lanes. -/
  | pierVbexp (p : Fin 64) (chk : Fin 3)
  /-- VBEXPW (R189): Find the block exponent of 32-bit accumulator lanes. -/
  | pierVbexpw (p : Fin 64) (chk : Fin 3)
  /-- VCMPEQ (R188): Vector compare for equality into a guard. -/
  | pierVcmpeq (p : Fin 64) (chk : Fin 3)
  /-- VCMPLT (R188): Vector compare less-than into a guard. -/
  | pierVcmplt (p : Fin 64) (chk : Fin 3)
  /-- VCMPLE (R188): Vector compare less-or-equal into a guard. -/
  | pierVcmple (p : Fin 64) (chk : Fin 3)
  /-- LDV (R193): Load a 128-byte vector. -/
  | pierLdv (p : Fin 64) (bus : Fin 2) (chk : Fin 3)
  /-- LDH (R193): Load half a vector. -/
  | pierLdh (p : Fin 64) (bus : Fin 2) (chk : Fin 3)
  /-- LDS (R193): Load a scalar word. -/
  | pierLds (p : Fin 64) (bus : Fin 2) (chk : Fin 3)
  /-- LDE (R193): Load one element. -/
  | pierLde (p : Fin 64) (bus : Fin 2) (chk : Fin 3)
  /-- LDB (R193): Load a word broadcast to every element. -/
  | pierLdb (p : Fin 64) (bus : Fin 2) (chk : Fin 3)
  /-- STV (R193): Store a 128-byte vector, remotely as a class-0 write when in a remote window. -/
  | pierStv (p : Fin 64) (bus : Fin 2) (chk : Fin 3)
  /-- STH (R193): Store half a vector. -/
  | pierSth (p : Fin 64) (bus : Fin 2) (chk : Fin 3)
  /-- STS (R193): Store a scalar word. -/
  | pierSts (p : Fin 64) (bus : Fin 2) (chk : Fin 3)
  /-- STE (R193): Store one element. -/
  | pierSte (p : Fin 64) (bus : Fin 2) (chk : Fin 3)
  /-- AUPD (R193): Update an address register without access. -/
  | pierAupd (p : Fin 64) (bus : Fin 2) (chk : Fin 3)
  /-- ADD (R196): Scalar wrapping add. -/
  | pierAdd (p : Fin 64) (chk : Fin 3)
  /-- SUB (R196): Scalar wrapping subtract. -/
  | pierSub (p : Fin 64) (chk : Fin 3)
  /-- ADDS (R196): Scalar saturating add. -/
  | pierAdds (p : Fin 64) (chk : Fin 3)
  /-- SUBS (R196): Scalar saturating subtract. -/
  | pierSubs (p : Fin 64) (chk : Fin 3)
  /-- AND (R196): Scalar bitwise AND. -/
  | pierAnd (p : Fin 64) (chk : Fin 3)
  /-- OR (R196): Scalar bitwise OR. -/
  | pierOr (p : Fin 64) (chk : Fin 3)
  /-- XOR (R196): Scalar bitwise XOR. -/
  | pierXor (p : Fin 64) (chk : Fin 3)
  /-- ANDN (R196): Scalar AND NOT. -/
  | pierAndn (p : Fin 64) (chk : Fin 3)
  /-- SHL (R196): Scalar left shift by register. -/
  | pierShl (p : Fin 64) (chk : Fin 3)
  /-- SHRL (R196): Scalar logical right shift by register. -/
  | pierShrl (p : Fin 64) (chk : Fin 3)
  /-- SHRA (R196): Scalar arithmetic right shift by register. -/
  | pierShra (p : Fin 64) (chk : Fin 3)
  /-- MIN (R196): Scalar signed minimum. -/
  | pierMin (p : Fin 64) (chk : Fin 3)
  /-- MAX (R196): Scalar signed maximum. -/
  | pierMax (p : Fin 64) (chk : Fin 3)
  /-- MINU (R196): Scalar unsigned minimum. -/
  | pierMinu (p : Fin 64) (chk : Fin 3)
  /-- MAXU (R196): Scalar unsigned maximum. -/
  | pierMaxu (p : Fin 64) (chk : Fin 3)
  /-- CLZ (R196): Count leading zeros. -/
  | pierClz (p : Fin 64) (chk : Fin 3)
  /-- ADDI (R196): Scalar add immediate. -/
  | pierAddi (p : Fin 64) (chk : Fin 3)
  /-- ANDI (R196): Scalar AND with zero-extended immediate. -/
  | pierAndi (p : Fin 64) (chk : Fin 3)
  /-- ORI (R196): Scalar OR with zero-extended immediate. -/
  | pierOri (p : Fin 64) (chk : Fin 3)
  /-- SHLI (R196): Scalar left shift by immediate. -/
  | pierShli (p : Fin 64) (chk : Fin 3)
  /-- SHRLI (R196): Scalar logical right shift by immediate. -/
  | pierShrli (p : Fin 64) (chk : Fin 3)
  /-- SHRAI (R196): Scalar arithmetic right shift by immediate. -/
  | pierShrai (p : Fin 64) (chk : Fin 3)
  /-- MOVI (R196): Move a sign-extended immediate. -/
  | pierMovi (p : Fin 64) (chk : Fin 3)
  /-- MOVIH (R196): Move an immediate into the upper half. -/
  | pierMovih (p : Fin 64) (chk : Fin 3)
  /-- CMPEQ (R196): Scalar compare equal into a guard. -/
  | pierCmpeq (p : Fin 64) (chk : Fin 3)
  /-- CMPNE (R196): Scalar compare not equal into a guard. -/
  | pierCmpne (p : Fin 64) (chk : Fin 3)
  /-- CMPLT (R196): Scalar signed compare less-than into a guard. -/
  | pierCmplt (p : Fin 64) (chk : Fin 3)
  /-- CMPGE (R196): Scalar signed compare greater-or-equal into a guard. -/
  | pierCmpge (p : Fin 64) (chk : Fin 3)
  /-- CMPLTU (R196): Scalar unsigned compare less-than into a guard. -/
  | pierCmpltu (p : Fin 64) (chk : Fin 3)
  /-- CMPGEU (R196): Scalar unsigned compare greater-or-equal into a guard. -/
  | pierCmpgeu (p : Fin 64) (chk : Fin 3)
  /-- CMPEQI (R196): Scalar compare equal to immediate. -/
  | pierCmpeqi (p : Fin 64) (chk : Fin 3)
  /-- CMPLTI (R196): Scalar compare less-than immediate. -/
  | pierCmplti (p : Fin 64) (chk : Fin 3)
  /-- GAND (R196): Guard AND. -/
  | pierGand (p : Fin 64) (chk : Fin 3)
  /-- GOR (R196): Guard OR. -/
  | pierGor (p : Fin 64) (chk : Fin 3)
  /-- GNOT (R196): Guard NOT. -/
  | pierGnot (p : Fin 64) (chk : Fin 3)
  /-- MUL (R196): Low half of a scalar product. -/
  | pierMul (p : Fin 64) (chk : Fin 3)
  /-- MULHS (R196): High half of a signed scalar product. -/
  | pierMulhs (p : Fin 64) (chk : Fin 3)
  /-- MULHU (R196): High half of an unsigned scalar product. -/
  | pierMulhu (p : Fin 64) (chk : Fin 3)
  /-- MOVR (R197): Copy between register classes, including control registers. -/
  | pierMovr (p : Fin 64) (chk : Fin 3)
  /-- BR (R149): Branch with two delay slots. -/
  | pierBr (p : Fin 64) (chk : Fin 3)
  /-- BRL (R196): Branch and link. -/
  | pierBrl (p : Fin 64) (chk : Fin 3)
  /-- BRR (R196): Branch to a register address. -/
  | pierBrr (p : Fin 64) (chk : Fin 3)
  /-- RTE (R165): Return from an event to the main bank. -/
  | pierRte (p : Fin 64) (chk : Fin 3)
  /-- END (R152): End the program, writing PSTAT DONE after the delay slots. -/
  | pierEnd (p : Fin 64) (chk : Fin 3)
  /-- REP (R147): Set up a counted block repeat level. -/
  | pierRep (p : Fin 64) (chk : Fin 3)
  /-- FFT (R210): An FFT engine computes a batch of transforms with scaling, measurement and energy checks. -/
  | engFft (by_ : IssueBy)
  /-- FFT_TRANSFORM_COMPLETE (R215): Each transform of an FFT batch completes and its energy check is judged. -/
  | fftTransformComplete (unit : Fin 65536) (j : Fin 64) (parity : Bool)
  /-- GEMM (R220): A matrix engine computes a batch of matrix products. -/
  | engGemm (by_ : IssueBy)
  /-- GRAM (R220): A matrix engine computes a batch of Gram matrices. -/
  | engGram (by_ : IssueBy)
  /-- SOLVE (R222): A matrix engine solves Hermitian systems with a pivot floor. -/
  | engSolve (by_ : IssueBy)
  /-- APPLY (R220): A matrix engine applies grouped weights per element. -/
  | engApply (by_ : IssueBy)
  /-- MATRIX_ITEM_COMPLETE (R221): Each item of a matrix batch completes and its checksum is judged. -/
  | matrixItemComplete (unit : Fin 65536) (i : Fin 65536) (upset : Fin 3)
  /-- DETECT_PRACH (R227): An access detector searches an NR, LTE or LTE-M PRACH occasion. -/
  | engDetectPrach (by_ : IssueBy)
  /-- DETECT_NPRACH (R227): An access detector searches an NB-IoT NPRACH occasion. -/
  | engDetectNprach (by_ : IssueBy)
  /-- DETECT_UMTS_RACH (R289): An access detector searches UMTS RACH preambles. -/
  | engDetectUmtsRach (by_ : IssueBy)
  /-- DETECT_GSM_ACCESS (R290): An access detector searches GSM access bursts. -/
  | engDetectGsmAccess (by_ : IssueBy)
  /-- LDPC_DECODE (R249): An LDPC decoder decodes a batch of code blocks by layered min-sum. -/
  | engLdpcDecode (by_ : IssueBy)
  /-- LDPC_ENCODE (R253): An LDPC encoder encodes one block with its CRCs. -/
  | engLdpcEncode (by_ : IssueBy)
  /-- POLAR_ENCODE (R257): A polar engine encodes a payload. -/
  | engPolarEncode (by_ : IssueBy)
  /-- POLAR_DECODE (R258): A polar engine runs list decoding and selects a path. -/
  | engPolarDecode (by_ : IssueBy)
  /-- TURBO_DECODE (R260): A turbo decoder runs max-log-MAP half-iterations on one block. -/
  | engTurboDecode (by_ : IssueBy)
  /-- TRELLIS_DECODE (R263): A trellis decoder runs the Viterbi algorithm on one block. -/
  | engTrellisDecode (by_ : IssueBy)
  /-- COMBINE (R269): A HARQ engine de-rate-matches soft values and combines them into a soft buffer. -/
  | engCombine (by_ : IssueBy)
  /-- SELECT (R270): A HARQ engine selects transmission bits from a circular buffer. -/
  | engSelect (by_ : IssueBy)
  /-- STORE (R271): A HARQ engine writes a soft or bit buffer to bulk memory, conditionally. -/
  | engStore (by_ : IssueBy)
  /-- HQ_FLUSH (R272): A write of HQ_FLUSH increments the epoch of one or every context. -/
  | hqFlush (w : Who) (value : Nat)
  /-- HQ_EPOCH_WRITE (R278): A write of HQ_EPOCH sets a context's epoch as a flush does. -/
  | hqEpochWrite (w : Who) (value : Nat)
  /-- DESPREAD (R284): A chip-rate engine despreads and combines fingers per user and code. -/
  | engDespread (by_ : IssueBy)
  /-- SEARCH (R285): A chip-rate engine builds a delay profile of hypotheses. -/
  | engSearch (by_ : IssueBy)
  /-- SPREAD (R286): A chip-rate engine forms transmit chip streams. -/
  | engSpread (by_ : IssueBy)
  /-- EQUALIZE (R292): A narrowband engine detects, times and equalizes a burst into soft values. -/
  | engEqualize (by_ : IssueBy)
  /-- MEASURE (R299): A narrowband engine measures mean power over samples. -/
  | engMeasure (by_ : IssueBy)
  /-- ENGINE_OP_COMPLETE (R206): An engine operation reaches its latency, writes its status record, reports faults and issues a Trestle completion token for dynamic jobs. -/
  | engineOpComplete (unit : Fin 65536) (upset : Fin 8)
  /-- BLOCK_LOCK_ACQUIRED (R315): After 64 valid headers the receiver sets BLOCK_LOCK. -/
  | blockLockAcquired (lane : Fin 128) (slips : Nat) (var : BitVec 16)
  /-- LOCK_LOSS (R315): Sixteen invalid headers in a window clear block lock and resume hunting. -/
  | lockLoss (lane : Fin 128) (bad : Nat)
  /-- HI_BER (R316): A monitoring window ends and HI_BER is set or cleared by its invalid-header count. -/
  | hiBer (lane : Fin 128) (bad : Nat)
  /-- AM_LOCK_CHANGE (R318): Alignment-marker lock is gained or lost on an E50 lane. -/
  | amLockChange (lane : Fin 128) (gained : Bool) (var : BitVec 16)
  /-- FEC_CODEWORD_DECODE (R319): The FEC decoder decodes a codeword, counting corrections or replacing blocks. -/
  | fecCodewordDecode (lane : Fin 128) (errs : List Nat)
  /-- SIGNAL_DETECT_CHANGE (R320): Signal detect of a lane rises or falls after its filter. -/
  | signalDetectChange (lane : Fin 128) (rises : Bool)
  /-- CDR_LOCK_ACQUIRED (R320): The recovered frequency holds within range for 10 µs and CDR_LOCK is set. -/
  | cdrLockAcquired (lane : Fin 128)
  /-- CDR_UNLOCK (R320): The recovered frequency leaves range and CDR_LOCK clears. -/
  | cdrUnlock (lane : Fin 128)
  /-- ADAPT_DONE (R320): Initial receive adaptation converges. -/
  | adaptDone (lane : Fin 128)
  /-- ADAPT_TIMEOUT (R320): Adaptation does not converge within the cold-start time. -/
  | adaptTimeout (lane : Fin 128)
  /-- ADAPT_RESTART (R320): A write of LN_RXEQ.RESTART restarts adaptation from cold. -/
  | adaptRestart (w : Who) (lane : Fin 128) (value : Nat)
  /-- EYE_SCAN_START (R324): A write of LN_ES_CMD.START begins an eye-scan point. -/
  | eyeScanStart (w : Who) (lane : Fin 128)
  /-- EYE_SCAN_DONE (R324): The dwell of an eye-scan point ends and its counts and result are posted. -/
  | eyeScanDone (lane : Fin 128) (samples errs : Nat)
  /-- EYE_SCAN_ABORT (R325): A write of LN_ES_CMD.ABORT ends the point. -/
  | eyeScanAbort (w : Who) (lane : Fin 128) (samples errs : Nat)
  /-- LANE_SLEEP_REQUEST (R326): A write of LN_SLEEP requests a transmit or receive sleep state, possibly stopping the quad PLL. -/
  | laneSleepRequest (w : Who) (lane : Fin 128) (value : Nat)
  /-- WAKE_OS (R329): A receiver in LIGHT decodes four wake ordered sets and wakes. -/
  | wakeOs (lane : Fin 128)
  /-- LANE_WAKE_COMPLETE (R329): A lane direction completes its return to ON. -/
  | laneWakeComplete (lane : Fin 128) (tx : Bool)
  /-- WAKE_OS_SEND (R330): A write of LN_WAKE_OS.SEND sends a burst of wake ordered sets. -/
  | wakeOsSend (w : Who) (lane : Fin 128) (value : Nat)
  /-- PLL_UNLOCK (R333): A quad PLL loses lock, idling its lanes until relock. -/
  | pllUnlock (quad : Fin 32) (cpri : Bool)
  /-- PRBS_LOCK_ACQUIRED (R331): The checker sees 64 error-free bits and sets PRBS_LOCK. -/
  | prbsLockAcquired (lane : Fin 128) (errs : Nat)
  /-- LN_CNT_CLEAR (R336): A write of LN_CNT_CLR zeroes the lane counters. -/
  | lnCntClear (w : Who) (lane : Fin 128)
  /-- FRAME_RECEIVE (R349): An EM port receives a frame, checks length, FCS and address, timestamps and classifies it. -/
  | frameReceive (port : Fin 64) (bytes : List (Fin 256)) (bad : Bool)
  /-- UPLANE_PLACE (R354): The approach unit decompresses and places the sections of an on-time frame into its buffer. -/
  | uplanePlace (au : Fin 8)
  /-- REMOTE_FAULT (R344): A port receiving remote fault sends idle and discards frames. -/
  | remoteFault (port : Fin 80) (received : Bool)
  /-- LINK_UP (R344): LINK_UP is set once no fault is seen for 1 ms. -/
  | linkUp (port : Fin 80)
  /-- LPI_ENTER (R345): An idle transmitter with no deterministic frame due enters low-power idle. -/
  | lpiEnter (port : Fin 64)
  /-- LPI_EXIT (R345): The transmitter leaves LPI before a deterministic frame or for a queued dynamic frame. -/
  | lpiExit (port : Fin 64)
  /-- LPI_RECEIVED (R345): Receipt of LPI moves the receivers to LIGHT until a non-LPI block. -/
  | lpiReceived (port : Fin 64) (on : Bool)
  /-- FRAME_DEPART (R347): A frame leaves the reference plane, with its egress timestamp recorded or written. -/
  | frameDepart (port : Fin 64)
  /-- DYNAMIC_FRAME_SEND (R363): Firmware submits a frame for transmission, marked for one-step or two-step timestamping. -/
  | dynamicFrameSend (port : Fin 64) (bytes : List (Fin 256)) (mark : Fin 3) (tag : BitVec 16)
  /-- TS_POP (R363): A read of EM_TS_INFO pops the oldest egress timestamp. -/
  | tsPop (w : Who) (port : Fin 64)
  /-- CPRI_HF_SYNC (R369): Three correctly spaced hyperframe starts give hyperframe synchronisation. -/
  | cpriHfSync (port : Fin 32) (ofs : BitVec 32)
  /-- CPRI_HF_SYNC_LOSS (R369): Three missing or misplaced starts lose synchronisation and return the framer to L1 synchronisation. -/
  | cpriHfSyncLoss (port : Fin 32)
  /-- CPRI_PROTOCOL_SETUP (R369): The partner's protocol version agrees and the framer enters C&M setup. -/
  | cpriProtocolSetup (port : Fin 32)
  /-- CPRI_CM_SETUP (R369): The partner echoes the C&M pointer and the framer enters negotiation. -/
  | cpriCmSetup (port : Fin 32) (ptr : Fin 64)
  /-- CPRI_GO_F (R369): A write of CP_CTRL.GO_F moves the framer to Operation. -/
  | cpriGoF (w : Who) (port : Fin 32) (value : Nat)
  /-- CPRI_BASIC_FRAME_RELEASE (R370): A received basic frame is released to placement at its grid instant or substituted. -/
  | cpriBasicFrameRelease (port : Fin 32) (lead : Option Nat) (iq : Nat)
  /-- CPRI_BASIC_FRAME_SEND (R368): A transmit basic frame leaves at its grid instant. -/
  | cpriBasicFrameSend (port : Fin 32)
  /-- CPRI_TSI_SWITCH_REQUEST (R371): A write of CP_TSI.SWITCH requests a connection-page switch. -/
  | cpriTsiSwitchRequest (w : Who) (port : Fin 32) (value : Nat)
  /-- PAGE_SWITCHED (R371): At the hyperframe boundary the standby pages are checked and made active. -/
  | pageSwitched (port : Fin 32)
  /-- CP_DEG (R372): A degradation window ends and DEG is declared or cleared. -/
  | cpDeg (port : Fin 32) (bad : Nat)
  /-- CPRI_CONTROL_WORD_RECEIVE (R372): A received control word reports RAI or SDI from the partner. -/
  | cpriControlWordReceive (port : Fin 32) (rai sdi : Bool) (data : BitVec 32)
  /-- CPRI_SUBST_END (R372): Substitution ends CP_HOLD hyperframes after the defect clears. -/
  | cpriSubstEnd (port : Fin 32)
  /-- CP_PARTNER_LOST (R374): LOS or LOF persisting for CP_LOSTMS loses the CPRI partner. -/
  | cpPartnerLost (port : Fin 32)
  /-- PARTNER_LOST (R373): An active partner silent for LOSS spans becomes LOST. -/
  | partnerLost (au : Fin 8) (i : Fin 32)
  /-- AU_FLOW_IDX_WRITE (R376): A write of AU_FLOW_IDX loads the flow into staging and latches its counters. -/
  | auFlowIdxWrite (w : Who) (au : Fin 8) (value : Nat)
  /-- AU_FLOW_WRITE (R376): AU_FLOW_CMD.WRITE writes the staged flow entry. -/
  | auFlowWrite (w : Who) (au : Fin 8) (value : Nat)
  /-- AU_PT_IDX_WRITE (R376): A write of AU_PT_IDX loads the partner entry into staging. -/
  | auPtIdxWrite (w : Who) (au : Fin 8) (value : Nat)
  /-- AU_PT_WRITE (R373): AU_PT_CMD.WRITE writes the staged partner entry, registering it when STATE is ACTIVE. -/
  | auPtWrite (w : Who) (au : Fin 8) (value : Nat)
  /-- TRUSS_PACKET_ROUTE (R394): A router forwards an arriving packet unit by dimension order, checking headers, reservations and ECC. -/
  | trussPacketRoute (r : Fin 100) (port : Fin 5) (p : Packet) (unit : Nat) (err : Fin 3)
  /-- DYNAMIC_PACKET_FORWARD (R395): A waiting class 1 to 3 packet begins on its output once reservation, room and arbitration allow. -/
  | dynamicPacketForward (r : Fin 100) (out : Fin 5)
  /-- TARGET_DEAD (R400): A packet waiting too long marks the attachment dead and the router absorbs its traffic. -/
  | targetDead (r : Fin 100) (att : Fin 128)
  /-- RT_REVIVE (R400): A write of RT_REVIVE with GO ends absorption for an attachment. -/
  | rtRevive (w : Who) (r : Fin 100) (value : Nat)
  /-- RSP_TIMEOUT (R402): A request without response in time completes with ERR TIMEOUT. -/
  | rspTimeout (source : Fin 256) (tag : Nat)
  /-- TRUSS_MONITOR_WINDOW (R404): At each monitor window end the counts are copied and cleared. -/
  | trussMonitorWindow (m : Fin 4)
  /-- RT_CLR (R406): A write of RT_CLR zeroes the router statistics. -/
  | rtClr (w : Who) (r : Fin 100) (value : Nat)
  /-- DYNAMIC_MEMORY_ACCESS (R415): A dynamic load, store or atomic reaches a memory target and is admitted, queued or refused. -/
  | dynamicMemoryAccess (w : Who) (addr : BitVec 48) (len : Fin 1025) (kind : DynKind) (data : Nat) (poison : Bool)
  /-- DYNAMIC_ACCESS_SERVED (R412): A waiting dynamic line is served in a free bank cycle, with ECC, poison and partial-write handling. -/
  | dynamicAccessServed
  /-- MEM_INIT_START (R419): A write of MEM_INIT.START initializes a bay memory. -/
  | memInitStart (w : Who) (b : Fin 8) (value : Nat)
  /-- MEM_INIT_DONE (R419): A bay initialization completes. -/
  | memInitDone (b : Fin 8)
  /-- BM_INIT_START (R419): A write of BM_INIT starts initialization of pseudo-channels. -/
  | bmInitStart (w : Who) (k : Fin 4) (value : Nat)
  /-- INIT_DONE (R419): A bulk initialization completes. -/
  | initDone (k : Fin 4)
  /-- SCRUB_READ (R432): A deck scrubber reads its next line in a free cycle. -/
  | scrubRead (b : Fin 8)
  /-- SCRUB_WRITEBACK (R432): A corrected line is written back in the next free cycle or deferred. -/
  | scrubWriteback (u : Fin 12)
  /-- BM_SCRUB_READ (R433): A bulk scrubber reads its next 256 bytes. -/
  | bmScrubRead (k : Fin 4)
  /-- CEL_POP (R435): A read of CEL_INFO pops the oldest corrected-error log entry. -/
  | celPop (w : Who) (u : Fin 12)
  /-- BM_RELEASE (R430): A write of BM_RELEASE ends pseudo-channel halts. -/
  | bmRelease (w : Who) (k : Fin 4) (value : Nat)
  /-- CONTROLLER_REFRESH (R428): A controller refreshes a controller-refreshed pseudo-channel at its interval. -/
  | controllerRefresh (g : Fin 64)
  /-- HBM_TEMP_READ (R429): The HBM PHY reads each stack's sensor once per span. -/
  | hbmTempRead (t0 t1 : Option Int)
  /-- PHY_TRAIN (R431): A write of PHY_CMD.TRAIN trains a stack's interface. -/
  | phyTrain (w : Who) (value : Nat)
  /-- TRAIN_COMPLETE (R440): Stack training ends in success or failure. -/
  | trainComplete (n : Fin 2) (good : Bool)
  /-- SREF_REQUEST (R431): A write of PHY_CMD.SREF places a stack in or out of self-refresh. -/
  | srefRequest (w : Who) (value : Nat)
  /-- CA_PARITY (R437): A stack reports a command or address parity error. -/
  | caParity (n : Fin 2)
  /-- CORE_HOLD (R444): Setting a CL_RST.HOLD bit holds a core in reset after write-back of its lines. -/
  | coreHold (w : Who) (h : Fin 16)
  /-- CORE_RELEASE (R444): Clearing a CL_RST.HOLD bit starts the core at CL_BOOT in M-mode. -/
  | coreRelease (w : Who) (h : Fin 16)
  /-- CBO (R446): A cache-block operation cleans, invalidates or flushes a bulk-memory line. -/
  | cbo (h : Fin 16) (op : Fin 3) (rs1 : Fin 32)
  /-- FENCE (R448): A fence completes after earlier uncached stores are acknowledged. -/
  | fence (h : Fin 16)
  /-- LR_SC (R449): Load-reserved and store-conditional on a bulk-memory line in the L3. -/
  | lrSc (h : Fin 16) (sc wide : Bool) (rs1 rs2 rd : Fin 32)
  /-- CORE_AMO (R450): An atomic memory operation is performed in the L3 or as a Truss AMO packet. -/
  | coreAmo (h : Fin 16) (aop : Fin 9) (wide : Bool) (rs1 rs2 rd : Fin 32)
  /-- WFI (R592): A hart waits with its clock stopped until an interrupt is pending. -/
  | wfi (h : Fin 16)
  /-- MTIMECMP_MATCH (R452): The air count reaching a hart's compare value makes its timer interrupt pending. -/
  | mtimecmpMatch (h : Fin 16)
  /-- CLUSTER_PLEVEL_REQUEST (R454): A write of CL_PLEVEL.REQ switches the cluster to the ring oscillator and relocks its PLL. -/
  | clusterPlevelRequest (w : Who) (c : Fin 4) (value : Nat)
  /-- PLEVEL_DONE (R454): The cluster PLL relocks and the cores return to it at the new level. -/
  | plevelDone (c : Fin 4)
  /-- XSV_VADD (R458): XSV wrapping element add. -/
  | xsvVadd (h : Fin 16) (ew : Fin 4) (fmt : Fin 8) (s2 s1 d : Fin 32)
  /-- XSV_VSUB (R458): XSV wrapping element subtract. -/
  | xsvVsub (h : Fin 16) (ew : Fin 4) (fmt : Fin 8) (s2 s1 d : Fin 32)
  /-- VADDS (R458): XSV saturating element add. -/
  | xsvVadds (h : Fin 16) (ew : Fin 4) (fmt : Fin 8) (s2 s1 d : Fin 32)
  /-- VSUBS (R458): XSV saturating element subtract. -/
  | xsvVsubs (h : Fin 16) (ew : Fin 4) (fmt : Fin 8) (s2 s1 d : Fin 32)
  /-- VMUL (R458): XSV low-half element multiply. -/
  | xsvVmul (h : Fin 16) (ew : Fin 4) (fmt : Fin 8) (s2 s1 d : Fin 32)
  /-- VMULH (R458): XSV high-half signed element multiply. -/
  | xsvVmulh (h : Fin 16) (ew : Fin 4) (fmt : Fin 8) (s2 s1 d : Fin 32)
  /-- VMULQ (R458): XSV rounded saturating fractional multiply. -/
  | xsvVmulq (h : Fin 16) (ew : Fin 4) (fmt : Fin 8) (s2 s1 d : Fin 32)
  /-- XSV_VMIN (R458): XSV signed element minimum. -/
  | xsvVmin (h : Fin 16) (ew : Fin 4) (fmt : Fin 8) (s2 s1 d : Fin 32)
  /-- XSV_VMAX (R458): XSV signed element maximum. -/
  | xsvVmax (h : Fin 16) (ew : Fin 4) (fmt : Fin 8) (s2 s1 d : Fin 32)
  /-- VMINU (R458): XSV unsigned element minimum. -/
  | xsvVminu (h : Fin 16) (ew : Fin 4) (fmt : Fin 8) (s2 s1 d : Fin 32)
  /-- VMAXU (R458): XSV unsigned element maximum. -/
  | xsvVmaxu (h : Fin 16) (ew : Fin 4) (fmt : Fin 8) (s2 s1 d : Fin 32)
  /-- XSV_VAND (R458): XSV bitwise AND. -/
  | xsvVand (h : Fin 16) (ew : Fin 4) (fmt : Fin 8) (s2 s1 d : Fin 32)
  /-- XSV_VOR (R458): XSV bitwise OR. -/
  | xsvVor (h : Fin 16) (ew : Fin 4) (fmt : Fin 8) (s2 s1 d : Fin 32)
  /-- XSV_VXOR (R458): XSV bitwise XOR. -/
  | xsvVxor (h : Fin 16) (ew : Fin 4) (fmt : Fin 8) (s2 s1 d : Fin 32)
  /-- VSLL (R458): XSV logical left shift. -/
  | xsvVsll (h : Fin 16) (ew : Fin 4) (fmt : Fin 8) (s2 s1 d : Fin 32)
  /-- VSRL (R458): XSV logical right shift. -/
  | xsvVsrl (h : Fin 16) (ew : Fin 4) (fmt : Fin 8) (s2 s1 d : Fin 32)
  /-- XSV_VSRA (R458): XSV arithmetic right shift. -/
  | xsvVsra (h : Fin 16) (ew : Fin 4) (fmt : Fin 8) (s2 s1 d : Fin 32)
  /-- XSV_VSEQ (R458): XSV compare equal into element masks. -/
  | xsvVseq (h : Fin 16) (ew : Fin 4) (fmt : Fin 8) (s2 s1 d : Fin 32)
  /-- VSLT (R458): XSV signed compare less-than into element masks. -/
  | xsvVslt (h : Fin 16) (ew : Fin 4) (fmt : Fin 8) (s2 s1 d : Fin 32)
  /-- VSLTU (R458): XSV unsigned compare less-than into element masks. -/
  | xsvVsltu (h : Fin 16) (ew : Fin 4) (fmt : Fin 8) (s2 s1 d : Fin 32)
  /-- VSEL (R458): XSV bitwise select. -/
  | xsvVsel (h : Fin 16) (ew : Fin 4) (fmt : Fin 8) (s2 s1 d : Fin 32)
  /-- VCMULQ (R458): XSV complex fractional multiply. -/
  | xsvVcmulq (h : Fin 16) (ew : Fin 4) (fmt : Fin 8) (s2 s1 d : Fin 32)
  /-- VCMULQJ (R458): XSV complex fractional multiply by the conjugate. -/
  | xsvVcmulqj (h : Fin 16) (ew : Fin 4) (fmt : Fin 8) (s2 s1 d : Fin 32)
  /-- VREDSUM (R458): XSV reduction sum into element 0. -/
  | xsvVredsum (h : Fin 16) (ew : Fin 4) (fmt : Fin 8) (s2 s1 d : Fin 32)
  /-- XSV_VPERM (R458): XSV byte permute. -/
  | xsvVperm (h : Fin 16) (ew : Fin 4) (fmt : Fin 8) (s2 s1 d : Fin 32)
  /-- VMVXQ (R458): Move an XSV element into an integer register. -/
  | xsvVmvxq (h : Fin 16) (ew : Fin 4) (fmt : Fin 8) (s2 s1 d : Fin 32)
  /-- VMVQX (R458): Move an integer register into an XSV element. -/
  | xsvVmvqx (h : Fin 16) (ew : Fin 4) (fmt : Fin 8) (s2 s1 d : Fin 32)
  /-- VDUP (R458): Duplicate an integer register into every XSV element. -/
  | xsvVdup (h : Fin 16) (ew : Fin 4) (fmt : Fin 8) (s2 s1 d : Fin 32)
  /-- XSV_LOAD (R461): An XSV structure load de-interleaves fields into registers, resumable at XSVSTART. -/
  | xsvLoad (h : Fin 16) (nf : Fin 4) (pi : Bool) (ew : Fin 4) (resv : Fin 64) (rs1 : Fin 32) (fn3 : Fin 8) (qd : Fin 32)
  /-- XSV_STORE (R461): An XSV structure store interleaves registers into memory, resumable at XSVSTART. -/
  | xsvStore (h : Fin 16) (nf : Fin 4) (pi : Bool) (ew : Fin 4) (resv : Fin 64) (rs1 : Fin 32) (fn3 : Fin 8) (qs : Fin 32)
  /-- EVENT_MESSAGE (R465): An EVENT packet updates a level source of the event hub and delivers or asserts interrupts. -/
  | eventMessage (src : Fin 4096)
  /-- EH_DOORBELL (R464): A write of EH_DOORBELL makes a doorbell source pending. -/
  | ehDoorbell (w : Who) (value : Nat)
  /-- EH_CLAIM (R467): A read of EH_CLAIMk claims the highest-priority qualifying source. -/
  | ehClaim (w : Who) (k : Fin 32)
  /-- EH_COMPLETE (R467): A write of EH_CLAIMk completes a source in service. -/
  | ehComplete (w : Who) (k : Fin 32) (value : Nat)
  /-- EH_IDX_WRITE (R477): A write of EH_IDX loads the route staging register. -/
  | ehIdxWrite (w : Who) (value : Nat)
  /-- EH_ROUTE_WRITE (R477): A write of EH_ROUTE writes the route entry of the indexed source. -/
  | ehRouteWrite (w : Who) (value : Nat)
  /-- HOST_REQUEST (R471): A PCIe inbound request enters the Truss with the function's context. -/
  | hostRequest (fn : Fin 64) (bar : Fin 8) (off : BitVec 36) (len : Fin 65) (data : Option Nat)
  /-- OUTBOUND_REQUEST (R472): A core or Trestle access to the outbound range becomes a host memory request. -/
  | outboundRequest (source : Nat) (a : Nat) (data : Option (List Nat)) (len : Nat) (cpl : Option (Nat × Nat))
  /-- CPL_TIMEOUT (R472): An outbound read without completion in time ends with ERR TIMEOUT. -/
  | cplTimeout
  /-- PCIE_LINK_CHANGE (R472): The PCIe link reaches L0 or is lost. -/
  | pcieLinkChange (up : Bool) (width speed : Nat)
  /-- FLR (R473): A Function Level Reset clears a function's requests, reads, MSI-X table and Trestle rings. -/
  | flr (f : Fin 64)
  /-- PCIE_VF_IDX_WRITE (R478): A write of PCIE_VF_IDX loads the function's staging registers. -/
  | pcieVfIdxWrite (w : Who) (value : Nat)
  /-- PCIE_VF_WRITE (R478): PCIE_VF_CMD.WRITE writes the staged context and windows. -/
  | pcieVfWrite (w : Who)
  /-- PCIE_PERST (R666): A low on PE_PERST_N holds the PCIe endpoint in reset. -/
  | pciePerst
  /-- TOKEN_ADMIT (R482): The Trestle admits a waiting token, checks its queue and joins it to the matching store. -/
  | tokenAdmit
  /-- TR_SEND (R481): A write of TR_SEND submits the sender's staging area as a token. -/
  | trSend (w : Who) (value : Nat)
  /-- MATCH_EXPIRY (R490): At each span boundary aged matching entries become partial tasks or are discarded. -/
  | matchExpiry
  /-- TASK_PLACE (R492): A ready task is placed on a core, a lent engine or a host ring once room and its flow allow. -/
  | taskPlace
  /-- TASK_POP (R495): A read of TR_Cn_POP returns the oldest unpopped task. -/
  | taskPop (w : Who) (n : Fin 16)
  /-- TR_DONE (R495): A write of TR_DONE completes a held task and releases its flow. -/
  | trDone (w : Who) (value : Nat)
  /-- TR_C_FLUSH (R496): A write of TR_C_FLUSH returns unpopped tasks and drops popped ones of the named cores. -/
  | trCFlush (w : Who) (value : Nat)
  /-- VF_TOKEN_WRITE (R499): A 64-byte write to a VF token window submits a token. -/
  | vfTokenWrite (f : Fin 64) (j : Fin 4) (off : Fin 4096) (data : List Nat)
  /-- VF_CIDX_WRITE (R499): A write of a VF consumer index advances a host ring's CIDX. -/
  | vfCidxWrite (f : Fin 64) (second : Bool) (data : List Nat)
  /-- BUFFER_ALLOC (R503): A read of TR_ALLOCp takes the lowest free buffer for the reader's context. -/
  | bufferAlloc (w : Who) (p : Fin 16)
  /-- BUFFER_FREE (R504): A write of TR_FREE frees an owned buffer after the ledger checks. -/
  | bufferFree (w : Who) (value : Nat)
  /-- BUFFER_GIVE (R504): A write of TR_GIVE passes a buffer to another context. -/
  | bufferGive (w : Who) (value : Nat)
  /-- TR_POOL_CFG_WRITE (R502): A write of TR_Pp_CFG reconfigures a pool whose buffers are all free. -/
  | trPoolCfgWrite (w : Who) (p : Fin 16) (value : Nat)
  /-- TR_Q_IDX_WRITE (R508): A write of TR_Q_IDX loads the queue's staging registers. -/
  | trQIdxWrite (w : Who) (value : Nat)
  /-- TR_Q_WRITE (R509): TR_Q_CMD.WRITE applies the staged queue configuration. -/
  | trQWrite (w : Who)
  /-- TR_R_IDX_WRITE (R508): A write of TR_R_IDX loads the ring's staging registers. -/
  | trRIdxWrite (w : Who) (value : Nat)
  /-- TR_R_WRITE (R485): TR_R_CMD.WRITE applies the staged ring configuration when allowed. -/
  | trRWrite (w : Who)
  /-- TR_T_IDX_WRITE (R508): A write of TR_T_IDX loads the template's staging registers. -/
  | trTIdxWrite (w : Who) (value : Nat)
  /-- TR_T_WRITE (R510): TR_T_CMD.WRITE applies the staged template unless it holds entries. -/
  | trTWrite (w : Who)
  /-- TR_F_IDX_WRITE (R511): A write of TR_F_IDX selects a flow and latches its status. -/
  | trFIdxWrite (w : Who) (value : Nat)
  /-- TR_WAIT_READ (R511): A read of TR_Cn_WAIT returns and clears the longest wait. -/
  | trWaitRead (w : Who) (n : Fin 16)
  /-- TR_L_IDX_WRITE (R512): A write of TR_L_IDX selects a ledger entry. -/
  | trLIdxWrite (w : Who) (value : Nat)
  /-- TR_H_IDX_WRITE (R508): A write of TR_H_IDX loads the host ring's staging registers. -/
  | trHIdxWrite (w : Who) (value : Nat)
  /-- TR_H_WRITE (R512): TR_H_CMD.WRITE applies the staged host ring. -/
  | trHWrite (w : Who)
  /-- TR_V_IDX_WRITE (R508): A write of TR_V_IDX loads the function's token-window staging. -/
  | trVIdxWrite (w : Who) (value : Nat)
  /-- TR_V_WRITE (R512): TR_V_CMD.WRITE applies the staged token windows. -/
  | trVWrite (w : Who)
  /-- KS_WRITE (R540): The Keystone WRITE command appends a record in a partition. -/
  | ksWrite (w : Who) (part : Fin 8)
  /-- KS_DELETE (R540): The DELETE command writes a tombstone for a key. -/
  | ksDelete (w : Who) (part : Fin 8)
  /-- KS_LOOKUP (R540): The LOOKUP command returns the live record of a key in an epoch chain. -/
  | ksLookup (w : Who) (part : Fin 8)
  /-- KS_NEXT (R540): The NEXT command returns the next live key after a cursor. -/
  | ksNext (w : Who) (part : Fin 8)
  /-- EPOCH_OPEN (R531): EPOCH_OPEN writes an open record and returns a new settings epoch. -/
  | epochOpen (w : Who) (flat : Bool)
  /-- EPOCH_COMMIT (R531): EPOCH_COMMIT writes the commit record of an epoch, adopting it in STABLE. -/
  | epochCommit (w : Who)
  /-- EPOCH_DISCARD (R540): EPOCH_DISCARD discards an open epoch. -/
  | epochDiscard (w : Who)
  /-- TRIAL_BEGIN (R535): TRIAL_BEGIN records a trial of another image slot. -/
  | trialBegin (w : Who)
  /-- CONFIRM (R535): CONFIRM makes the trial image and an epoch the stable configuration. -/
  | confirm (w : Who)
  /-- ABANDON (R535): ABANDON ends a trial and returns to the confirmed image. -/
  | abandon (w : Who)
  /-- ROLLBACK (R535): ROLLBACK exchanges the confirmed and previous image and epoch. -/
  | rollback (w : Who)
  /-- KS_COMPACT (R527): The COMPACT command compacts segments of a partition or all. -/
  | ksCompact (w : Who)
  /-- KS_COMMAND_COMPLETE (R538): A Keystone command completes, writing its result and clearing BUSY. -/
  | ksCommandComplete
  /-- KEYSTONE_SCAN (R521): At each Keeper start the journal engine scans the array and rebuilds the index. -/
  | keystoneScan
  /-- BACKGROUND_COMPACTION (R527): With fewer than 32 free segments and no command pending, the engine compacts a segment. -/
  | backgroundCompaction
  /-- PATROL_READ (R528): The patrol reads in-use words, marking segments for compaction or records corrupt. -/
  | patrolRead (n : Fin 512) (i : Fin 8192)
  /-- CONFIRM_EXPIRED (R536): The trial confirm deadline passes and the Keeper warm-resets the device. -/
  | confirmExpired
  /-- TRIAL_BRINGUP_LIMIT (R536): A trial image not in SERVICE within 20 minutes is treated as an expired confirm. -/
  | trialBringupLimit
  /-- KS_SEG_IDX_WRITE (R543): A write of KS_SEG_IDX loads the segment's status. -/
  | ksSegIdxWrite (w : Who) (value : Nat)
  /-- KS_PART_IDX_WRITE (R543): A write of KS_PART_IDX loads the partition's status. -/
  | ksPartIdxWrite (w : Who) (value : Nat)
  /-- HELLO_SEND (R552): A write of POOL_HELLO.SEND sends a HELLO beacon to the pool group. -/
  | helloSend (w : Who) (value : Nat)
  /-- HELLO (R552): A received HELLO enters or refreshes the sender's discovery entry. -/
  | hello
  /-- RONRIS_RECEIVE (R549): A pool link receives a Ronris frame, checks it and drops duplicates or delivers firmware types. -/
  | ronrisReceive (link : Fin 16) (bytes : List (Fin 256)) (bad : Bool)
  /-- DISCOVERY_EXPIRY (R552): A discovery entry without HELLO for 128 spans is removed. -/
  | discoveryExpiry (chip : Fin 2048)
  /-- SEEK_TIMEOUT (R553): SEEK spans in SEEKING with an empty table move the chip to ALONE. -/
  | seekTimeout
  /-- POOL_SEND (R550): A write of POOL_SEND sends a firmware-type Ronris frame. -/
  | poolSend (w : Who) (value : Nat)
  /-- VIEW_LOAD (R554): POOL_VS_CMD.LOAD loads a view for activation at an instant. -/
  | viewLoad (w : Who)
  /-- VIEW_WITHDRAW (R554): POOL_VS_CMD.WITHDRAW returns the chip to SEEKING at an instant. -/
  | viewWithdraw (w : Who)
  /-- VIEW_ACTIVE (R554): A loaded view activates at its instant. -/
  | viewActive
  /-- BEAT (R556): A write of POOL_HB.BEAT sends one heartbeat in the span. -/
  | beat (w : Who) (value : Nat)
  /-- HEARTBEAT (R557): A received heartbeat updates the sender's span and may fence on the suspect list. -/
  | heartbeat
  /-- PEER_EVALUATION (R558): At each span boundary the pool block updates MISS, SUSPECT and FAILED marks and fencing. -/
  | peerEvaluation
  /-- POOL_G_WRITE (R577): POOL_G_CMD WRITE applies the staged guard entry. -/
  | poolGWrite (w : Who)
  /-- TAKE (R570): POOL_G_CMD TAKE accepts or refuses a takeover and sets its effect instant. -/
  | take (w : Who)
  /-- UNFENCE (R559): POOL_G_CMD UNFENCE lifts a fence once no condition holds. -/
  | unfence (w : Who)
  /-- HANDOVER (R573): POOL_G_CMD HANDOVER schedules a planned move of a cell at H. -/
  | handover (w : Who)
  /-- HANDOVER_LATE (R573): A FINAL epoch not acknowledged by H minus one span cancels the handover. -/
  | handoverLate (i : Fin 256)
  /-- HANDOVER_EFFECT (R573): At H the active's context is fenced and the standby's fence is lifted. -/
  | handoverEffect (i : Fin 256)
  /-- TAKEOVER_EFFECT (R571): At the effect instant of a failure takeover the quorum decides whether the fence lifts. -/
  | takeoverEffect (i : Fin 256)
  /-- CK_GO (R566): A write of POOL_CK_GO sends a checkpoint epoch as DELTA frames and a COMMIT. -/
  | ckGo (w : Who) (value : Nat)
  /-- DELTA (R568): A received DELTA is staged at its offset for the standby's context. -/
  | delta
  /-- COMMIT (R568): A received COMMIT is checked and, if complete, starts the copy into the mirror. -/
  | commit
  /-- CHECKPOINT_COPY_DONE (R568): The mirror copy completes, the epoch is committed and ACK is sent. -/
  | checkpointCopyDone (i : Fin 256)
  /-- CK_BAD (R568): An epoch incomplete by its deadline fails and a NACK is sent. -/
  | ckBad (i : Fin 256)
  /-- ACK (R568): A received ACK or NACK updates the active's guard, setting NEED_FULL on NACK. -/
  | ack
  /-- TIME_EXCHANGE_START (R560): Every INT spans the pool block sends TIME_REQ to its time parent. -/
  | timeExchangeStart (slot : Fin 8)
  /-- TIME_REQ (R560): A received TIME_REQ is answered with a TIME_RSP carrying timestamps. -/
  | timeReq
  /-- TIME_RSP (R560): A received TIME_RSP yields an offset committed as a phase measurement or coarse step. -/
  | timeRsp (demand : Int)
  /-- TIME_EXCHANGE_TIMEOUT (R560): No TIME_RSP within one span rejects the exchange. -/
  | timeExchangeTimeout (slot : Fin 8)
  /-- OP_ISSUE (R561): A global operation is issued by register write or trigger and its OP frame sent down the tree. -/
  | opIssue (w : Who) (byTrigger : Bool) (value : Nat)
  /-- OP (R564): A received OP frame is forwarded to the member's children. -/
  | op
  /-- POOL_ARRIVE (R564): A write of POOL_ARRIVE records this member's barrier arrival. -/
  | poolArrive (w : Who) (value : Nat)
  /-- ARRIVE_SEND (R564): At its instant U_d a member sends ARRIVE with its subtree count. -/
  | arriveSend
  /-- ARRIVE (R564): A received ARRIVE adds its count to the parent's subtree. -/
  | arrive
  /-- RESULT_SEND (R564): At U_0 the root sends RESULT with the total count. -/
  | resultSend
  /-- RESULT (R564): A received RESULT is kept and forwarded. -/
  | result
  /-- OP_DELIVER (R565): At T each member takes the operation's effect and delivers its outcome token. -/
  | opDeliver
  /-- POOL_M_IDX_WRITE (R577): A write of POOL_M_IDX loads the member's status. -/
  | poolMIdxWrite (w : Who) (value : Nat)
  /-- POOL_G_IDX_WRITE (R577): A write of POOL_G_IDX loads the guard's staging registers. -/
  | poolGIdxWrite (w : Who) (value : Nat)
  /-- POOL_OP_IDX_WRITE (R577): A write of POOL_OP_IDX loads the op slot's staging registers. -/
  | poolOpIdxWrite (w : Who) (value : Nat)
  /-- POOL_OP_WRITE (R577): POOL_OP_CMD.WRITE applies the staged op slot. -/
  | poolOpWrite (w : Who) (value : Nat)
  /-- PORST (R604): An assertion of PORST_N resets everything, D00 included. -/
  | porst
  /-- PORST_RELEASE (R605): The release of PORST_N latches the straps and starts the Keeper's self-test and bring-up. -/
  | porstRelease (strap : Fin 8) (refosc : Fin 4)
  /-- SELF_TEST_DONE (R599): The Keeper's self-test ends and the device enters BRINGUP. -/
  | selfTestDone
  /-- RAIL_POLL (R582): The Keeper reads a rail's status and starts the next rail or fails the sequence. -/
  | railPoll (answer : Option (BitVec 16))
  /-- BOOT_IMAGE_LOAD (R633): The Keeper loads and verifies the chosen image from flash and releases A0. -/
  | bootImageLoad (a b golden : List (Fin 256)) (octal : Bool)
  /-- WARMRST (R604): WARMRST_N held low for 1 µs warm-resets the device outside D00. -/
  | warmrst
  /-- WARMRST_RELEASE (R604): The rising edge of WARMRST_N begins bring-up from step 4. -/
  | warmrstRelease
  /-- MODE_SET (R599): The Keeper mailbox MODE_SET requests a mode transition. -/
  | modeSet (w : Who)
  /-- MODE_DONE (R599): The Keeper completes a mode transition and updates SYS_MODE. -/
  | modeDone
  /-- WARM_RESET (R608): The Keeper mailbox WARM_RESET starts an internal warm reset. -/
  | warmReset (w : Who)
  /-- QUIET_WAKE (R602): A wake source in QUIET makes the Keeper restore the domains and enter BRINGUP. -/
  | quietWake
  /-- DOMAIN_REQUEST (R587): A domain state request from firmware, trigger, idle timer or access is tested and begins a transition. -/
  | domainRequest (w : Who) (how : Fin 3) (d : Fin 80) (value : Nat)
  /-- DEFERRED_WAKE_START (R589): A deferred wake begins once the limits allow it. -/
  | deferredWakeStart (d : Fin 80)
  /-- DOMAIN_TRANSITION_DONE (R585): A domain completes its entry or wake and reaches its target state. -/
  | domainTransitionDone (d : Fin 80)
  /-- IDLE_TIMER_EXPIRY (R593): A domain idle for IDLE_T moves to its idle state. -/
  | idleTimerExpiry (d : Fin 80)
  /-- PAD_RELEASE (R596): A write of D_PAD.RELEASE lets the block drive its latched pads. -/
  | padRelease (w : Who) (d : Fin 80) (value : Nat)
  /-- DECK_LEVEL_REQUEST (R597): A write of PWR_DECK.REQ starts a deck performance level change. -/
  | deckLevelRequest (w : Who) (value : Nat)
  /-- DECK_PLEVEL_DONE (R597): The deck level change completes. -/
  | deckPlevelDone
  /-- PMBUS_TRANSACTION (R611): A write of PM_CMD.START begins a PMBus transaction once the port is free. -/
  | pmbusTransaction (w : Who) (value : Nat)
  /-- PMBUS_DONE (R611): A PMBus transaction ends with its status. -/
  | pmbusDone (nack late badPec : Bool) (data : BitVec 32)
  /-- KEEPER_SELF_RESET (R616): A lockstep miscompare, uncorrectable error or lapsed loop timer resets the Keeper. -/
  | keeperSelfReset
  /-- KEEPER_RESTART (R604): The Keeper restarts from ROM, rescans the Keystone and resumes. -/
  | keeperRestart
  /-- KW_KICK (R618): A write of KW_KICK records the writing hart's kick. -/
  | kwKick (w : Who) (value : Nat)
  /-- LADDER_EVALUATION (R619): At each Keeper period boundary the recovery ladder takes the first rung that applies. -/
  | ladderEvaluation
  /-- WDOG_EXPIRED (R620): The watchdog expires, drives WDOG_N low and suppresses plan transmission until PORST_N. -/
  | wdogExpired
  /-- TAMPER (R626): An accepted tamper activation takes its configured wipe, lock or reset action. -/
  | tamper (input : Fin 4) (toggle : Bool)
  /-- LC_ADVANCE (R623): The mailbox LC_ADVANCE wipes the Caisson and programs the target state's fuse pair. -/
  | lcAdvance (w : Who)
  /-- KEY_FUSE (R628): The mailbox KEY_FUSE programs an empty public-key slot and checks it. -/
  | keyFuse (w : Who) (readBackFails : Bool)
  /-- KEY_REVOKE (R627): The mailbox KEY_REVOKE revokes a public-key slot. -/
  | keyRevoke (w : Who)
  /-- MINVER_ADVANCE (R635): The mailbox MINVER_ADVANCE raises the minimum security version. -/
  | minverAdvance (w : Who)
  /-- WRAP (R630): The mailbox WRAP exports a key handle as a sealed blob. -/
  | wrap (w : Who)
  /-- UNWRAP (R630): The mailbox UNWRAP loads a sealed blob into a key handle. -/
  | unwrap (w : Who)
  /-- KEY_LOAD (R629): PP_KCMD LOAD places the staged key in a handle. -/
  | keyLoad (w : Who) (use : Fin 4) (handle : Fin 1024)
  /-- KEY_ERASE (R629): PP_KCMD ERASE invalidates a handle. -/
  | keyErase (w : Who) (handle : Fin 1024)
  /-- PP_KIDX_WRITE (R640): A write of PP_KIDX loads the handle's status. -/
  | ppKidxWrite (w : Who) (value : Nat)
  /-- PP_SA_IDX_WRITE (R640): A write of PP_SA_IDX loads the association's staging registers. -/
  | ppSaIdxWrite (w : Who) (value : Nat)
  /-- SA_WRITE (R640): PP_SA_CMD.WRITE applies the staged security association. -/
  | saWrite (w : Who) (value : Nat)
  /-- PP_PK_IDX_WRITE (R640): A write of PP_PK_IDX loads the key slot's status. -/
  | ppPkIdxWrite (w : Who) (value : Nat)
  /-- PP_FAULT_SET (R615): A write of PP_FAULT_SET sets the firmware fault bit and drives FAULT_N low. -/
  | ppFaultSet (w : Who) (value : Nat)
  /-- RNG_READ (R640): A read of PP_RNG returns a new random word. -/
  | rngRead (w : Who)
  /-- DBG_NEW (R636): DBG_CMD.NEW draws a fresh nonce into DBG_CHAL. -/
  | dbgNew (w : Who)
  /-- DBG_VERIFY (R636): DBG_CMD.VERIFY checks the debugger's signature over the nonce and authenticates. -/
  | dbgVerify (w : Who)
  /-- DBG_DEAUTH (R636): DBG_CMD.DEAUTH ends authentication. -/
  | dbgDeauth (w : Who)
  /-- RELEASE_HALT (R600): DBG_CMD.RELEASE_HALT ends a HALT strap and starts bring-up where allowed. -/
  | releaseHalt (w : Who)
  /-- DEBUG_ACCESS (R636): A debug-port access to pages or memory is admitted by the life-cycle state. -/
  | debugAccess (addr : BitVec 48) (len : Fin 9) (data : Option (BitVec 64))
  /-- EXTEST (R682): The JTAG EXTEST instruction drives the boundary register onto the balls. -/
  | extest (levels out oe : Nat)
  /-- IDCODE (R682): The JTAG IDCODE instruction reads the device identity. -/
  | idcode
  /-- SAMPLE_PRELOAD (R682): The JTAG SAMPLE/PRELOAD instruction samples or preloads the boundary register. -/
  | samplePreload (levels out oe : Nat)
  /-- BYPASS (R682): The JTAG BYPASS instruction selects the one-bit bypass register. -/
  | bypass
  /-- COUNTER_WRAP (R646): A counter wraps from its maximum, setting OVF and carrying into a chained counter. -/
  | counterWrap (p : Fin 4096) (i : Fin 8)
  /-- SNAP_TAKE (R648): A write of TS_SNAP.TAKE requests a snapshot of a slot 16 cy ahead. -/
  | snapTake (w : Who) (value : Nat)
  /-- SNAPSHOT_CAPTURE (R647): At its capture instant every counter of the slot's pages is copied. -/
  | snapshotCapture
  /-- SNAPSHOT_PAGE_REPLY (R649): A page's counter copies arrive and are written into the record. -/
  | snapshotPageReply (j : Fin 1024)
  /-- SNAP_PARTIAL (R649): Pages not answering in time are written invalid. -/
  | snapPartial
  /-- TS_SLOT_IDX_WRITE (R660): A write of TS_SLOT_IDX loads the slot's staging registers. -/
  | tsSlotIdxWrite (w : Who) (value : Nat)
  /-- TS_SLOT_WRITE (R660): TS_SLOT_CMD.WRITE applies the staged slot and resets its ring index. -/
  | tsSlotWrite (w : Who) (value : Nat)
  /-- BW_CFG_WRITE (R652): A write of TS_BWm_CFG configures a bandwidth monitor and clears its MAX. -/
  | bwCfgWrite (w : Who) (m : Fin 32) (value : Nat)
  /-- BANDWIDTH_WINDOW (R652): At each window end a monitor derives bytes, rate and maximum. -/
  | bandwidthWindow (m : Fin 32)
  /-- PT_ARM (R653): A write of PT_CTL with ARM and EN arms a page's perturbation channels in DIAGNOSTIC. -/
  | ptArm (w : Who) (p : Fin 4096) (value : Nat)
  /-- PT_START (R657): An armed page starts its channels at AT. -/
  | ptStart (p : Fin 4096)
  /-- PT_ACTION (R654): A channel selects a matching item and delays, back-pressures, drops, stretches or corrupts it. -/
  | ptAction (p : Fin 4096) (ctx : Fin 4096) (source : Fin 256) (addr : Nat)
  /-- PT_DELAY_RELEASE (R654): An item held by DELAY is released to its block. -/
  | ptDelayRelease (p : Fin 4096)
  /-- PT_SEED_WRITE (R653): A write of PT_SEED reloads the page's LFSR. -/
  | ptSeedWrite (w : Who) (p : Fin 4096) (value : Nat)
  /-- XS_READ (R688): An xSPI READ command copies flash bytes to bulk memory. -/
  | xsRead (w : Who) (value : Nat)
  /-- XS_PROGRAM (R688): An xSPI PROGRAM command writes bulk-memory bytes to flash. -/
  | xsProgram (w : Who) (value : Nat)
  /-- XS_ERASE (R688): An xSPI ERASE command erases flash at an address. -/
  | xsErase (w : Who) (value : Nat)
  /-- XS_REGISTER (R688): An xSPI REGISTER command reads or writes flash registers through XS_DATA. -/
  | xsRegister (w : Who) (value : Nat)
  /-- XS_DONE (R691): An xSPI command ends and DONE is set. -/
  | xsDone (flash : List (Fin 256)) (stall : Bool)
  /-- UART_TX_WRITE (R692): A write of U_TX appends a character to the transmit FIFO. -/
  | uartTxWrite (w : Who) (u : Fin 2) (value : Nat)
  /-- UART_CHAR_SEND (R681): A UART starts sending the next character when CTS_N allows. -/
  | uartCharSend (u : Fin 2) (ctsLow : Bool)
  /-- UART_CHAR_RECEIVE (R681): A UART receives a character into its FIFO with its checks. -/
  | uartCharReceive (u : Fin 2) (data : Fin 256) (parity stop : Bool)
  /-- UART_RX_POP (R692): A read of U_RX pops the oldest received character. -/
  | uartRxPop (w : Who) (u : Fin 2)
  /-- PPS_ACCEPTED_CHANGE (R80): An accepted PPS_IN level change that is not the marking edge updates PPS_STAT.LEVEL, clears STUCK and restarts the 2 s stuck count. -/
  | ppsAcceptedChange
  /-- SYNC_OUT_PULSE_END (R65): A SYNC_OUT pulse started by a trigger entry with ACTION 0x2 ends when its width in cy has elapsed, and the output falls unless another pulse overlaps. -/
  | syncOutPulseEnd (out : Fin 4)
  /-- QPLL_LOCK (R333): A quad PLL locks or relocks: QPLL_LOCK is set, the lanes that use the PLL leave electrical idle and their receivers recover. -/
  | qpllLock (quad : Fin 32) (cpri : Bool)
  /-- ENABLED (R335): A lane sets PG_STAT.ENABLED within 2 µs of ENABLE = 1, or within 100 µs when its PLL was not yet locked. -/
  | enabled (lane : Fin 128)
  /-- TAMPER_INACTIVE (R626): A tamper input with ACTION WIPE or WIPE_RESET ceases to be active, which ends the lock of the Caisson. -/
  | tamperInactive (input : Fin 4)
  /-- LOSS_OF_POWER (R579): A rail leaves its DC range: every block may fail and take any output level, and a Keystone program or erase in progress is interrupted under R515. -/
  | lossOfPower
  /-- REFOSC_STOP (R674): REFOSC stops or leaves its frequency range, so every PLL on the die loses its reference and nothing can be relied on until PORST_N. -/
  | refoscStop
  /-- PE_PERST_RELEASE (R666): PE_PERST_N returns high, which releases the PCIe endpoint from reset so that the link can train. -/
  | pePerstRelease
deriving DecidableEq, Repr

end Sys2Proof
end

