-- ==== Sys2Proof/Machine/EventCodes.lean ====
section
/-! DEFINITION. The event codes (R43: CLASS[15:8], EVENT[7:0]), from the event tables of the spec. A name that two
classes share carries its class. -/
namespace Sys2Proof.Ev

-- R44
def UNMAPPED : Nat := 0x0001
def PAGE_ASLEEP : Nat := 0x0002
def ACCESS_WIDTH : Nat := 0x0003
def PRIVILEGE : Nat := 0x0004
def CONTEXT : Nat := 0x0005
def FROZEN_WRITE : Nat := 0x0006
def FORCE_DENIED : Nat := 0x0007
def LOCK_KEY : Nat := 0x0008
def KEYSTONE_WRITE : Nat := 0x0009
-- R89
def TIME_STEP : Nat := 0x0401
def LOCKED : Nat := 0x0402
def HOLDOVER : Nat := 0x0403
def TIME_OOT : Nat := 0x0404
def FREQ_RANGE : Nat := 0x0405
def REF_DISQ : Nat := 0x0406
def DRIFT_ID : Nat := 0x0407
def DRIFT_UNRES : Nat := 0x0408
def LO_DRIFT : Nat := 0x0409
def PPS_FAST : Nat := 0x040a
def PPS_MISS : Nat := 0x040b
def PPS_STUCK : Nat := 0x040c
def TOD_MISMATCH : Nat := 0x040d
def TRIG_RANGE : Nat := 0x040e
def TRIG_OWNER : Nat := 0x040f
def TRIG_LATE : Nat := 0x0410
def SEL_CHANGE : Nat := 0x0411
def PTP_STALE : Nat := 0x0412
def COARSE_DENIED : Nat := 0x0413
def GLITCH : Nat := 0x5d01
def RATE_DROP : Nat := 0x5d02
def STUCK : Nat := 0x5d03
def CAP_OVF : Nat := 0x5d04
-- R131
def IMG_FORMAT : Nat := 0x1001
def IMG_SIGNATURE : Nat := 0x1002
def IMG_TARGET : Nat := 0x1003
def SLOT_BUSY : Nat := 0x1004
def PLEVEL_MISMATCH : Nat := 0x1005
def ARM_NO_TIME : Nat := 0x1006
def ARM_LATE : Nat := 0x1007
def ARM_GRID : Nat := 0x1008
def ARM_COMMITTED : Nat := 0x1009
def FOOTPRINT_OVERLAP : Nat := 0x100a
def TRIG_COLLIDE : Nat := 0x100b
def SWAP_NOT_DRAINED : Nat := 0x100c
def SWAP_INFLIGHT : Nat := 0x100d
def COLL_UNIT : Nat := 0x1010
def COLL_LINK : Nat := 0x1011
def COLL_PORT : Nat := 0x1012
def FOOTPRINT : Nat := 0x1013
def REFRESH_MISS : Nat := 0x1014
def POWER_UNREADY : Nat := 0x1015
def LATE_SELECT : Nat := 0x1018
def SEL_INVALID : Nat := 0x1019
def LEASE_LAPSE : Nat := 0x101a
def REPLAY_OK : Nat := 0x101b
def REPLAY_NONE : Nat := 0x101c
def REPLAY_FAIL : Nat := 0x101d
def UNIT_FAILED : Nat := 0x101e
def NO_DEGRADE : Nat := 0x101f
def THERM_CLASS : Nat := 0x1020
def THERM_LIMIT : Nat := 0x1021
-- R170
def RESIDUE : Nat := 0x2001
def PM_ECC : Nat := 0x2002
def DM_ECC : Nat := 0x2003
def ADDR : Nat := 0x2004
def ALIGN : Nat := 0x2005
def ILLEGAL : Nat := 0x2006
def RF_PARITY : Nat := 0x2007
def ECC_CORR_20 : Nat := 0x2010
-- R334
def LOS : Nat := 0x4801
def CDR_UNLOCK : Nat := 0x4802
def LOCK_LOSS : Nat := 0x4803
def HI_BER : Nat := 0x4804
def HI_SER : Nat := 0x4805
def FEC_UNCORR : Nat := 0x4806
def PLL_UNLOCK : Nat := 0x4807
def WAKE_ACT : Nat := 0x4808
def WAKE_OS : Nat := 0x4809
def ADAPT_TIMEOUT : Nat := 0x480a
def INJ_DENIED : Nat := 0x480b
def TXEQ_CLIP : Nat := 0x480c
def LN_PERS : Nat := 0x480d
-- R375
def DESC_INVALID : Nat := 0x4001
def UNKNOWN_EAXC : Nat := 0x4002
def RX_OVF_40 : Nat := 0x4003
def TX_OVERLAP : Nat := 0x4004
def PARTNER_NEW : Nat := 0x4005
def PARTNER_LOST : Nat := 0x4006
def PARTNER_BACK : Nat := 0x4007
def FWQ_FULL : Nat := 0x4008
def PORT_BIND_49 : Nat := 0x4901
def LINK_UP_49 : Nat := 0x4902
def LOCAL_FAULT_49 : Nat := 0x4903
def REMOTE_FAULT : Nat := 0x4904
def TS_OVF : Nat := 0x4905
def PN_LOW : Nat := 0x4906
def PN_EXHAUSTED : Nat := 0x4907
def CP_LOS : Nat := 0x4a01
def CP_LOF : Nat := 0x4a02
def CP_DEG : Nat := 0x4a03
def CP_RAI : Nat := 0x4a04
def CP_SDI : Nat := 0x4a05
def RX_LATE : Nat := 0x4a06
def RX_EARLY : Nat := 0x4a07
def PAGE_BAD : Nat := 0x4a08
def PAGE_SWITCHED : Nat := 0x4a09
def TX_UNDERRUN : Nat := 0x4a0a
def CP_PARTNER_LOST : Nat := 0x4a0b
def PORT_BIND_4A : Nat := 0x4a0c
-- R405
def TARGET_DEAD : Nat := 0x1101
def RSP_TIMEOUT : Nat := 0x1102
def HDR_UNCORR : Nat := 0x1103
def DATA_POISON : Nat := 0x1104
def BAD_HEADER : Nat := 0x1105
def XFER_INVALID_11 : Nat := 0x1106
def ECC_CORR_11 : Nat := 0x1110
-- R437
def SRAM_UE : Nat := 0x2101
def SRAM_POISON : Nat := 0x2102
def PARTIAL_UE_21 : Nat := 0x2103
def SCRUB_LAP_21 : Nat := 0x2104
def CEL_OVF_21 : Nat := 0x2105
def ECC_CORR_21 : Nat := 0x2110
def BM_UE : Nat := 0x5001
def BM_POISON : Nat := 0x5002
def PC_HALT : Nat := 0x5003
def XFER_INVALID_50 : Nat := 0x5004
def NOT_PLAN_PC : Nat := 0x5005
def SCRUB_LAP_50 : Nat := 0x5006
def CEL_OVF_50 : Nat := 0x5007
def INIT_DONE : Nat := 0x5008
def PARTIAL_UE_50 : Nat := 0x5009
def ECC_CORR_50 : Nat := 0x5010
def TRAIN_FAIL : Nat := 0x5101
def TEMP_FAIL : Nat := 0x5102
def CA_PARITY : Nat := 0x5103
def SREF_DENIED : Nat := 0x5104
-- R475
def BAD_COMPLETE : Nat := 0x0b01
def MSIX_DROP : Nat := 0x0b02
def L2_UE : Nat := 0x5801
def L3_UE : Nat := 0x5802
def PLEVEL_DONE_58 : Nat := 0x5803
def ECC_CORR_58 : Nat := 0x5810
def LINK_DOWN : Nat := 0x5901
def LINK_UP_59 : Nat := 0x5902
def UR_INBOUND : Nat := 0x5903
def CPL_TIMEOUT : Nat := 0x5904
def FLR : Nat := 0x5905
def AER_UNCORR : Nat := 0x5906
-- R507
def RING_OVF : Nat := 0x0c01
def TT_BUSY : Nat := 0x0c0a
def RING_SHORT : Nat := 0x0c02
def BAD_DONE : Nat := 0x0c0b
def RING_CFG : Nat := 0x0c03
def TASK_DROP : Nat := 0x0c0c
def Q_INVALID : Nat := 0x0c04
def WRITE_ERR : Nat := 0x0c0d
def Q_CONTEXT : Nat := 0x0c05
def VF_DROP : Nat := 0x0c0e
def BAD_TOKEN : Nat := 0x0c06
def DOUBLE_FREE : Nat := 0x0c0f
def TRIG_DROP : Nat := 0x0c07
def FOREIGN_FREE : Nat := 0x0c10
def DUP_OPERAND : Nat := 0x0c08
def BAD_HANDLE : Nat := 0x0c11
def EXPIRED : Nat := 0x0c09
def POOL_EMPTY : Nat := 0x0c12
-- R542
def TORN_RECORD : Nat := 0x0801
def CORRUPT_RECORD : Nat := 0x0802
def KS_UE : Nat := 0x0803
def WEAR_ESTIMATED : Nat := 0x0804
def EPOCH_INCOMPLETE : Nat := 0x0805
def RATE_LIMIT : Nat := 0x0806
def QUOTA : Nat := 0x0807
def FULL : Nat := 0x0808
def INDEX_FULL : Nat := 0x0809
def BAD_CMD_08 : Nat := 0x080a
def WEAR_WARN : Nat := 0x080b
def FALLBACK : Nat := 0x080c
def CONFIRM_EXPIRED : Nat := 0x080d
def TRIAL_BOOT : Nat := 0x080e
def SCAN_DONE : Nat := 0x080f
def ECC_CORR_08 : Nat := 0x0810
def TEAR_DONE : Nat := 0x0811
-- R575
def LK_BIND : Nat := 0x4b01
def TAKE_REFUSED : Nat := 0x4c0a
def LINK_UP_4B : Nat := 0x4b02
def TAKEN : Nat := 0x4c0b
def LOCAL_FAULT_4B : Nat := 0x4b03
def CK_BAD : Nat := 0x4c0c
def PEER_FAILED : Nat := 0x4c01
def CK_BUSY : Nat := 0x4c0d
def PEER_BACK : Nat := 0x4c02
def CK_NEED_FULL : Nat := 0x4c0e
def ID_CONFLICT : Nat := 0x4c03
def NO_STANDBY : Nat := 0x4c0f
def STATE_CHANGE : Nat := 0x4c04
def LEAD_SHORT : Nat := 0x4c10
def VIEW_BAD : Nat := 0x4c05
def OP_RANGE : Nat := 0x4c11
def NO_VIEW : Nat := 0x4c11
def VIEW_ACTIVE : Nat := 0x4c06
def OP_LATE : Nat := 0x4c12
def BEAT_EXTRA : Nat := 0x4c07
def ARRIVE_LATE : Nat := 0x4c13
def FENCED : Nat := 0x4c08
def OP_DROP : Nat := 0x4c14
def SEND_BAD : Nat := 0x4c09
def RESET_DENIED : Nat := 0x4c15
def HANDOVER_LATE : Nat := 0x4c16
-- R607
def BAD_CMD_01 : Nat := 0x0101
def QUIET_WAKE : Nat := 0x0206
def MODE_REFUSED : Nat := 0x0102
def STRAP_BAD : Nat := 0x0207
def CMD_ABORTED : Nat := 0x0103
def WARM_RESET : Nat := 0x0208
def MODE_DONE : Nat := 0x0201
def REFUSED : Nat := 0x0301
def RAIL_TIMEOUT : Nat := 0x0202
def ABORTED : Nat := 0x0302
def RAIL_FAULT : Nat := 0x0203
def DEFERRED : Nat := 0x0303
def PLEVEL_DONE_02 : Nat := 0x0204
def PM_NACK : Nat := 0x5b01
def PLEVEL_REFUSED : Nat := 0x0205
def PM_TIMEOUT : Nat := 0x5b02
def PM_PEC : Nat := 0x5b03
-- R639
def TAMPER : Nat := 0x0901
def KEEPER_RESET : Nat := 0x0910
def TAMPER_TOGGLE : Nat := 0x0902
def KEEPER_HALT : Nat := 0x0911
def CAISSON_WIPED : Nat := 0x0903
def HART_RESTART : Nat := 0x0912
def CAISSON_LOCKED : Nat := 0x0904
def ABUT_RESTART : Nat := 0x0913
def LC_CHANGED : Nat := 0x0905
def LADDER_RESET : Nat := 0x0914
def LC_REFUSED : Nat := 0x0906
def LADDER_EXHAUSTED : Nat := 0x0915
def IMG_REJECTED : Nat := 0x0907
def WDOG_EXPIRED : Nat := 0x0916
def BOOT_FAIL : Nat := 0x0908
def DBG_AUTH_FAIL : Nat := 0x5e01
def KEY_REFUSED : Nat := 0x0909
def DBG_AUTH_OK : Nat := 0x5e02
def KEY_UNWRAP_FAIL : Nat := 0x090a
def DBG_LOCKOUT : Nat := 0x5e03
def KEY_HANDLE : Nat := 0x090b
-- R659
def SNAP_DONE : Nat := 0x0a01
def SNAP_PARTIAL : Nat := 0x0a02
def SNAP_OVERRUN : Nat := 0x0a03
def SNAP_INVALID : Nat := 0x0a04
def SNAP_WRITE_ERR : Nat := 0x0a05
def BW_ABOVE : Nat := 0x0a06
def PT_DENIED : Nat := 0x0a07
-- R690
def XS_PROTECT : Nat := 0x5a01
def XS_DQS : Nat := 0x5a02
def XS_BUF_ERR : Nat := 0x5a03
def RX_OVF_5C : Nat := 0x5c01
def FRAMING : Nat := 0x5c02
def PARITY : Nat := 0x5c03
def TX_OVF : Nat := 0x5c04
-- R237, R275, R307: the low bytes that every engine family shares
def ENG_CHECK : Nat := 0x01
def ENG_DM_ECC : Nat := 0x02
def ENG_DESC_INVALID : Nat := 0x03
def ENG_PARITY : Nat := 0x04
def ENG_CODEGEN : Nat := 0x05
def ENG_QUAL : Nat := 0x08
def ENG_TSC_QFAIL : Nat := 0x09
def ENG_ECC_CORR : Nat := 0x10

/-- The events that their chapters mark "not a fault" (R614, INFO), the engine classes apart. -/
def infoCodes : List Nat :=
  [0x201, 0x204, 0x206, 0x208, 0x303, 0x801, 0x80e, 0x80f, 0x811, 0x903, 0x905, 0xa01, 0xc12, 0x2104, 0x4c06, 0x4c0b, 0x5006, 0x5008, 0x5803, 0x5e02]

end Sys2Proof.Ev
end

