-- ==== Sys2Proof/Config.lean ====
section
/-! DEFINITION. What one device or one run fixes and the spec leaves open. Each `opaque` constant is a FREE VALUE: it has no
body, so nothing can be proved of its value, and a claim holds whatever it is. -/
namespace Sys2Proof.Config

/-- A fresh free value: the machine applies it to a counter that it then advances (log entry 3). -/
opaque freeNat : Nat → Nat

/-- What a pier register holds that the program has not written (R137, R124): by the program's era and the register's key
(log entry 15). -/
opaque pierReg : Nat → Nat → Nat

/-- A quotient rounded to an integer in a direction that the spec does not name (log entry 4). -/
opaque roundDiv : Int → Nat → Int

/-- The least-squares fit of HM_Y0 and HM_AGE to (air count, LO offset) pairs (R77), whose arithmetic the spec does not give. -/
opaque refit : List (Nat × Int) → Int × Int

/-- ECDSA over P-384 with SHA-384 (R113, R632: NIST FIPS 186-5, which the spec only names): whether (r, s) is a signature
of the message under the 96-byte public key (log entry 6). -/
opaque ecdsaP384 : (key : Nat) → (msg : List Nat) → (r s : Nat) → Bool

/-- SHA-384 of a message (R632), as a number of 48 bytes, most significant byte first (log entry 6). -/
opaque sha384 : List Nat → Nat

/-- The 96 bytes of Jorvique's factory key in slot 0 (R627), which the spec does not print (log entry 6). -/
opaque factoryKey : Nat

/-- SYS_UID (R45), and whether SYS_ID1.GRADE is 2 (XD7720-E), not 1: fuses of the individual device. -/
opaque uid : Nat
opaque gradeE : Bool

/-- The vertical step of the eye scan of a personality (R336), which the spec does not give. -/
opaque vstep : Nat → Nat

/-! ### Engine results that the spec bounds but does not fix to the bit (log entry 16) -/

/-- The FFT engine's internal result Ŷ (R211, R212) of a transform, in output order: direction, HALF, ORDER, samples. -/
opaque fftInner : (dir half order : Nat) → List (Int × Int) → List (Int × Int)

/-- What the float path of the matrix engine gives for one item or group (R219, R222): the output elements, the exponent of
a C16 output under OBFP, the clipped halves, the NaN count, and whether a pivot was replaced. -/
structure MeResult where
  elems : List Nat
  exp : Nat
  sat : Nat
  nan : Nat
  cond : Bool
deriving Inhabited

/-- The float path: descriptor words, elements of A, elements of B. -/
opaque meFloat : List Nat → List Nat → List Nat → MeResult

/-- The statistics of one candidate of an access detector (R227, R229, R230, R289, R290): binary32 words of peak, far and
power, the window and lag offset of the peak, TAF and FOFS. -/
structure AdStat where
  peak : Nat
  far : Nat
  power : Nat
  win : Nat
  ta : Nat
  taf : Int
  fofs : Int
deriving Inhabited

/-- The statistics of candidate c: descriptor words, table words, samples of the used antennas, c. -/
opaque adStat : List Nat → List Nat → List (Int × Int) → Nat → AdStat

/-- The binary32 word of the noise estimate before the NOISE_MIN floor (R227). -/
opaque adNoise : List Nat → List Nat → List (Int × Int) → Nat

/-- What the narrowband engine finds in a burst (R294–R296): τ, whether 8PSK was kept, the binary32 words of Q and σ̂², FOFS,
and the soft values. -/
structure NbResult where
  tau : Int
  psk : Bool
  q : Nat
  sigma2 : Nat
  fofs : Int
  soft : List Int
deriving Inhabited

opaque nbBurst : List Nat → List (Int × Int) → Nat → NbResult

/-- A quotient of integers as a binary32 word (R293, R299). -/
opaque f32Div : Nat → Nat → Nat

/-- The integer that PARAM stands for on the exact path when it is infinite or no number (R219), which the spec does not state. -/
opaque paramInt : Nat → Int

/-! ### Tables and codes of 3GPP that the spec only names (log entry 17) -/

/-- TS 38.212 Tables 5.3.2-2 and 5.3.2-3: the shift of base graph, set index, row and column; `none`: no entry. -/
opaque ldpcShift : (bg set row col : Nat) → Option Nat

/-- TS 38.212 clause 5.3.2: the parity bits of a block, for base graph, Zc and active rows. -/
opaque ldpcParity : (bg zc rows : Nat) → List Bool → List Bool

/-- TS 38.212 clauses 5.3.1.2 and 5.4.1.1: what index i is for (n, K, E, NPC, NPCWM): 0 frozen, 1 information, 2 parity check. -/
opaque polarKind : (n k e npc wm i : Nat) → Nat

/-- TS 38.212 clause 5.3.1.1: the input interleaver of K bits. -/
opaque polarIl : (k i : Nat) → Nat

/-- R260 with the constituent code, trellis termination and interleaver of TS 36.212 or TS 25.212: L_app of the K bits after half-iteration
h (1, 2, …), in the order of the information bits, for STD, K and the three streams. -/
opaque turboApp : (std k : Nat) → List Int → (h : Nat) → List Int

/-- Whether K is a turbo block size of TS 36.212 Table 5.1.3-3. -/
opaque turboSize : Nat → Bool

/-- TS 25.213: chip i of uplink long code n, of downlink code n, of the primary and of secondary synchronisation code n. -/
opaque scrUp : (n i : Nat) → Int × Int
opaque scrDown : (n i : Nat) → Int × Int
opaque codePsc : (i : Nat) → Int × Int
opaque codeSsc : (n i : Nat) → Int × Int

/-! ### The fronthaul -/

/-- O-RAN.WG4.CUS.0 Annex A.3 (R357, R358): μ-law expansion and compression of a half, for width and compShift. -/
opaque muExpand : (w shift : Nat) → Int → Int
opaque muCompress : (w shift : Nat) → Int → Int

/-- R358: a half under block scaling with S = 0, which divides by zero, for the width. -/
opaque scaleZero : (w : Nat) → Int → Int

/-- A C16 half as the w-bit half of a transmitted CPRI container (R371 states the receive direction only). -/
opaque cpriHalf : (w : Nat) → Int → Int

/-- IEEE 802.1AE with GCM-AES-256 (R365): the secure data and ICV of a frame, for key, SCI, PN, the bytes before the secure data, and the
bytes to protect; and the bytes that a protected frame holds (`none`: its integrity check fails). -/
opaque gcmSeal : (key sci pn : Nat) → (head data : List Nat) → List Nat
opaque gcmOpen : (key sci pn : Nat) → (head data : List Nat) → Option (List Nat)

/-! ### The pool -/

/-- The bodies of OP (0x03), ARRIVE (0x04) and RESULT (0x05) frames, whose layout R564 does not give: the bytes for the numbers that a frame
carries, and the numbers in a body. OP: initiator, h, KIND, T, VIEW, ARG, then the 32 payload bytes; ARRIVE and RESULT: initiator, h, VIEW,
COUNT. -/
opaque poolBody : (type : Nat) → (fields : List Nat) → List Nat
opaque poolFields : (type : Nat) → (body : List Nat) → List Nat

/-! ### Perturbation -/

/-- R653: the 32-bit LFSR of a page: its next value, and the 16-bit number that a draw takes from it. The spec gives no polynomial. -/
opaque ptNext : Nat → Nat
opaque ptDraw : Nat → Nat

/-! ### The Parapet -/

/-- AES-256-GCM under the sealing key of a life-cycle state (R630), which derives from a fused secret that nothing can read: ciphertext and tag
of a key for nonce and attributes; and the key that a blob holds (`none`: its tag fails). -/
opaque blobSeal : (lc nonce attrs key : Nat) → Nat × Nat
opaque blobOpen : (lc nonce attrs cipher tag : Nat) → Option Nat

end Sys2Proof.Config
end

