-- ==== Sys2Proof/Machine/PartsAbut.lean ====
section
/-! DEFINITION. The state of the Abutment beside its registers: the harts, the cached lines, the event hub and the PCIe
endpoint (R442–R479). -/
namespace Sys2Proof.Machine

/-- A hart (R442, R455, R456). The lists hold the registers that are not 0, and the CSRs that do not hold their reset value. -/
structure Hart where
  running : Bool
  wfi : Bool
  pc : Nat
  /-- 0 U, 1 S, 3 M. -/
  priv : Nat
  x : List (Nat × Nat)
  q : List (Nat × Nat)
  csr : List (Nat × Nat)
  /-- The external interrupt lines of the hub: M-mode and S-mode (R467), and the timer's (R452). -/
  mei : Bool
  sei : Bool
  mti : Bool
deriving DecidableEq, Repr

/-- A hart that CL_RST.HOLD holds in reset. -/
def Hart.zero : Hart :=
  { running := false, wfi := false, pc := 0, priv := 3, x := [], q := [], csr := [], mei := false, sei := false, mti := false }

/-- A cached line of bulk memory (R444–R446): its number, its 64 bytes as one number, whether it is dirty, and the core
whose write made it so. The caches of a coherent system are one store here (log entry 20). -/
structure CacheLine where
  line : Nat
  data : Nat
  dirty : Bool
  core : Nat
deriving DecidableEq, Repr

/-- The event hub (R464–R468). -/
structure Hub where
  /-- Route entries: the value of EH_ROUTE written for a source. -/
  routes : List (Nat × Nat)
  /-- Sources that are pending, and sources in service. -/
  pend : List (Nat × Nat)
  insvc : List (Nat × Nat)
deriving DecidableEq, Repr

def Hub.zero : Hub := ⟨[], [], []⟩

/-- An outbound read that awaits its completion (R472). -/
structure OutRead where
  source : Nat
  addr : Nat
  len : Nat
deriving DecidableEq, Repr

/-- The PCIe endpoint (R469–R473). Functions: 0 the physical one, 1–63 the virtual ones. -/
structure Pcie where
  /-- CTX of each virtual function, and its windows under 4 × function + window (R471). -/
  ctx : List (Nat × Nat)
  wins : List (Nat × Nat)
  /-- Functions with Bus Master Enable = 1; SR-IOV is enabled. -/
  bme : List (Nat × Nat)
  sriov : Bool
  /-- MSI-X tables under (2,048 × function + vector) × 4 + word, and pending bits under 2,048 × function + vector. -/
  msix : List (Nat × Nat)
  pba : List (Nat × Nat)
  reads : List OutRead
  /-- PE_PERST_N is low (R666). -/
  perst : Bool
  /-- The last memory write sent to the host: address, bytes. -/
  sent : Option (Nat × List Nat)
deriving DecidableEq, Repr

def Pcie.zero : Pcie := ⟨[], [], [], false, [], [], [], false, none⟩

/-- A cluster's performance level (R454): the level to which its PLL relocks. -/
structure Abut where
  harts : List (Nat × Hart)
  cache : List CacheLine
  hub : Hub
  pcie : Pcie
  target : List (Nat × Nat)
deriving DecidableEq, Repr

def Abut.zero : Abut := ⟨[], [], Hub.zero, Pcie.zero, []⟩

end Sys2Proof.Machine
end

