-- ==== Sys2Proof/Machine/PartsDeck.lean ====
section
/-! DEFINITION. The state of the deck sequencer beside its registers: the plan slots, the armed plan, the variants in force,
the FAILED set, replays and the operations in flight (R94–R133). -/
namespace Sys2Proof.Machine

/-- A slot-table entry (R107). -/
structure SlotEntry where
  op : Nat
  ofs : Nat
  repl : Bool
  unit : Nat
  arg : Nat
  step : Nat
deriving DecidableEq, Repr

/-- A link reservation (R109). -/
structure LinkSlot where
  ofs : Nat
  len : Nat
  port : Nat
  router : Nat
deriving DecidableEq, Repr

/-- An entry of FOOTPRINT or BULK_WINDOWS (R110); `len` counts 64-byte units. -/
structure Region where
  base : Nat
  len : Nat
  ctx : Nat
  kind : Nat
deriving DecidableEq, Repr

/-- A TRIGGERS entry (R111). -/
structure PlanTrig where
  idx : Nat
  carry : Bool
  adopt : Bool
  action : Nat
  count : Nat
  rel : Nat
  per : Nat
  arg : Nat
deriving DecidableEq, Repr

/-- A step record of a REPLAY_MAP (R112). -/
structure ReplayStep where
  step : Nat
  win : Nat
  subtab : Nat
  faultBy : Nat
deriving DecidableEq, Repr

/-- A REPLAY_MAP section (R112): its windows (OFS, LEN) and its steps. -/
structure ReplayMap where
  wins : List (Nat × Nat)
  steps : List ReplayStep
deriving DecidableEq, Repr

/-- A variant (R106). -/
structure Variant where
  drained : Bool
  degraded : Bool
  pos : Nat
  base : Nat
  excl : Nat
  stCool : Nat
  stHot : Nat
  lsCool : Nat
  lsHot : Nat
  replay : Nat
deriving DecidableEq, Repr

/-- The content of a section that the deck keeps. -/
inductive SecBody where
  | slots (l : List SlotEntry)
  | links (l : List LinkSlot)
  | map (m : ReplayMap)
  | other
deriving DecidableEq, Repr

/-- A section of a loaded image: its CTX and its content. -/
structure Section where
  ctx : Nat
  body : SecBody
deriving DecidableEq, Repr

/-- A loaded plan. -/
structure Plan where
  id : Nat
  rev : Nat
  plevel : Nat
  period : Nat
  hotLimit : Nat
  variants : List Variant
  sections : List Section
  foot : List Region
  bulk : List Region
  trigs : List PlanTrig
  defaults : List Nat
  /-- Handoff rings used and their entry counts (R105). -/
  rings : List (Nat × Nat)
  /-- Sections with LOAD = 1: target address, image address, length. -/
  loads : List (Nat × Nat × Nat)
deriving DecidableEq, Repr

/-- A variant in force in a span: the variant, its class, whether it is a degraded substitute or a default for a bad
selection, and the units fenced in the span (R118, R119). -/
structure InForce where
  var : Nat
  hot : Bool
  deg : Bool
  dflt : Bool
  fenced : List Nat
deriving DecidableEq, Repr

def InForce.zero : InForce := ⟨0, false, false, false, []⟩

/-- An armed plan (R122, R123). -/
structure Armed where
  slot : Nat
  s : Nat
  var0 : Nat
  var1 : Nat
  phase : Nat
  committed : Bool
deriving DecidableEq, Repr

/-- A deterministic operation in flight: unit, slot-table operation, its step, the uptime of issue, the uptime at which the
unit accepts the next operation, and the uptime of completion (R99). `replay` tells that it belongs to a replay. -/
structure Job where
  unit : Nat
  op : Nat
  step : Nat
  repl : Bool
  replay : Bool
  arg : Nat
  ctx : Nat
  issue : Nat
  free : Nat
  fin : Nat
deriving DecidableEq, Repr

/-- A replay that the deck has scheduled in the current span (R127). -/
structure Replay where
  step : Nat
  win : Nat
  start : Nat
  subtab : Nat
  begun : Bool
  faulted : Bool
  done : Bool
deriving DecidableEq, Repr

/-- The deck sequencer beside its registers. -/
structure Deck where
  slot0 : Option Plan
  slot1 : Option Plan
  /-- The running plan slot. -/
  run : Option Nat
  armed : Option Armed
  /-- The S of an accepted STOP (R126). -/
  stopAt : Option Nat
  /-- An event of this span halts the plan (R131). -/
  stopping : Bool
  /-- Position at the start instant and that instant (R115). -/
  phase : Nat
  start : Nat
  cur : InForce
  next : InForce
  /-- DV_SEL was written since the previous latch (R118). -/
  selected : Bool
  /-- Indexes of the DK_FAILn entries in the order in which units entered the set (R119), and those to be removed at the
  next latch (R129). -/
  failOrder : List Nat
  failDrop : List Nat
  /-- Units that failed while the set was full (R129). -/
  overflow : List Nat
  /-- Faults of each unit: (unit code, span number), newest first (R129). -/
  faults : List (Nat × Nat)
  /-- A renewal after the lapse restores transmission at the next span start (R130). -/
  restore : Bool
  replays : List Replay
  jobs : List Job
  /-- Lent windows: engine unit code, uptime of the begin and of the end (R99). -/
  lent : List (Nat × Nat × Nat)
  /-- A LOAD that has passed its checks: the target slot and the plan (R121). -/
  loading : Option (Nat × Plan)
deriving DecidableEq, Repr

def Deck.zero : Deck :=
  { slot0 := none, slot1 := none, run := none, armed := none, stopAt := none, stopping := false, phase := 0, start := 0,
    cur := InForce.zero, next := InForce.zero, selected := false, failOrder := [], failDrop := [],
    overflow := [], faults := [], restore := false, replays := [], jobs := [], lent := [], loading := none }

end Sys2Proof.Machine
end

