-- ==== Sys2Proof/Machine/PartsEng.lean ====
section
/-! DEFINITION. The state of the engines beside their registers: the operations in progress (R201–R208) and the HARQ
engines' epoch table (R272). -/
namespace Sys2Proof.Machine

/-- An item of an engine operation (R215, R221): the uptime at which it completes, the low bytes of the events of its checked
faults, of its other event (0: none), how much it adds to ENG_FAULTS.QUAL, ENG_ACT.DET and ENG_ACT.ITEMS, whether it counts
as event 0x08 of R240, and whether it has been judged. -/
structure EngItem where
  due : Nat
  codes : List Nat
  info : Nat
  qual : Nat
  det : Nat
  count : Nat
  mark : Bool
  done : Bool
deriving DecidableEq, Repr

/-- An operation in progress: its deck job, whether it is a dynamic job, the address of its status record, the USER word, the
span tag of its issue, its successor (R204), its items, the code of the first fault so far, and QUAL and words 4–15 of its
status record (R206). -/
structure EngRun where
  job : Job
  dyn : Bool
  status : Nat
  user : Nat
  tag : Nat
  next : Option Nat
  items : List EngItem
  code : Nat
  qual : Nat
  words : List Nat
deriving DecidableEq, Repr

/-- A change of the epoch table that takes effect at uptime `due` (R272, R278): of the context `ctx`, or of all (4,096);
`none` adds 1, `some e` sets it to e. -/
structure EpochChange where
  due : Nat
  ctx : Nat
  set : Option Nat
deriving DecidableEq, Repr

/-- The engines beside their registers. -/
structure Engines where
  /-- Oldest first. -/
  runs : List EngRun
  /-- The epoch of context c is (base + its entry) modulo 65,536. -/
  base : Nat
  epochs : List (Nat × Nat)
  changes : List EpochChange
deriving DecidableEq, Repr

def Engines.zero : Engines := ⟨[], 0, [], []⟩

end Sys2Proof.Machine
end

