-- ==== Sys2Proof/Machine/PartsFh.lean ====
section
/-! DEFINITION. The state of the fronthaul beside its registers: flows, partners, reception buffers, ports (R338–R379). -/
namespace Sys2Proof.Machine

/-- A flow entry (R376): its words, its counters, and the seqId last received and next sent. -/
structure Flow where
  w0 : Nat
  w1 : Nat
  w2 : Nat
  w3 : Nat
  w4 : Nat
  cnt : List Nat
  seqRx : Option Nat
  seqTx : Nat
deriving DecidableEq, Repr

def Flow.zero : Flow := ⟨0, 0, 0, 0, 0, [0, 0, 0, 0, 0, 0, 0, 0, 0], none, 0⟩

/-- A partner entry (R373): its address, its AU_PT_CTL word, and the uptime of its last eCPRI frame. -/
structure Partner where
  mac : Nat
  ctl : Nat
  last : Nat
deriving DecidableEq, Repr

def Partner.zero : Partner := ⟨0, 0, 0⟩

/-- A reception buffer (R351–R355): its descriptor, the air count from which it is open, the PRBs or basic frames that have
arrived, and the counts of its record. For CPRI: the basic frames released so far, and those not yet placed (the uptime of
their placement, their index, their bytes). -/
structure RxBuf where
  au : Nat
  kind : Nat
  port : Nat
  flow : Nat
  key : Nat
  base : Nat
  prb0 : Nat
  count : Nat
  openAir : Nat
  arrived : List Nat
  sections : Nat
  late : Nat
  dup : Nat
  out : Nat
  next : Nat
  pend : List (Nat × Nat × List Nat)
deriving DecidableEq, Repr

/-- A U-plane frame that waits to be placed (R353). -/
structure Ingress where
  au : Nat
  port : Nat
  flow : Nat
  bytes : List Nat
  tEnd : Nat
deriving DecidableEq, Repr

/-- A key whose buffer has closed, and when (R353). -/
structure ClosedKey where
  au : Nat
  port : Nat
  flow : Nat
  key : Nat
  up : Nat
deriving DecidableEq, Repr

/-- A deterministic frame on its way: the uptime of its departure (R347), its flow, its bytes without FCS, and where its
egress timestamp goes. -/
structure TxFrame where
  due : Nat
  flow : Option Nat
  bytes : List Nat
  tsrec : Nat
  ctx : Nat
deriving DecidableEq, Repr

/-- A frame that firmware has submitted (R363): its bytes without FCS, its mark (0 none, 1 two-step, 2 one-step), its tag. -/
structure DynFrame where
  bytes : List Nat
  mark : Nat
  tag : Nat
deriving DecidableEq, Repr

/-- An EM port. -/
structure EmPort where
  /-- Uptime at which the running frame ends, and at which the last frame was sent (R361, R345). -/
  free : Nat
  sent : Nat
  /-- Uptime since when neither fault has been seen (R344). -/
  clean : Nat
  /-- The transmitter is in LPI; the receivers are in LIGHT for LPI (R345). -/
  lpi : Bool
  rxLpi : Bool
  det : List TxFrame
  dyn : List DynFrame
  /-- The egress timestamp queue: air count and tag (R363). -/
  ts : List (Nat × Nat)
  /-- The bytes of the frame last sent on the line. -/
  line : List Nat
deriving DecidableEq, Repr

def EmPort.zero : EmPort := ⟨0, 0, 0, false, false, [], [], [], []⟩

/-- Data of one container in the framer's transmit buffer (R371): its stream, its grid instant, its samples, and the air count
since when it stands there. -/
structure CpData where
  stream : Nat
  grid : Nat
  samples : List Nat
  stands : Nat
deriving DecidableEq, Repr

/-- A CP port. -/
structure CpPort where
  /-- Containers are substituted; the air count since when no substituting defect is present (R372). -/
  subst : Bool
  clear : Nat
  /-- The receive side's active page, and the air count at which it follows the transmit side's switch (R371). -/
  rxPage : Nat
  rxSwitch : Option Nat
  /-- Air count of the pending switch request. -/
  tsi : Option Nat
  /-- Uptime since when LOS or LOF persists, and whether the partner is lost (R374). -/
  fault : Option Nat
  lost : Bool
  /-- Air count at which the degradation window began (R372). -/
  deg : Nat
  data : List CpData
  /-- What the framer drives: the IQ block last sent, RAI, SDI. -/
  line : Nat
  rai : Bool
  sdi : Bool
  /-- The partner sends SDI. -/
  sdiIn : Bool
deriving DecidableEq, Repr

def CpPort.zero : CpPort :=
  { subst := false, clear := 0, rxPage := 0, rxSwitch := none, tsi := none, fault := none, lost := false, deg := 0, data := [],
    line := 0, rai := false, sdi := false, sdiIn := false }

/-- The successor of a transmission (R204, R359): its unit, the uptime of its issue, its descriptor, and the job that began
the chain. -/
structure TxChain where
  unit : Nat
  due : Nat
  desc : Nat
  job : Job
deriving DecidableEq, Repr

structure Fh where
  /-- Flows under 512 × AU + index; partners under 32 × AU + index. -/
  flows : List (Nat × Flow)
  partners : List (Nat × Partner)
  rx : List RxBuf
  ingress : List Ingress
  closed : List ClosedKey
  em : List (Nat × EmPort)
  cp : List (Nat × CpPort)
  chains : List TxChain
  /-- The contexts that the pool fences (R559). -/
  fenced : List Nat
deriving DecidableEq, Repr

def Fh.zero : Fh := ⟨[], [], [], [], [], [], [], [], []⟩

end Sys2Proof.Machine
end

