-- ==== Sys2Proof/Machine/PartsKs.lean ====
section
/-! DEFINITION. The state of the Keystone beside its registers (R514–R543): the array's words, and the journal engine's view of them. -/
namespace Sys2Proof.Machine

/-- A segment (R518): 0 unknown, 1 free, 2 spent, 3 open, 4 closed; its partition, the word at which its free space begins,
its erases, and whether the patrol wants it compacted first (R528). -/
structure KsSeg where
  state : Nat
  part : Nat
  next : Nat
  erases : Nat
  mark : Bool
deriving DecidableEq, Repr

def KsSeg.unknown : KsSeg := ⟨0, 0, 8, 0, false⟩

/-- A record that the index holds (R519–R525): its key, its schema and length, its SEQ, the word of its H0, its RCRC (with COPY as 0, log
entry 28), and whether it is a tombstone, adopts, is corrupt, has retired. -/
structure KsRec where
  part : Nat
  cls : Nat
  inst : Nat
  epoch : Nat
  schema : Nat
  len : Nat
  seq : Nat
  at_ : Nat
  rcrc : Nat
  tomb : Bool
  adopt : Bool
  corrupt : Bool
  retired : Bool
deriving DecidableEq, Repr

/-- The boot state (R534). -/
structure KsBoot where
  state : Nat
  confSlot : Nat
  prevV : Bool
  prevSlot : Nat
  trialSlot : Nat
  left : Nat
  cause : Nat
  confEpoch : Nat
  prevEpoch : Nat
  trialBase : Nat
  trialSeq : Nat
deriving DecidableEq, Repr

def KsBoot.zero : KsBoot := ⟨0, 0, false, 0, 0, 0, 0, 0, 0, 0, 0⟩

/-- A command of the mailbox in progress: the value of KS_CMD and the uptime of its start. -/
structure KsCmd where
  value : Nat
  start : Nat
deriving DecidableEq, Repr

structure Ks where
  /-- Words of the array, by 8192 × segment + word; an unlisted word is erased. -/
  words : List (Nat × Nat)
  segs : List (Nat × KsSeg)
  recs : List KsRec
  /-- The next sequence number; the highest epoch number assigned. -/
  seq : Nat
  epoch : Nat
  boot : KsBoot
  /-- Epochs that a fallback or a discard has retired. -/
  gone : List Nat
  cmd : Option KsCmd
  /-- The token bucket (R530) in units of 1/196,608 byte, at an uptime. -/
  tokens : Nat
  tokAt : Nat
  /-- Word programs left until a tear (R543), and whether it has fallen. -/
  tear : Option Nat
  torn : Bool
  /-- WEAR_WARN has been recorded. -/
  warned : Bool
  /-- The scan runs (R521). -/
  scan : Bool
  /-- Uptime at which the scan began, and at which the trial image started (R536). -/
  scanAt : Nat
  trialAt : Nat
  /-- How the last command was left: records that it committed. -/
  wrote : Nat
deriving DecidableEq, Repr

def Ks.zero : Ks :=
  { words := [], segs := [], recs := [], seq := 1, epoch := 0, boot := KsBoot.zero, gone := [], cmd := none,
    tokens := 1048576 * 196608, tokAt := 0, tear := none, torn := false, warned := false, scan := false, scanAt := 0, trialAt := 0, wrote := 0 }

end Sys2Proof.Machine
end

