-- ==== Sys2Proof/Machine/PartsLane.lean ====
section
/-! DEFINITION. The state of a serial lane beside its registers (R310–R333). -/
namespace Sys2Proof.Machine

structure Lane where
  /-- Uptime of the begin of the HI_BER window (R316). -/
  win : Nat
  /-- Symbol errors and codewords of the running HI_SER window (R319). -/
  serErr : Nat
  serCw : Nat
  /-- Uptime at which adaptation started from cold, and whether ADAPT_TIMEOUT was recorded since (R320). -/
  cold : Nat
  timedOut : Bool
  /-- Uptime at which the eye-scan point began (R324). -/
  scan : Nat
  /-- A direction is returning to ON (R329). -/
  txWake : Bool
  rxWake : Bool
  /-- Uptime at which the burst of wake ordered sets ends, and whether the transmitter sleeps then (R330, R333). -/
  burst : Nat
  txSleep : Bool
  /-- On an anchor lane: its PLLs stopped under R328, and the references they follow (R312), Ethernet and CPRI. -/
  ethOff : Bool
  cpriOff : Bool
  ethSrc : Nat
  cpriSrc : Nat
  /-- Uptime of the write of LN_INJ (R331). -/
  inj : Nat
deriving DecidableEq, Repr

def Lane.zero : Lane :=
  { win := 0, serErr := 0, serCw := 0, cold := 0, timedOut := false, scan := 0, txWake := false, rxWake := false, burst := 0,
    txSleep := false, ethOff := false, cpriOff := false, ethSrc := 0, cpriSrc := 0, inj := 0 }

end Sys2Proof.Machine
end

