-- ==== Sys2Proof/Machine/PartsMem.lean ====
section
/-! DEFINITION. The state of the memories beside their contents (R409–R440), the effects that land later than the command that
causes them (R97), and the routers' buffers (R385–R403). -/
namespace Sys2Proof.Machine

/-- How a word of memory reads besides its data (R416): 0 clean, 1 correctable, 2 uncorrectable, 3 poisoned; with the
syndrome that a read of it shows. -/
structure Ecc where
  kind : Nat
  synd : Nat
deriving DecidableEq, Repr

def Ecc.clean : Ecc := ⟨0, 0⟩

/-- An entry of a corrected-error log (R435). -/
structure CelEntry where
  addr : Nat
  synd : Nat
  scrub : Bool
  air : Nat
  count : Nat
deriving DecidableEq, Repr

/-- A dynamic line that waits at a bank (R412): its initiator, address, bytes, data, whether its unit arrived poisoned
(R399), and the uptime since when it waits. -/
structure DynLine where
  who : Who
  addr : Nat
  len : Nat
  kind : DynKind
  data : Nat
  poison : Bool
  since : Nat
deriving DecidableEq, Repr

/-- A scrubber's lap (R432–R434): the next line, the air count and uptime of the lap's begin, the words found, the lines
deferred, the uptime + 1 of the last read, and the addresses and lengths of the lines that wait to be written back, with
whether another write to the line was served in between. -/
structure Scrub where
  pos : Nat
  air0 : Nat
  up0 : Nat
  corr : Nat
  ue : Nat
  defer : Nat
  last : Nat
  back : List (Nat × Nat × Bool)
deriving DecidableEq, Repr

def Scrub.zero : Scrub := ⟨0, 0, 0, 0, 0, 0, 0, []⟩

/-- An initialization in progress (R419): its page and what it initializes. -/
structure MemInit where
  page : Nat
  sel : Nat
  up0 : Nat
deriving DecidableEq, Repr

/-- An effect that comes about at its due uptime (R97): bytes of deck SRAM or bulk memory, a token in a handoff ring, the
report of a checked fault to the deck (R208), one bit of a byte. An effect that takes a bank port takes it in the deck clock
cycle that ends when it is due (R217, R389, R391): `deliver` a write of one unit (no bytes: the FFT engine's status record),
`copy` the next of `n` units that a mover reads, `fft` the next unit that an FFT engine reads. `pm` is a write delivered to PM
(R144). -/
inductive Eff where
  | bit (addr n : Nat) (v : Bool)
  | bytes (addr : Nat) (data : List Nat) (poison : Bool)
  | deliver (addr : Nat) (data : List Nat) (poison : Bool)
  | pm (addr : Nat) (data : List Nat) (poison : Bool)
  /-- From `src` to `dst`, `h` hops on (R388), for context `ctx`; whether a unit read bad, and whether this unit lost its port. -/
  | copy (src dst h n ctx : Nat) (bad lost : Bool)
  /-- An operation issued at uptime `t0` with descriptor `w` (R217): the words of the input table read so far, the units of
  transform `j` read so far, unit `i` next; whether one of them read bad, and whether this unit lost its port. -/
  | fft (t0 : Nat) (w tab acc : List Nat) (j i : Nat) (bad lost : Bool)
  | token (ring ctx : Nat) (words : List Nat)
  | fault
deriving DecidableEq, Repr

/-- A deterministic access that takes a bank port (R101, R412): the bank, uptime + 1 of the deck clock cycle, SOURCE and TAG
(R384), the slot of a pier's bundle (0: no pier's), the address, and when the effect that hangs on it is due. -/
structure PortUse where
  bank : Nat
  at_ : Nat
  src : Nat
  tag : Nat
  slot : Nat
  addr : Nat
  out : Nat
deriving DecidableEq, Repr

/-- A scheduled effect, the unit that owes it (R107) and the Truss SOURCE and TAG it travels under. -/
structure Later where
  due : Nat
  unit : Nat
  source : Nat
  tag : Nat
  eff : Eff
deriving DecidableEq, Repr

/-- The memories beside their contents. -/
structure Mem where
  /-- Words that do not read clean, by word index (address / 8). -/
  ecc : List (Nat × Ecc)
  /-- Corrected-error logs by page, oldest entry first. -/
  cel : List (Nat × List CelEntry)
  /-- Dynamic lines that wait at their banks, oldest first. -/
  dyn : List DynLine
  later : List Later
  scrubs : List (Nat × Scrub)
  inits : List MemInit
  /-- Uptime + 1 of the last refresh of each global pseudo-channel. -/
  refAt : List (Nat × Nat)
  /-- Whether that refresh interval began in a hot-class span (R116). -/
  refHot : List (Nat × Nat)
  /-- Uptime until which a pseudo-channel is unavailable after a refresh (R427). -/
  refBusy : List (Nat × Nat)
  /-- Uptime + 1 at which the training of stack 0, 1 began; 0: none (R440). -/
  train0 : Nat
  train1 : Nat
  /-- Uptime from which stack 0, 1 serves again after self-refresh (R431). -/
  wake0 : Nat
  wake1 : Nat
  /-- The bank ports taken in this deck clock cycle and the two before it (R101, R412). -/
  ports : List PortUse
  /-- Reservations of LR: the SOURCE and the 64-byte line (R449). -/
  resv : List (Nat × Nat)
deriving DecidableEq, Repr

def Mem.zero : Mem :=
  { ecc := [], cel := [], dyn := [], later := [], scrubs := [], inits := [], refAt := [], refHot := [], refBusy := [],
    train0 := 0, train1 := 0, wake0 := 0, wake1 := 0, ports := [], resv := [] }

/-- A class 1–3 packet in a router's input buffer: the input port, the uptime since when it is ready, and whether its data
are poisoned (R396, R399). -/
structure Buffered where
  router : Nat
  port : Nat
  pkt : Packet
  since : Nat
  poison : Bool
  /-- The output port by dimension order (R388). -/
  out : Nat
deriving DecidableEq, Repr

/-- A request that waits for its response (R402). -/
structure Request where
  source : Nat
  tag : Nat
  router : Nat
  cls : Nat
  since : Nat
deriving DecidableEq, Repr

/-- The routers beside their registers. -/
structure Mesh where
  bufs : List Buffered
  reqs : List Request
  /-- Uptime + 1 until which an output port (5 × INST + port) is occupied, and by a class 1–3 packet. -/
  portEnd : List (Nat × Nat)
  portDyn : List (Nat × Nat)
  /-- The input port last served at an output port, and class-1 packets served since the last class-2 one (R397). -/
  lastIn : List (Nat × Nat)
  w1 : List (Nat × Nat)
  /-- Uptime + 1 of the last cycle in which a class-0 unit left an output port, with its input port, SOURCE and TAG. -/
  c0At : List (Nat × Nat × Nat × Nat × Nat)
  /-- Packets (router, SOURCE, TAG) of which a unit was recorded as COLL_LINK or dropped (R394). -/
  c0Hit : List (Nat × Nat × Nat)
  c0Drop : List (Nat × Nat × Nat)
  /-- Monitor accumulators: REQ, UNITS, LAT_SUM, LAT_MAX, HOLD of monitors 0–3 (R404). -/
  mon : List (Nat × List Nat)
deriving DecidableEq, Repr

def Mesh.zero : Mesh :=
  { bufs := [], reqs := [], portEnd := [], portDyn := [], lastIn := [], w1 := [], c0At := [], c0Hit := [], c0Drop := [],
    mon := [] }

end Sys2Proof.Machine
end

