-- ==== Sys2Proof/Machine/PartsPier.lean ====
section
/-! DEFINITION. The state of a pier (R134–R170). -/
namespace Sys2Proof.Machine

/-- What a pending write does to its register: the bits of `mask` take the bits of `val`; or a MAC adds `add` to the lanes of
an accumulator, saturating, in the elements that `mask` covers (R140). -/
inductive PierVal where
  | put (mask val : Nat)
  | mac (mask : Nat) (add : List Int)
deriving DecidableEq, Repr

/-- A pending register write (R138, R141): the uptime at which it is visible, the uptime of its issue, its slot (VA0, VA1, VP,
LX, LY, SC), its register, its value, and the SAT bits that it sets. -/
structure PierWr where
  due : Nat
  issue : Nat
  slot : Nat
  key : Nat
  val : PierVal
  sat : Nat
deriving DecidableEq, Repr

/-- What follows the delay slots of a control transfer (R149, R152, R165). -/
inductive PierJump where
  | to (target : Nat)
  | stay
  | rte
  | fin
deriving DecidableEq, Repr

/-- A fault to be raised in the cycle that begins at uptime `cycle`, by the bundle at `pc` (R169, R170). -/
structure PierTrap where
  cycle : Nat
  code : Nat
  pc : Nat
deriving DecidableEq, Repr

structure Pier where
  running : Bool
  /-- PSTAT.STATE (R160). -/
  state : Nat
  /-- In the shadow bank (R165). -/
  shadow : Bool
  /-- The bundle to be issued, and the uptime of its issue cycle. -/
  pc : Nat
  at_ : Nat
  tag : Nat
  ctx : Nat
  /-- The first bundle has issued. -/
  begun : Bool
  /-- Distinguishes the undefined register contents of one program from another's (R137). -/
  era : Nat
  /-- Registers written since the program's start, by key (Operands.lean). -/
  regs : List (Nat × Nat)
  writes : List PierWr
  traps : List PierTrap
  /-- Delay slots still to issue, the current bundle among them; 0: the current bundle is none. -/
  delay : Nat
  /-- What follows the delay slots. -/
  jump : PierJump
  /-- A control transfer issued in the current bundle: its delay slots follow (R149, R199). -/
  turn : Bool
  /-- The slots of the current bundle whose operation has issued. -/
  issued : List Nat
  /-- LC, LSA, LEA of levels 0–3 and which are active (R147). -/
  lc : List Nat
  lsa : List Nat
  lea : List Nat
  act : List Bool
  /-- A REP issued in the current bundle: its level, count and LEA (R147). -/
  rep : Option (Nat × Nat × Nat)
  /-- The repeat buffer: the level it serves, whether the level is in its first pass, and what it captured (R146). -/
  bufLevel : Option Nat
  bufFirst : Bool
  buf : List (Nat × Nat)
  /-- Uptime at which EV0, EV1 were raised and are pending (R164); EV1 is armed (R163). -/
  ev0 : Option Nat
  ev1 : Option Nat
  arm1 : Bool
  evret : Nat
  /-- The last completion of a register write or local or bay access (R152). -/
  last : Nat
deriving DecidableEq, Repr

/-- A pier that has run no program since its reset. -/
def Pier.zero : Pier :=
  { running := false, state := 0, shadow := false, pc := 0, at_ := 0, tag := 0, ctx := 0, begun := false, era := 0, regs := [],
    writes := [], traps := [], delay := 0, jump := .stay, turn := false, issued := [], lc := [0, 0, 0, 0], lsa := [0, 0, 0, 0],
    lea := [0, 0, 0, 0], act := [false, false, false, false], rep := none, bufLevel := none, bufFirst := false, buf := [],
    ev0 := none, ev1 := none, arm1 := false, evret := 0, last := 0 }

end Sys2Proof.Machine
end

