-- ==== Sys2Proof/Machine/PartsPool.lean ====
section
/-! DEFINITION. The state of the POOL block beside its registers (R545–R577). -/
namespace Sys2Proof.Machine

/-- What the POOL block knows of a chip: its address and the link of its last HELLO or HEARTBEAT, the uptime + 1 of its last HELLO (0: not
in the discovery table) and its UID; for a member of the view, the highest SPAN + 1 received (0: none), MISS, the marks, the air count of the
evaluation that marked it FAILED, whether a heartbeat has come since, and the SUSPECT list of its latest heartbeat. -/
structure Peer where
  mac : Nat
  link : Nat
  disc : Nat
  uid : Nat
  last : Nat
  miss : Nat
  suspect : Bool
  failed : Bool
  failedAt : Nat
  back : Bool
  lists : List Nat
deriving DecidableEq, Repr

def Peer.zero : Peer := ⟨0, 0, 0, 0, 0, 0, false, false, 0, false, []⟩

/-- A view (R554). -/
structure View where
  num : Nat
  members : List Nat
deriving DecidableEq, Repr

/-- A view that waits for its instant; `withdraw`: it omits this chip. -/
structure NextView where
  at_ : Nat
  view : View
  withdraw : Bool
deriving DecidableEq, Repr

/-- A copy of an accepted epoch into the mirror (R568): the uptime at which it ends, the epoch, the H of a FINAL one, the ranges (OFS, length). -/
structure Copying where
  due : Nat
  epoch : Nat
  final : Option Nat
  ranges : List (Nat × Nat)
deriving DecidableEq, Repr

/-- A guard entry (R559–R573): its words; its fence and what POOL_G_STAT shows; the epochs. -/
structure Guard where
  cfg : Nat
  mir : Nat
  stg : Nat
  size : Nat
  h : Nat
  /-- The entry has become ACTIVE by a takeover and has no partner (R571). -/
  alone : Bool
  fenced : Bool
  needFull : Bool
  /-- The H of an accepted FINAL epoch. -/
  final : Option Nat
  taken : Bool
  fcause : Nat
  fcond : Nat
  /-- Active: the last epoch acknowledged, the last one sent, whether it was FINAL and acknowledged, and the uptime at which its last frame
  has left. -/
  acked : Nat
  sent : Nat
  sentFinal : Bool
  finalAcked : Bool
  sendEnd : Nat
  /-- Active: the instant of a handover that firmware has asked for. -/
  move : Option Nat
  /-- Standby: the last epoch committed, the epoch in reception, its DELTAs (INDEX, OFS, body), whether it has failed, its COMMIT (FLAGS, COUNT,
  ECRC, H), the air count of its deadline, and a copy in progress. -/
  committed : Option Nat
  rx : Option Nat
  deltas : List (Nat × Nat × List Nat)
  bad : Bool
  commit : Option (Nat × Nat × Nat × Nat)
  deadline : Nat
  copy : Option Copying
  /-- Standby: a TAKE accepted: its instant and whether it follows a FINAL epoch; a TAKE that waits for the copy (R569). -/
  take : Option (Nat × Bool)
  takeWait : Bool
deriving DecidableEq, Repr

def Guard.zero : Guard :=
  { cfg := 0, mir := 0, stg := 0, size := 0, h := 0, alone := false, fenced := false, needFull := false, final := none, taken := false,
    fcause := 0, fcond := 0, acked := 0, sent := 0, sentFinal := false, finalAcked := false, sendEnd := 0, move := none,
    committed := none, rx := none, deltas := [], bad := false, commit := none, deadline := 0, copy := none, take := none,
    takeWait := false }

/-- A slot of the op table (R561): POOL_OP_CFG, T and the payload address, and POOL_OP_STAT. -/
structure OpSlot where
  cfg : Nat
  t : Nat
  pay : Nat
  stat : Nat
deriving DecidableEq, Repr

def OpSlot.zero : OpSlot := ⟨0, 0, 0, 0⟩

/-- A global operation on its way (R561–R565): its initiator and slot, what its OP frame carries, the arrivals counted (`mine`: this chip's
own), the COUNT of RESULT, whether the OP came late, and whether ARRIVE or RESULT has been sent. -/
structure OpRun where
  init : Nat
  h : Nat
  kind : Nat
  t : Nat
  view : View
  arg : Nat
  payload : List Nat
  mine : Bool
  count : Nat
  result : Option Nat
  late : Bool
  sent : Bool
deriving DecidableEq, Repr

/-- A time exchange in progress (R560): its reference slot, the link, t1 (0 until the request has left), and the uptime at which it began. -/
structure TimeX where
  slot : Nat
  link : Nat
  t1 : Nat
  up : Nat
deriving DecidableEq, Repr

/-- A Ronris frame that a pool link has received and checked: the link, its uptime, its ingress timestamp, its source address, its header and
its body. -/
structure Ronris where
  link : Nat
  up : Nat
  tin : Nat
  mac : Nat
  type : Nat
  src : Nat
  dst : Nat
  view : Nat
  seq : Nat
  air : Nat
  body : List Nat
deriving DecidableEq, Repr

/-- A frame that leaves on a link at uptime `due` (R547, R548): its Ethernet header, TYPE, DST, VIEW, SEQ and body; where in the body the air count
of departure is written. -/
structure PoolTx where
  due : Nat
  link : Nat
  eth : List Nat
  type : Nat
  dst : Nat
  view : Nat
  seq : Nat
  body : List Nat
  stamp : Option Nat
deriving DecidableEq, Repr

structure Pool where
  peers : List (Nat × Peer)
  active : Option View
  prev : Option View
  loaded : Option NextView
  /-- Span + 1 of the last heartbeat sent, and of the last evaluation; 0: none. -/
  beat : Nat
  evalAt : Nat
  /-- Uptime since when the chip is in SEEKING with an empty discovery table. -/
  seekAt : Nat
  /-- The last step of the air count that the block has seen (the value of Pylon.stepUp). -/
  stepSeen : Nat
  guards : List (Nat × Guard)
  slots : List (Nat × OpSlot)
  runs : List OpRun
  /-- Arrivals written before their OP frame: initiator and slot (R564). -/
  held : List (Nat × Nat)
  time : List TimeX
  /-- Uptime + 1 of the last exchange begun, by reference slot. -/
  timeAt : List (Nat × Nat)
  /-- SEQ by TYPE, and the frames seen (SRC, TYPE, SEQ), newest first (R547). -/
  seq : List (Nat × Nat)
  seen : List (Nat × Nat × Nat)
  inbox : List Ronris
  out : List PoolTx
deriving DecidableEq, Repr

def Pool.zero : Pool :=
  { peers := [], active := none, prev := none, loaded := none, beat := 0, evalAt := 0, seekAt := 0, stepSeen := 0, guards := [],
    slots := [], runs := [], held := [], time := [], timeAt := [], seq := [], seen := [], inbox := [], out := [] }

end Sys2Proof.Machine
end

