-- ==== Sys2Proof/Machine/PartsPower.lean ====
section
/-! DEFINITION. The state of the Keeper's power and mode sequences beside their registers (R581–R611). -/
namespace Sys2Proof.Machine

/-- A wake source of QUIET (R602): its cause (1 lane, 2 GPIO, 3 trigger), its number, its air count and its uptime. -/
structure WakeSrc where
  cause : Nat
  src : Nat
  air : Nat
  up : Nat
deriving DecidableEq, Repr

/-- A transition of a domain in progress (R585): its requester, the state as which the domain answers meanwhile, how long it takes, and the uptime
at which it ends; a deferred wake has none yet (R589). -/
structure Trans where
  dom : Nat
  req : Nat
  via : Nat
  len : Nat
  due : Option Nat
deriving DecidableEq, Repr

/-- A wake from RET or OFF that has begun (R589). -/
structure Wake where
  dom : Nat
  start : Nat
  fin : Nat
  off : Bool
deriving DecidableEq, Repr

/-- A step of a sequence of the Keeper (R581–R583, R601–R605): wait for the Keystone scan and read the rail table; a rail on
or off; domains to their states; leave self-refresh; train the stacks; release the pads of D06; boot an image; clear HOLD of the recorded cores;
start A0. -/
inductive KStep where
  | scan
  | rail (n : Nat)
  | railOff (n : Nat)
  | domains (l : List (Nat × Nat))
  | wakeStacks
  | train
  | pads
  | boot
  | cores
  | start
deriving DecidableEq, Repr

/-- A sequence of the Keeper: 0 none, 1 bring-up, 2 entry to QUIET, 3 wake from QUIET, 4 to INERT; its steps to come; of the first of them,
whether it has begun, when, the domains asked, and for a rail the uptime of its next reading and of its good one. -/
structure KSeq where
  kind : Nat
  steps : List KStep
  begun : Bool
  at_ : Nat
  asked : List Nat
  poll : Nat
  good : Option Nat
deriving DecidableEq, Repr

def KSeq.none : KSeq := ⟨0, [], false, 0, [], 0, Option.none⟩

structure Power where
  /-- PORST_N is low; WARMRST_N holds the device in reset; the Keeper's self-test runs; a HALT strap holds the device. -/
  porst : Bool
  warmPin : Bool
  test : Bool
  halted : Bool
  trans : List Trans
  begun : List Wake
  /-- Uptime + 1 of the last activity in a domain, or of its change to ON (R593). -/
  act : List (Nat × Nat)
  seq : KSeq
  /-- The states of the domains and the harts out of reset at the entry to QUIET (R601). -/
  saved : List Nat
  cores : List Nat
  /-- The first wake source since the device began to enter QUIET. -/
  wake : Option WakeSrc
  /-- The deck level towards which a change began (R597). -/
  level : Option Nat
  /-- The command that the KEEPER mailbox serves: its OP. -/
  mail : Option Nat
  /-- The Keeper is in self-reset, and the uptimes of its self-resets of the last second (R616). -/
  down : Bool
  resets : List Nat
  /-- A ladder rung that the Keeper has not completed (R617), and the harts of a rung 1. -/
  rung : Nat
  rungHarts : Nat
  /-- ENTRY of the image that boots. -/
  entry : Nat
  /-- What the latched pads of D01 hold: levels and output enables of GPIO pins 0–47, PPS_OUT (48) and SYNC_OUT0–3 (49–52). -/
  padLvl : Nat
  padOe : Nat
  /-- A PMBus transaction of firmware that waits or runs: the value of PM_CMD (R611). -/
  pm : Option Nat
deriving DecidableEq, Repr

/-- The state while PORST_N is low. -/
def Power.zero : Power :=
  { porst := true, warmPin := false, test := false, halted := false, trans := [], begun := [], act := [], seq := KSeq.none,
    saved := [], cores := [], wake := none, level := none, mail := none, down := false, resets := [], rung := 0, rungHarts := 0, entry := 0, padLvl := 0,
    padOe := 0, pm := none }

end Sys2Proof.Machine
end

