-- ==== Sys2Proof/Machine/PartsSec.lean ====
section
/-! DEFINITION. The Parapet's fused state (R622, R627). -/
namespace Sys2Proof.Machine

/-- A fused public-key slot (R627): the 96 key bytes as one number, KEY_ID, PURPOSE (bit 0 firmware, bit 1 plan, bit 2
debug), and the revocation fuse. -/
structure KeySlot where
  used : Bool
  key : Nat
  id : Nat
  purpose : Nat
  revoked : Bool
deriving DecidableEq, Repr

def KeySlot.empty : KeySlot := ⟨false, 0, 0, 0, false⟩

/-- A security association of an EM port (R365): the values of PP_SA_CFG, PP_SA_SCI and PP_SA_PN applied to it. -/
structure Sa where
  cfg : Nat
  sci : Nat
  pn : Nat
deriving DecidableEq, Repr

def Sa.zero : Sa := ⟨0, 0, 0⟩

/-- A valid key handle (R629): its USE and its 256-bit key. -/
structure KeyHandle where
  use : Nat
  key : Nat
deriving DecidableEq, Repr

/-- The Parapet, the Caisson and the debug port beside their registers (R618–R641). -/
structure Sec where
  /-- Security associations under 32 × port + DIR, SC and AN as in PP_SA_IDX. -/
  sas : List (Nat × Sa)
  handles : List (Nat × Option KeyHandle)
  /-- The life-cycle fuses: bits 2 s − 2 and 2 s − 1 are the pair of state s (R623). -/
  fuses : Nat
  /-- The fuses of PP_MINVER, and the SVN of the image that runs (R635). -/
  minver : Nat
  svn : Nat
  /-- PP_KDATA0–7 (R629). -/
  kdata : List Nat
  /-- The Caisson stays locked until PORST_N; the uptime at which a wipe ends (R625, R626). -/
  lock : Bool
  wipeEnd : Nat
  /-- CRASH records that wait for the Keeper: PP_TAMP_STAT and the capture (R626). -/
  crash : List (Nat × Nat)
  /-- The kicks of the current period, and for each hart how many periods in a row it has not kicked (R618). -/
  kicks : Nat
  silent : List (Nat × Nat)
  /-- The period boundary last evaluated; those of the rung-1 restarts of the last 2,048 periods; that of the last rung 2; rung 4 has been taken;
  uptime + 1 since when the device has been in SERVICE after a ladder reset (R619). -/
  period : Nat
  rung1 : List Nat
  rung2 : Option Nat
  spent : Bool
  service : Nat
  /-- Uptime of the last restart of the watchdog timer (R620). -/
  wdog : Nat
  /-- The nonce has not been used; DBG_RESP0–23 (R636). -/
  nonce : Bool
  resp : List Nat
deriving DecidableEq, Repr

def Sec.zero : Sec :=
  { sas := [], handles := [], fuses := 0, minver := 0, svn := 0, kdata := [0, 0, 0, 0, 0, 0, 0, 0], lock := false, wipeEnd := 0, crash := [], kicks := 0,
    silent := [], period := 0, rung1 := [], rung2 := none, spent := false, service := 0, wdog := 0, nonce := false, resp := List.replicate 24 0 }

end Sys2Proof.Machine
end

