-- ==== Sys2Proof/Machine/PartsTime.lean ====
section
/-! DEFINITION. The state of the Pylon and the GPIO block beside their registers (R48–R88). -/
namespace Sys2Proof.Machine

/-- One entry of the trigger table (R63–R66). -/
structure Trig where
  armed : Bool
  late : Bool
  carry : Bool
  tgt : Nat
  per : Nat
  count : Nat
  action : Nat
  arg : Nat
  fired : Nat
  last : Nat
deriving DecidableEq, Repr

/-- The entry a reset leaves (R92). -/
def Trig.zero : Trig := ⟨false, false, false, 0, 0, 0, 0, 0, 0, 0⟩

/-- A firing on its way to its destination: it takes effect at uptime `due` (R65). -/
structure TrigOut where
  due : Nat
  air : Nat
  idx : Nat
  action : Nat
  arg : Nat
deriving DecidableEq, Repr

/-- A SYNC_OUT pulse that a trigger started (R65, R84). -/
structure SyncPulse where
  out : Nat
  start : Nat
  fin : Nat
deriving DecidableEq, Repr

/-- A reference slot beside its registers (R69–R72). `kind` and `src` are the values latched when EN rose (R91); `lost`
tells that the signal is absent; `from0` is the air count from which whole 1 s windows count; `member` is the air count
since when the slot has been QUALIFIED or SELECTED; `commit` is the uptime of its last REF_OFS commit. -/
structure RefSlot where
  kind : Nat
  src : Nat
  lost : Bool
  from0 : Nat
  member : Nat
  commit : Nat
deriving DecidableEq, Repr

def RefSlot.zero : RefSlot := ⟨0, 0, false, 0, 0, 0⟩

/-- The Pylon beside its registers. -/
structure Pylon where
  /-- Uptime of the entry to the current state (R53). -/
  stateUp : Nat
  /-- Consecutive phase measurements within LOCK_TH (R53). -/
  run : Nat
  /-- A step was made since the Pylon's reset (R54). -/
  stepped : Bool
  /-- Uptime + 1 of the last step of the air count (R54); 0: none. -/
  stepUp : Nat
  /-- Uptime + 1 of the last accepted marking edge of PPS_IN; 0: none since reset (R80). -/
  ppsEdge : Nat
  /-- PPS_MISS events since the last accepted marking edge (R69, R80). -/
  ppsMisses : Nat
  /-- Uptime of the later of the Pylon's reset and the last accepted change of PPS_IN (R80). -/
  ppsChange : Nat
  /-- The trigger table: entries that differ from the reset entry (R63). -/
  trigs : List (Nat × Trig)
  trigOut : List TrigOut
  pulses : List SyncPulse
  /-- Uptime + 1 at which the running PPS_OUT pulse ends; 0: PPS_OUT is low (R83). -/
  ppsOutEnd : Nat
  /-- The reference slots that differ from the reset slot (R69). -/
  slots : List (Nat × RefSlot)
  /-- Frequency corrections at the whole seconds of the running 16 s and 256 s windows, newest first (R76). -/
  corr16 : List Int
  corr256 : List Int
  /-- Mean corrections of the complete 16 s windows since the last entry to LOCKED (R76). -/
  means16 : List Int
  /-- Mean correction of the last complete 256 s window since the last entry to LOCKED (R76). -/
  mean256 : Option Int
  /-- Seconds of learning and the (air count, LO offset) of the last 64 windows (R77). -/
  learnS : Nat
  learnHist : List (Nat × Int)
deriving DecidableEq, Repr

/-- The Pylon after its reset at uptime `up` (R58). -/
def Pylon.zero (up : Nat) : Pylon :=
  { stateUp := up, run := 0, stepped := false, stepUp := 0, ppsEdge := 0, ppsMisses := 0, ppsChange := up, trigs := [],
    trigOut := [], pulses := [], ppsOutEnd := 0, slots := [], corr16 := [], corr256 := [], means16 := [],
    mean256 := none, learnS := 0, learnHist := [] }

/-- One GPIO capture (R85). -/
structure GpioCap where
  air : Nat
  pin : Nat
  rising : Bool
deriving DecidableEq, Repr

/-- The GPIO block beside its registers: the capture queue, oldest first (R88), the uptime + 1 of the last capture of each
pin (R86), and the uptime + 1 since when a pin's filtered level after INV has been 1 (R87). -/
structure Gpio where
  queue : List GpioCap
  lastCap : List (Nat × Nat)
  high : List (Nat × Nat)
deriving DecidableEq, Repr

def Gpio.zero : Gpio := ⟨[], [], []⟩

end Sys2Proof.Machine
end

