-- ==== Sys2Proof/Machine/PartsToll.lean ====
section
/-! DEFINITION. The state of the Tollhouse, of perturbation, of the xSPI port, the UARTs and the test access port beside their registers
(R647–R660, R681–R692). -/
namespace Sys2Proof.Machine

/-- A snapshot slot (R650): the words that TS_SLOT_CMD applies, the next record and its SEQ. -/
structure TsSlot where
  cfg : Nat
  list : Nat
  dst : Nat
  depth : Nat
  widx : Nat
  seq : Nat
deriving DecidableEq, Repr

def TsSlot.zero : TsSlot := ⟨0, 0, 0, 0, 0, 0⟩

/-- A page of a snapshot: its index, the eight words of its counters at the capture instant (R650), and whether it has answered. -/
structure SnapPage where
  page : Nat
  words : List Nat
  here : Bool
deriving DecidableEq, Repr

/-- A snapshot that is being read out (R649): its slot, its capture instant, the uptime of its capture. -/
structure Snap where
  slot : Nat
  c : Nat
  up : Nat
  pages : List SnapPage
deriving DecidableEq, Repr

/-- A bandwidth monitor (R652): the counter's value at the last window end (`none`: none since EN was set), whether the domain has left ON
since, the air count and the uptime of that window end. -/
structure BwMon where
  old : Option Nat
  spoilt : Bool
  last : Nat
  up : Nat
deriving DecidableEq, Repr

def BwMon.zero : BwMon := ⟨none, false, 0, 0⟩

/-- A channel's items so far (R653, R657): matching items since its last action, and actions taken since it started. -/
structure PtChan where
  items : Nat
  acts : Nat
deriving DecidableEq, Repr

def PtChan.zero : PtChan := ⟨0, 0⟩

/-- What the channels of a page do to its next item (R654): the kind, PARAM. -/
structure PtHit where
  page : Nat
  kind : Nat
  param : Nat
deriving DecidableEq, Repr

/-- A frame that DELAY holds (R654): the page, the port that received it, the uptime of its release, its bytes, and whether its FCS is bad. -/
structure PtHeld where
  page : Nat
  port : Nat
  due : Nat
  bytes : List Nat
  bad : Bool
deriving DecidableEq, Repr

structure Toll where
  /-- Counters (page, number) that have wrapped and whose OVF and carry are still to come (R646). -/
  wraps : List (Nat × Nat)
  slots : List (Nat × TsSlot)
  /-- Snapshots that TS_SNAP has requested: C and slot. -/
  takes : List (Nat × Nat)
  run : Option Snap
  bw : List (Nat × BwMon)
  /-- The LFSRs of the pages, their channels under 4 × page + channel, and what awaits their next item. -/
  lfsr : List (Nat × Nat)
  chans : List (Nat × PtChan)
  hits : List PtHit
  held : List PtHeld
  /-- Uptime until which a page refuses new items (BACKPRESSURE). -/
  press : List (Nat × Nat)
deriving DecidableEq, Repr

def Toll.zero : Toll := ⟨[], [], [], none, [], [], [], [], [], []⟩

/-- A firmware command of the xSPI port in progress: the values of XS_CMD, XS_ADDR, XS_LEN, XS_BUF and XS_DATA at its start. -/
structure XsCmd where
  cmd : Nat
  addr : Nat
  len : Nat
  buf : Nat
  data : Nat
deriving DecidableEq, Repr

/-- A received character of a UART: its bits, FERR, PERR. -/
structure UChar where
  data : Nat
  ferr : Bool
  perr : Bool
deriving DecidableEq, Repr

/-- A UART (R681, R692): its FIFOs, oldest first; the uptimes at which the character being sent and the last one received end. -/
structure Uart where
  rx : List UChar
  tx : List Nat
  txEnd : Nat
  rxEnd : Nat
  /-- The character last sent. -/
  line : Nat
deriving DecidableEq, Repr

def Uart.zero : Uart := ⟨[], [], 0, 0, 0⟩

/-- The test access port (R682): the instruction, and of the boundary register the input cells captured, the output cells and the output
enables, one bit a ball in table order. -/
structure Tap where
  ir : Nat
  inp : Nat
  out : Nat
  oe : Nat
deriving DecidableEq, Repr

/-- After TRST_N, IDCODE is the instruction. -/
def Tap.zero : Tap := ⟨1, 0, 0, 0⟩

/-- The slow interfaces. -/
structure Slow where
  xs : Option XsCmd
  u0 : Uart
  u1 : Uart
  tap : Tap
deriving DecidableEq, Repr

def Slow.zero : Slow := ⟨none, Uart.zero, Uart.zero, Tap.zero⟩

end Sys2Proof.Machine
end

