-- ==== Sys2Proof/Machine/PartsTr.lean ====
section
/-! DEFINITION. The state of the Trestle beside its registers (R480–R506). -/
namespace Sys2Proof.Machine

/-- A token that waits to be admitted: its queue, CTX, 16 words and the SOURCE that sent it (R481); the completion token of an engine job carries the
flow that its admission releases (R492). -/
structure Token where
  queue : Nat
  ctx : Nat
  words : List Nat
  source : Nat
  frees : Option Nat
deriving DecidableEq, Repr

/-- A handoff ring (R485): its entries hold the 16 words of a token and the CTX of its RING_WRITE. -/
structure Ring where
  base : Nat
  size : Nat
  queue : Nat
  ovf : Nat
  items : List (Nat × List Nat)
deriving DecidableEq, Repr

def Ring.zero : Ring := ⟨0, 0, 0, 0, []⟩

/-- A queue: the value of TR_Q_CFG applied to it, and its count (R509). -/
structure Queue where
  cfg : Nat
  count : Nat
deriving DecidableEq, Repr

def Queue.zero : Queue := ⟨0, 0⟩

/-- A template: the staged register values applied to it (R487, R510). -/
structure Template where
  cfg : Nat
  flow : Nat
  emask : Nat
  doneq : Nat
  h : Nat
  max : Nat
deriving DecidableEq, Repr

def Template.zero : Template := ⟨0, 0, 0, 0, 0, 0⟩

/-- An entry of the matching store (R488); an operand not yet there is the empty list. -/
structure MatchEntry where
  tt : Nat
  key : Nat
  ctx : Nat
  ops : List (List Nat)
  first : Nat
deriving DecidableEq, Repr

/-- A task (R488, R492). -/
structure Task where
  tt : Nat
  key : Nat
  ctx : Nat
  miss : Nat
  flow : Option Nat
  ops : List (List Nat)
  air : Nat
deriving DecidableEq, Repr

/-- A task that a core holds (R493, R495), with the uptime of its placement. -/
structure Held where
  core : Nat
  slot : Nat
  popped : Bool
  placed : Nat
  task : Task
deriving DecidableEq, Repr

/-- A dynamic job on a lent engine (R497, R498): the uptime at which it ends. -/
structure EngTask where
  unit : Nat
  fin : Nat
  task : Task
deriving DecidableEq, Repr

/-- A host ring (R500): the entries in service carry their PIDX and task. -/
structure HostRing where
  base : Nat
  pidxAt : Nat
  cfg : Nat
  cidx : Nat
  pidx : Nat
  items : List (Nat × Task)
deriving DecidableEq, Repr

def HostRing.zero : HostRing := ⟨0, 0, 4, 0, 0, []⟩

/-- A buffer pool (R502): the owners of the buffers that are OWNED, as CTX + 1. -/
structure BufPool where
  base : Nat
  cfg : Nat
  low : Nat
  owner : List (Nat × Nat)
deriving DecidableEq, Repr

def BufPool.zero : BufPool := ⟨0, 0, 0, []⟩

/-- The token windows of a virtual function (R499). -/
structure VfWin where
  q0 : Nat
  q1 : Nat
  q2 : Nat
  q3 : Nat
  drop : Nat
deriving DecidableEq, Repr

def VfWin.zero : VfWin := ⟨0, 0, 0, 0, 0⟩

structure Trestle where
  rings : List (Nat × Ring)
  queues : List (Nat × Queue)
  temps : List (Nat × Template)
  entries : List MatchEntry
  ready : List Task
  /-- Tokens of triggers and engine completions (R481), and places reserved for completions. -/
  internal : List Token
  /-- Truss and staging tokens in arrival order (R483). -/
  fifo : List Token
  /-- The ring last served; whether a ring was served last of the two sides; uptime + 1 of the last admission (R483). -/
  lastRing : Nat
  ringSide : Bool
  lastAdmit : Nat
  held : List Held
  jobs : List EngTask
  hosts : List (Nat × HostRing)
  pools : List (Nat × BufPool)
  vfs : List (Nat × VfWin)
deriving DecidableEq, Repr

def Trestle.zero : Trestle :=
  { rings := [], queues := [], temps := [], entries := [], ready := [], internal := [], fifo := [], lastRing := 255,
    ringSide := false, lastAdmit := 0, held := [], jobs := [], hosts := [], pools := [], vfs := [] }

end Sys2Proof.Machine
end

