-- ==== Sys2Proof/Machine/RegFields.lean ====
section
/-! DEFINITION. The register fields of every page, from the register tables of the spec (the rule of
each table stands above its fields): offset, bits, access code, reset value. A field whose reset value the
table does not give as a number (a fuse, a strap, "per domain") stands here with 0 and gets its value in
Machine/RegMap.lean. -/
namespace Sys2Proof.Rg

-- R27 (spec chapter 02)
def PG_IRQ_RAW_ERR : Fld := ⟨0x10, 31, 31, .ro, 0x0, 0x0⟩
def PG_IRQ_RAW_SRC : Fld := ⟨0x10, 30, 0, .ro, 0x0, 0x0⟩
def PG_IRQ_EN : Fld := ⟨0x14, 31, 0, .rw, 0x0, 0x0⟩
def PG_IRQ : Fld := ⟨0x18, 31, 0, .w1c, 0x0, 0x0⟩
def PG_IRQ_FORCE : Fld := ⟨0x1c, 31, 0, .w1s, 0x0, 0x0⟩
-- R29 (spec chapter 02)
def PG_ERR_CAP0_VALID : Fld := ⟨0x20, 31, 31, .w1c, 0x0, 0x0⟩
def PG_ERR_CAP0_OVF : Fld := ⟨0x20, 30, 30, .ro, 0x0, 0x0⟩
def PG_ERR_CAP0_CTX : Fld := ⟨0x20, 27, 16, .ro, 0x0, 0x0⟩
def PG_ERR_CAP0_EVENT : Fld := ⟨0x20, 15, 0, .ro, 0x0, 0x0⟩
def PG_ERR_CAP1 : Fld := ⟨0x24, 31, 0, .ro, 0x0, 0x0⟩
def PG_ERR_CAP2 : Fld := ⟨0x28, 31, 0, .ro, 0x0, 0x0⟩
def PG_ERR_CAP3_DETAIL : Fld := ⟨0x2c, 31, 16, .ro, 0x0, 0x0⟩
def PG_ERR_CAP3_ADDR_HI : Fld := ⟨0x2c, 15, 0, .ro, 0x0, 0x0⟩
-- R32 (spec chapter 02)
def PG_LOCK_KEY : Fld := ⟨0xff0, 31, 16, .wo, 0x0, 0x0⟩
def PG_LOCK_LOCK : Fld := ⟨0xff0, 0, 0, .w1s, 0x0, 0x0⟩
def PG_SCRATCH : Fld := ⟨0xff4, 31, 0, .rw, 0x0, 0x0⟩
-- R45 (spec chapter 02)
def SYS_ID0_PART : Fld := ⟨0x100, 31, 16, .ro, 0x7720, 0x0⟩
def SYS_ID0_STEP_MAJ : Fld := ⟨0x100, 15, 8, .ro, 0x42, 0x0⟩
def SYS_ID0_STEP_MIN : Fld := ⟨0x100, 7, 0, .ro, 0x1, 0x0⟩
def SYS_ID1_HBM_GIB : Fld := ⟨0x104, 15, 8, .ro, 0x30, 0x0⟩
def SYS_ID1_GRADE : Fld := ⟨0x104, 3, 0, .ro, 0x0, 0x0⟩
def SYS_UID_LO : Fld := ⟨0x108, 31, 0, .ro, 0x0, 0x0⟩
def SYS_UID_HI : Fld := ⟨0x10c, 31, 0, .ro, 0x0, 0x0⟩
def SYS_MODE_STRAP : Fld := ⟨0x110, 18, 16, .ro, 0x0, 0x0⟩
def SYS_MODE_BUSY : Fld := ⟨0x110, 8, 8, .ro, 0x0, 0x0⟩
def SYS_MODE_TARGET : Fld := ⟨0x110, 6, 4, .ro, 0x0, 0x0⟩
def SYS_MODE_MODE : Fld := ⟨0x110, 2, 0, .ro, 0x0, 0x0⟩
def SYS_LC : Fld := ⟨0x114, 2, 0, .ro, 0x0, 0x0⟩
def SYS_MODE_AIR_LO : Fld := ⟨0x118, 31, 0, .ro, 0x0, 0x0⟩
def SYS_MODE_AIR_HI : Fld := ⟨0x11c, 31, 0, .ro, 0x0, 0x0⟩
-- R90 (spec chapter 03)
def PY_STATE_SLEWING : Fld := ⟨0x100, 17, 17, .ro, 0x0, 0x0⟩
def PY_STATE_MODEL_V : Fld := ⟨0x100, 16, 16, .ro, 0x0, 0x0⟩
def PY_STATE_FSEL_V : Fld := ⟨0x100, 15, 15, .ro, 0x0, 0x0⟩
def PY_STATE_FSEL : Fld := ⟨0x100, 14, 12, .ro, 0x0, 0x0⟩
def PY_STATE_TSEL_V : Fld := ⟨0x100, 11, 11, .ro, 0x0, 0x0⟩
def PY_STATE_TSEL : Fld := ⟨0x100, 10, 8, .ro, 0x0, 0x0⟩
def PY_STATE_VALID : Fld := ⟨0x100, 3, 3, .ro, 0x0, 0x0⟩
def PY_STATE_STATE : Fld := ⟨0x100, 2, 0, .ro, 0x0, 0x0⟩
def PY_CTL_SLEW_MAX : Fld := ⟨0x104, 31, 16, .rw, 0x3e8, 0x0⟩
def PY_CTL_LOOP_BW : Fld := ⟨0x104, 5, 4, .rw, 0x1, 0x0⟩
def PY_CTL_DRIFT2_ACT : Fld := ⟨0x104, 2, 2, .rw, 0x1, 0x0⟩
def PY_CTL_REVERT : Fld := ⟨0x104, 1, 1, .rw, 0x1, 0x0⟩
def PY_CTL_STEP_EN : Fld := ⟨0x104, 0, 0, .rw, 0x0, 0x0⟩
def PY_AIR_LO : Fld := ⟨0x108, 31, 0, .ro, 0x0, 0x0⟩
def PY_AIR_HI : Fld := ⟨0x10c, 31, 0, .ro, 0x0, 0x0⟩
def PY_SEC_LO : Fld := ⟨0x110, 31, 0, .ro, 0x0, 0x0⟩
def PY_SEC_HI : Fld := ⟨0x114, 15, 0, .ro, 0x0, 0x0⟩
def PY_NS : Fld := ⟨0x118, 29, 0, .ro, 0x0, 0x0⟩
def PY_FRAC : Fld := ⟨0x11c, 31, 0, .ro, 0x0, 0x0⟩
def PY_PHASE : Fld := ⟨0x120, 31, 0, .ro, 0x0, 0x0⟩
def PY_FREQ : Fld := ⟨0x124, 31, 0, .ro, 0x0, 0x0⟩
def PY_TH_PHASE_OOT : Fld := ⟨0x128, 31, 16, .rw, 0x7ae, 0x0⟩
def PY_TH_LOCK_TH : Fld := ⟨0x128, 15, 0, .rw, 0x28, 0x0⟩
def PY_STEP_TH : Fld := ⟨0x12c, 31, 0, .rw, 0x7ae, 0x0⟩
def PY_HOLD_AIR_LO : Fld := ⟨0x130, 31, 0, .ro, 0x0, 0x0⟩
def PY_HOLD_AIR_HI : Fld := ⟨0x134, 31, 0, .ro, 0x0, 0x0⟩
def PY_COARSE_LO : Fld := ⟨0x138, 31, 0, .rw, 0x0, 0x0⟩
def PY_COARSE_HI : Fld := ⟨0x13c, 31, 0, .rw, 0x0, 0x0⟩
def HM_Y0 : Fld := ⟨0x140, 31, 0, .rw, 0x0, 0x0⟩
def HM_AGE : Fld := ⟨0x144, 31, 0, .rw, 0x0, 0x0⟩
def HM_T0_LO : Fld := ⟨0x148, 31, 0, .rw, 0x0, 0x0⟩
def HM_T0_HI : Fld := ⟨0x14c, 31, 0, .rw, 0x0, 0x0⟩
def HM_CTL_LEARN_H : Fld := ⟨0x150, 31, 16, .ro, 0x0, 0x0⟩
def HM_CTL_TSRC : Fld := ⟨0x150, 2, 2, .rw, 0x0, 0x0⟩
def HM_CTL_LEARN : Fld := ⟨0x150, 1, 1, .rw, 0x1, 0x0⟩
def HM_CTL_MODEL_V : Fld := ⟨0x150, 0, 0, .rw, 0x0, 0x0⟩
def HM_TNOW : Fld := ⟨0x154, 15, 0, .rw, 0x0, 0x0⟩
def HM_TDIE : Fld := ⟨0x158, 15, 0, .ro, 0x0, 0x0⟩
def HM_TEMP : Fld := ⟨0x180, 31, 0, .rw, 0x0, 0x4⟩
def PPS_CFG_FILT : Fld := ⟨0x1c0, 31, 16, .rw, 0xc4, 0x0⟩
def PPS_CFG_POL : Fld := ⟨0x1c0, 0, 0, .rw, 0x0, 0x0⟩
def PPS_DELAY : Fld := ⟨0x1c4, 31, 0, .rw, 0x0, 0x0⟩
def PPS_CAP_LO : Fld := ⟨0x1c8, 31, 0, .ro, 0x0, 0x0⟩
def PPS_CAP_HI : Fld := ⟨0x1cc, 31, 0, .ro, 0x0, 0x0⟩
def TOD_LO : Fld := ⟨0x1d0, 31, 0, .rw, 0x0, 0x0⟩
def TOD_HI : Fld := ⟨0x1d4, 15, 0, .rw, 0x0, 0x0⟩
def PPS_STAT_STUCK : Fld := ⟨0x1d8, 2, 2, .ro, 0x0, 0x0⟩
def PPS_STAT_TOD_PEND : Fld := ⟨0x1d8, 1, 1, .ro, 0x0, 0x0⟩
def PPS_STAT_LEVEL : Fld := ⟨0x1d8, 0, 0, .ro, 0x0, 0x0⟩
def PPSO_CFG : Fld := ⟨0x1e0, 19, 0, .rw, 0x2ee00, 0x0⟩
def OUT_ADV0_SO2_ADV : Fld := ⟨0x1e4, 31, 24, .rw, 0x0, 0x0⟩
def OUT_ADV0_SO1_ADV : Fld := ⟨0x1e4, 23, 16, .rw, 0x0, 0x0⟩
def OUT_ADV0_SO0_ADV : Fld := ⟨0x1e4, 15, 8, .rw, 0x0, 0x0⟩
def OUT_ADV0_PPSO_ADV : Fld := ⟨0x1e4, 7, 0, .rw, 0x0, 0x0⟩
def OUT_ADV1 : Fld := ⟨0x1e8, 7, 0, .rw, 0x0, 0x0⟩
def TB_CFG_MU : Fld := ⟨0x200, 6, 4, .rw, 0x0, 0x10⟩
def TB_CFG_KIND : Fld := ⟨0x200, 2, 0, .rw, 0x0, 0x10⟩
def TB_ORG_LO : Fld := ⟨0x204, 31, 0, .rw, 0x0, 0x10⟩
def TB_ORG_HI : Fld := ⟨0x208, 31, 0, .rw, 0x0, 0x10⟩
def TB_NOW : Fld := ⟨0x20c, 31, 0, .ro, 0x0, 0x10⟩
-- R91 (spec chapter 03)
def REF_CFG_PRIO : Fld := ⟨0x100, 19, 16, .rw, 0xf, 0x20⟩
def REF_CFG_SRC : Fld := ⟨0x100, 14, 8, .rw, 0x0, 0x20⟩
def REF_CFG_KIND : Fld := ⟨0x100, 3, 1, .rw, 0x0, 0x20⟩
def REF_CFG_EN : Fld := ⟨0x100, 0, 0, .rw, 0x0, 0x20⟩
def REF_STAT_WTR_LEFT : Fld := ⟨0x104, 31, 16, .ro, 0x0, 0x20⟩
def REF_STAT_CAUSE : Fld := ⟨0x104, 11, 8, .ro, 0x0, 0x20⟩
def REF_STAT_SEL_F : Fld := ⟨0x104, 5, 5, .ro, 0x0, 0x20⟩
def REF_STAT_SEL_T : Fld := ⟨0x104, 4, 4, .ro, 0x0, 0x20⟩
def REF_STAT_STATE : Fld := ⟨0x104, 2, 0, .ro, 0x0, 0x20⟩
def REF_OFS : Fld := ⟨0x108, 31, 0, .rw, 0x0, 0x20⟩
def REF_OFS_AIR : Fld := ⟨0x10c, 31, 0, .rw, 0x0, 0x20⟩
def REF_Y1 : Fld := ⟨0x110, 31, 0, .ro, 0x0, 0x20⟩
def REF_Y16 : Fld := ⟨0x114, 31, 0, .ro, 0x0, 0x20⟩
def REF_Y256 : Fld := ⟨0x118, 31, 0, .ro, 0x0, 0x20⟩
def QUAL_TH : Fld := ⟨0x200, 31, 0, .rw, 0x11f8, 0x0⟩
def QUAL_TIME_WTR : Fld := ⟨0x204, 31, 16, .rw, 0x100, 0x0⟩
def QUAL_TIME_QUAL : Fld := ⟨0x204, 15, 0, .rw, 0x10, 0x0⟩
def DRIFT_TH1 : Fld := ⟨0x208, 31, 0, .rw, 0x186a0, 0x0⟩
def DRIFT_TH16 : Fld := ⟨0x20c, 31, 0, .rw, 0x2710, 0x0⟩
def DRIFT_TH256 : Fld := ⟨0x210, 31, 0, .rw, 0x3e8, 0x0⟩
def DRIFT_W1_DIS : Fld := ⟨0x214, 24, 16, .ro, 0x0, 0x0⟩
def DRIFT_W1_WHO : Fld := ⟨0x214, 7, 4, .ro, 0x0, 0x0⟩
def DRIFT_W1_RESULT : Fld := ⟨0x214, 1, 0, .ro, 0x0, 0x0⟩
def DRIFT_W16_DIS : Fld := ⟨0x218, 24, 16, .ro, 0x0, 0x0⟩
def DRIFT_W16_WHO : Fld := ⟨0x218, 7, 4, .ro, 0x0, 0x0⟩
def DRIFT_W16_RESULT : Fld := ⟨0x218, 1, 0, .ro, 0x0, 0x0⟩
def DRIFT_W256_DIS : Fld := ⟨0x21c, 24, 16, .ro, 0x0, 0x0⟩
def DRIFT_W256_WHO : Fld := ⟨0x21c, 7, 4, .ro, 0x0, 0x0⟩
def DRIFT_W256_RESULT : Fld := ⟨0x21c, 1, 0, .ro, 0x0, 0x0⟩
def LO_Y1 : Fld := ⟨0x220, 31, 0, .ro, 0x0, 0x0⟩
def LO_Y16 : Fld := ⟨0x224, 31, 0, .ro, 0x0, 0x0⟩
def LO_Y256 : Fld := ⟨0x228, 31, 0, .ro, 0x0, 0x0⟩
-- R92 (spec chapter 03)
def TRG_IDX : Fld := ⟨0x100, 9, 0, .rw, 0x0, 0x0⟩
def TRG_TGT_LO : Fld := ⟨0x104, 31, 0, .rw, 0x0, 0x0⟩
def TRG_TGT_HI : Fld := ⟨0x108, 31, 0, .rw, 0x0, 0x0⟩
def TRG_PER : Fld := ⟨0x10c, 31, 0, .rw, 0x0, 0x0⟩
def TRG_ARG : Fld := ⟨0x110, 31, 0, .rw, 0x0, 0x0⟩
def TRG_CTL_COUNT : Fld := ⟨0x114, 31, 16, .rw, 0x0, 0x0⟩
def TRG_CTL_ACTION : Fld := ⟨0x114, 3, 0, .rw, 0x0, 0x0⟩
def TRG_CMD : Fld := ⟨0x118, 1, 0, .wo, 0x0, 0x0⟩
def TRG_STAT_FIRED : Fld := ⟨0x11c, 31, 16, .ro, 0x0, 0x0⟩
def TRG_STAT_CARRY : Fld := ⟨0x11c, 3, 3, .ro, 0x0, 0x0⟩
def TRG_STAT_OWNER : Fld := ⟨0x11c, 2, 2, .ro, 0x0, 0x0⟩
def TRG_STAT_LATE : Fld := ⟨0x11c, 1, 1, .ro, 0x0, 0x0⟩
def TRG_STAT_ARMED : Fld := ⟨0x11c, 0, 0, .ro, 0x0, 0x0⟩
def TRG_LAST_LO : Fld := ⟨0x120, 31, 0, .ro, 0x0, 0x0⟩
def TRG_LAST_HI : Fld := ⟨0x124, 31, 0, .ro, 0x0, 0x0⟩
def TRG_ARMED : Fld := ⟨0x140, 31, 0, .ro, 0x0, 0x4⟩
-- R93 (spec chapter 03)
def GPIO_CFG_FSCALE : Fld := ⟨0x100, 25, 24, .rw, 0x0, 0x8⟩
def GPIO_CFG_FILT : Fld := ⟨0x100, 23, 8, .rw, 0x0, 0x8⟩
def GPIO_CFG_CAP : Fld := ⟨0x100, 3, 3, .rw, 0x0, 0x8⟩
def GPIO_CFG_INV : Fld := ⟨0x100, 2, 2, .rw, 0x0, 0x8⟩
def GPIO_CFG_EDGE : Fld := ⟨0x100, 1, 0, .rw, 0x0, 0x8⟩
def GPIO_LIM_STUCK : Fld := ⟨0x104, 31, 16, .rw, 0x0, 0x8⟩
def GPIO_LIM_RATE : Fld := ⟨0x104, 15, 0, .rw, 0x0, 0x8⟩
def GPIO_IN0 : Fld := ⟨0x280, 31, 0, .ro, 0x0, 0x0⟩
def GPIO_IN1 : Fld := ⟨0x284, 15, 0, .ro, 0x0, 0x0⟩
def GPIO_OUT0 : Fld := ⟨0x288, 31, 0, .rw, 0x0, 0x0⟩
def GPIO_OUT1 : Fld := ⟨0x28c, 15, 0, .rw, 0x0, 0x0⟩
def GPIO_OE0 : Fld := ⟨0x290, 31, 0, .rw, 0x0, 0x0⟩
def GPIO_OE1 : Fld := ⟨0x294, 15, 0, .rw, 0x0, 0x0⟩
def GPIO_STUCK0 : Fld := ⟨0x298, 31, 0, .ro, 0x0, 0x0⟩
def GPIO_STUCK1 : Fld := ⟨0x29c, 15, 0, .ro, 0x0, 0x0⟩
def GPIO_CAP_INFO_VALID : Fld := ⟨0x2a0, 31, 31, .ro, 0x0, 0x0⟩
def GPIO_CAP_INFO_EDGE : Fld := ⟨0x2a0, 16, 16, .ro, 0x0, 0x0⟩
def GPIO_CAP_INFO_LEFT : Fld := ⟨0x2a0, 14, 8, .ro, 0x0, 0x0⟩
def GPIO_CAP_INFO_PIN : Fld := ⟨0x2a0, 5, 0, .ro, 0x0, 0x0⟩
def GPIO_CAP_LO : Fld := ⟨0x2a4, 31, 0, .ro, 0x0, 0x0⟩
def GPIO_CAP_HI : Fld := ⟨0x2a8, 31, 0, .ro, 0x0, 0x0⟩
-- R132 (spec chapter 04)
def DK_STAT_PEND : Fld := ⟨0x100, 9, 9, .ro, 0x0, 0x0⟩
def DK_STAT_RUN_SLOT : Fld := ⟨0x100, 8, 8, .ro, 0x0, 0x0⟩
def DK_STAT_GRID_V : Fld := ⟨0x100, 7, 7, .ro, 0x0, 0x0⟩
def DK_STAT_THERM : Fld := ⟨0x100, 6, 6, .ro, 0x0, 0x0⟩
def DK_STAT_PLEVEL : Fld := ⟨0x100, 5, 4, .ro, 0x0, 0x0⟩
def DK_STAT_STATE : Fld := ⟨0x100, 2, 0, .ro, 0x0, 0x0⟩
def DK_CMD_SLOT : Fld := ⟨0x104, 8, 8, .wo, 0x0, 0x0⟩
def DK_CMD_CMD : Fld := ⟨0x104, 2, 0, .wo, 0x0, 0x0⟩
def DK_RESULT_DONE : Fld := ⟨0x108, 31, 31, .ro, 0x0, 0x0⟩
def DK_RESULT_OK : Fld := ⟨0x108, 30, 30, .ro, 0x0, 0x0⟩
def DK_RESULT_EVENT : Fld := ⟨0x108, 15, 0, .ro, 0x0, 0x0⟩
def DK_IMG_LO : Fld := ⟨0x110, 31, 0, .rw, 0x0, 0x0⟩
def DK_IMG_HI : Fld := ⟨0x114, 31, 0, .rw, 0x0, 0x0⟩
def DK_ARM_LO : Fld := ⟨0x118, 31, 0, .rw, 0x0, 0x0⟩
def DK_ARM_HI : Fld := ⟨0x11c, 31, 0, .rw, 0x0, 0x0⟩
def DK_ARM_CFG_PHASE : Fld := ⟨0x120, 31, 16, .rw, 0x0, 0x0⟩
def DK_ARM_CFG_VAR1 : Fld := ⟨0x120, 15, 8, .rw, 0x0, 0x0⟩
def DK_ARM_CFG_VAR0 : Fld := ⟨0x120, 7, 0, .rw, 0x0, 0x0⟩
def DK_PLAN0 : Fld := ⟨0x128, 31, 0, .ro, 0x0, 0x0⟩
def DK_PLAN1 : Fld := ⟨0x130, 31, 0, .ro, 0x0, 0x0⟩
def DK_REV0 : Fld := ⟨0x12c, 31, 0, .ro, 0x0, 0x0⟩
def DK_REV1 : Fld := ⟨0x134, 31, 0, .ro, 0x0, 0x0⟩
def DK_ORG_LO : Fld := ⟨0x138, 31, 0, .ro, 0x0, 0x0⟩
def DK_ORG_HI : Fld := ⟨0x13c, 31, 0, .ro, 0x0, 0x0⟩
def DK_SPAN_LO : Fld := ⟨0x140, 31, 0, .ro, 0x0, 0x0⟩
def DK_SPAN_HI : Fld := ⟨0x144, 31, 0, .ro, 0x0, 0x0⟩
def DK_POS : Fld := ⟨0x148, 15, 0, .ro, 0x0, 0x0⟩
def DK_LEASE : Fld := ⟨0x150, 0, 0, .wo, 0x0, 0x0⟩
def DK_LEASE_STAT : Fld := ⟨0x154, 0, 0, .ro, 0x0, 0x0⟩
def DK_LEASE_END_LO : Fld := ⟨0x158, 31, 0, .ro, 0x0, 0x0⟩
def DK_LEASE_END_HI : Fld := ⟨0x15c, 31, 0, .ro, 0x0, 0x0⟩
def DK_THERM_HBM_T : Fld := ⟨0x160, 31, 16, .ro, 0x0, 0x0⟩
def DK_THERM_HOT_EXIT : Fld := ⟨0x160, 15, 8, .rw, 0x4b, 0x0⟩
def DK_THERM_HOT_ENTER : Fld := ⟨0x160, 7, 0, .rw, 0x50, 0x0⟩
def DK_FAILCFG : Fld := ⟨0x164, 3, 0, .rw, 0x4, 0x0⟩
def DK_FAIL_SET : Fld := ⟨0x168, 15, 0, .wo, 0x0, 0x0⟩
def DK_REPLAY_FAIL : Fld := ⟨0x16c, 31, 16, .ro, 0x0, 0x0⟩
def DK_REPLAY_OK : Fld := ⟨0x16c, 15, 0, .ro, 0x0, 0x0⟩
def DK_FAIL_VALID : Fld := ⟨0x180, 31, 31, .w1c, 0x0, 0x4⟩
def DK_FAIL_UNIT : Fld := ⟨0x180, 15, 0, .ro, 0x0, 0x4⟩
-- R133 (spec chapter 04)
def DV_SEL_TAG : Fld := ⟨0x100, 23, 8, .rw, 0x0, 0x0⟩
def DV_SEL_VAR : Fld := ⟨0x100, 7, 0, .rw, 0x0, 0x0⟩
def DV_STAT_NEXT_HOT : Fld := ⟨0x104, 21, 21, .ro, 0x0, 0x0⟩
def DV_STAT_CUR_HOT : Fld := ⟨0x104, 20, 20, .ro, 0x0, 0x0⟩
def DV_STAT_NEXT_DEG : Fld := ⟨0x104, 19, 19, .ro, 0x0, 0x0⟩
def DV_STAT_CUR_DEG : Fld := ⟨0x104, 18, 18, .ro, 0x0, 0x0⟩
def DV_STAT_NEXT_DEF : Fld := ⟨0x104, 17, 17, .ro, 0x0, 0x0⟩
def DV_STAT_CUR_DEF : Fld := ⟨0x104, 16, 16, .ro, 0x0, 0x0⟩
def DV_STAT_NEXT : Fld := ⟨0x104, 15, 8, .ro, 0x0, 0x0⟩
def DV_STAT_CUR : Fld := ⟨0x104, 7, 0, .ro, 0x0, 0x0⟩
def DV_SPAN : Fld := ⟨0x108, 15, 0, .ro, 0x0, 0x0⟩
def DV_LATE : Fld := ⟨0x10c, 31, 0, .ro, 0x0, 0x0⟩
-- R173 (spec chapter 05)
def P_STAT_STATE : Fld := ⟨0x100, 31, 28, .ro, 0x0, 0x0⟩
def P_STAT_SHADOW : Fld := ⟨0x100, 27, 27, .ro, 0x0, 0x0⟩
def P_STAT_EV1_PEND : Fld := ⟨0x100, 26, 26, .ro, 0x0, 0x0⟩
def P_STAT_EV0_PEND : Fld := ⟨0x100, 25, 25, .ro, 0x0, 0x0⟩
def P_STAT_BUF_V : Fld := ⟨0x100, 24, 24, .ro, 0x0, 0x0⟩
def P_STAT_BUF_LVL : Fld := ⟨0x100, 23, 22, .ro, 0x0, 0x0⟩
def P_STAT_LVL_ACT : Fld := ⟨0x100, 19, 16, .ro, 0x0, 0x0⟩
def P_STAT_TAG : Fld := ⟨0x100, 15, 0, .ro, 0x0, 0x0⟩
def P_PC : Fld := ⟨0x104, 16, 0, .ro, 0x0, 0x0⟩
def P_START_OFS : Fld := ⟨0x108, 19, 0, .ro, 0x0, 0x0⟩
def P_END_OFS : Fld := ⟨0x10c, 19, 0, .ro, 0x0, 0x0⟩
def P_FAULT : Fld := ⟨0x110, 15, 0, .ro, 0x0, 0x0⟩
def P_FLTCNT_ECC_CORR : Fld := ⟨0x114, 31, 16, .ro, 0x0, 0x0⟩
def P_FLTCNT_RESIDUE : Fld := ⟨0x114, 15, 0, .ro, 0x0, 0x0⟩
def P_EVCNT_MERGED : Fld := ⟨0x118, 31, 16, .ro, 0x0, 0x0⟩
def P_EVCNT_TAKEN : Fld := ⟨0x118, 15, 0, .ro, 0x0, 0x0⟩
def P_EVDISC : Fld := ⟨0x11c, 15, 0, .ro, 0x0, 0x0⟩
-- R174 (spec chapter 05)
def BAY_STAT_FAULT : Fld := ⟨0x100, 23, 16, .ro, 0x0, 0x0⟩
def BAY_STAT_RUN : Fld := ⟨0x100, 15, 8, .ro, 0x0, 0x0⟩
def BAY_STAT_FENCED : Fld := ⟨0x100, 7, 0, .ro, 0x0, 0x0⟩
def BAY_DYN : Fld := ⟨0x104, 0, 0, .rwl, 0x0, 0x0⟩
-- R438 (spec chapter 13)
def MEM_SCR_CFG_INT : Fld := ⟨0x200, 31, 16, .rw, 0x40, 0x0⟩
def MEM_SCR_CFG_EN : Fld := ⟨0x200, 0, 0, .rw, 0x0, 0x0⟩
def MEM_SCR_STAT_LAPS : Fld := ⟨0x204, 31, 16, .ro, 0x0, 0x0⟩
def MEM_SCR_STAT_BUSY : Fld := ⟨0x204, 0, 0, .ro, 0x0, 0x0⟩
def MEM_LAP_AIR_LO : Fld := ⟨0x208, 31, 0, .ro, 0x0, 0x0⟩
def MEM_LAP_AIR_HI : Fld := ⟨0x20c, 31, 0, .ro, 0x0, 0x0⟩
def MEM_LAP_CY : Fld := ⟨0x210, 31, 0, .ro, 0x0, 0x0⟩
def MEM_LAP_SUM_CORR : Fld := ⟨0x214, 31, 16, .ro, 0x0, 0x0⟩
def MEM_LAP_SUM_UE : Fld := ⟨0x214, 15, 8, .ro, 0x0, 0x0⟩
def MEM_LAP_SUM_DEFER : Fld := ⟨0x214, 7, 0, .ro, 0x0, 0x0⟩
def MEM_INIT_START : Fld := ⟨0x218, 31, 31, .wo, 0x0, 0x0⟩
def MEM_INIT_SEL : Fld := ⟨0x218, 3, 0, .rw, 0x0, 0x0⟩
def MEM_INIT_STAT_DONE : Fld := ⟨0x21c, 1, 1, .w1c, 0x0, 0x0⟩
def MEM_INIT_STAT_BUSY : Fld := ⟨0x21c, 0, 0, .ro, 0x0, 0x0⟩
def MEM_CEL_INFO_VALID : Fld := ⟨0x220, 31, 31, .ro, 0x0, 0x0⟩
def MEM_CEL_INFO_SCRUB : Fld := ⟨0x220, 30, 30, .ro, 0x0, 0x0⟩
def MEM_CEL_INFO_LEFT : Fld := ⟨0x220, 28, 24, .ro, 0x0, 0x0⟩
def MEM_CEL_INFO_COUNT : Fld := ⟨0x220, 23, 16, .ro, 0x0, 0x0⟩
def MEM_CEL_INFO_SYND : Fld := ⟨0x220, 15, 0, .ro, 0x0, 0x0⟩
def MEM_CEL_ADDR_LO : Fld := ⟨0x224, 31, 0, .ro, 0x0, 0x0⟩
def MEM_CEL_ADDR_HI : Fld := ⟨0x228, 31, 0, .ro, 0x0, 0x0⟩
def MEM_CEL_AIR : Fld := ⟨0x22c, 31, 0, .ro, 0x0, 0x0⟩
def MEM_CONF : Fld := ⟨0x230, 31, 0, .ro, 0x0, 0x4⟩
def MEM_PCONF : Fld := ⟨0x240, 31, 0, .ro, 0x0, 0x4⟩
def MEM_ECONF : Fld := ⟨0x260, 31, 0, .ro, 0x0, 0x4⟩
def MEM_UE_CNT_UE : Fld := ⟨0x270, 31, 16, .ro, 0x0, 0x0⟩
def MEM_UE_CNT_POISON : Fld := ⟨0x270, 15, 0, .ro, 0x0, 0x0⟩
def MEM_CE_CNT : Fld := ⟨0x274, 31, 0, .ro, 0x0, 0x0⟩
-- R239 (spec chapter 07)
def ENG_STAT_BUSY : Fld := ⟨0x100, 31, 31, .ro, 0x0, 0x0⟩
def ENG_STAT_LENT : Fld := ⟨0x100, 30, 30, .ro, 0x0, 0x0⟩
def ENG_STAT_DYN : Fld := ⟨0x100, 29, 29, .ro, 0x0, 0x0⟩
def ENG_STAT_LAST_STATE : Fld := ⟨0x100, 23, 20, .ro, 0x0, 0x0⟩
def ENG_STAT_TAG : Fld := ⟨0x100, 15, 0, .ro, 0x0, 0x0⟩
def ENG_LAST_OFS : Fld := ⟨0x104, 19, 0, .ro, 0x0, 0x0⟩
def ENG_LAST_DESC : Fld := ⟨0x108, 31, 0, .ro, 0x0, 0x0⟩
def ENG_CHK : Fld := ⟨0x10c, 4, 0, .rwl, 0x0, 0x0⟩
def ENG_FAULTS_QUAL : Fld := ⟨0x110, 31, 16, .ro, 0x0, 0x0⟩
def ENG_FAULTS_FAULT : Fld := ⟨0x110, 15, 0, .ro, 0x0, 0x0⟩
def ENG_ERRS_ECC_CORR : Fld := ⟨0x114, 31, 16, .ro, 0x0, 0x0⟩
def ENG_ERRS_DESC : Fld := ⟨0x114, 15, 0, .ro, 0x0, 0x0⟩
def ENG_ACT_DET : Fld := ⟨0x118, 31, 16, .ro, 0x0, 0x0⟩
def ENG_ACT_ITEMS : Fld := ⟨0x118, 15, 0, .ro, 0x0, 0x0⟩
-- R278 (spec chapter 08)
def HQ_EPOCH_IDX : Fld := ⟨0x140, 11, 0, .rw, 0x0, 0x0⟩
def HQ_EPOCH : Fld := ⟨0x144, 15, 0, .rw, 0x0, 0x0⟩
def HQ_FLUSH_ALL : Fld := ⟨0x148, 31, 31, .wo, 0x0, 0x0⟩
def HQ_FLUSH_CTX : Fld := ⟨0x148, 11, 0, .wo, 0x0, 0x0⟩
def HQ_FLUSH_CNT : Fld := ⟨0x14c, 31, 0, .ro, 0x0, 0x0⟩
-- R336 (spec chapter 10)
def LN_CFG_RX_PRE : Fld := ⟨0x100, 7, 7, .rwd, 0x0, 0x0⟩
def LN_CFG_TX_PRE : Fld := ⟨0x100, 6, 6, .rwd, 0x0, 0x0⟩
def LN_CFG_RX_INV : Fld := ⟨0x100, 5, 5, .rwd, 0x0, 0x0⟩
def LN_CFG_TX_INV : Fld := ⟨0x100, 4, 4, .rwd, 0x0, 0x0⟩
def LN_CFG_PERS : Fld := ⟨0x100, 3, 0, .rwd, 0x0, 0x0⟩
def LN_STAT_RX_STATE : Fld := ⟨0x104, 15, 14, .ro, 0x0, 0x0⟩
def LN_STAT_TX_STATE : Fld := ⟨0x104, 13, 12, .ro, 0x0, 0x0⟩
def LN_STAT_QPLL_LOCK : Fld := ⟨0x104, 10, 10, .ro, 0x0, 0x0⟩
def LN_STAT_PRBS_LOCK : Fld := ⟨0x104, 9, 9, .ro, 0x0, 0x0⟩
def LN_STAT_HI_SER : Fld := ⟨0x104, 8, 8, .ro, 0x0, 0x0⟩
def LN_STAT_HI_BER : Fld := ⟨0x104, 7, 7, .ro, 0x0, 0x0⟩
def LN_STAT_ADAPT_DONE : Fld := ⟨0x104, 6, 6, .ro, 0x0, 0x0⟩
def LN_STAT_AM_LOCK : Fld := ⟨0x104, 5, 5, .ro, 0x0, 0x0⟩
def LN_STAT_BLOCK_LOCK : Fld := ⟨0x104, 4, 4, .ro, 0x0, 0x0⟩
def LN_STAT_CDR_LOCK : Fld := ⟨0x104, 1, 1, .ro, 0x0, 0x0⟩
def LN_STAT_SD : Fld := ⟨0x104, 0, 0, .ro, 0x0, 0x0⟩
def LN_HBER_WIN : Fld := ⟨0x108, 31, 16, .rw, 0x0, 0x0⟩
def LN_HBER_TH : Fld := ⟨0x108, 15, 0, .rw, 0x0, 0x0⟩
def LN_HSER_WIN : Fld := ⟨0x10c, 31, 16, .rw, 0x0, 0x0⟩
def LN_HSER_TH : Fld := ⟨0x10c, 15, 0, .rw, 0x0, 0x0⟩
def LN_BADHDR : Fld := ⟨0x110, 31, 0, .ro, 0x0, 0x0⟩
def LN_LOCKEV_LOS : Fld := ⟨0x114, 31, 16, .ro, 0x0, 0x0⟩
def LN_LOCKEV_LOCKLOSS : Fld := ⟨0x114, 15, 0, .ro, 0x0, 0x0⟩
def LN_FEC_SYM : Fld := ⟨0x118, 31, 0, .ro, 0x0, 0x0⟩
def LN_CNT_CLR : Fld := ⟨0x11c, 0, 0, .wo, 0x0, 0x0⟩
def LN_FEC_CORR_LO : Fld := ⟨0x120, 31, 0, .ro, 0x0, 0x0⟩
def LN_FEC_CORR_HI : Fld := ⟨0x124, 31, 0, .ro, 0x0, 0x0⟩
def LN_FEC_UNC : Fld := ⟨0x128, 31, 0, .ro, 0x0, 0x0⟩
def LN_RX_VAR : Fld := ⟨0x130, 15, 0, .ro, 0x0, 0x0⟩
def LN_TXEQ_PRE2 : Fld := ⟨0x140, 29, 24, .rw, 0x0, 0x0⟩
def LN_TXEQ_PRE1 : Fld := ⟨0x140, 21, 16, .rw, 0x0, 0x0⟩
def LN_TXEQ_MAIN : Fld := ⟨0x140, 13, 8, .rw, 0x3f, 0x0⟩
def LN_TXEQ_POST1 : Fld := ⟨0x140, 5, 0, .rw, 0x0, 0x0⟩
def LN_RXEQ_CDR_BW : Fld := ⟨0x144, 5, 4, .rw, 0x1, 0x0⟩
def LN_RXEQ_RESTART : Fld := ⟨0x144, 1, 1, .wo, 0x0, 0x0⟩
def LN_RXEQ_FREEZE : Fld := ⟨0x144, 0, 0, .rw, 0x0, 0x0⟩
def LN_SD_ACT_FILT : Fld := ⟨0x148, 31, 16, .rw, 0x7ae, 0x0⟩
def LN_SD_SD_TH : Fld := ⟨0x148, 7, 0, .rw, 0x10, 0x0⟩
def LN_SLEEP_WAKE_AUTO : Fld := ⟨0x150, 10, 10, .rw, 0x0, 0x0⟩
def LN_SLEEP_WAKE_OS_EN : Fld := ⟨0x150, 9, 9, .rw, 0x0, 0x0⟩
def LN_SLEEP_WAKE_ACT_EN : Fld := ⟨0x150, 8, 8, .rw, 0x0, 0x0⟩
def LN_SLEEP_RX_REQ : Fld := ⟨0x150, 5, 4, .rw, 0x0, 0x0⟩
def LN_SLEEP_TX_REQ : Fld := ⟨0x150, 0, 0, .rw, 0x0, 0x0⟩
def LN_SLEEP_STAT_LAST_WAKE : Fld := ⟨0x154, 1, 1, .ro, 0x0, 0x0⟩
def LN_SLEEP_STAT_BUSY : Fld := ⟨0x154, 0, 0, .ro, 0x0, 0x0⟩
def LN_WAKE_OS_SENT : Fld := ⟨0x158, 31, 16, .ro, 0x0, 0x0⟩
def LN_WAKE_OS_REP : Fld := ⟨0x158, 15, 8, .rw, 0x40, 0x0⟩
def LN_WAKE_OS_SEND : Fld := ⟨0x158, 0, 0, .wo, 0x0, 0x0⟩
def LN_QPLL_CPRI_LOCK : Fld := ⟨0x160, 9, 9, .ro, 0x0, 0x0⟩
def LN_QPLL_ETH_LOCK : Fld := ⟨0x160, 8, 8, .ro, 0x0, 0x0⟩
def LN_QPLL_OFF_OK : Fld := ⟨0x160, 4, 4, .rw, 0x0, 0x0⟩
def LN_QPLL_CPRI_SRC : Fld := ⟨0x160, 1, 1, .rw, 0x0, 0x0⟩
def LN_QPLL_ETH_SRC : Fld := ⟨0x160, 0, 0, .rw, 0x0, 0x0⟩
def LN_ES_CFG_EYE : Fld := ⟨0x180, 17, 16, .rw, 0x0, 0x0⟩
def LN_ES_CFG_VOFS : Fld := ⟨0x180, 15, 8, .rw, 0x0, 0x0⟩
def LN_ES_CFG_PHASE : Fld := ⟨0x180, 7, 0, .rw, 0x0, 0x0⟩
def LN_ES_DWELL : Fld := ⟨0x184, 15, 0, .rw, 0x780, 0x0⟩
def LN_ES_CMD_ABORT : Fld := ⟨0x188, 1, 1, .wo, 0x0, 0x0⟩
def LN_ES_CMD_START : Fld := ⟨0x188, 0, 0, .wo, 0x0, 0x0⟩
def LN_ES_STAT_VSTEP : Fld := ⟨0x18c, 23, 8, .ro, 0x0, 0x0⟩
def LN_ES_STAT_RESULT : Fld := ⟨0x18c, 3, 2, .ro, 0x0, 0x0⟩
def LN_ES_STAT_DONE : Fld := ⟨0x18c, 1, 1, .w1c, 0x0, 0x0⟩
def LN_ES_STAT_BUSY : Fld := ⟨0x18c, 0, 0, .ro, 0x0, 0x0⟩
def LN_ES_SAMP_LO : Fld := ⟨0x190, 31, 0, .ro, 0x0, 0x0⟩
def LN_ES_SAMP_HI : Fld := ⟨0x194, 31, 0, .ro, 0x0, 0x0⟩
def LN_ES_ERR : Fld := ⟨0x198, 31, 0, .ro, 0x0, 0x0⟩
def LN_PRBS_LOOP : Fld := ⟨0x1c0, 9, 8, .rw, 0x0, 0x0⟩
def LN_PRBS_RX_PAT : Fld := ⟨0x1c0, 7, 4, .rw, 0x0, 0x0⟩
def LN_PRBS_TX_PAT : Fld := ⟨0x1c0, 3, 0, .rw, 0x0, 0x0⟩
def LN_PRBS_ERR : Fld := ⟨0x1c4, 31, 0, .ro, 0x0, 0x0⟩
def LN_INJ_RATE : Fld := ⟨0x1c8, 31, 16, .rw, 0x0, 0x0⟩
def LN_INJ_N : Fld := ⟨0x1c8, 12, 8, .rw, 0x0, 0x0⟩
def LN_INJ_KIND : Fld := ⟨0x1c8, 1, 0, .rw, 0x0, 0x0⟩
def LN_INJ_CNT : Fld := ⟨0x1cc, 31, 0, .ro, 0x0, 0x0⟩
-- R376 (spec chapter 11)
def AU_FWQ : Fld := ⟨0x100, 11, 0, .rw, 0x0, 0x0⟩
def AU_PCFG_LOSS : Fld := ⟨0x104, 31, 16, .rw, 0x10, 0x0⟩
def AU_PCFG_LEARN : Fld := ⟨0x104, 0, 0, .rw, 0x0, 0x0⟩
def AU_FLOW_IDX : Fld := ⟨0x110, 8, 0, .rw, 0x0, 0x0⟩
def AU_FLOW_W0_VALID : Fld := ⟨0x114, 31, 31, .rw, 0x0, 0x0⟩
def AU_FLOW_W0_DIR : Fld := ⟨0x114, 30, 30, .rw, 0x0, 0x0⟩
def AU_FLOW_W0_PLANE : Fld := ⟨0x114, 29, 29, .rw, 0x0, 0x0⟩
def AU_FLOW_W0_PORT : Fld := ⟨0x114, 21, 16, .rw, 0x0, 0x0⟩
def AU_FLOW_W0_EAXC : Fld := ⟨0x114, 15, 0, .rw, 0x0, 0x0⟩
def AU_FLOW_W1 : Fld := ⟨0x118, 31, 0, .rw, 0x0, 0x0⟩
def AU_FLOW_W2_VLAN_EN : Fld := ⟨0x11c, 31, 31, .rw, 0x0, 0x0⟩
def AU_FLOW_W2_PCP : Fld := ⟨0x11c, 30, 28, .rw, 0x0, 0x0⟩
def AU_FLOW_W2_VID : Fld := ⟨0x11c, 27, 16, .rw, 0x0, 0x0⟩
def AU_FLOW_W2_DA : Fld := ⟨0x11c, 15, 0, .rw, 0x0, 0x0⟩
def AU_FLOW_W3_PARTNER : Fld := ⟨0x120, 29, 25, .rw, 0x0, 0x0⟩
def AU_FLOW_W3_NRB : Fld := ⟨0x120, 24, 16, .rw, 0x0, 0x0⟩
def AU_FLOW_W3_PARAM : Fld := ⟨0x120, 15, 8, .rw, 0x0, 0x0⟩
def AU_FLOW_W3_DYN : Fld := ⟨0x120, 7, 7, .rw, 0x0, 0x0⟩
def AU_FLOW_W3_METH : Fld := ⟨0x120, 3, 0, .rw, 0x0, 0x0⟩
def AU_FLOW_W4 : Fld := ⟨0x124, 3, 0, .rw, 0x0, 0x0⟩
def AU_FLOW_CMD : Fld := ⟨0x128, 0, 0, .wo, 0x0, 0x0⟩
def AU_FCNT : Fld := ⟨0x130, 31, 0, .ro, 0x0, 0x4⟩
def AU_PT_IDX : Fld := ⟨0x160, 4, 0, .rw, 0x0, 0x0⟩
def AU_PT_MAC_LO : Fld := ⟨0x164, 31, 0, .rw, 0x0, 0x0⟩
def AU_PT_MAC_HI : Fld := ⟨0x168, 31, 0, .rw, 0x0, 0x0⟩
def AU_PT_CTL_STATE : Fld := ⟨0x16c, 31, 30, .rw, 0x0, 0x0⟩
def AU_PT_CTL_HOLD_TX : Fld := ⟨0x16c, 29, 29, .rw, 0x0, 0x0⟩
def AU_PT_CTL_PORT : Fld := ⟨0x16c, 5, 0, .rw, 0x0, 0x0⟩
def AU_PT_CMD : Fld := ⟨0x170, 0, 0, .wo, 0x0, 0x0⟩
-- R377 (spec chapter 11)
def EM_CFG_MAXLEN : Fld := ⟨0x100, 31, 16, .rwd, 0x2400, 0x0⟩
def EM_CFG_SER_LF : Fld := ⟨0x100, 8, 8, .rw, 0x0, 0x0⟩
def EM_CFG_FWD_OTHER : Fld := ⟨0x100, 7, 7, .rw, 0x0, 0x0⟩
def EM_CFG_LANE : Fld := ⟨0x100, 6, 0, .rwd, 0x0, 0x0⟩
def EM_CFG2 : Fld := ⟨0x104, 1, 0, .rwd, 0x0, 0x0⟩
def EM_STAT_REMOTE_FAULT : Fld := ⟨0x108, 2, 2, .ro, 0x0, 0x0⟩
def EM_STAT_LOCAL_FAULT : Fld := ⟨0x108, 1, 1, .ro, 0x0, 0x0⟩
def EM_STAT_LINK_UP : Fld := ⟨0x108, 0, 0, .ro, 0x0, 0x0⟩
def EM_MAC_LO : Fld := ⟨0x110, 31, 0, .rw, 0x0, 0x0⟩
def EM_MAC_HI : Fld := ⟨0x114, 31, 0, .rw, 0x0, 0x0⟩
def EM_MCAST_LO : Fld := ⟨0x118, 31, 0, .rw, 0x0, 0x8⟩
def EM_MCAST_HI : Fld := ⟨0x11c, 31, 0, .rw, 0x0, 0x8⟩
def EM_EEE_IDLE : Fld := ⟨0x160, 31, 16, .rw, 0x4, 0x0⟩
def EM_EEE_EN : Fld := ⟨0x160, 0, 0, .rw, 0x0, 0x0⟩
def EM_TS_INFO_VALID : Fld := ⟨0x170, 31, 31, .ro, 0x0, 0x0⟩
def EM_TS_INFO_TAG : Fld := ⟨0x170, 15, 0, .ro, 0x0, 0x0⟩
def EM_TS_LO : Fld := ⟨0x174, 31, 0, .ro, 0x0, 0x0⟩
def EM_TS_HI : Fld := ⟨0x178, 31, 0, .ro, 0x0, 0x0⟩
def EM_SEC_CTL : Fld := ⟨0x180, 0, 0, .rwd, 0x0, 0x0⟩
def EM_SEC_PNTH : Fld := ⟨0x184, 31, 0, .rw, 0xc0000000, 0x0⟩
def EM_SEC_RPW : Fld := ⟨0x188, 31, 0, .rw, 0x0, 0x0⟩
def EM_SEC_BYPASS : Fld := ⟨0x18c, 31, 0, .rw, 0x0, 0x4⟩
def EM_RX_OK_LO : Fld := ⟨0x200, 31, 0, .ro, 0x0, 0x0⟩
def EM_RX_OK_HI : Fld := ⟨0x204, 31, 0, .ro, 0x0, 0x0⟩
def EM_TX_OK_LO : Fld := ⟨0x208, 31, 0, .ro, 0x0, 0x0⟩
def EM_TX_OK_HI : Fld := ⟨0x20c, 31, 0, .ro, 0x0, 0x0⟩
def EM_RUNT : Fld := ⟨0x210, 31, 0, .ro, 0x0, 0x0⟩
def EM_LONG : Fld := ⟨0x214, 31, 0, .ro, 0x0, 0x0⟩
def EM_FCS : Fld := ⟨0x218, 31, 0, .ro, 0x0, 0x0⟩
def EM_DA_DROP : Fld := ⟨0x21c, 31, 0, .ro, 0x0, 0x0⟩
def EM_MACCTL : Fld := ⟨0x220, 31, 0, .ro, 0x0, 0x0⟩
def EM_TX_DROP : Fld := ⟨0x224, 31, 0, .ro, 0x0, 0x0⟩
def EM_SEC_DROP : Fld := ⟨0x228, 31, 0, .ro, 0x0, 0x0⟩
def TX_OVERSIZE : Fld := ⟨0x22c, 31, 0, .ro, 0x0, 0x0⟩
-- R378 (spec chapter 11)
def CP_CFG : Fld := ⟨0x100, 6, 0, .rwd, 0x0, 0x0⟩
def CP_CTRL_DEG_ACT : Fld := ⟨0x104, 1, 1, .rw, 0x1, 0x0⟩
def CP_CTRL_GO_F : Fld := ⟨0x104, 0, 0, .w1s, 0x0, 0x0⟩
def CP_STAT_ACT_PAGE : Fld := ⟨0x108, 7, 7, .ro, 0x0, 0x0⟩
def CP_STAT_DEF : Fld := ⟨0x108, 6, 3, .ro, 0x0, 0x0⟩
def CP_STAT_STATE : Fld := ⟨0x108, 2, 0, .ro, 0x0, 0x0⟩
def CP_ORG_LO : Fld := ⟨0x110, 31, 0, .rwd, 0x0, 0x0⟩
def CP_ORG_HI : Fld := ⟨0x114, 31, 0, .rwd, 0x0, 0x0⟩
def CP_RXDLY : Fld := ⟨0x118, 14, 0, .rw, 0x0, 0x0⟩
def CP_RXOFS : Fld := ⟨0x11c, 31, 0, .ro, 0x0, 0x0⟩
def CP_CM : Fld := ⟨0x120, 5, 0, .rwd, 0x0, 0x0⟩
def CP_TSI : Fld := ⟨0x124, 0, 0, .wo, 0x0, 0x0⟩
def CP_TSI_AIR_LO : Fld := ⟨0x128, 31, 0, .ro, 0x0, 0x0⟩
def CP_TSI_AIR_HI : Fld := ⟨0x12c, 31, 0, .ro, 0x0, 0x0⟩
def CP_DEG_HOLD : Fld := ⟨0x130, 31, 24, .rw, 0x8, 0x0⟩
def CP_DEG_EXP : Fld := ⟨0x130, 23, 20, .rw, 0x6, 0x0⟩
def CP_DEG_WIN : Fld := ⟨0x130, 15, 0, .rw, 0x64, 0x0⟩
def CP_LOSTMS : Fld := ⟨0x134, 15, 0, .rw, 0xa, 0x0⟩
def CP_CW_TX : Fld := ⟨0x140, 31, 0, .rw, 0x0, 0x0⟩
def CP_CW_RX : Fld := ⟨0x144, 31, 0, .ro, 0x0, 0x0⟩
def CP_CNT : Fld := ⟨0x150, 31, 0, .ro, 0x0, 0x4⟩
-- R406 (spec chapter 12)
def RT_POS_INST : Fld := ⟨0x100, 14, 8, .ro, 0x0, 0x0⟩
def RT_POS_Y : Fld := ⟨0x100, 7, 4, .ro, 0x0, 0x0⟩
def RT_POS_X : Fld := ⟨0x100, 3, 0, .ro, 0x0, 0x0⟩
def RT_STAT_ANY_DEAD : Fld := ⟨0x104, 8, 8, .ro, 0x0, 0x0⟩
def RT_STAT_RESV : Fld := ⟨0x104, 4, 0, .ro, 0x0, 0x0⟩
def RT_REVIVE_GO : Fld := ⟨0x108, 31, 31, .wo, 0x0, 0x0⟩
def RT_REVIVE_ATT : Fld := ⟨0x108, 6, 0, .wo, 0x0, 0x0⟩
def RT_HOLD : Fld := ⟨0x110, 31, 0, .ro, 0x0, 0x4⟩
def RT_WAIT_MAX : Fld := ⟨0x124, 31, 0, .ro, 0x0, 0x0⟩
def RT_C0_UNITS : Fld := ⟨0x128, 31, 0, .ro, 0x0, 0x0⟩
def RT_ERR_ECC_CORR : Fld := ⟨0x12c, 31, 16, .ro, 0x0, 0x0⟩
def RT_ERR_POISON : Fld := ⟨0x12c, 15, 0, .ro, 0x0, 0x0⟩
def RT_CLR : Fld := ⟨0x130, 0, 0, .wo, 0x0, 0x0⟩
def RT_DEAD : Fld := ⟨0x140, 31, 0, .ro, 0x0, 0x4⟩
-- R407 (spec chapter 12)
def TR_ARB_AGE : Fld := ⟨0x100, 23, 16, .rw, 0x10, 0x0⟩
def TR_ARB_W1 : Fld := ⟨0x100, 7, 0, .rw, 0x4, 0x0⟩
def TR_TMO_RSP_TO : Fld := ⟨0x104, 31, 16, .rw, 0x100, 0x0⟩
def TR_TMO_DEAD_TO : Fld := ⟨0x104, 15, 0, .rw, 0x40, 0x0⟩
def TR_WIN : Fld := ⟨0x108, 15, 0, .rw, 0x10, 0x0⟩
def TR_MON_CFG_EN : Fld := ⟨0x140, 31, 31, .rw, 0x0, 0x20⟩
def TR_MON_CFG_CLASS : Fld := ⟨0x140, 9, 8, .rw, 0x0, 0x20⟩
def TR_MON_CFG_SOURCE : Fld := ⟨0x140, 7, 0, .rw, 0x0, 0x20⟩
def TR_MON_REQ : Fld := ⟨0x144, 31, 0, .ro, 0x0, 0x20⟩
def TR_MON_UNITS : Fld := ⟨0x148, 31, 0, .ro, 0x0, 0x20⟩
def TR_MON_LAT_SUM : Fld := ⟨0x14c, 31, 0, .ro, 0x0, 0x20⟩
def TR_MON_LAT_MAX : Fld := ⟨0x150, 31, 0, .ro, 0x0, 0x20⟩
def TR_MON_HOLD : Fld := ⟨0x154, 31, 0, .ro, 0x0, 0x20⟩
def TR_MON_TAG : Fld := ⟨0x158, 15, 0, .ro, 0x0, 0x20⟩
-- R439 (spec chapter 13)
def BM_CFG_SCR_EN : Fld := ⟨0x100, 1, 1, .rw, 0x0, 0x0⟩
def BM_CFG_UE_ACT : Fld := ⟨0x100, 0, 0, .rwl, 0x0, 0x0⟩
def BM_STAT_PLAN_PC : Fld := ⟨0x104, 31, 16, .ro, 0x0, 0x0⟩
def BM_STAT_HALT : Fld := ⟨0x104, 15, 0, .ro, 0x0, 0x0⟩
def BM_RELEASE : Fld := ⟨0x108, 15, 0, .wo, 0x0, 0x0⟩
def BM_INIT : Fld := ⟨0x10c, 15, 0, .wo, 0x0, 0x0⟩
def BM_INIT_STAT_DONE : Fld := ⟨0x110, 1, 1, .w1c, 0x0, 0x0⟩
def BM_INIT_STAT_BUSY : Fld := ⟨0x110, 0, 0, .ro, 0x0, 0x0⟩
def BM_SCR_INT : Fld := ⟨0x114, 15, 0, .rw, 0x100, 0x0⟩
def BM_REF_STAT_MISS : Fld := ⟨0x118, 31, 16, .ro, 0x0, 0x0⟩
def BM_REF_STAT_HOT : Fld := ⟨0x118, 0, 0, .ro, 0x0, 0x0⟩
def BM_SCR_STAT_LAPS : Fld := ⟨0x11c, 31, 16, .ro, 0x0, 0x0⟩
def BM_SCR_STAT_BUSY : Fld := ⟨0x11c, 0, 0, .ro, 0x0, 0x0⟩
def BM_LAP_AIR_LO : Fld := ⟨0x120, 31, 0, .ro, 0x0, 0x0⟩
def BM_LAP_AIR_HI : Fld := ⟨0x124, 31, 0, .ro, 0x0, 0x0⟩
def BM_LAP_CY_LO : Fld := ⟨0x128, 31, 0, .ro, 0x0, 0x0⟩
def BM_LAP_CY_HI : Fld := ⟨0x12c, 31, 0, .ro, 0x0, 0x0⟩
def BM_LAP_SUM_CORR : Fld := ⟨0x130, 31, 16, .ro, 0x0, 0x0⟩
def BM_LAP_SUM_UE : Fld := ⟨0x130, 15, 0, .ro, 0x0, 0x0⟩
def BM_WIN_BASE : Fld := ⟨0x140, 31, 0, .rwl, 0x0, 0x10⟩
def BM_WIN_LIMIT : Fld := ⟨0x144, 31, 0, .rwl, 0x0, 0x10⟩
def BM_WIN_CTL_VALID : Fld := ⟨0x148, 31, 31, .rwl, 0x0, 0x10⟩
def BM_WIN_CTL_SHARED : Fld := ⟨0x148, 30, 30, .rwl, 0x0, 0x10⟩
def BM_WIN_CTL_WR_EN : Fld := ⟨0x148, 29, 29, .rwl, 0x0, 0x10⟩
def BM_WIN_CTL_CTX : Fld := ⟨0x148, 11, 0, .rwl, 0x0, 0x10⟩
def BM_CEL_INFO : Fld := ⟨0x240, 31, 0, .ro, 0x0, 0x0⟩
def BM_CEL_ADDR_LO : Fld := ⟨0x244, 31, 0, .ro, 0x0, 0x0⟩
def BM_CEL_ADDR_HI : Fld := ⟨0x248, 31, 0, .ro, 0x0, 0x0⟩
def BM_CEL_AIR : Fld := ⟨0x24c, 31, 0, .ro, 0x0, 0x0⟩
def BM_CONF : Fld := ⟨0x250, 31, 0, .ro, 0x0, 0x4⟩
def BM_UE_CNT_UE : Fld := ⟨0x260, 31, 16, .ro, 0x0, 0x0⟩
def BM_UE_CNT_POISON : Fld := ⟨0x260, 15, 0, .ro, 0x0, 0x0⟩
def BM_CE_CNT : Fld := ⟨0x264, 31, 0, .ro, 0x0, 0x0⟩
-- R440 (spec chapter 13)
def PHY_STAT_SREF : Fld := ⟨0x100, 5, 4, .ro, 0x0, 0x0⟩
def PHY_STAT_TRAINED : Fld := ⟨0x100, 1, 0, .ro, 0x0, 0x0⟩
def PHY_CMD_SREF : Fld := ⟨0x104, 5, 4, .rw, 0x0, 0x0⟩
def PHY_CMD_TRAIN : Fld := ⟨0x104, 1, 0, .wo, 0x0, 0x0⟩
def HBM_T0 : Fld := ⟨0x108, 15, 0, .ro, 0x0, 0x0⟩
def HBM_T1 : Fld := ⟨0x10c, 15, 0, .ro, 0x0, 0x0⟩
def PHY_ERR : Fld := ⟨0x110, 15, 0, .ro, 0x0, 0x0⟩
-- R476 (spec chapter 14)
def CL_STAT_WFI : Fld := ⟨0x100, 15, 12, .ro, 0x0, 0x0⟩
def CL_STAT_RUN : Fld := ⟨0x100, 11, 8, .ro, 0x0, 0x0⟩
def CL_RST : Fld := ⟨0x104, 3, 0, .rw, 0xf, 0x0⟩
def CL_BOOT_LO : Fld := ⟨0x108, 31, 0, .rwl, 0x0, 0x0⟩
def CL_BOOT_HI : Fld := ⟨0x10c, 31, 0, .rwl, 0x0, 0x0⟩
def CL_PLEVEL_BUSY : Fld := ⟨0x110, 31, 31, .ro, 0x0, 0x0⟩
def CL_PLEVEL_CUR : Fld := ⟨0x110, 10, 8, .ro, 0x7, 0x0⟩
def CL_PLEVEL_REQ : Fld := ⟨0x110, 2, 0, .rw, 0x7, 0x0⟩
def CL_MSIP : Fld := ⟨0x114, 3, 0, .rw, 0x0, 0x0⟩
def CL_MTIMECMP_LO : Fld := ⟨0x120, 31, 0, .rw, 0xffffffff, 0x8⟩
def CL_MTIMECMP_HI : Fld := ⟨0x124, 31, 0, .rw, 0xffffffff, 0x8⟩
def CL_CACHE_ERR_CORR : Fld := ⟨0x140, 31, 16, .ro, 0x0, 0x0⟩
def CL_CACHE_ERR_UE : Fld := ⟨0x140, 15, 0, .ro, 0x0, 0x0⟩
-- R477 (spec chapter 14)
def EH_IDX : Fld := ⟨0x100, 12, 0, .rw, 0x0, 0x0⟩
def EH_ROUTE_EN : Fld := ⟨0x104, 31, 31, .rw, 0x0, 0x0⟩
def EH_ROUTE_PRIO : Fld := ⟨0x104, 30, 28, .rw, 0x0, 0x0⟩
def EH_ROUTE_KIND : Fld := ⟨0x104, 27, 26, .rw, 0x0, 0x0⟩
def EH_ROUTE_FUNC : Fld := ⟨0x104, 25, 20, .rw, 0x0, 0x0⟩
def EH_ROUTE_TGT : Fld := ⟨0x104, 10, 0, .rw, 0x0, 0x0⟩
def EH_SRC_STAT_INSVC : Fld := ⟨0x108, 1, 1, .ro, 0x0, 0x0⟩
def EH_SRC_STAT_PEND : Fld := ⟨0x108, 0, 0, .ro, 0x0, 0x0⟩
def EH_DOORBELL : Fld := ⟨0x10c, 5, 0, .wo, 0x0, 0x0⟩
def EH_THR : Fld := ⟨0x200, 2, 0, .rw, 0x0, 0x8⟩
def EH_CLAIM_VALID : Fld := ⟨0x204, 31, 31, .ro, 0x0, 0x8⟩
def EH_CLAIM_SRC : Fld := ⟨0x204, 12, 0, .rw, 0x0, 0x8⟩
-- R478 (spec chapter 14)
def PCIE_STAT_WIDTH : Fld := ⟨0x100, 15, 11, .ro, 0x0, 0x0⟩
def PCIE_STAT_SPEED : Fld := ⟨0x100, 10, 8, .ro, 0x0, 0x0⟩
def PCIE_STAT_LINK_UP : Fld := ⟨0x100, 0, 0, .ro, 0x0, 0x0⟩
def PCIE_CFG : Fld := ⟨0x104, 1, 0, .rwl, 0x2, 0x0⟩
def PCIE_PF_CTX : Fld := ⟨0x108, 11, 0, .rwl, 0x0, 0x0⟩
def PCIE_OB_XLAT_LO : Fld := ⟨0x110, 31, 0, .rwl, 0x0, 0x0⟩
def PCIE_OB_XLAT_HI : Fld := ⟨0x114, 31, 0, .rwl, 0x0, 0x0⟩
def PCIE_VF_IDX : Fld := ⟨0x120, 5, 0, .rw, 0x0, 0x0⟩
def PCIE_VF_CTX : Fld := ⟨0x124, 11, 0, .rw, 0x0, 0x0⟩
def PCIE_VF_WIN_VALID : Fld := ⟨0x128, 31, 31, .rw, 0x0, 0x4⟩
def PCIE_VF_WIN_BASE : Fld := ⟨0x128, 17, 0, .rw, 0x0, 0x4⟩
def PCIE_VF_CMD : Fld := ⟨0x138, 0, 0, .wo, 0x0, 0x0⟩
def PCIE_ERRCNT_UR : Fld := ⟨0x140, 31, 16, .ro, 0x0, 0x0⟩
def PCIE_ERRCNT_CTO : Fld := ⟨0x140, 15, 0, .ro, 0x0, 0x0⟩
-- R509 (spec chapter 15)
def TR_Q_IDX : Fld := ⟨0x100, 11, 0, .rw, 0x0, 0x0⟩
def TR_Q_CFG_VALID : Fld := ⟨0x104, 31, 31, .rw, 0x0, 0x0⟩
def TR_Q_CFG_SHARED : Fld := ⟨0x104, 30, 30, .rw, 0x0, 0x0⟩
def TR_Q_CFG_TTSRC : Fld := ⟨0x104, 29, 29, .rw, 0x0, 0x0⟩
def TR_Q_CFG_OP : Fld := ⟨0x104, 25, 24, .rw, 0x0, 0x0⟩
def TR_Q_CFG_TT : Fld := ⟨0x104, 23, 16, .rw, 0x0, 0x0⟩
def TR_Q_CFG_CTX : Fld := ⟨0x104, 11, 0, .rw, 0x0, 0x0⟩
def TR_Q_CMD : Fld := ⟨0x108, 0, 0, .wo, 0x0, 0x0⟩
def TR_Q_CNT : Fld := ⟨0x10c, 31, 0, .ro, 0x0, 0x0⟩
def TR_R_IDX : Fld := ⟨0x110, 7, 0, .rw, 0x0, 0x0⟩
def TR_R_CFG_SIZE : Fld := ⟨0x114, 31, 16, .rw, 0x0, 0x0⟩
def TR_R_CFG_BASE : Fld := ⟨0x114, 15, 0, .rw, 0x0, 0x0⟩
def TR_R_Q : Fld := ⟨0x118, 11, 0, .rw, 0x0, 0x0⟩
def TR_R_CMD : Fld := ⟨0x11c, 0, 0, .wo, 0x0, 0x0⟩
def TR_R_STAT_FILL : Fld := ⟨0x120, 31, 16, .ro, 0x0, 0x0⟩
def TR_R_STAT_OVF : Fld := ⟨0x120, 15, 0, .ro, 0x0, 0x0⟩
def TR_TRIG_DROP : Fld := ⟨0x124, 31, 0, .ro, 0x0, 0x0⟩
def TR_SEND : Fld := ⟨0x140, 11, 0, .wo, 0x0, 0x0⟩
def TR_STG : Fld := ⟨0x400, 31, 0, .rw, 0x0, 0x4⟩
-- R510 (spec chapter 15)
def TR_T_IDX : Fld := ⟨0x100, 7, 0, .rw, 0x0, 0x0⟩
def TR_T_CFG_VALID : Fld := ⟨0x104, 31, 31, .rw, 0x0, 0x0⟩
def TR_T_CFG_PARTIAL : Fld := ⟨0x104, 30, 30, .rw, 0x0, 0x0⟩
def TR_T_CFG_DEST : Fld := ⟨0x104, 29, 28, .rw, 0x0, 0x0⟩
def TR_T_CFG_FLOWSRC : Fld := ⟨0x104, 27, 26, .rw, 0x0, 0x0⟩
def TR_T_CFG_NOPS : Fld := ⟨0x104, 25, 24, .rw, 0x0, 0x0⟩
def TR_T_CFG_TMO : Fld := ⟨0x104, 23, 16, .rw, 0x0, 0x0⟩
def TR_T_CFG_TGT : Fld := ⟨0x104, 15, 0, .rw, 0x0, 0x0⟩
def TR_T_FLOW : Fld := ⟨0x108, 11, 0, .rw, 0x0, 0x0⟩
def TR_T_EMASK : Fld := ⟨0x10c, 31, 0, .rw, 0x0, 0x0⟩
def TR_T_DONEQ_EN : Fld := ⟨0x110, 31, 31, .rw, 0x0, 0x0⟩
def TR_T_DONEQ_QUEUE : Fld := ⟨0x110, 11, 0, .rw, 0x0, 0x0⟩
def TR_T_H : Fld := ⟨0x114, 31, 0, .rw, 0x0, 0x0⟩
def TR_T_MAX : Fld := ⟨0x118, 15, 0, .rw, 0x0, 0x0⟩
def TR_T_CMD : Fld := ⟨0x11c, 0, 0, .wo, 0x0, 0x0⟩
def TR_T_STAT_ENTRIES : Fld := ⟨0x120, 31, 16, .ro, 0x0, 0x0⟩
def TR_T_STAT_READY : Fld := ⟨0x120, 15, 0, .ro, 0x0, 0x0⟩
def TR_MS_STAT_HWM : Fld := ⟨0x130, 31, 16, .ro, 0x0, 0x0⟩
def TR_MS_STAT_USED : Fld := ⟨0x130, 15, 0, .ro, 0x0, 0x0⟩
-- R511 (spec chapter 15)
def TR_C_CFG_EN : Fld := ⟨0x100, 31, 31, .rw, 0x0, 0x10⟩
def TR_C_CFG_DB_EN : Fld := ⟨0x100, 30, 30, .rw, 0x0, 0x10⟩
def TR_C_CFG_DB : Fld := ⟨0x100, 29, 24, .rw, 0x0, 0x10⟩
def TR_C_AREA_LO : Fld := ⟨0x104, 31, 0, .rw, 0x0, 0x10⟩
def TR_C_AREA_HI : Fld := ⟨0x108, 31, 0, .rw, 0x0, 0x10⟩
def TR_C_POP_VALID : Fld := ⟨0x10c, 31, 31, .ro, 0x0, 0x10⟩
def TR_C_POP_LEFT : Fld := ⟨0x10c, 22, 16, .ro, 0x0, 0x10⟩
def TR_C_POP_HANDLE : Fld := ⟨0x10c, 9, 0, .ro, 0x0, 0x10⟩
def TR_DONE : Fld := ⟨0x200, 9, 0, .wo, 0x0, 0x0⟩
def TR_C_FLUSH : Fld := ⟨0x204, 15, 0, .wo, 0x0, 0x0⟩
def TR_C_STAT_HELD : Fld := ⟨0x240, 22, 16, .ro, 0x0, 0x4⟩
def TR_C_STAT_LIST : Fld := ⟨0x240, 6, 0, .ro, 0x0, 0x4⟩
def TR_C_WAIT : Fld := ⟨0x280, 31, 0, .ro, 0x0, 0x4⟩
def TR_C_DONE : Fld := ⟨0x2c0, 31, 0, .ro, 0x0, 0x4⟩
def TR_F_IDX : Fld := ⟨0x300, 11, 0, .rw, 0x0, 0x0⟩
def TR_F_STAT_BUSY : Fld := ⟨0x304, 31, 31, .ro, 0x0, 0x0⟩
def TR_F_STAT_WAIT : Fld := ⟨0x304, 15, 0, .ro, 0x0, 0x0⟩
-- R512 (spec chapter 15)
def TR_P_BASE_LO : Fld := ⟨0x100, 31, 0, .rw, 0x0, 0x10⟩
def TR_P_BASE_HI : Fld := ⟨0x104, 31, 0, .rw, 0x0, 0x10⟩
def TR_P_CFG_VALID : Fld := ⟨0x108, 31, 31, .rw, 0x0, 0x10⟩
def TR_P_CFG_SZ : Fld := ⟨0x108, 27, 24, .rw, 0x0, 0x10⟩
def TR_P_CFG_COUNT : Fld := ⟨0x108, 15, 0, .rw, 0x0, 0x10⟩
def TR_P_STAT_LOW : Fld := ⟨0x10c, 31, 16, .ro, 0x0, 0x10⟩
def TR_P_STAT_FREE : Fld := ⟨0x10c, 15, 0, .ro, 0x0, 0x10⟩
def TR_ALLOC_VALID : Fld := ⟨0x200, 31, 31, .ro, 0x0, 0x4⟩
def TR_ALLOC_HANDLE : Fld := ⟨0x200, 19, 0, .ro, 0x0, 0x4⟩
def TR_FREE : Fld := ⟨0x240, 19, 0, .wo, 0x0, 0x0⟩
def TR_GIVE_CTX : Fld := ⟨0x244, 31, 20, .wo, 0x0, 0x0⟩
def TR_GIVE_HANDLE : Fld := ⟨0x244, 19, 0, .wo, 0x0, 0x0⟩
def TR_L_IDX : Fld := ⟨0x248, 19, 0, .rw, 0x0, 0x0⟩
def TR_L_STAT_OWNED : Fld := ⟨0x24c, 31, 31, .ro, 0x0, 0x0⟩
def TR_L_STAT_CTX : Fld := ⟨0x24c, 11, 0, .ro, 0x0, 0x0⟩
def TR_AU_POOL : Fld := ⟨0x250, 3, 0, .rw, 0x0, 0x0⟩
def TR_H_IDX : Fld := ⟨0x300, 6, 0, .rw, 0x0, 0x0⟩
def TR_H_BASE_LO : Fld := ⟨0x304, 31, 0, .rw, 0x0, 0x0⟩
def TR_H_BASE_HI : Fld := ⟨0x308, 31, 0, .rw, 0x0, 0x0⟩
def TR_H_PIDX_LO : Fld := ⟨0x30c, 31, 0, .rw, 0x0, 0x0⟩
def TR_H_PIDX_HI : Fld := ⟨0x310, 31, 0, .rw, 0x0, 0x0⟩
def TR_H_CFG_EN : Fld := ⟨0x314, 31, 31, .rw, 0x0, 0x0⟩
def TR_H_CFG_DB_EN : Fld := ⟨0x314, 30, 30, .rw, 0x0, 0x0⟩
def TR_H_CFG_DB : Fld := ⟨0x314, 29, 24, .rw, 0x0, 0x0⟩
def TR_H_CFG_SZ : Fld := ⟨0x314, 3, 0, .rw, 0x4, 0x0⟩
def TR_H_CMD : Fld := ⟨0x318, 0, 0, .wo, 0x0, 0x0⟩
def TR_H_IDXS_CIDX : Fld := ⟨0x31c, 31, 16, .rw, 0x0, 0x0⟩
def TR_H_IDXS_PIDX : Fld := ⟨0x31c, 15, 0, .ro, 0x0, 0x0⟩
def TR_V_IDX : Fld := ⟨0x340, 5, 0, .rw, 0x0, 0x0⟩
def TR_V_Q_EN : Fld := ⟨0x344, 31, 31, .rw, 0x0, 0x4⟩
def TR_V_Q_QUEUE : Fld := ⟨0x344, 11, 0, .rw, 0x0, 0x4⟩
def TR_V_CMD : Fld := ⟨0x354, 0, 0, .wo, 0x0, 0x0⟩
def TR_V_DROP : Fld := ⟨0x358, 31, 0, .ro, 0x0, 0x0⟩
-- R543 (spec chapter 16)
def KS_STAT_READY : Fld := ⟨0x100, 31, 31, .ro, 0x0, 0x0⟩
def KS_STAT_BUSY : Fld := ⟨0x100, 30, 30, .ro, 0x0, 0x0⟩
def KS_STAT_COMPACTING : Fld := ⟨0x100, 29, 29, .ro, 0x0, 0x0⟩
def KS_STAT_FREE : Fld := ⟨0x100, 9, 0, .ro, 0x0, 0x0⟩
def KS_CMD_FLAT : Fld := ⟨0x104, 15, 15, .wo, 0x0, 0x0⟩
def KS_CMD_PART : Fld := ⟨0x104, 10, 8, .wo, 0x0, 0x0⟩
def KS_CMD_OP : Fld := ⟨0x104, 7, 0, .wo, 0x0, 0x0⟩
def KS_ARG : Fld := ⟨0x108, 31, 0, .rw, 0x0, 0x4⟩
def KS_RESULT_DONE : Fld := ⟨0x130, 31, 31, .ro, 0x0, 0x0⟩
def KS_RESULT_OK : Fld := ⟨0x130, 30, 30, .ro, 0x0, 0x0⟩
def KS_RESULT_OPEN : Fld := ⟨0x130, 18, 18, .ro, 0x0, 0x0⟩
def KS_RESULT_OLDER : Fld := ⟨0x130, 17, 17, .ro, 0x0, 0x0⟩
def KS_RESULT_CORRUPT : Fld := ⟨0x130, 16, 16, .ro, 0x0, 0x0⟩
def KS_RESULT_EVENT : Fld := ⟨0x130, 15, 0, .ro, 0x0, 0x0⟩
def KS_RES : Fld := ⟨0x140, 31, 0, .ro, 0x0, 0x4⟩
def KS_CTL_PATROL_H : Fld := ⟨0x160, 15, 8, .rw, 0x18, 0x0⟩
def KS_CTL_CALIB_WE : Fld := ⟨0x160, 0, 0, .rwl, 0x0, 0x0⟩
def KS_RATE : Fld := ⟨0x164, 31, 0, .ro, 0x100000, 0x0⟩
def KS_BOOT0_CAUSE : Fld := ⟨0x170, 26, 24, .ro, 0x0, 0x0⟩
def KS_BOOT0_TRIAL_LEFT : Fld := ⟨0x170, 17, 16, .ro, 0x0, 0x0⟩
def KS_BOOT0_TRIAL_SLOT : Fld := ⟨0x170, 12, 12, .ro, 0x0, 0x0⟩
def KS_BOOT0_PREV_SLOT : Fld := ⟨0x170, 10, 10, .ro, 0x0, 0x0⟩
def KS_BOOT0_PREV_V : Fld := ⟨0x170, 9, 9, .ro, 0x0, 0x0⟩
def KS_BOOT0_CONF_SLOT : Fld := ⟨0x170, 8, 8, .ro, 0x0, 0x0⟩
def KS_BOOT0_BOOTED : Fld := ⟨0x170, 5, 4, .ro, 0x0, 0x0⟩
def KS_BOOT0_AS_TRIAL : Fld := ⟨0x170, 3, 3, .ro, 0x0, 0x0⟩
def KS_BOOT0_STATE : Fld := ⟨0x170, 1, 0, .ro, 0x0, 0x0⟩
def KS_BOOT1 : Fld := ⟨0x174, 31, 0, .ro, 0x0, 0x0⟩
def KS_BOOT2 : Fld := ⟨0x178, 31, 0, .ro, 0x0, 0x0⟩
def KS_BOOT3 : Fld := ⟨0x17c, 31, 0, .ro, 0x0, 0x0⟩
def KS_DEADLINE_LO : Fld := ⟨0x180, 31, 0, .ro, 0x0, 0x0⟩
def KS_DEADLINE_HI : Fld := ⟨0x184, 31, 0, .ro, 0x0, 0x0⟩
def KS_WEAR : Fld := ⟨0x190, 31, 16, .ro, 0x0, 0x0⟩
def KS_WEAR_MAX : Fld := ⟨0x194, 31, 0, .ro, 0x0, 0x0⟩
def KS_WEAR_MIN : Fld := ⟨0x198, 31, 0, .ro, 0x0, 0x0⟩
def KS_SEG_IDX : Fld := ⟨0x1a0, 8, 0, .rw, 0x0, 0x0⟩
def KS_SEG_STAT_STATE : Fld := ⟨0x1a4, 31, 28, .ro, 0x0, 0x0⟩
def KS_SEG_STAT_PART : Fld := ⟨0x1a4, 27, 24, .ro, 0x0, 0x0⟩
def KS_SEG_STAT_LIVE : Fld := ⟨0x1a4, 16, 0, .ro, 0x0, 0x0⟩
def KS_SEG_ERASES : Fld := ⟨0x1a8, 31, 0, .ro, 0x0, 0x0⟩
def KS_PART_IDX : Fld := ⟨0x1b0, 2, 0, .rw, 0x0, 0x0⟩
def KS_PART_STAT_SEGS : Fld := ⟨0x1b4, 31, 16, .ro, 0x0, 0x0⟩
def KS_PART_STAT_LIVE_KIB : Fld := ⟨0x1b4, 15, 0, .ro, 0x0, 0x0⟩
def KS_SCAN0_TORN : Fld := ⟨0x1c0, 31, 16, .ro, 0x0, 0x0⟩
def KS_SCAN0_CORRUPT : Fld := ⟨0x1c0, 15, 0, .ro, 0x0, 0x0⟩
def KS_SCAN1 : Fld := ⟨0x1c4, 31, 0, .ro, 0x0, 0x0⟩
def KS_SCAN_CY : Fld := ⟨0x1c8, 31, 0, .ro, 0x0, 0x0⟩
def KS_SEQ_LO : Fld := ⟨0x1d0, 31, 0, .ro, 0x0, 0x0⟩
def KS_SEQ_HI : Fld := ⟨0x1d4, 31, 0, .ro, 0x0, 0x0⟩
def KS_TEAR_ARM : Fld := ⟨0x1e0, 31, 31, .rw, 0x0, 0x0⟩
def KS_TEAR_WORD : Fld := ⟨0x1e0, 15, 0, .rw, 0x0, 0x0⟩
-- R576 (spec chapter 17)
def LK_CFG_MC : Fld := ⟨0x100, 16, 16, .rw, 0x1, 0x0⟩
def LK_CFG_WIDTH : Fld := ⟨0x100, 9, 8, .rwd, 0x0, 0x0⟩
def LK_CFG_LANE : Fld := ⟨0x100, 6, 0, .rwd, 0x0, 0x0⟩
def LK_STAT_REMOTE_FAULT : Fld := ⟨0x104, 2, 2, .ro, 0x0, 0x0⟩
def LK_STAT_LOCAL_FAULT : Fld := ⟨0x104, 1, 1, .ro, 0x0, 0x0⟩
def LK_STAT_LINK_UP : Fld := ⟨0x104, 0, 0, .ro, 0x0, 0x0⟩
def LK_MAC_LO : Fld := ⟨0x108, 31, 0, .rw, 0x0, 0x0⟩
def LK_MAC_HI : Fld := ⟨0x10c, 31, 0, .rw, 0x0, 0x0⟩
def LK_VLAN_EN : Fld := ⟨0x110, 31, 31, .rw, 0x0, 0x0⟩
def LK_VLAN_PCP : Fld := ⟨0x110, 30, 28, .rw, 0x0, 0x0⟩
def LK_VLAN_VID : Fld := ⟨0x110, 11, 0, .rw, 0x0, 0x0⟩
def LK_ASYM : Fld := ⟨0x114, 31, 0, .rw, 0x0, 0x0⟩
def LK_RX_OK_LO : Fld := ⟨0x120, 31, 0, .ro, 0x0, 0x0⟩
def LK_RX_OK_HI : Fld := ⟨0x124, 31, 0, .ro, 0x0, 0x0⟩
def LK_TX_OK_LO : Fld := ⟨0x128, 31, 0, .ro, 0x0, 0x0⟩
def LK_TX_OK_HI : Fld := ⟨0x12c, 31, 0, .ro, 0x0, 0x0⟩
def LK_RUNT : Fld := ⟨0x130, 31, 0, .ro, 0x0, 0x0⟩
def LK_LONG : Fld := ⟨0x134, 31, 0, .ro, 0x0, 0x0⟩
def LK_FCS : Fld := ⟨0x138, 31, 0, .ro, 0x0, 0x0⟩
def LK_DA_DROP : Fld := ⟨0x13c, 31, 0, .ro, 0x0, 0x0⟩
def LK_BAD_RONRIS : Fld := ⟨0x140, 31, 0, .ro, 0x0, 0x0⟩
def LK_DUP : Fld := ⟨0x144, 31, 0, .ro, 0x0, 0x0⟩
def LK_TX_DROP : Fld := ⟨0x148, 31, 0, .ro, 0x0, 0x0⟩
-- R577 (spec chapter 17)
def POOL_CFG_CHIP_ID : Fld := ⟨0x100, 26, 16, .rwl, 0x0, 0x0⟩
def POOL_CFG_POOL_ID : Fld := ⟨0x100, 15, 0, .rwl, 0x0, 0x0⟩
def POOL_CFG2_ETYPE : Fld := ⟨0x104, 31, 16, .rwl, 0x88b5, 0x0⟩
def POOL_CFG2_RESET_EN : Fld := ⟨0x104, 0, 0, .rwl, 0x0, 0x0⟩
def POOL_CFG3_SEEK : Fld := ⟨0x108, 31, 16, .rw, 0xc0, 0x0⟩
def POOL_CFG3_FAIL_N : Fld := ⟨0x108, 3, 0, .rw, 0x3, 0x0⟩
def POOL_Q_OPQ : Fld := ⟨0x10c, 27, 16, .rw, 0x0, 0x0⟩
def POOL_Q_FWQ : Fld := ⟨0x10c, 11, 0, .rw, 0x0, 0x0⟩
def POOL_TREE_FANOUT : Fld := ⟨0x110, 31, 27, .rw, 0x10, 0x0⟩
def POOL_TREE_HOP : Fld := ⟨0x110, 23, 0, .rw, 0x18000, 0x0⟩
def POOL_STAT_N : Fld := ⟨0x114, 27, 16, .ro, 0x0, 0x0⟩
def POOL_STAT_OWN_MISS : Fld := ⟨0x114, 7, 4, .ro, 0x0, 0x0⟩
def POOL_STAT_STATE : Fld := ⟨0x114, 2, 0, .ro, 0x0, 0x0⟩
def POOL_VIEW : Fld := ⟨0x118, 31, 0, .ro, 0x0, 0x0⟩
def POOL_HB : Fld := ⟨0x11c, 0, 0, .wo, 0x0, 0x0⟩
def POOL_HELLO : Fld := ⟨0x120, 0, 0, .wo, 0x0, 0x0⟩
def POOL_SEND_TYPE : Fld := ⟨0x124, 31, 24, .wo, 0x0, 0x0⟩
def POOL_SEND_DST : Fld := ⟨0x124, 15, 0, .wo, 0x0, 0x0⟩
def POOL_SEND_ADDR_LO : Fld := ⟨0x128, 31, 0, .rw, 0x0, 0x0⟩
def POOL_SEND_ADDR_HI : Fld := ⟨0x12c, 31, 0, .rw, 0x0, 0x0⟩
def POOL_SEND_LEN : Fld := ⟨0x130, 13, 0, .rw, 0x0, 0x0⟩
def POOL_VS_NUM : Fld := ⟨0x134, 31, 0, .rw, 0x0, 0x0⟩
def POOL_VS_CNT : Fld := ⟨0x138, 11, 0, .rw, 0x0, 0x0⟩
def POOL_VS_ADDR_LO : Fld := ⟨0x140, 31, 0, .rw, 0x0, 0x0⟩
def POOL_VS_ADDR_HI : Fld := ⟨0x144, 31, 0, .rw, 0x0, 0x0⟩
def POOL_VS_AIR_LO : Fld := ⟨0x148, 31, 0, .rw, 0x0, 0x0⟩
def POOL_VS_AIR_HI : Fld := ⟨0x14c, 31, 0, .rw, 0x0, 0x0⟩
def POOL_VS_CMD_WITHDRAW : Fld := ⟨0x150, 1, 1, .wo, 0x0, 0x0⟩
def POOL_VS_CMD_LOAD : Fld := ⟨0x150, 0, 0, .wo, 0x0, 0x0⟩
def POOL_M_IDX : Fld := ⟨0x160, 10, 0, .rw, 0x0, 0x0⟩
def POOL_M_STAT_IN_VIEW : Fld := ⟨0x164, 31, 31, .ro, 0x0, 0x0⟩
def POOL_M_STAT_FAILED : Fld := ⟨0x164, 30, 30, .ro, 0x0, 0x0⟩
def POOL_M_STAT_SUSPECT : Fld := ⟨0x164, 29, 29, .ro, 0x0, 0x0⟩
def POOL_M_STAT_DISC : Fld := ⟨0x164, 28, 28, .ro, 0x0, 0x0⟩
def POOL_M_STAT_LINK : Fld := ⟨0x164, 27, 24, .ro, 0x0, 0x0⟩
def POOL_M_STAT_MISS : Fld := ⟨0x164, 23, 16, .ro, 0x0, 0x0⟩
def POOL_M_STAT_LAST : Fld := ⟨0x164, 15, 0, .ro, 0x0, 0x0⟩
def POOL_G_IDX : Fld := ⟨0x170, 7, 0, .rw, 0x0, 0x0⟩
def POOL_G_CFG_VALID : Fld := ⟨0x174, 31, 31, .rw, 0x0, 0x0⟩
def POOL_G_CFG_ROLE : Fld := ⟨0x174, 30, 30, .rw, 0x0, 0x0⟩
def POOL_G_CFG_PARTNER : Fld := ⟨0x174, 26, 16, .rw, 0x0, 0x0⟩
def POOL_G_CFG_CTX : Fld := ⟨0x174, 11, 0, .rw, 0x0, 0x0⟩
def POOL_G_MIR_LO : Fld := ⟨0x178, 31, 0, .rw, 0x0, 0x0⟩
def POOL_G_MIR_HI : Fld := ⟨0x17c, 31, 0, .rw, 0x0, 0x0⟩
def POOL_G_STG_LO : Fld := ⟨0x180, 31, 0, .rw, 0x0, 0x0⟩
def POOL_G_STG_HI : Fld := ⟨0x184, 31, 0, .rw, 0x0, 0x0⟩
def POOL_G_SIZE : Fld := ⟨0x188, 31, 0, .rw, 0x0, 0x0⟩
def POOL_G_H_LO : Fld := ⟨0x18c, 31, 0, .rw, 0x0, 0x0⟩
def POOL_G_H_HI : Fld := ⟨0x190, 31, 0, .rw, 0x0, 0x0⟩
def POOL_G_STAT_FENCED : Fld := ⟨0x194, 31, 31, .ro, 0x0, 0x0⟩
def POOL_G_STAT_NEED_FULL : Fld := ⟨0x194, 30, 30, .ro, 0x0, 0x0⟩
def POOL_G_STAT_FINAL : Fld := ⟨0x194, 29, 29, .ro, 0x0, 0x0⟩
def POOL_G_STAT_TAKEN : Fld := ⟨0x194, 28, 28, .ro, 0x0, 0x0⟩
def POOL_G_STAT_FCAUSE : Fld := ⟨0x194, 27, 24, .ro, 0x0, 0x0⟩
def POOL_G_STAT_FCOND : Fld := ⟨0x194, 23, 20, .ro, 0x0, 0x0⟩
def POOL_G_EPOCH : Fld := ⟨0x198, 31, 0, .ro, 0x0, 0x0⟩
def POOL_G_CMD : Fld := ⟨0x19c, 2, 0, .wo, 0x0, 0x0⟩
def POOL_CK_LIST_LO : Fld := ⟨0x1a0, 31, 0, .rw, 0x0, 0x0⟩
def POOL_CK_LIST_HI : Fld := ⟨0x1a4, 31, 0, .rw, 0x0, 0x0⟩
def POOL_CK_CNT : Fld := ⟨0x1a8, 15, 0, .rw, 0x0, 0x0⟩
def POOL_CK_GO_FINAL : Fld := ⟨0x1ac, 9, 9, .wo, 0x0, 0x0⟩
def POOL_CK_GO_FULL : Fld := ⟨0x1ac, 8, 8, .wo, 0x0, 0x0⟩
def POOL_CK_GO_G : Fld := ⟨0x1ac, 7, 0, .wo, 0x0, 0x0⟩
def POOL_OP_IDX : Fld := ⟨0x1c0, 7, 0, .rw, 0x0, 0x0⟩
def POOL_OP_CFG_ARG : Fld := ⟨0x1c4, 31, 16, .rw, 0x0, 0x0⟩
def POOL_OP_CFG_KIND : Fld := ⟨0x1c4, 2, 0, .rw, 0x0, 0x0⟩
def POOL_OP_T_LO : Fld := ⟨0x1c8, 31, 0, .rw, 0x0, 0x0⟩
def POOL_OP_T_HI : Fld := ⟨0x1cc, 31, 0, .rw, 0x0, 0x0⟩
def POOL_OP_PAY_LO : Fld := ⟨0x1d0, 31, 0, .rw, 0x0, 0x0⟩
def POOL_OP_PAY_HI : Fld := ⟨0x1d4, 31, 0, .rw, 0x0, 0x0⟩
def POOL_OP_CMD_ISSUE : Fld := ⟨0x1d8, 1, 1, .wo, 0x0, 0x0⟩
def POOL_OP_CMD_WRITE : Fld := ⟨0x1d8, 0, 0, .wo, 0x0, 0x0⟩
def POOL_OP_STAT_STATE : Fld := ⟨0x1dc, 31, 30, .ro, 0x0, 0x0⟩
def POOL_OP_STAT_OUTCOME : Fld := ⟨0x1dc, 29, 28, .ro, 0x0, 0x0⟩
def POOL_OP_STAT_COUNT : Fld := ⟨0x1dc, 11, 0, .ro, 0x0, 0x0⟩
def POOL_ARRIVE_INIT : Fld := ⟨0x1e0, 26, 16, .wo, 0x0, 0x0⟩
def POOL_ARRIVE_H : Fld := ⟨0x1e0, 7, 0, .wo, 0x0, 0x0⟩
def POOL_TIME : Fld := ⟨0x1f0, 10, 0, .rw, 0x0, 0x0⟩
def POOL_TIME2_INT : Fld := ⟨0x1f4, 31, 16, .rw, 0x10, 0x0⟩
def POOL_TIME2_RTT_MAX : Fld := ⟨0x1f4, 15, 0, .rw, 0x4ccc, 0x0⟩
def POOL_TIME_OFS : Fld := ⟨0x1f8, 31, 0, .ro, 0x0, 0x0⟩
def POOL_TIME_FAIL : Fld := ⟨0x1fc, 31, 0, .ro, 0x0, 0x0⟩
-- R608 (spec chapter 18)
def KP_CMD : Fld := ⟨0x100, 7, 0, .wo, 0x0, 0x0⟩
def KP_ARG : Fld := ⟨0x104, 31, 0, .rw, 0x0, 0x4⟩
def KP_RESULT_DONE : Fld := ⟨0x120, 31, 31, .ro, 0x0, 0x0⟩
def KP_RESULT_OK : Fld := ⟨0x120, 30, 30, .ro, 0x0, 0x0⟩
def KP_RESULT_CAUSE : Fld := ⟨0x120, 23, 16, .ro, 0x0, 0x0⟩
def KP_RESULT_EVENT : Fld := ⟨0x120, 15, 0, .ro, 0x0, 0x0⟩
def KP_STAT_KEEPER_UP : Fld := ⟨0x124, 1, 1, .ro, 0x0, 0x0⟩
def KP_STAT_BUSY : Fld := ⟨0x124, 0, 0, .ro, 0x0, 0x0⟩
def KP_UPTIME_LO : Fld := ⟨0x128, 31, 0, .ro, 0x0, 0x0⟩
def KP_UPTIME_HI : Fld := ⟨0x12c, 31, 0, .ro, 0x0, 0x0⟩
-- R609 (spec chapter 18)
def PWR_DECK_BUSY : Fld := ⟨0x100, 31, 31, .ro, 0x0, 0x0⟩
def PWR_DECK_CUR : Fld := ⟨0x100, 9, 8, .ro, 0x0, 0x0⟩
def PWR_DECK_REQ : Fld := ⟨0x100, 1, 0, .rw, 0x0, 0x0⟩
def PWR_MODE : Fld := ⟨0x104, 0, 0, .rwl, 0x0, 0x0⟩
def PWR_WAKE_EDGE : Fld := ⟨0x108, 7, 0, .rw, 0x0, 0x0⟩
def PWR_WAKE_GPIO0 : Fld := ⟨0x10c, 31, 0, .rw, 0x0, 0x0⟩
def PWR_WAKE_GPIO1 : Fld := ⟨0x110, 15, 0, .rw, 0x0, 0x0⟩
def PWR_WAKE_CAUSE_SRC : Fld := ⟨0x114, 14, 8, .ro, 0x0, 0x0⟩
def PWR_WAKE_CAUSE_CAUSE : Fld := ⟨0x114, 1, 0, .ro, 0x0, 0x0⟩
def PWR_WAKE_AIR_LO : Fld := ⟨0x118, 31, 0, .ro, 0x0, 0x0⟩
def PWR_WAKE_AIR_HI : Fld := ⟨0x11c, 31, 0, .ro, 0x0, 0x0⟩
def PWR_RST_CAUSE_LADDER : Fld := ⟨0x120, 5, 5, .ro, 0x0, 0x0⟩
def PWR_RST_CAUSE_POOL : Fld := ⟨0x120, 4, 4, .ro, 0x0, 0x0⟩
def PWR_RST_CAUSE_CONFIRM : Fld := ⟨0x120, 3, 3, .ro, 0x0, 0x0⟩
def PWR_RST_CAUSE_MAILBOX : Fld := ⟨0x120, 2, 2, .ro, 0x0, 0x0⟩
def PWR_RST_CAUSE_WARM_PIN : Fld := ⟨0x120, 1, 1, .ro, 0x0, 0x0⟩
def PWR_RST_CAUSE_POR : Fld := ⟨0x120, 0, 0, .ro, 0x1, 0x0⟩
def PWR_RAIL_STAT_FAIL : Fld := ⟨0x124, 19, 16, .ro, 0x0, 0x0⟩
def PWR_RAIL_STAT_ON : Fld := ⟨0x124, 15, 0, .ro, 0x0, 0x0⟩
def PWR_RAIL_A_EN : Fld := ⟨0x140, 31, 31, .ro, 0x0, 0x8⟩
def PWR_RAIL_A_PORT : Fld := ⟨0x140, 25, 24, .ro, 0x0, 0x8⟩
def PWR_RAIL_A_PAGE : Fld := ⟨0x140, 23, 16, .ro, 0xff, 0x8⟩
def PWR_RAIL_A_ADDR : Fld := ⟨0x140, 6, 0, .ro, 0x0, 0x8⟩
def PWR_RAIL_B_TMO : Fld := ⟨0x144, 31, 16, .ro, 0x0, 0x8⟩
def PWR_RAIL_B_DELAY : Fld := ⟨0x144, 15, 0, .ro, 0x0, 0x8⟩
-- R610 (spec chapter 18)
def D_REQ : Fld := ⟨0x100, 1, 0, .wo, 0x0, 0x0⟩
def D_STAT_BUSY : Fld := ⟨0x104, 31, 31, .ro, 0x0, 0x0⟩
def D_STAT_PLAN : Fld := ⟨0x104, 30, 30, .ro, 0x0, 0x0⟩
def D_STAT_LATCHED : Fld := ⟨0x104, 29, 29, .ro, 0x1, 0x0⟩
def D_STAT_IDLE : Fld := ⟨0x104, 28, 28, .ro, 0x0, 0x0⟩
def D_STAT_LAST_REQ : Fld := ⟨0x104, 23, 20, .ro, 0x0, 0x0⟩
def D_STAT_TARGET : Fld := ⟨0x104, 3, 2, .ro, 0x0, 0x0⟩
def D_STAT_CUR : Fld := ⟨0x104, 1, 0, .ro, 0x0, 0x0⟩
def D_CFG_IDLE_EN : Fld := ⟨0x108, 31, 31, .rw, 0x0, 0x0⟩
def D_CFG_IDLE_ST : Fld := ⟨0x108, 30, 29, .rw, 0x1, 0x0⟩
def D_CFG_QUIET_ST : Fld := ⟨0x108, 27, 26, .rw, 0x0, 0x0⟩
def D_CFG_IDLE_T : Fld := ⟨0x108, 23, 0, .rw, 0x400, 0x0⟩
def D_PAD : Fld := ⟨0x10c, 0, 0, .wo, 0x0, 0x0⟩
def D_REFUSE_REFUSER : Fld := ⟨0x110, 31, 28, .ro, 0x0, 0x0⟩
def D_REFUSE_REQUESTER : Fld := ⟨0x110, 27, 24, .ro, 0x0, 0x0⟩
def D_REFUSE_COUNT : Fld := ⟨0x110, 15, 0, .ro, 0x0, 0x0⟩
def D_ABORT_ABORTER : Fld := ⟨0x114, 31, 28, .ro, 0x0, 0x0⟩
def D_ABORT_COUNT : Fld := ⟨0x114, 15, 0, .ro, 0x0, 0x0⟩
def D_AIR_LO : Fld := ⟨0x118, 31, 0, .ro, 0x0, 0x0⟩
def D_AIR_HI : Fld := ⟨0x11c, 31, 0, .ro, 0x0, 0x0⟩
def D_DEFER : Fld := ⟨0x120, 15, 0, .ro, 0x0, 0x0⟩
-- R611 (spec chapter 18)
def PM_CFG_SPEED1 : Fld := ⟨0x100, 5, 4, .rw, 0x0, 0x0⟩
def PM_CFG_SPEED0 : Fld := ⟨0x100, 3, 2, .rw, 0x0, 0x0⟩
def PM_CFG_PEC1 : Fld := ⟨0x100, 1, 1, .rw, 0x1, 0x0⟩
def PM_CFG_PEC0 : Fld := ⟨0x100, 0, 0, .rw, 0x1, 0x0⟩
def PM_CMD_START : Fld := ⟨0x104, 31, 31, .wo, 0x0, 0x0⟩
def PM_CMD_RD : Fld := ⟨0x104, 30, 30, .rw, 0x0, 0x0⟩
def PM_CMD_PORT : Fld := ⟨0x104, 29, 29, .rw, 0x0, 0x0⟩
def PM_CMD_LEN : Fld := ⟨0x104, 28, 26, .rw, 0x0, 0x0⟩
def PM_CMD_ADDR : Fld := ⟨0x104, 22, 16, .rw, 0x0, 0x0⟩
def PM_CMD_CODE : Fld := ⟨0x104, 7, 0, .rw, 0x0, 0x0⟩
def PM_DATA : Fld := ⟨0x108, 31, 0, .rw, 0x0, 0x0⟩
def PM_STAT_PEC_ERR : Fld := ⟨0x10c, 3, 3, .ro, 0x0, 0x0⟩
def PM_STAT_TIMEOUT : Fld := ⟨0x10c, 2, 2, .ro, 0x0, 0x0⟩
def PM_STAT_NACK : Fld := ⟨0x10c, 1, 1, .ro, 0x0, 0x0⟩
def PM_STAT_BUSY : Fld := ⟨0x10c, 0, 0, .ro, 0x0, 0x0⟩
-- R640 (spec chapter 19)
def PP_LC_TORN : Fld := ⟨0x100, 3, 3, .ro, 0x0, 0x0⟩
def PP_LC_LC : Fld := ⟨0x100, 2, 0, .ro, 0x0, 0x0⟩
def PP_FAULT_STRAP : Fld := ⟨0x104, 8, 8, .ro, 0x0, 0x0⟩
def PP_FAULT_FW : Fld := ⟨0x104, 7, 7, .w1c, 0x0, 0x0⟩
def PP_FAULT_SCRAPPED : Fld := ⟨0x104, 6, 6, .ro, 0x0, 0x0⟩
def PP_FAULT_WDOG : Fld := ⟨0x104, 5, 5, .ro, 0x0, 0x0⟩
def PP_FAULT_SRC : Fld := ⟨0x104, 4, 0, .w1c, 0x0, 0x0⟩
def PP_FAULT_SET : Fld := ⟨0x108, 7, 7, .w1s, 0x0, 0x0⟩
def PP_TAMP_CFG_EN : Fld := ⟨0x110, 31, 31, .rwl, 0x0, 0x4⟩
def PP_TAMP_CFG_ACT_HIGH : Fld := ⟨0x110, 30, 30, .rwl, 0x0, 0x4⟩
def PP_TAMP_CFG_TOGGLE_EN : Fld := ⟨0x110, 29, 29, .rwl, 0x0, 0x4⟩
def PP_TAMP_CFG_ACTION : Fld := ⟨0x110, 25, 24, .rwl, 0x0, 0x4⟩
def PP_TAMP_CFG_FILT : Fld := ⟨0x110, 23, 8, .rwl, 0x0, 0x4⟩
def PP_TAMP_STAT_LATCH : Fld := ⟨0x120, 27, 24, .w1c, 0x0, 0x0⟩
def PP_TAMP_STAT_ACTIVE : Fld := ⟨0x120, 19, 16, .ro, 0x0, 0x0⟩
def PP_TAMP_STAT_RAW : Fld := ⟨0x120, 3, 0, .ro, 0x0, 0x0⟩
def PP_TAMP_UP_LO : Fld := ⟨0x128, 31, 0, .ro, 0x0, 0x0⟩
def PP_TAMP_UP_HI : Fld := ⟨0x12c, 31, 0, .ro, 0x0, 0x0⟩
def PP_CAISSON_LOCKED : Fld := ⟨0x130, 31, 31, .ro, 0x0, 0x0⟩
def PP_CAISSON_WIPING : Fld := ⟨0x130, 30, 30, .ro, 0x0, 0x0⟩
def PP_CAISSON_WIPES : Fld := ⟨0x130, 15, 0, .ro, 0x0, 0x0⟩
def PP_KDATA : Fld := ⟨0x140, 31, 0, .wo, 0x0, 0x4⟩
def PP_KCMD_OP : Fld := ⟨0x160, 31, 30, .wo, 0x0, 0x0⟩
def PP_KCMD_USE : Fld := ⟨0x160, 25, 24, .wo, 0x0, 0x0⟩
def PP_KCMD_HANDLE : Fld := ⟨0x160, 9, 0, .wo, 0x0, 0x0⟩
def PP_KIDX : Fld := ⟨0x168, 9, 0, .rw, 0x0, 0x0⟩
def PP_KSTAT_VALID : Fld := ⟨0x16c, 31, 31, .ro, 0x0, 0x0⟩
def PP_KSTAT_USE : Fld := ⟨0x16c, 25, 24, .ro, 0x0, 0x0⟩
def PP_KSTAT_REFS : Fld := ⟨0x16c, 15, 0, .ro, 0x0, 0x0⟩
def PP_SA_IDX_PORT : Fld := ⟨0x170, 13, 8, .rw, 0x0, 0x0⟩
def PP_SA_IDX_DIR : Fld := ⟨0x170, 4, 4, .rw, 0x0, 0x0⟩
def PP_SA_IDX_SC : Fld := ⟨0x170, 3, 2, .rw, 0x0, 0x0⟩
def PP_SA_IDX_AN : Fld := ⟨0x170, 1, 0, .rw, 0x0, 0x0⟩
def PP_SA_CFG_VALID : Fld := ⟨0x174, 31, 31, .rw, 0x0, 0x0⟩
def PP_SA_CFG_ACTIVE : Fld := ⟨0x174, 30, 30, .rw, 0x0, 0x0⟩
def PP_SA_CFG_HANDLE : Fld := ⟨0x174, 9, 0, .rw, 0x0, 0x0⟩
def PP_SA_SCI_LO : Fld := ⟨0x178, 31, 0, .rw, 0x0, 0x0⟩
def PP_SA_SCI_HI : Fld := ⟨0x17c, 31, 0, .rw, 0x0, 0x0⟩
def PP_SA_PN : Fld := ⟨0x180, 31, 0, .rw, 0x0, 0x0⟩
def PP_SA_CMD : Fld := ⟨0x184, 0, 0, .wo, 0x0, 0x0⟩
def PP_PK_IDX : Fld := ⟨0x190, 3, 0, .rw, 0x0, 0x0⟩
def PP_PK_STAT_VALID : Fld := ⟨0x194, 31, 31, .ro, 0x0, 0x0⟩
def PP_PK_STAT_REVOKED : Fld := ⟨0x194, 30, 30, .ro, 0x0, 0x0⟩
def PP_PK_STAT_PURPOSE : Fld := ⟨0x194, 18, 16, .ro, 0x0, 0x0⟩
def PP_PK_ID : Fld := ⟨0x198, 31, 0, .ro, 0x0, 0x0⟩
def PP_MINVER : Fld := ⟨0x19c, 5, 0, .ro, 0x0, 0x0⟩
def PP_RNG : Fld := ⟨0x1a0, 31, 0, .ro, 0x0, 0x0⟩
def PP_BOOT_REASON : Fld := ⟨0x1a4, 15, 8, .ro, 0x0, 0x0⟩
def PP_BOOT_RES : Fld := ⟨0x1a4, 5, 0, .ro, 0x0, 0x0⟩
def KW_CFG_ABUT_WIN : Fld := ⟨0x1c0, 31, 24, .rwl, 0x40, 0x0⟩
def KW_CFG_LADDER_MAX : Fld := ⟨0x1c0, 23, 20, .rwl, 0x2, 0x0⟩
def KW_CFG_RESTART_MAX : Fld := ⟨0x1c0, 19, 16, .rwl, 0x3, 0x0⟩
def KW_CFG_HART_TMO : Fld := ⟨0x1c0, 7, 0, .rwl, 0x4, 0x0⟩
def KW_MASK : Fld := ⟨0x1c4, 15, 0, .rwl, 0x0, 0x0⟩
def KW_KICK : Fld := ⟨0x1c8, 15, 0, .wo, 0x0, 0x0⟩
def KW_STAT_WDT_EXPIRED : Fld := ⟨0x1cc, 31, 31, .ro, 0x0, 0x0⟩
def KW_STAT_KEEPER_HALTED : Fld := ⟨0x1cc, 30, 30, .ro, 0x0, 0x0⟩
def KW_STAT_RUNG_PEND : Fld := ⟨0x1cc, 29, 29, .ro, 0x0, 0x0⟩
def KW_STAT_MISSED : Fld := ⟨0x1cc, 15, 0, .ro, 0x0, 0x0⟩
def KW_CNT_LADDER : Fld := ⟨0x1d0, 31, 24, .ro, 0x0, 0x0⟩
def KW_CNT_KRST : Fld := ⟨0x1d0, 23, 16, .ro, 0x0, 0x0⟩
def KW_CNT_ABUT : Fld := ⟨0x1d0, 15, 8, .ro, 0x0, 0x0⟩
def KW_CNT_HART : Fld := ⟨0x1d0, 7, 0, .ro, 0x0, 0x0⟩
-- R641 (spec chapter 19)
def DBG_STAT_ACCESS : Fld := ⟨0x100, 31, 30, .ro, 0x0, 0x0⟩
def DBG_STAT_AUTH : Fld := ⟨0x100, 29, 29, .ro, 0x0, 0x0⟩
def DBG_STAT_LOCKOUT : Fld := ⟨0x100, 28, 28, .ro, 0x0, 0x0⟩
def DBG_STAT_FAILS : Fld := ⟨0x100, 3, 0, .ro, 0x0, 0x0⟩
def DBG_CHAL : Fld := ⟨0x110, 31, 0, .ro, 0x0, 0x4⟩
def DBG_RESP : Fld := ⟨0x140, 31, 0, .wo, 0x0, 0x4⟩
def DBG_CMD_RELEASE_HALT : Fld := ⟨0x1a0, 3, 3, .wo, 0x0, 0x0⟩
def DBG_CMD_DEAUTH : Fld := ⟨0x1a0, 2, 2, .wo, 0x0, 0x0⟩
def DBG_CMD_VERIFY : Fld := ⟨0x1a0, 1, 1, .wo, 0x0, 0x0⟩
def DBG_CMD_NEW : Fld := ⟨0x1a0, 0, 0, .wo, 0x0, 0x0⟩
def DBG_KEY : Fld := ⟨0x1a4, 31, 0, .rw, 0x0, 0x0⟩
-- R642 (spec chapter 20)
def CNT_SEL_OVF : Fld := ⟨0x80, 31, 31, .w1c, 0x0, 0x10⟩
def CNT_SEL_CHAIN : Fld := ⟨0x80, 30, 30, .rw, 0x0, 0x10⟩
def CNT_SEL_MODE : Fld := ⟨0x80, 25, 24, .rw, 0x0, 0x10⟩
def CNT_SEL_EVENT : Fld := ⟨0x80, 7, 0, .rw, 0x0, 0x10⟩
def CNT_THR : Fld := ⟨0x84, 31, 0, .rw, 0x0, 0x10⟩
def CNT_LO : Fld := ⟨0x88, 31, 0, .rw, 0x0, 0x10⟩
def CNT_HI : Fld := ⟨0x8c, 15, 0, .rw, 0x0, 0x10⟩
-- R653 (spec chapter 20)
def PT_CTL_ARM : Fld := ⟨0xf00, 31, 31, .rw, 0x0, 0x0⟩
def PT_CTL_ACTIVE : Fld := ⟨0xf00, 30, 30, .ro, 0x0, 0x0⟩
def PT_CTL_EN : Fld := ⟨0xf00, 3, 0, .rw, 0x0, 0x0⟩
def PT_AT_LO : Fld := ⟨0xf04, 31, 0, .rw, 0x0, 0x0⟩
def PT_AT_HI : Fld := ⟨0xf08, 31, 0, .rw, 0x0, 0x0⟩
def PT_SEED : Fld := ⟨0xf0c, 31, 0, .rw, 0x1, 0x0⟩
def PT_STAT : Fld := ⟨0xf10, 3, 0, .ro, 0x0, 0x0⟩
def PT_CFG_KIND : Fld := ⟨0xf20, 31, 28, .rw, 0x0, 0x18⟩
def PT_CFG_COUNT : Fld := ⟨0xf20, 15, 0, .rw, 0x0, 0x18⟩
def PT_PARAM : Fld := ⟨0xf24, 31, 0, .rw, 0x0, 0x18⟩
def PT_RATE_RANDOM : Fld := ⟨0xf28, 31, 31, .rw, 0x0, 0x18⟩
def PT_RATE_N : Fld := ⟨0xf28, 15, 0, .rw, 0x0, 0x18⟩
def PT_MATCH_CTX_EN : Fld := ⟨0xf2c, 31, 31, .rw, 0x0, 0x18⟩
def PT_MATCH_SRC_EN : Fld := ⟨0xf2c, 30, 30, .rw, 0x0, 0x18⟩
def PT_MATCH_SOURCE : Fld := ⟨0xf2c, 27, 20, .rw, 0x0, 0x18⟩
def PT_MATCH_CTX : Fld := ⟨0xf2c, 11, 0, .rw, 0x0, 0x18⟩
def PT_HIT : Fld := ⟨0xf30, 31, 0, .ro, 0x0, 0x18⟩
def PT_SEEN : Fld := ⟨0xf34, 31, 0, .ro, 0x0, 0x18⟩
-- R660 (spec chapter 20)
def TS_SNAP_TAKE : Fld := ⟨0x100, 31, 31, .wo, 0x0, 0x0⟩
def TS_SNAP_SLOT : Fld := ⟨0x100, 7, 0, .wo, 0x0, 0x0⟩
def TS_STAT_BUSY : Fld := ⟨0x104, 31, 31, .ro, 0x0, 0x0⟩
def TS_STAT_SLOT : Fld := ⟨0x104, 15, 8, .ro, 0x0, 0x0⟩
def TS_STAT_OVERRUN : Fld := ⟨0x104, 7, 0, .ro, 0x0, 0x0⟩
def TS_SLOT_IDX : Fld := ⟨0x110, 7, 0, .rw, 0x0, 0x0⟩
def TS_SLOT_CFG_VALID : Fld := ⟨0x114, 31, 31, .rw, 0x0, 0x0⟩
def TS_SLOT_CFG_TOK_EN : Fld := ⟨0x114, 30, 30, .rw, 0x0, 0x0⟩
def TS_SLOT_CFG_QUEUE : Fld := ⟨0x114, 27, 16, .rw, 0x0, 0x0⟩
def TS_SLOT_CFG_NPAGES : Fld := ⟨0x114, 9, 0, .rw, 0x0, 0x0⟩
def TS_SLOT_LIST_LO : Fld := ⟨0x118, 31, 0, .rw, 0x0, 0x0⟩
def TS_SLOT_LIST_HI : Fld := ⟨0x11c, 31, 0, .rw, 0x0, 0x0⟩
def TS_SLOT_DST_LO : Fld := ⟨0x120, 31, 0, .rw, 0x0, 0x0⟩
def TS_SLOT_DST_HI : Fld := ⟨0x124, 31, 0, .rw, 0x0, 0x0⟩
def TS_SLOT_DEPTH_WIDX : Fld := ⟨0x128, 31, 16, .ro, 0x0, 0x0⟩
def TS_SLOT_DEPTH_DEPTH : Fld := ⟨0x128, 15, 0, .rw, 0x0, 0x0⟩
def TS_SLOT_SEQ : Fld := ⟨0x12c, 31, 0, .ro, 0x0, 0x0⟩
def TS_SLOT_CMD : Fld := ⟨0x130, 0, 0, .wo, 0x0, 0x0⟩
def TS_LAST_AIR_LO : Fld := ⟨0x138, 31, 0, .ro, 0x0, 0x0⟩
def TS_LAST_AIR_HI : Fld := ⟨0x13c, 31, 0, .ro, 0x0, 0x0⟩
def TS_TMO : Fld := ⟨0x140, 15, 0, .rw, 0x3c0, 0x0⟩
def TS_PT_DENIED : Fld := ⟨0x144, 31, 0, .ro, 0x0, 0x0⟩
def TS_BW_CFG_EN : Fld := ⟨0x200, 31, 31, .rw, 0x0, 0x20⟩
def TS_BW_CFG_COUNTER : Fld := ⟨0x200, 26, 24, .rw, 0x0, 0x20⟩
def TS_BW_CFG_PAGE : Fld := ⟨0x200, 11, 0, .rw, 0x0, 0x20⟩
def TS_BW_WIN_SCALE : Fld := ⟨0x204, 31, 16, .rw, 0x1, 0x20⟩
def TS_BW_WIN_W : Fld := ⟨0x204, 15, 0, .rw, 0x1, 0x20⟩
def TS_BW_BYTES_LO : Fld := ⟨0x208, 31, 0, .ro, 0x0, 0x20⟩
def TS_BW_BYTES_HI : Fld := ⟨0x20c, 31, 0, .ro, 0x0, 0x20⟩
def TS_BW_RATE : Fld := ⟨0x210, 31, 0, .ro, 0x0, 0x20⟩
def TS_BW_MAX : Fld := ⟨0x214, 31, 0, .ro, 0x0, 0x20⟩
def TS_BW_THR : Fld := ⟨0x218, 31, 0, .rw, 0xffffffff, 0x20⟩
def TS_BW_TAG_VALID : Fld := ⟨0x21c, 31, 31, .ro, 0x0, 0x20⟩
def TS_BW_TAG_ABOVE : Fld := ⟨0x21c, 30, 30, .ro, 0x0, 0x20⟩
def TS_BW_TAG_TAG : Fld := ⟨0x21c, 15, 0, .ro, 0x0, 0x20⟩
-- R691 (spec chapter 21)
def XS_CFG_OCTAL : Fld := ⟨0x100, 31, 31, .ro, 0x0, 0x0⟩
def XS_CFG_CLK : Fld := ⟨0x100, 2, 0, .rw, 0x0, 0x0⟩
def XS_CMD_START : Fld := ⟨0x104, 31, 31, .wo, 0x0, 0x0⟩
def XS_CMD_KIND : Fld := ⟨0x104, 30, 29, .rw, 0x0, 0x0⟩
def XS_CMD_RD : Fld := ⟨0x104, 28, 28, .rw, 0x0, 0x0⟩
def XS_CMD_DUMMY : Fld := ⟨0x104, 23, 16, .rw, 0x0, 0x0⟩
def XS_CMD_OPCODE : Fld := ⟨0x104, 7, 0, .rw, 0x0, 0x0⟩
def XS_ADDR : Fld := ⟨0x108, 31, 0, .rw, 0x0, 0x0⟩
def XS_LEN : Fld := ⟨0x10c, 23, 0, .rw, 0x0, 0x0⟩
def XS_BUF_LO : Fld := ⟨0x110, 31, 0, .rw, 0x0, 0x0⟩
def XS_BUF_HI : Fld := ⟨0x114, 31, 0, .rw, 0x0, 0x0⟩
def XS_DATA_LO : Fld := ⟨0x118, 31, 0, .rw, 0x0, 0x0⟩
def XS_DATA_HI : Fld := ⟨0x11c, 31, 0, .rw, 0x0, 0x0⟩
def XS_STAT_BUSY : Fld := ⟨0x120, 31, 31, .ro, 0x0, 0x0⟩
def XS_STAT_DONE : Fld := ⟨0x120, 30, 30, .w1c, 0x0, 0x0⟩
def XS_STAT_ERR : Fld := ⟨0x120, 29, 29, .ro, 0x0, 0x0⟩
def XS_STAT_EVENT : Fld := ⟨0x120, 15, 0, .ro, 0x0, 0x0⟩
-- R692 (spec chapter 21)
def U_CFG_DIV : Fld := ⟨0x100, 31, 8, .rwd, 0x42aab, 0x40⟩
def U_CFG_FLOW : Fld := ⟨0x100, 7, 7, .rwd, 0x0, 0x40⟩
def U_CFG_PARITY : Fld := ⟨0x100, 5, 4, .rwd, 0x0, 0x40⟩
def U_CFG_STOP2 : Fld := ⟨0x100, 3, 3, .rwd, 0x0, 0x40⟩
def U_CFG_BITS : Fld := ⟨0x100, 1, 0, .rwd, 0x0, 0x40⟩
def U_STAT_RXCNT : Fld := ⟨0x104, 22, 16, .ro, 0x0, 0x40⟩
def U_STAT_TXCNT : Fld := ⟨0x104, 14, 8, .ro, 0x0, 0x40⟩
def U_STAT_PERR : Fld := ⟨0x104, 2, 2, .w1c, 0x0, 0x40⟩
def U_STAT_FERR : Fld := ⟨0x104, 1, 1, .w1c, 0x0, 0x40⟩
def U_STAT_OVF : Fld := ⟨0x104, 0, 0, .w1c, 0x0, 0x40⟩
def U_TX : Fld := ⟨0x108, 7, 0, .wo, 0x0, 0x40⟩
def U_RX_VALID : Fld := ⟨0x10c, 31, 31, .ro, 0x0, 0x40⟩
def U_RX_PERR : Fld := ⟨0x10c, 9, 9, .ro, 0x0, 0x40⟩
def U_RX_FERR : Fld := ⟨0x10c, 8, 8, .ro, 0x0, 0x40⟩
def U_RX_DATA : Fld := ⟨0x10c, 7, 0, .ro, 0x0, 0x40⟩
def U_RXAIR_LO : Fld := ⟨0x110, 31, 0, .ro, 0x0, 0x40⟩
def U_RXAIR_HI : Fld := ⟨0x114, 31, 0, .ro, 0x0, 0x40⟩

end Sys2Proof.Rg
end

