-- ==== Sys2Proof/Machine/RegTables.lean ====
section
/-! DEFINITION. The registers of each kind of page, in the order of the spec's tables. -/
namespace Sys2Proof.Rg

/-- Registers of the irq page (R27). -/
def tab_irq : List RegDef :=
  [⟨0x10, 0x0, 1, false, [PG_IRQ_RAW_ERR, PG_IRQ_RAW_SRC]⟩,
   ⟨0x14, 0x0, 1, false, [PG_IRQ_EN]⟩,
   ⟨0x18, 0x0, 1, false, [PG_IRQ]⟩,
   ⟨0x1c, 0x0, 1, false, [PG_IRQ_FORCE]⟩]

/-- Registers of the cap page (R29). -/
def tab_cap : List RegDef :=
  [⟨0x20, 0x0, 1, false, [PG_ERR_CAP0_VALID, PG_ERR_CAP0_OVF, PG_ERR_CAP0_CTX, PG_ERR_CAP0_EVENT]⟩,
   ⟨0x24, 0x0, 1, false, [PG_ERR_CAP1]⟩,
   ⟨0x28, 0x0, 1, false, [PG_ERR_CAP2]⟩,
   ⟨0x2c, 0x0, 1, false, [PG_ERR_CAP3_DETAIL, PG_ERR_CAP3_ADDR_HI]⟩]

/-- Registers of the lock page (R32). -/
def tab_lock : List RegDef :=
  [⟨0xff0, 0x0, 1, false, [PG_LOCK_KEY, PG_LOCK_LOCK]⟩,
   ⟨0xff4, 0x0, 1, false, [PG_SCRATCH]⟩]

/-- Registers of the sys page (R45). -/
def tab_sys : List RegDef :=
  [⟨0x100, 0x0, 1, false, [SYS_ID0_PART, SYS_ID0_STEP_MAJ, SYS_ID0_STEP_MIN]⟩,
   ⟨0x104, 0x0, 1, false, [SYS_ID1_HBM_GIB, SYS_ID1_GRADE]⟩,
   ⟨0x108, 0x0, 1, true, [SYS_UID_LO]⟩,
   ⟨0x10c, 0x0, 1, false, [SYS_UID_HI]⟩,
   ⟨0x110, 0x0, 1, false, [SYS_MODE_STRAP, SYS_MODE_BUSY, SYS_MODE_TARGET, SYS_MODE_MODE]⟩,
   ⟨0x114, 0x0, 1, false, [SYS_LC]⟩,
   ⟨0x118, 0x0, 1, true, [SYS_MODE_AIR_LO]⟩,
   ⟨0x11c, 0x0, 1, false, [SYS_MODE_AIR_HI]⟩]

/-- Registers of the pylon page (R90). -/
def tab_pylon_0 : List RegDef :=
  [⟨0x100, 0x0, 1, false, [PY_STATE_SLEWING, PY_STATE_MODEL_V, PY_STATE_FSEL_V, PY_STATE_FSEL, PY_STATE_TSEL_V, PY_STATE_TSEL, PY_STATE_VALID, PY_STATE_STATE]⟩,
   ⟨0x104, 0x0, 1, false, [PY_CTL_SLEW_MAX, PY_CTL_LOOP_BW, PY_CTL_DRIFT2_ACT, PY_CTL_REVERT, PY_CTL_STEP_EN]⟩,
   ⟨0x108, 0x0, 1, true, [PY_AIR_LO]⟩,
   ⟨0x10c, 0x0, 1, false, [PY_AIR_HI]⟩,
   ⟨0x110, 0x0, 1, true, [PY_SEC_LO]⟩,
   ⟨0x114, 0x0, 1, false, [PY_SEC_HI]⟩,
   ⟨0x118, 0x0, 1, false, [PY_NS]⟩,
   ⟨0x11c, 0x0, 1, false, [PY_FRAC]⟩,
   ⟨0x120, 0x0, 1, false, [PY_PHASE]⟩,
   ⟨0x124, 0x0, 1, false, [PY_FREQ]⟩,
   ⟨0x128, 0x0, 1, false, [PY_TH_PHASE_OOT, PY_TH_LOCK_TH]⟩,
   ⟨0x12c, 0x0, 1, false, [PY_STEP_TH]⟩,
   ⟨0x130, 0x0, 1, true, [PY_HOLD_AIR_LO]⟩,
   ⟨0x134, 0x0, 1, false, [PY_HOLD_AIR_HI]⟩,
   ⟨0x138, 0x0, 1, true, [PY_COARSE_LO]⟩,
   ⟨0x13c, 0x0, 1, false, [PY_COARSE_HI]⟩]

/-- Registers of the pylon page (R90). -/
def tab_pylon_1 : List RegDef :=
  [⟨0x140, 0x0, 1, false, [HM_Y0]⟩,
   ⟨0x144, 0x0, 1, false, [HM_AGE]⟩,
   ⟨0x148, 0x0, 1, true, [HM_T0_LO]⟩,
   ⟨0x14c, 0x0, 1, false, [HM_T0_HI]⟩,
   ⟨0x150, 0x0, 1, false, [HM_CTL_LEARN_H, HM_CTL_TSRC, HM_CTL_LEARN, HM_CTL_MODEL_V]⟩,
   ⟨0x154, 0x0, 1, false, [HM_TNOW]⟩,
   ⟨0x158, 0x0, 1, false, [HM_TDIE]⟩,
   ⟨0x180, 0x4, 16, false, [HM_TEMP]⟩,
   ⟨0x1c0, 0x0, 1, false, [PPS_CFG_FILT, PPS_CFG_POL]⟩,
   ⟨0x1c4, 0x0, 1, false, [PPS_DELAY]⟩,
   ⟨0x1c8, 0x0, 1, true, [PPS_CAP_LO]⟩,
   ⟨0x1cc, 0x0, 1, false, [PPS_CAP_HI]⟩,
   ⟨0x1d0, 0x0, 1, true, [TOD_LO]⟩,
   ⟨0x1d4, 0x0, 1, false, [TOD_HI]⟩,
   ⟨0x1d8, 0x0, 1, false, [PPS_STAT_STUCK, PPS_STAT_TOD_PEND, PPS_STAT_LEVEL]⟩,
   ⟨0x1e0, 0x0, 1, false, [PPSO_CFG]⟩]

/-- Registers of the pylon page (R90). -/
def tab_pylon_2 : List RegDef :=
  [⟨0x1e4, 0x0, 1, false, [OUT_ADV0_SO2_ADV, OUT_ADV0_SO1_ADV, OUT_ADV0_SO0_ADV, OUT_ADV0_PPSO_ADV]⟩,
   ⟨0x1e8, 0x0, 1, false, [OUT_ADV1]⟩,
   ⟨0x200, 0x10, 16, false, [TB_CFG_MU, TB_CFG_KIND]⟩,
   ⟨0x204, 0x10, 16, true, [TB_ORG_LO]⟩,
   ⟨0x208, 0x10, 16, false, [TB_ORG_HI]⟩,
   ⟨0x20c, 0x10, 16, false, [TB_NOW]⟩]

/-- Registers of the pylon page (R90). -/
def tab_pylon : List RegDef := tab_pylon_0 ++ tab_pylon_1 ++ tab_pylon_2

/-- Registers of the pylonRef page (R91). -/
def tab_pylonRef_0 : List RegDef :=
  [⟨0x100, 0x20, 8, false, [REF_CFG_PRIO, REF_CFG_SRC, REF_CFG_KIND, REF_CFG_EN]⟩,
   ⟨0x104, 0x20, 8, false, [REF_STAT_WTR_LEFT, REF_STAT_CAUSE, REF_STAT_SEL_F, REF_STAT_SEL_T, REF_STAT_STATE]⟩,
   ⟨0x108, 0x20, 8, false, [REF_OFS]⟩,
   ⟨0x10c, 0x20, 8, false, [REF_OFS_AIR]⟩,
   ⟨0x110, 0x20, 8, false, [REF_Y1]⟩,
   ⟨0x114, 0x20, 8, false, [REF_Y16]⟩,
   ⟨0x118, 0x20, 8, false, [REF_Y256]⟩,
   ⟨0x200, 0x0, 1, false, [QUAL_TH]⟩,
   ⟨0x204, 0x0, 1, false, [QUAL_TIME_WTR, QUAL_TIME_QUAL]⟩,
   ⟨0x208, 0x0, 1, false, [DRIFT_TH1]⟩,
   ⟨0x20c, 0x0, 1, false, [DRIFT_TH16]⟩,
   ⟨0x210, 0x0, 1, false, [DRIFT_TH256]⟩,
   ⟨0x214, 0x0, 1, false, [DRIFT_W1_DIS, DRIFT_W1_WHO, DRIFT_W1_RESULT]⟩,
   ⟨0x218, 0x0, 1, false, [DRIFT_W16_DIS, DRIFT_W16_WHO, DRIFT_W16_RESULT]⟩,
   ⟨0x21c, 0x0, 1, false, [DRIFT_W256_DIS, DRIFT_W256_WHO, DRIFT_W256_RESULT]⟩,
   ⟨0x220, 0x0, 1, false, [LO_Y1]⟩]

/-- Registers of the pylonRef page (R91). -/
def tab_pylonRef_1 : List RegDef :=
  [⟨0x224, 0x0, 1, false, [LO_Y16]⟩,
   ⟨0x228, 0x0, 1, false, [LO_Y256]⟩]

/-- Registers of the pylonRef page (R91). -/
def tab_pylonRef : List RegDef := tab_pylonRef_0 ++ tab_pylonRef_1

/-- Registers of the pylonTrig page (R92). -/
def tab_pylonTrig : List RegDef :=
  [⟨0x100, 0x0, 1, false, [TRG_IDX]⟩,
   ⟨0x104, 0x0, 1, true, [TRG_TGT_LO]⟩,
   ⟨0x108, 0x0, 1, false, [TRG_TGT_HI]⟩,
   ⟨0x10c, 0x0, 1, false, [TRG_PER]⟩,
   ⟨0x110, 0x0, 1, false, [TRG_ARG]⟩,
   ⟨0x114, 0x0, 1, false, [TRG_CTL_COUNT, TRG_CTL_ACTION]⟩,
   ⟨0x118, 0x0, 1, false, [TRG_CMD]⟩,
   ⟨0x11c, 0x0, 1, false, [TRG_STAT_FIRED, TRG_STAT_CARRY, TRG_STAT_OWNER, TRG_STAT_LATE, TRG_STAT_ARMED]⟩,
   ⟨0x120, 0x0, 1, true, [TRG_LAST_LO]⟩,
   ⟨0x124, 0x0, 1, false, [TRG_LAST_HI]⟩,
   ⟨0x140, 0x4, 32, false, [TRG_ARMED]⟩]

/-- Registers of the gpio page (R93). -/
def tab_gpio : List RegDef :=
  [⟨0x100, 0x8, 48, false, [GPIO_CFG_FSCALE, GPIO_CFG_FILT, GPIO_CFG_CAP, GPIO_CFG_INV, GPIO_CFG_EDGE]⟩,
   ⟨0x104, 0x8, 48, false, [GPIO_LIM_STUCK, GPIO_LIM_RATE]⟩,
   ⟨0x280, 0x0, 1, false, [GPIO_IN0]⟩,
   ⟨0x284, 0x0, 1, false, [GPIO_IN1]⟩,
   ⟨0x288, 0x0, 1, false, [GPIO_OUT0]⟩,
   ⟨0x28c, 0x0, 1, false, [GPIO_OUT1]⟩,
   ⟨0x290, 0x0, 1, false, [GPIO_OE0]⟩,
   ⟨0x294, 0x0, 1, false, [GPIO_OE1]⟩,
   ⟨0x298, 0x0, 1, false, [GPIO_STUCK0]⟩,
   ⟨0x29c, 0x0, 1, false, [GPIO_STUCK1]⟩,
   ⟨0x2a0, 0x0, 1, false, [GPIO_CAP_INFO_VALID, GPIO_CAP_INFO_EDGE, GPIO_CAP_INFO_LEFT, GPIO_CAP_INFO_PIN]⟩,
   ⟨0x2a4, 0x0, 1, true, [GPIO_CAP_LO]⟩,
   ⟨0x2a8, 0x0, 1, false, [GPIO_CAP_HI]⟩]

/-- Registers of the deck page (R132). -/
def tab_deck_0 : List RegDef :=
  [⟨0x100, 0x0, 1, false, [DK_STAT_PEND, DK_STAT_RUN_SLOT, DK_STAT_GRID_V, DK_STAT_THERM, DK_STAT_PLEVEL, DK_STAT_STATE]⟩,
   ⟨0x104, 0x0, 1, false, [DK_CMD_SLOT, DK_CMD_CMD]⟩,
   ⟨0x108, 0x0, 1, false, [DK_RESULT_DONE, DK_RESULT_OK, DK_RESULT_EVENT]⟩,
   ⟨0x110, 0x0, 1, true, [DK_IMG_LO]⟩,
   ⟨0x114, 0x0, 1, false, [DK_IMG_HI]⟩,
   ⟨0x118, 0x0, 1, true, [DK_ARM_LO]⟩,
   ⟨0x11c, 0x0, 1, false, [DK_ARM_HI]⟩,
   ⟨0x120, 0x0, 1, false, [DK_ARM_CFG_PHASE, DK_ARM_CFG_VAR1, DK_ARM_CFG_VAR0]⟩,
   ⟨0x128, 0x0, 1, false, [DK_PLAN0]⟩,
   ⟨0x130, 0x0, 1, false, [DK_PLAN1]⟩,
   ⟨0x12c, 0x0, 1, false, [DK_REV0]⟩,
   ⟨0x134, 0x0, 1, false, [DK_REV1]⟩,
   ⟨0x138, 0x0, 1, true, [DK_ORG_LO]⟩,
   ⟨0x13c, 0x0, 1, false, [DK_ORG_HI]⟩,
   ⟨0x140, 0x0, 1, true, [DK_SPAN_LO]⟩,
   ⟨0x144, 0x0, 1, false, [DK_SPAN_HI]⟩]

/-- Registers of the deck page (R132). -/
def tab_deck_1 : List RegDef :=
  [⟨0x148, 0x0, 1, false, [DK_POS]⟩,
   ⟨0x150, 0x0, 1, false, [DK_LEASE]⟩,
   ⟨0x154, 0x0, 1, false, [DK_LEASE_STAT]⟩,
   ⟨0x158, 0x0, 1, true, [DK_LEASE_END_LO]⟩,
   ⟨0x15c, 0x0, 1, false, [DK_LEASE_END_HI]⟩,
   ⟨0x160, 0x0, 1, false, [DK_THERM_HBM_T, DK_THERM_HOT_EXIT, DK_THERM_HOT_ENTER]⟩,
   ⟨0x164, 0x0, 1, false, [DK_FAILCFG]⟩,
   ⟨0x168, 0x0, 1, false, [DK_FAIL_SET]⟩,
   ⟨0x16c, 0x0, 1, false, [DK_REPLAY_FAIL, DK_REPLAY_OK]⟩,
   ⟨0x180, 0x4, 8, false, [DK_FAIL_VALID, DK_FAIL_UNIT]⟩]

/-- Registers of the deck page (R132). -/
def tab_deck : List RegDef := tab_deck_0 ++ tab_deck_1

/-- Registers of the deckVariant page (R133). -/
def tab_deckVariant : List RegDef :=
  [⟨0x100, 0x0, 1, false, [DV_SEL_TAG, DV_SEL_VAR]⟩,
   ⟨0x104, 0x0, 1, false, [DV_STAT_NEXT_HOT, DV_STAT_CUR_HOT, DV_STAT_NEXT_DEG, DV_STAT_CUR_DEG, DV_STAT_NEXT_DEF, DV_STAT_CUR_DEF, DV_STAT_NEXT, DV_STAT_CUR]⟩,
   ⟨0x108, 0x0, 1, false, [DV_SPAN]⟩,
   ⟨0x10c, 0x0, 1, false, [DV_LATE]⟩]

/-- Registers of the pier page (R173). -/
def tab_pier : List RegDef :=
  [⟨0x100, 0x0, 1, false, [P_STAT_STATE, P_STAT_SHADOW, P_STAT_EV1_PEND, P_STAT_EV0_PEND, P_STAT_BUF_V, P_STAT_BUF_LVL, P_STAT_LVL_ACT, P_STAT_TAG]⟩,
   ⟨0x104, 0x0, 1, false, [P_PC]⟩,
   ⟨0x108, 0x0, 1, false, [P_START_OFS]⟩,
   ⟨0x10c, 0x0, 1, false, [P_END_OFS]⟩,
   ⟨0x110, 0x0, 1, false, [P_FAULT]⟩,
   ⟨0x114, 0x0, 1, false, [P_FLTCNT_ECC_CORR, P_FLTCNT_RESIDUE]⟩,
   ⟨0x118, 0x0, 1, false, [P_EVCNT_MERGED, P_EVCNT_TAKEN]⟩,
   ⟨0x11c, 0x0, 1, false, [P_EVDISC]⟩]

/-- Registers of the bay page (R174, R438). -/
def tab_bay_0 : List RegDef :=
  [⟨0x100, 0x0, 1, false, [BAY_STAT_FAULT, BAY_STAT_RUN, BAY_STAT_FENCED]⟩,
   ⟨0x104, 0x0, 1, false, [BAY_DYN]⟩,
   ⟨0x200, 0x0, 1, false, [MEM_SCR_CFG_INT, MEM_SCR_CFG_EN]⟩,
   ⟨0x204, 0x0, 1, false, [MEM_SCR_STAT_LAPS, MEM_SCR_STAT_BUSY]⟩,
   ⟨0x208, 0x0, 1, true, [MEM_LAP_AIR_LO]⟩,
   ⟨0x20c, 0x0, 1, false, [MEM_LAP_AIR_HI]⟩,
   ⟨0x210, 0x0, 1, false, [MEM_LAP_CY]⟩,
   ⟨0x214, 0x0, 1, false, [MEM_LAP_SUM_CORR, MEM_LAP_SUM_UE, MEM_LAP_SUM_DEFER]⟩,
   ⟨0x218, 0x0, 1, false, [MEM_INIT_START, MEM_INIT_SEL]⟩,
   ⟨0x21c, 0x0, 1, false, [MEM_INIT_STAT_DONE, MEM_INIT_STAT_BUSY]⟩,
   ⟨0x220, 0x0, 1, false, [MEM_CEL_INFO_VALID, MEM_CEL_INFO_SCRUB, MEM_CEL_INFO_LEFT, MEM_CEL_INFO_COUNT, MEM_CEL_INFO_SYND]⟩,
   ⟨0x224, 0x0, 1, true, [MEM_CEL_ADDR_LO]⟩,
   ⟨0x228, 0x0, 1, false, [MEM_CEL_ADDR_HI]⟩,
   ⟨0x22c, 0x0, 1, false, [MEM_CEL_AIR]⟩,
   ⟨0x230, 0x4, 4, false, [MEM_CONF]⟩,
   ⟨0x240, 0x4, 8, false, [MEM_PCONF]⟩]

/-- Registers of the bay page (R174, R438). -/
def tab_bay_1 : List RegDef :=
  [⟨0x260, 0x4, 4, false, [MEM_ECONF]⟩,
   ⟨0x270, 0x0, 1, false, [MEM_UE_CNT_UE, MEM_UE_CNT_POISON]⟩,
   ⟨0x274, 0x0, 1, false, [MEM_CE_CNT]⟩]

/-- Registers of the bay page (R174, R438). -/
def tab_bay : List RegDef := tab_bay_0 ++ tab_bay_1

/-- Registers of the eng page (R239). -/
def tab_eng : List RegDef :=
  [⟨0x100, 0x0, 1, false, [ENG_STAT_BUSY, ENG_STAT_LENT, ENG_STAT_DYN, ENG_STAT_LAST_STATE, ENG_STAT_TAG]⟩,
   ⟨0x104, 0x0, 1, false, [ENG_LAST_OFS]⟩,
   ⟨0x108, 0x0, 1, false, [ENG_LAST_DESC]⟩,
   ⟨0x10c, 0x0, 1, false, [ENG_CHK]⟩,
   ⟨0x110, 0x0, 1, false, [ENG_FAULTS_QUAL, ENG_FAULTS_FAULT]⟩,
   ⟨0x114, 0x0, 1, false, [ENG_ERRS_ECC_CORR, ENG_ERRS_DESC]⟩,
   ⟨0x118, 0x0, 1, false, [ENG_ACT_DET, ENG_ACT_ITEMS]⟩]

/-- Registers of the hq page (R278). -/
def tab_hq : List RegDef :=
  [⟨0x140, 0x0, 1, false, [HQ_EPOCH_IDX]⟩,
   ⟨0x144, 0x0, 1, false, [HQ_EPOCH]⟩,
   ⟨0x148, 0x0, 1, false, [HQ_FLUSH_ALL, HQ_FLUSH_CTX]⟩,
   ⟨0x14c, 0x0, 1, false, [HQ_FLUSH_CNT]⟩]

/-- Registers of the lane page (R336). -/
def tab_lane_0 : List RegDef :=
  [⟨0x100, 0x0, 1, false, [LN_CFG_RX_PRE, LN_CFG_TX_PRE, LN_CFG_RX_INV, LN_CFG_TX_INV, LN_CFG_PERS]⟩,
   ⟨0x104, 0x0, 1, false, [LN_STAT_RX_STATE, LN_STAT_TX_STATE, LN_STAT_QPLL_LOCK, LN_STAT_PRBS_LOCK, LN_STAT_HI_SER, LN_STAT_HI_BER, LN_STAT_ADAPT_DONE, LN_STAT_AM_LOCK, LN_STAT_BLOCK_LOCK, LN_STAT_CDR_LOCK, LN_STAT_SD]⟩,
   ⟨0x108, 0x0, 1, false, [LN_HBER_WIN, LN_HBER_TH]⟩,
   ⟨0x10c, 0x0, 1, false, [LN_HSER_WIN, LN_HSER_TH]⟩,
   ⟨0x110, 0x0, 1, false, [LN_BADHDR]⟩,
   ⟨0x114, 0x0, 1, false, [LN_LOCKEV_LOS, LN_LOCKEV_LOCKLOSS]⟩,
   ⟨0x118, 0x0, 1, false, [LN_FEC_SYM]⟩,
   ⟨0x11c, 0x0, 1, false, [LN_CNT_CLR]⟩,
   ⟨0x120, 0x0, 1, true, [LN_FEC_CORR_LO]⟩,
   ⟨0x124, 0x0, 1, false, [LN_FEC_CORR_HI]⟩,
   ⟨0x128, 0x0, 1, false, [LN_FEC_UNC]⟩,
   ⟨0x130, 0x0, 1, false, [LN_RX_VAR]⟩,
   ⟨0x140, 0x0, 1, false, [LN_TXEQ_PRE2, LN_TXEQ_PRE1, LN_TXEQ_MAIN, LN_TXEQ_POST1]⟩,
   ⟨0x144, 0x0, 1, false, [LN_RXEQ_CDR_BW, LN_RXEQ_RESTART, LN_RXEQ_FREEZE]⟩,
   ⟨0x148, 0x0, 1, false, [LN_SD_ACT_FILT, LN_SD_SD_TH]⟩,
   ⟨0x150, 0x0, 1, false, [LN_SLEEP_WAKE_AUTO, LN_SLEEP_WAKE_OS_EN, LN_SLEEP_WAKE_ACT_EN, LN_SLEEP_RX_REQ, LN_SLEEP_TX_REQ]⟩]

/-- Registers of the lane page (R336). -/
def tab_lane_1 : List RegDef :=
  [⟨0x154, 0x0, 1, false, [LN_SLEEP_STAT_LAST_WAKE, LN_SLEEP_STAT_BUSY]⟩,
   ⟨0x158, 0x0, 1, false, [LN_WAKE_OS_SENT, LN_WAKE_OS_REP, LN_WAKE_OS_SEND]⟩,
   ⟨0x160, 0x0, 1, false, [LN_QPLL_CPRI_LOCK, LN_QPLL_ETH_LOCK, LN_QPLL_OFF_OK, LN_QPLL_CPRI_SRC, LN_QPLL_ETH_SRC]⟩,
   ⟨0x180, 0x0, 1, false, [LN_ES_CFG_EYE, LN_ES_CFG_VOFS, LN_ES_CFG_PHASE]⟩,
   ⟨0x184, 0x0, 1, false, [LN_ES_DWELL]⟩,
   ⟨0x188, 0x0, 1, false, [LN_ES_CMD_ABORT, LN_ES_CMD_START]⟩,
   ⟨0x18c, 0x0, 1, false, [LN_ES_STAT_VSTEP, LN_ES_STAT_RESULT, LN_ES_STAT_DONE, LN_ES_STAT_BUSY]⟩,
   ⟨0x190, 0x0, 1, true, [LN_ES_SAMP_LO]⟩,
   ⟨0x194, 0x0, 1, false, [LN_ES_SAMP_HI]⟩,
   ⟨0x198, 0x0, 1, false, [LN_ES_ERR]⟩,
   ⟨0x1c0, 0x0, 1, false, [LN_PRBS_LOOP, LN_PRBS_RX_PAT, LN_PRBS_TX_PAT]⟩,
   ⟨0x1c4, 0x0, 1, false, [LN_PRBS_ERR]⟩,
   ⟨0x1c8, 0x0, 1, false, [LN_INJ_RATE, LN_INJ_N, LN_INJ_KIND]⟩,
   ⟨0x1cc, 0x0, 1, false, [LN_INJ_CNT]⟩]

/-- Registers of the lane page (R336). -/
def tab_lane : List RegDef := tab_lane_0 ++ tab_lane_1

/-- Registers of the au page (R376). -/
def tab_au : List RegDef :=
  [⟨0x100, 0x0, 1, false, [AU_FWQ]⟩,
   ⟨0x104, 0x0, 1, false, [AU_PCFG_LOSS, AU_PCFG_LEARN]⟩,
   ⟨0x110, 0x0, 1, false, [AU_FLOW_IDX]⟩,
   ⟨0x114, 0x0, 1, false, [AU_FLOW_W0_VALID, AU_FLOW_W0_DIR, AU_FLOW_W0_PLANE, AU_FLOW_W0_PORT, AU_FLOW_W0_EAXC]⟩,
   ⟨0x118, 0x0, 1, false, [AU_FLOW_W1]⟩,
   ⟨0x11c, 0x0, 1, false, [AU_FLOW_W2_VLAN_EN, AU_FLOW_W2_PCP, AU_FLOW_W2_VID, AU_FLOW_W2_DA]⟩,
   ⟨0x120, 0x0, 1, false, [AU_FLOW_W3_PARTNER, AU_FLOW_W3_NRB, AU_FLOW_W3_PARAM, AU_FLOW_W3_DYN, AU_FLOW_W3_METH]⟩,
   ⟨0x124, 0x0, 1, false, [AU_FLOW_W4]⟩,
   ⟨0x128, 0x0, 1, false, [AU_FLOW_CMD]⟩,
   ⟨0x130, 0x4, 9, false, [AU_FCNT]⟩,
   ⟨0x160, 0x0, 1, false, [AU_PT_IDX]⟩,
   ⟨0x164, 0x0, 1, true, [AU_PT_MAC_LO]⟩,
   ⟨0x168, 0x0, 1, false, [AU_PT_MAC_HI]⟩,
   ⟨0x16c, 0x0, 1, false, [AU_PT_CTL_STATE, AU_PT_CTL_HOLD_TX, AU_PT_CTL_PORT]⟩,
   ⟨0x170, 0x0, 1, false, [AU_PT_CMD]⟩]

/-- Registers of the em page (R377). -/
def tab_em_0 : List RegDef :=
  [⟨0x100, 0x0, 1, false, [EM_CFG_MAXLEN, EM_CFG_SER_LF, EM_CFG_FWD_OTHER, EM_CFG_LANE]⟩,
   ⟨0x104, 0x0, 1, false, [EM_CFG2]⟩,
   ⟨0x108, 0x0, 1, false, [EM_STAT_REMOTE_FAULT, EM_STAT_LOCAL_FAULT, EM_STAT_LINK_UP]⟩,
   ⟨0x110, 0x0, 1, true, [EM_MAC_LO]⟩,
   ⟨0x114, 0x0, 1, false, [EM_MAC_HI]⟩,
   ⟨0x118, 0x8, 8, true, [EM_MCAST_LO]⟩,
   ⟨0x11c, 0x8, 8, false, [EM_MCAST_HI]⟩,
   ⟨0x160, 0x0, 1, false, [EM_EEE_IDLE, EM_EEE_EN]⟩,
   ⟨0x170, 0x0, 1, false, [EM_TS_INFO_VALID, EM_TS_INFO_TAG]⟩,
   ⟨0x174, 0x0, 1, true, [EM_TS_LO]⟩,
   ⟨0x178, 0x0, 1, false, [EM_TS_HI]⟩,
   ⟨0x180, 0x0, 1, false, [EM_SEC_CTL]⟩,
   ⟨0x184, 0x0, 1, false, [EM_SEC_PNTH]⟩,
   ⟨0x188, 0x0, 1, false, [EM_SEC_RPW]⟩,
   ⟨0x18c, 0x4, 2, false, [EM_SEC_BYPASS]⟩,
   ⟨0x200, 0x0, 1, true, [EM_RX_OK_LO]⟩]

/-- Registers of the em page (R377). -/
def tab_em_1 : List RegDef :=
  [⟨0x204, 0x0, 1, false, [EM_RX_OK_HI]⟩,
   ⟨0x208, 0x0, 1, true, [EM_TX_OK_LO]⟩,
   ⟨0x20c, 0x0, 1, false, [EM_TX_OK_HI]⟩,
   ⟨0x210, 0x0, 1, false, [EM_RUNT]⟩,
   ⟨0x214, 0x0, 1, false, [EM_LONG]⟩,
   ⟨0x218, 0x0, 1, false, [EM_FCS]⟩,
   ⟨0x21c, 0x0, 1, false, [EM_DA_DROP]⟩,
   ⟨0x220, 0x0, 1, false, [EM_MACCTL]⟩,
   ⟨0x224, 0x0, 1, false, [EM_TX_DROP]⟩,
   ⟨0x228, 0x0, 1, false, [EM_SEC_DROP]⟩,
   ⟨0x22c, 0x0, 1, false, [TX_OVERSIZE]⟩]

/-- Registers of the em page (R377). -/
def tab_em : List RegDef := tab_em_0 ++ tab_em_1

/-- Registers of the cp page (R378). -/
def tab_cp : List RegDef :=
  [⟨0x100, 0x0, 1, false, [CP_CFG]⟩,
   ⟨0x104, 0x0, 1, false, [CP_CTRL_DEG_ACT, CP_CTRL_GO_F]⟩,
   ⟨0x108, 0x0, 1, false, [CP_STAT_ACT_PAGE, CP_STAT_DEF, CP_STAT_STATE]⟩,
   ⟨0x110, 0x0, 1, true, [CP_ORG_LO]⟩,
   ⟨0x114, 0x0, 1, false, [CP_ORG_HI]⟩,
   ⟨0x118, 0x0, 1, false, [CP_RXDLY]⟩,
   ⟨0x11c, 0x0, 1, false, [CP_RXOFS]⟩,
   ⟨0x120, 0x0, 1, false, [CP_CM]⟩,
   ⟨0x124, 0x0, 1, false, [CP_TSI]⟩,
   ⟨0x128, 0x0, 1, true, [CP_TSI_AIR_LO]⟩,
   ⟨0x12c, 0x0, 1, false, [CP_TSI_AIR_HI]⟩,
   ⟨0x130, 0x0, 1, false, [CP_DEG_HOLD, CP_DEG_EXP, CP_DEG_WIN]⟩,
   ⟨0x134, 0x0, 1, false, [CP_LOSTMS]⟩,
   ⟨0x140, 0x0, 1, false, [CP_CW_TX]⟩,
   ⟨0x144, 0x0, 1, false, [CP_CW_RX]⟩,
   ⟨0x150, 0x4, 4, false, [CP_CNT]⟩]

/-- Registers of the router page (R406). -/
def tab_router : List RegDef :=
  [⟨0x100, 0x0, 1, false, [RT_POS_INST, RT_POS_Y, RT_POS_X]⟩,
   ⟨0x104, 0x0, 1, false, [RT_STAT_ANY_DEAD, RT_STAT_RESV]⟩,
   ⟨0x108, 0x0, 1, false, [RT_REVIVE_GO, RT_REVIVE_ATT]⟩,
   ⟨0x110, 0x4, 5, false, [RT_HOLD]⟩,
   ⟨0x124, 0x0, 1, false, [RT_WAIT_MAX]⟩,
   ⟨0x128, 0x0, 1, false, [RT_C0_UNITS]⟩,
   ⟨0x12c, 0x0, 1, false, [RT_ERR_ECC_CORR, RT_ERR_POISON]⟩,
   ⟨0x130, 0x0, 1, false, [RT_CLR]⟩,
   ⟨0x140, 0x4, 4, false, [RT_DEAD]⟩]

/-- Registers of the truss page (R407). -/
def tab_truss : List RegDef :=
  [⟨0x100, 0x0, 1, false, [TR_ARB_AGE, TR_ARB_W1]⟩,
   ⟨0x104, 0x0, 1, false, [TR_TMO_RSP_TO, TR_TMO_DEAD_TO]⟩,
   ⟨0x108, 0x0, 1, false, [TR_WIN]⟩,
   ⟨0x140, 0x20, 4, false, [TR_MON_CFG_EN, TR_MON_CFG_CLASS, TR_MON_CFG_SOURCE]⟩,
   ⟨0x144, 0x20, 4, false, [TR_MON_REQ]⟩,
   ⟨0x148, 0x20, 4, false, [TR_MON_UNITS]⟩,
   ⟨0x14c, 0x20, 4, false, [TR_MON_LAT_SUM]⟩,
   ⟨0x150, 0x20, 4, false, [TR_MON_LAT_MAX]⟩,
   ⟨0x154, 0x20, 4, false, [TR_MON_HOLD]⟩,
   ⟨0x158, 0x20, 4, false, [TR_MON_TAG]⟩]

/-- Registers of the bm page (R439). -/
def tab_bm_0 : List RegDef :=
  [⟨0x100, 0x0, 1, false, [BM_CFG_SCR_EN, BM_CFG_UE_ACT]⟩,
   ⟨0x104, 0x0, 1, false, [BM_STAT_PLAN_PC, BM_STAT_HALT]⟩,
   ⟨0x108, 0x0, 1, false, [BM_RELEASE]⟩,
   ⟨0x10c, 0x0, 1, false, [BM_INIT]⟩,
   ⟨0x110, 0x0, 1, false, [BM_INIT_STAT_DONE, BM_INIT_STAT_BUSY]⟩,
   ⟨0x114, 0x0, 1, false, [BM_SCR_INT]⟩,
   ⟨0x118, 0x0, 1, false, [BM_REF_STAT_MISS, BM_REF_STAT_HOT]⟩,
   ⟨0x11c, 0x0, 1, false, [BM_SCR_STAT_LAPS, BM_SCR_STAT_BUSY]⟩,
   ⟨0x120, 0x0, 1, true, [BM_LAP_AIR_LO]⟩,
   ⟨0x124, 0x0, 1, false, [BM_LAP_AIR_HI]⟩,
   ⟨0x128, 0x0, 1, true, [BM_LAP_CY_LO]⟩,
   ⟨0x12c, 0x0, 1, false, [BM_LAP_CY_HI]⟩,
   ⟨0x130, 0x0, 1, false, [BM_LAP_SUM_CORR, BM_LAP_SUM_UE]⟩,
   ⟨0x140, 0x10, 16, false, [BM_WIN_BASE]⟩,
   ⟨0x144, 0x10, 16, false, [BM_WIN_LIMIT]⟩,
   ⟨0x148, 0x10, 16, false, [BM_WIN_CTL_VALID, BM_WIN_CTL_SHARED, BM_WIN_CTL_WR_EN, BM_WIN_CTL_CTX]⟩]

/-- Registers of the bm page (R439). -/
def tab_bm_1 : List RegDef :=
  [⟨0x240, 0x0, 1, false, [BM_CEL_INFO]⟩,
   ⟨0x244, 0x0, 1, true, [BM_CEL_ADDR_LO]⟩,
   ⟨0x248, 0x0, 1, false, [BM_CEL_ADDR_HI]⟩,
   ⟨0x24c, 0x0, 1, false, [BM_CEL_AIR]⟩,
   ⟨0x250, 0x4, 4, false, [BM_CONF]⟩,
   ⟨0x260, 0x0, 1, false, [BM_UE_CNT_UE, BM_UE_CNT_POISON]⟩,
   ⟨0x264, 0x0, 1, false, [BM_CE_CNT]⟩]

/-- Registers of the bm page (R439). -/
def tab_bm : List RegDef := tab_bm_0 ++ tab_bm_1

/-- Registers of the hbmPhy page (R440). -/
def tab_hbmPhy : List RegDef :=
  [⟨0x100, 0x0, 1, false, [PHY_STAT_SREF, PHY_STAT_TRAINED]⟩,
   ⟨0x104, 0x0, 1, false, [PHY_CMD_SREF, PHY_CMD_TRAIN]⟩,
   ⟨0x108, 0x0, 1, false, [HBM_T0]⟩,
   ⟨0x10c, 0x0, 1, false, [HBM_T1]⟩,
   ⟨0x110, 0x0, 1, false, [PHY_ERR]⟩]

/-- Registers of the cluster page (R476). -/
def tab_cluster : List RegDef :=
  [⟨0x100, 0x0, 1, false, [CL_STAT_WFI, CL_STAT_RUN]⟩,
   ⟨0x104, 0x0, 1, false, [CL_RST]⟩,
   ⟨0x108, 0x0, 1, true, [CL_BOOT_LO]⟩,
   ⟨0x10c, 0x0, 1, false, [CL_BOOT_HI]⟩,
   ⟨0x110, 0x0, 1, false, [CL_PLEVEL_BUSY, CL_PLEVEL_CUR, CL_PLEVEL_REQ]⟩,
   ⟨0x114, 0x0, 1, false, [CL_MSIP]⟩,
   ⟨0x120, 0x8, 4, true, [CL_MTIMECMP_LO]⟩,
   ⟨0x124, 0x8, 4, false, [CL_MTIMECMP_HI]⟩,
   ⟨0x140, 0x0, 1, false, [CL_CACHE_ERR_CORR, CL_CACHE_ERR_UE]⟩]

/-- Registers of the eventHub page (R477). -/
def tab_eventHub : List RegDef :=
  [⟨0x100, 0x0, 1, false, [EH_IDX]⟩,
   ⟨0x104, 0x0, 1, false, [EH_ROUTE_EN, EH_ROUTE_PRIO, EH_ROUTE_KIND, EH_ROUTE_FUNC, EH_ROUTE_TGT]⟩,
   ⟨0x108, 0x0, 1, false, [EH_SRC_STAT_INSVC, EH_SRC_STAT_PEND]⟩,
   ⟨0x10c, 0x0, 1, false, [EH_DOORBELL]⟩,
   ⟨0x200, 0x8, 32, false, [EH_THR]⟩,
   ⟨0x204, 0x8, 32, false, [EH_CLAIM_VALID, EH_CLAIM_SRC]⟩]

/-- Registers of the pcie page (R478). -/
def tab_pcie : List RegDef :=
  [⟨0x100, 0x0, 1, false, [PCIE_STAT_WIDTH, PCIE_STAT_SPEED, PCIE_STAT_LINK_UP]⟩,
   ⟨0x104, 0x0, 1, false, [PCIE_CFG]⟩,
   ⟨0x108, 0x0, 1, false, [PCIE_PF_CTX]⟩,
   ⟨0x110, 0x0, 1, true, [PCIE_OB_XLAT_LO]⟩,
   ⟨0x114, 0x0, 1, false, [PCIE_OB_XLAT_HI]⟩,
   ⟨0x120, 0x0, 1, false, [PCIE_VF_IDX]⟩,
   ⟨0x124, 0x0, 1, false, [PCIE_VF_CTX]⟩,
   ⟨0x128, 0x4, 4, false, [PCIE_VF_WIN_VALID, PCIE_VF_WIN_BASE]⟩,
   ⟨0x138, 0x0, 1, false, [PCIE_VF_CMD]⟩,
   ⟨0x140, 0x0, 1, false, [PCIE_ERRCNT_UR, PCIE_ERRCNT_CTO]⟩]

/-- Registers of the trestle0 page (R509). -/
def tab_trestle0 : List RegDef :=
  [⟨0x100, 0x0, 1, false, [TR_Q_IDX]⟩,
   ⟨0x104, 0x0, 1, false, [TR_Q_CFG_VALID, TR_Q_CFG_SHARED, TR_Q_CFG_TTSRC, TR_Q_CFG_OP, TR_Q_CFG_TT, TR_Q_CFG_CTX]⟩,
   ⟨0x108, 0x0, 1, false, [TR_Q_CMD]⟩,
   ⟨0x10c, 0x0, 1, false, [TR_Q_CNT]⟩,
   ⟨0x110, 0x0, 1, false, [TR_R_IDX]⟩,
   ⟨0x114, 0x0, 1, false, [TR_R_CFG_SIZE, TR_R_CFG_BASE]⟩,
   ⟨0x118, 0x0, 1, false, [TR_R_Q]⟩,
   ⟨0x11c, 0x0, 1, false, [TR_R_CMD]⟩,
   ⟨0x120, 0x0, 1, false, [TR_R_STAT_FILL, TR_R_STAT_OVF]⟩,
   ⟨0x124, 0x0, 1, false, [TR_TRIG_DROP]⟩,
   ⟨0x140, 0x0, 1, false, [TR_SEND]⟩,
   ⟨0x400, 0x4, 288, false, [TR_STG]⟩]

/-- Registers of the trestle1 page (R510). -/
def tab_trestle1 : List RegDef :=
  [⟨0x100, 0x0, 1, false, [TR_T_IDX]⟩,
   ⟨0x104, 0x0, 1, false, [TR_T_CFG_VALID, TR_T_CFG_PARTIAL, TR_T_CFG_DEST, TR_T_CFG_FLOWSRC, TR_T_CFG_NOPS, TR_T_CFG_TMO, TR_T_CFG_TGT]⟩,
   ⟨0x108, 0x0, 1, false, [TR_T_FLOW]⟩,
   ⟨0x10c, 0x0, 1, false, [TR_T_EMASK]⟩,
   ⟨0x110, 0x0, 1, false, [TR_T_DONEQ_EN, TR_T_DONEQ_QUEUE]⟩,
   ⟨0x114, 0x0, 1, false, [TR_T_H]⟩,
   ⟨0x118, 0x0, 1, false, [TR_T_MAX]⟩,
   ⟨0x11c, 0x0, 1, false, [TR_T_CMD]⟩,
   ⟨0x120, 0x0, 1, false, [TR_T_STAT_ENTRIES, TR_T_STAT_READY]⟩,
   ⟨0x130, 0x0, 1, false, [TR_MS_STAT_HWM, TR_MS_STAT_USED]⟩]

/-- Registers of the trestle2 page (R511). -/
def tab_trestle2 : List RegDef :=
  [⟨0x100, 0x10, 16, false, [TR_C_CFG_EN, TR_C_CFG_DB_EN, TR_C_CFG_DB]⟩,
   ⟨0x104, 0x10, 16, true, [TR_C_AREA_LO]⟩,
   ⟨0x108, 0x10, 16, false, [TR_C_AREA_HI]⟩,
   ⟨0x10c, 0x10, 16, false, [TR_C_POP_VALID, TR_C_POP_LEFT, TR_C_POP_HANDLE]⟩,
   ⟨0x200, 0x0, 1, false, [TR_DONE]⟩,
   ⟨0x204, 0x0, 1, false, [TR_C_FLUSH]⟩,
   ⟨0x240, 0x4, 16, false, [TR_C_STAT_HELD, TR_C_STAT_LIST]⟩,
   ⟨0x280, 0x4, 16, false, [TR_C_WAIT]⟩,
   ⟨0x2c0, 0x4, 16, false, [TR_C_DONE]⟩,
   ⟨0x300, 0x0, 1, false, [TR_F_IDX]⟩,
   ⟨0x304, 0x0, 1, false, [TR_F_STAT_BUSY, TR_F_STAT_WAIT]⟩]

/-- Registers of the trestle3 page (R512). -/
def tab_trestle3_0 : List RegDef :=
  [⟨0x100, 0x10, 16, true, [TR_P_BASE_LO]⟩,
   ⟨0x104, 0x10, 16, false, [TR_P_BASE_HI]⟩,
   ⟨0x108, 0x10, 16, false, [TR_P_CFG_VALID, TR_P_CFG_SZ, TR_P_CFG_COUNT]⟩,
   ⟨0x10c, 0x10, 16, false, [TR_P_STAT_LOW, TR_P_STAT_FREE]⟩,
   ⟨0x200, 0x4, 16, false, [TR_ALLOC_VALID, TR_ALLOC_HANDLE]⟩,
   ⟨0x240, 0x0, 1, false, [TR_FREE]⟩,
   ⟨0x244, 0x0, 1, false, [TR_GIVE_CTX, TR_GIVE_HANDLE]⟩,
   ⟨0x248, 0x0, 1, false, [TR_L_IDX]⟩,
   ⟨0x24c, 0x0, 1, false, [TR_L_STAT_OWNED, TR_L_STAT_CTX]⟩,
   ⟨0x250, 0x0, 1, false, [TR_AU_POOL]⟩,
   ⟨0x300, 0x0, 1, false, [TR_H_IDX]⟩,
   ⟨0x304, 0x0, 1, true, [TR_H_BASE_LO]⟩,
   ⟨0x308, 0x0, 1, false, [TR_H_BASE_HI]⟩,
   ⟨0x30c, 0x0, 1, true, [TR_H_PIDX_LO]⟩,
   ⟨0x310, 0x0, 1, false, [TR_H_PIDX_HI]⟩,
   ⟨0x314, 0x0, 1, false, [TR_H_CFG_EN, TR_H_CFG_DB_EN, TR_H_CFG_DB, TR_H_CFG_SZ]⟩]

/-- Registers of the trestle3 page (R512). -/
def tab_trestle3_1 : List RegDef :=
  [⟨0x318, 0x0, 1, false, [TR_H_CMD]⟩,
   ⟨0x31c, 0x0, 1, false, [TR_H_IDXS_CIDX, TR_H_IDXS_PIDX]⟩,
   ⟨0x340, 0x0, 1, false, [TR_V_IDX]⟩,
   ⟨0x344, 0x4, 4, false, [TR_V_Q_EN, TR_V_Q_QUEUE]⟩,
   ⟨0x354, 0x0, 1, false, [TR_V_CMD]⟩,
   ⟨0x358, 0x0, 1, false, [TR_V_DROP]⟩]

/-- Registers of the trestle3 page (R512). -/
def tab_trestle3 : List RegDef := tab_trestle3_0 ++ tab_trestle3_1

/-- Registers of the keystone page (R543). -/
def tab_keystone_0 : List RegDef :=
  [⟨0x100, 0x0, 1, false, [KS_STAT_READY, KS_STAT_BUSY, KS_STAT_COMPACTING, KS_STAT_FREE]⟩,
   ⟨0x104, 0x0, 1, false, [KS_CMD_FLAT, KS_CMD_PART, KS_CMD_OP]⟩,
   ⟨0x108, 0x4, 7, false, [KS_ARG]⟩,
   ⟨0x130, 0x0, 1, false, [KS_RESULT_DONE, KS_RESULT_OK, KS_RESULT_OPEN, KS_RESULT_OLDER, KS_RESULT_CORRUPT, KS_RESULT_EVENT]⟩,
   ⟨0x140, 0x4, 8, false, [KS_RES]⟩,
   ⟨0x160, 0x0, 1, false, [KS_CTL_PATROL_H, KS_CTL_CALIB_WE]⟩,
   ⟨0x164, 0x0, 1, false, [KS_RATE]⟩,
   ⟨0x170, 0x0, 1, false, [KS_BOOT0_CAUSE, KS_BOOT0_TRIAL_LEFT, KS_BOOT0_TRIAL_SLOT, KS_BOOT0_PREV_SLOT, KS_BOOT0_PREV_V, KS_BOOT0_CONF_SLOT, KS_BOOT0_BOOTED, KS_BOOT0_AS_TRIAL, KS_BOOT0_STATE]⟩,
   ⟨0x174, 0x0, 1, false, [KS_BOOT1]⟩,
   ⟨0x178, 0x0, 1, false, [KS_BOOT2]⟩,
   ⟨0x17c, 0x0, 1, false, [KS_BOOT3]⟩,
   ⟨0x180, 0x0, 1, true, [KS_DEADLINE_LO]⟩,
   ⟨0x184, 0x0, 1, false, [KS_DEADLINE_HI]⟩,
   ⟨0x190, 0x0, 1, false, [KS_WEAR]⟩,
   ⟨0x194, 0x0, 1, false, [KS_WEAR_MAX]⟩,
   ⟨0x198, 0x0, 1, false, [KS_WEAR_MIN]⟩]

/-- Registers of the keystone page (R543). -/
def tab_keystone_1 : List RegDef :=
  [⟨0x1a0, 0x0, 1, false, [KS_SEG_IDX]⟩,
   ⟨0x1a4, 0x0, 1, false, [KS_SEG_STAT_STATE, KS_SEG_STAT_PART, KS_SEG_STAT_LIVE]⟩,
   ⟨0x1a8, 0x0, 1, false, [KS_SEG_ERASES]⟩,
   ⟨0x1b0, 0x0, 1, false, [KS_PART_IDX]⟩,
   ⟨0x1b4, 0x0, 1, false, [KS_PART_STAT_SEGS, KS_PART_STAT_LIVE_KIB]⟩,
   ⟨0x1c0, 0x0, 1, false, [KS_SCAN0_TORN, KS_SCAN0_CORRUPT]⟩,
   ⟨0x1c4, 0x0, 1, false, [KS_SCAN1]⟩,
   ⟨0x1c8, 0x0, 1, false, [KS_SCAN_CY]⟩,
   ⟨0x1d0, 0x0, 1, true, [KS_SEQ_LO]⟩,
   ⟨0x1d4, 0x0, 1, false, [KS_SEQ_HI]⟩,
   ⟨0x1e0, 0x0, 1, false, [KS_TEAR_ARM, KS_TEAR_WORD]⟩]

/-- Registers of the keystone page (R543). -/
def tab_keystone : List RegDef := tab_keystone_0 ++ tab_keystone_1

/-- Registers of the lk page (R576). -/
def tab_lk_0 : List RegDef :=
  [⟨0x100, 0x0, 1, false, [LK_CFG_MC, LK_CFG_WIDTH, LK_CFG_LANE]⟩,
   ⟨0x104, 0x0, 1, false, [LK_STAT_REMOTE_FAULT, LK_STAT_LOCAL_FAULT, LK_STAT_LINK_UP]⟩,
   ⟨0x108, 0x0, 1, true, [LK_MAC_LO]⟩,
   ⟨0x10c, 0x0, 1, false, [LK_MAC_HI]⟩,
   ⟨0x110, 0x0, 1, false, [LK_VLAN_EN, LK_VLAN_PCP, LK_VLAN_VID]⟩,
   ⟨0x114, 0x0, 1, false, [LK_ASYM]⟩,
   ⟨0x120, 0x0, 1, true, [LK_RX_OK_LO]⟩,
   ⟨0x124, 0x0, 1, false, [LK_RX_OK_HI]⟩,
   ⟨0x128, 0x0, 1, true, [LK_TX_OK_LO]⟩,
   ⟨0x12c, 0x0, 1, false, [LK_TX_OK_HI]⟩,
   ⟨0x130, 0x0, 1, false, [LK_RUNT]⟩,
   ⟨0x134, 0x0, 1, false, [LK_LONG]⟩,
   ⟨0x138, 0x0, 1, false, [LK_FCS]⟩,
   ⟨0x13c, 0x0, 1, false, [LK_DA_DROP]⟩,
   ⟨0x140, 0x0, 1, false, [LK_BAD_RONRIS]⟩,
   ⟨0x144, 0x0, 1, false, [LK_DUP]⟩]

/-- Registers of the lk page (R576). -/
def tab_lk_1 : List RegDef :=
  [⟨0x148, 0x0, 1, false, [LK_TX_DROP]⟩]

/-- Registers of the lk page (R576). -/
def tab_lk : List RegDef := tab_lk_0 ++ tab_lk_1

/-- Registers of the pool page (R577). -/
def tab_pool_0 : List RegDef :=
  [⟨0x100, 0x0, 1, false, [POOL_CFG_CHIP_ID, POOL_CFG_POOL_ID]⟩,
   ⟨0x104, 0x0, 1, false, [POOL_CFG2_ETYPE, POOL_CFG2_RESET_EN]⟩,
   ⟨0x108, 0x0, 1, false, [POOL_CFG3_SEEK, POOL_CFG3_FAIL_N]⟩,
   ⟨0x10c, 0x0, 1, false, [POOL_Q_OPQ, POOL_Q_FWQ]⟩,
   ⟨0x110, 0x0, 1, false, [POOL_TREE_FANOUT, POOL_TREE_HOP]⟩,
   ⟨0x114, 0x0, 1, false, [POOL_STAT_N, POOL_STAT_OWN_MISS, POOL_STAT_STATE]⟩,
   ⟨0x118, 0x0, 1, false, [POOL_VIEW]⟩,
   ⟨0x11c, 0x0, 1, false, [POOL_HB]⟩,
   ⟨0x120, 0x0, 1, false, [POOL_HELLO]⟩,
   ⟨0x124, 0x0, 1, false, [POOL_SEND_TYPE, POOL_SEND_DST]⟩,
   ⟨0x128, 0x0, 1, true, [POOL_SEND_ADDR_LO]⟩,
   ⟨0x12c, 0x0, 1, false, [POOL_SEND_ADDR_HI]⟩,
   ⟨0x130, 0x0, 1, false, [POOL_SEND_LEN]⟩,
   ⟨0x134, 0x0, 1, false, [POOL_VS_NUM]⟩,
   ⟨0x138, 0x0, 1, false, [POOL_VS_CNT]⟩,
   ⟨0x140, 0x0, 1, true, [POOL_VS_ADDR_LO]⟩]

/-- Registers of the pool page (R577). -/
def tab_pool_1 : List RegDef :=
  [⟨0x144, 0x0, 1, false, [POOL_VS_ADDR_HI]⟩,
   ⟨0x148, 0x0, 1, true, [POOL_VS_AIR_LO]⟩,
   ⟨0x14c, 0x0, 1, false, [POOL_VS_AIR_HI]⟩,
   ⟨0x150, 0x0, 1, false, [POOL_VS_CMD_WITHDRAW, POOL_VS_CMD_LOAD]⟩,
   ⟨0x160, 0x0, 1, false, [POOL_M_IDX]⟩,
   ⟨0x164, 0x0, 1, false, [POOL_M_STAT_IN_VIEW, POOL_M_STAT_FAILED, POOL_M_STAT_SUSPECT, POOL_M_STAT_DISC, POOL_M_STAT_LINK, POOL_M_STAT_MISS, POOL_M_STAT_LAST]⟩,
   ⟨0x170, 0x0, 1, false, [POOL_G_IDX]⟩,
   ⟨0x174, 0x0, 1, false, [POOL_G_CFG_VALID, POOL_G_CFG_ROLE, POOL_G_CFG_PARTNER, POOL_G_CFG_CTX]⟩,
   ⟨0x178, 0x0, 1, true, [POOL_G_MIR_LO]⟩,
   ⟨0x17c, 0x0, 1, false, [POOL_G_MIR_HI]⟩,
   ⟨0x180, 0x0, 1, true, [POOL_G_STG_LO]⟩,
   ⟨0x184, 0x0, 1, false, [POOL_G_STG_HI]⟩,
   ⟨0x188, 0x0, 1, false, [POOL_G_SIZE]⟩,
   ⟨0x18c, 0x0, 1, true, [POOL_G_H_LO]⟩,
   ⟨0x190, 0x0, 1, false, [POOL_G_H_HI]⟩,
   ⟨0x194, 0x0, 1, false, [POOL_G_STAT_FENCED, POOL_G_STAT_NEED_FULL, POOL_G_STAT_FINAL, POOL_G_STAT_TAKEN, POOL_G_STAT_FCAUSE, POOL_G_STAT_FCOND]⟩]

/-- Registers of the pool page (R577). -/
def tab_pool_2 : List RegDef :=
  [⟨0x198, 0x0, 1, false, [POOL_G_EPOCH]⟩,
   ⟨0x19c, 0x0, 1, false, [POOL_G_CMD]⟩,
   ⟨0x1a0, 0x0, 1, true, [POOL_CK_LIST_LO]⟩,
   ⟨0x1a4, 0x0, 1, false, [POOL_CK_LIST_HI]⟩,
   ⟨0x1a8, 0x0, 1, false, [POOL_CK_CNT]⟩,
   ⟨0x1ac, 0x0, 1, false, [POOL_CK_GO_FINAL, POOL_CK_GO_FULL, POOL_CK_GO_G]⟩,
   ⟨0x1c0, 0x0, 1, false, [POOL_OP_IDX]⟩,
   ⟨0x1c4, 0x0, 1, false, [POOL_OP_CFG_ARG, POOL_OP_CFG_KIND]⟩,
   ⟨0x1c8, 0x0, 1, true, [POOL_OP_T_LO]⟩,
   ⟨0x1cc, 0x0, 1, false, [POOL_OP_T_HI]⟩,
   ⟨0x1d0, 0x0, 1, true, [POOL_OP_PAY_LO]⟩,
   ⟨0x1d4, 0x0, 1, false, [POOL_OP_PAY_HI]⟩,
   ⟨0x1d8, 0x0, 1, false, [POOL_OP_CMD_ISSUE, POOL_OP_CMD_WRITE]⟩,
   ⟨0x1dc, 0x0, 1, false, [POOL_OP_STAT_STATE, POOL_OP_STAT_OUTCOME, POOL_OP_STAT_COUNT]⟩,
   ⟨0x1e0, 0x0, 1, false, [POOL_ARRIVE_INIT, POOL_ARRIVE_H]⟩,
   ⟨0x1f0, 0x0, 1, false, [POOL_TIME]⟩]

/-- Registers of the pool page (R577). -/
def tab_pool_3 : List RegDef :=
  [⟨0x1f4, 0x0, 1, false, [POOL_TIME2_INT, POOL_TIME2_RTT_MAX]⟩,
   ⟨0x1f8, 0x0, 1, false, [POOL_TIME_OFS]⟩,
   ⟨0x1fc, 0x0, 1, false, [POOL_TIME_FAIL]⟩]

/-- Registers of the pool page (R577). -/
def tab_pool : List RegDef := tab_pool_0 ++ tab_pool_1 ++ tab_pool_2 ++ tab_pool_3

/-- Registers of the keeper page (R608). -/
def tab_keeper : List RegDef :=
  [⟨0x100, 0x0, 1, false, [KP_CMD]⟩,
   ⟨0x104, 0x4, 4, false, [KP_ARG]⟩,
   ⟨0x120, 0x0, 1, false, [KP_RESULT_DONE, KP_RESULT_OK, KP_RESULT_CAUSE, KP_RESULT_EVENT]⟩,
   ⟨0x124, 0x0, 1, false, [KP_STAT_KEEPER_UP, KP_STAT_BUSY]⟩,
   ⟨0x128, 0x0, 1, true, [KP_UPTIME_LO]⟩,
   ⟨0x12c, 0x0, 1, false, [KP_UPTIME_HI]⟩]

/-- Registers of the pwr page (R609). -/
def tab_pwr : List RegDef :=
  [⟨0x100, 0x0, 1, false, [PWR_DECK_BUSY, PWR_DECK_CUR, PWR_DECK_REQ]⟩,
   ⟨0x104, 0x0, 1, false, [PWR_MODE]⟩,
   ⟨0x108, 0x0, 1, false, [PWR_WAKE_EDGE]⟩,
   ⟨0x10c, 0x0, 1, false, [PWR_WAKE_GPIO0]⟩,
   ⟨0x110, 0x0, 1, false, [PWR_WAKE_GPIO1]⟩,
   ⟨0x114, 0x0, 1, false, [PWR_WAKE_CAUSE_SRC, PWR_WAKE_CAUSE_CAUSE]⟩,
   ⟨0x118, 0x0, 1, true, [PWR_WAKE_AIR_LO]⟩,
   ⟨0x11c, 0x0, 1, false, [PWR_WAKE_AIR_HI]⟩,
   ⟨0x120, 0x0, 1, false, [PWR_RST_CAUSE_LADDER, PWR_RST_CAUSE_POOL, PWR_RST_CAUSE_CONFIRM, PWR_RST_CAUSE_MAILBOX, PWR_RST_CAUSE_WARM_PIN, PWR_RST_CAUSE_POR]⟩,
   ⟨0x124, 0x0, 1, false, [PWR_RAIL_STAT_FAIL, PWR_RAIL_STAT_ON]⟩,
   ⟨0x140, 0x8, 16, false, [PWR_RAIL_A_EN, PWR_RAIL_A_PORT, PWR_RAIL_A_PAGE, PWR_RAIL_A_ADDR]⟩,
   ⟨0x144, 0x8, 16, false, [PWR_RAIL_B_TMO, PWR_RAIL_B_DELAY]⟩]

/-- Registers of the domain page (R610). -/
def tab_domain : List RegDef :=
  [⟨0x100, 0x0, 1, false, [D_REQ]⟩,
   ⟨0x104, 0x0, 1, false, [D_STAT_BUSY, D_STAT_PLAN, D_STAT_LATCHED, D_STAT_IDLE, D_STAT_LAST_REQ, D_STAT_TARGET, D_STAT_CUR]⟩,
   ⟨0x108, 0x0, 1, false, [D_CFG_IDLE_EN, D_CFG_IDLE_ST, D_CFG_QUIET_ST, D_CFG_IDLE_T]⟩,
   ⟨0x10c, 0x0, 1, false, [D_PAD]⟩,
   ⟨0x110, 0x0, 1, false, [D_REFUSE_REFUSER, D_REFUSE_REQUESTER, D_REFUSE_COUNT]⟩,
   ⟨0x114, 0x0, 1, false, [D_ABORT_ABORTER, D_ABORT_COUNT]⟩,
   ⟨0x118, 0x0, 1, true, [D_AIR_LO]⟩,
   ⟨0x11c, 0x0, 1, false, [D_AIR_HI]⟩,
   ⟨0x120, 0x0, 1, false, [D_DEFER]⟩]

/-- Registers of the pmbus page (R611). -/
def tab_pmbus : List RegDef :=
  [⟨0x100, 0x0, 1, false, [PM_CFG_SPEED1, PM_CFG_SPEED0, PM_CFG_PEC1, PM_CFG_PEC0]⟩,
   ⟨0x104, 0x0, 1, false, [PM_CMD_START, PM_CMD_RD, PM_CMD_PORT, PM_CMD_LEN, PM_CMD_ADDR, PM_CMD_CODE]⟩,
   ⟨0x108, 0x0, 1, false, [PM_DATA]⟩,
   ⟨0x10c, 0x0, 1, false, [PM_STAT_PEC_ERR, PM_STAT_TIMEOUT, PM_STAT_NACK, PM_STAT_BUSY]⟩]

/-- Registers of the parapet page (R640). -/
def tab_parapet_0 : List RegDef :=
  [⟨0x100, 0x0, 1, false, [PP_LC_TORN, PP_LC_LC]⟩,
   ⟨0x104, 0x0, 1, false, [PP_FAULT_STRAP, PP_FAULT_FW, PP_FAULT_SCRAPPED, PP_FAULT_WDOG, PP_FAULT_SRC]⟩,
   ⟨0x108, 0x0, 1, false, [PP_FAULT_SET]⟩,
   ⟨0x110, 0x4, 4, false, [PP_TAMP_CFG_EN, PP_TAMP_CFG_ACT_HIGH, PP_TAMP_CFG_TOGGLE_EN, PP_TAMP_CFG_ACTION, PP_TAMP_CFG_FILT]⟩,
   ⟨0x120, 0x0, 1, false, [PP_TAMP_STAT_LATCH, PP_TAMP_STAT_ACTIVE, PP_TAMP_STAT_RAW]⟩,
   ⟨0x128, 0x0, 1, true, [PP_TAMP_UP_LO]⟩,
   ⟨0x12c, 0x0, 1, false, [PP_TAMP_UP_HI]⟩,
   ⟨0x130, 0x0, 1, false, [PP_CAISSON_LOCKED, PP_CAISSON_WIPING, PP_CAISSON_WIPES]⟩,
   ⟨0x140, 0x4, 8, false, [PP_KDATA]⟩,
   ⟨0x160, 0x0, 1, false, [PP_KCMD_OP, PP_KCMD_USE, PP_KCMD_HANDLE]⟩,
   ⟨0x168, 0x0, 1, false, [PP_KIDX]⟩,
   ⟨0x16c, 0x0, 1, false, [PP_KSTAT_VALID, PP_KSTAT_USE, PP_KSTAT_REFS]⟩,
   ⟨0x170, 0x0, 1, false, [PP_SA_IDX_PORT, PP_SA_IDX_DIR, PP_SA_IDX_SC, PP_SA_IDX_AN]⟩,
   ⟨0x174, 0x0, 1, false, [PP_SA_CFG_VALID, PP_SA_CFG_ACTIVE, PP_SA_CFG_HANDLE]⟩,
   ⟨0x178, 0x0, 1, true, [PP_SA_SCI_LO]⟩,
   ⟨0x17c, 0x0, 1, false, [PP_SA_SCI_HI]⟩]

/-- Registers of the parapet page (R640). -/
def tab_parapet_1 : List RegDef :=
  [⟨0x180, 0x0, 1, false, [PP_SA_PN]⟩,
   ⟨0x184, 0x0, 1, false, [PP_SA_CMD]⟩,
   ⟨0x190, 0x0, 1, false, [PP_PK_IDX]⟩,
   ⟨0x194, 0x0, 1, false, [PP_PK_STAT_VALID, PP_PK_STAT_REVOKED, PP_PK_STAT_PURPOSE]⟩,
   ⟨0x198, 0x0, 1, false, [PP_PK_ID]⟩,
   ⟨0x19c, 0x0, 1, false, [PP_MINVER]⟩,
   ⟨0x1a0, 0x0, 1, false, [PP_RNG]⟩,
   ⟨0x1a4, 0x0, 1, false, [PP_BOOT_REASON, PP_BOOT_RES]⟩,
   ⟨0x1c0, 0x0, 1, false, [KW_CFG_ABUT_WIN, KW_CFG_LADDER_MAX, KW_CFG_RESTART_MAX, KW_CFG_HART_TMO]⟩,
   ⟨0x1c4, 0x0, 1, false, [KW_MASK]⟩,
   ⟨0x1c8, 0x0, 1, false, [KW_KICK]⟩,
   ⟨0x1cc, 0x0, 1, false, [KW_STAT_WDT_EXPIRED, KW_STAT_KEEPER_HALTED, KW_STAT_RUNG_PEND, KW_STAT_MISSED]⟩,
   ⟨0x1d0, 0x0, 1, false, [KW_CNT_LADDER, KW_CNT_KRST, KW_CNT_ABUT, KW_CNT_HART]⟩]

/-- Registers of the parapet page (R640). -/
def tab_parapet : List RegDef := tab_parapet_0 ++ tab_parapet_1

/-- Registers of the debug page (R641). -/
def tab_debug : List RegDef :=
  [⟨0x100, 0x0, 1, false, [DBG_STAT_ACCESS, DBG_STAT_AUTH, DBG_STAT_LOCKOUT, DBG_STAT_FAILS]⟩,
   ⟨0x110, 0x4, 12, false, [DBG_CHAL]⟩,
   ⟨0x140, 0x4, 24, false, [DBG_RESP]⟩,
   ⟨0x1a0, 0x0, 1, false, [DBG_CMD_RELEASE_HALT, DBG_CMD_DEAUTH, DBG_CMD_VERIFY, DBG_CMD_NEW]⟩,
   ⟨0x1a4, 0x0, 1, false, [DBG_KEY]⟩]

/-- Registers of the cnt page (R642). -/
def tab_cnt : List RegDef :=
  [⟨0x80, 0x10, 8, false, [CNT_SEL_OVF, CNT_SEL_CHAIN, CNT_SEL_MODE, CNT_SEL_EVENT]⟩,
   ⟨0x84, 0x10, 8, false, [CNT_THR]⟩,
   ⟨0x88, 0x10, 8, true, [CNT_LO]⟩,
   ⟨0x8c, 0x10, 8, false, [CNT_HI]⟩]

/-- Registers of the pt page (R653). -/
def tab_pt : List RegDef :=
  [⟨0xf00, 0x0, 1, false, [PT_CTL_ARM, PT_CTL_ACTIVE, PT_CTL_EN]⟩,
   ⟨0xf04, 0x0, 1, true, [PT_AT_LO]⟩,
   ⟨0xf08, 0x0, 1, false, [PT_AT_HI]⟩,
   ⟨0xf0c, 0x0, 1, false, [PT_SEED]⟩,
   ⟨0xf10, 0x0, 1, false, [PT_STAT]⟩,
   ⟨0xf20, 0x18, 4, false, [PT_CFG_KIND, PT_CFG_COUNT]⟩,
   ⟨0xf24, 0x18, 4, false, [PT_PARAM]⟩,
   ⟨0xf28, 0x18, 4, false, [PT_RATE_RANDOM, PT_RATE_N]⟩,
   ⟨0xf2c, 0x18, 4, false, [PT_MATCH_CTX_EN, PT_MATCH_SRC_EN, PT_MATCH_SOURCE, PT_MATCH_CTX]⟩,
   ⟨0xf30, 0x18, 4, false, [PT_HIT]⟩,
   ⟨0xf34, 0x18, 4, false, [PT_SEEN]⟩]

/-- Registers of the tollhouse page (R660). -/
def tab_tollhouse_0 : List RegDef :=
  [⟨0x100, 0x0, 1, false, [TS_SNAP_TAKE, TS_SNAP_SLOT]⟩,
   ⟨0x104, 0x0, 1, false, [TS_STAT_BUSY, TS_STAT_SLOT, TS_STAT_OVERRUN]⟩,
   ⟨0x110, 0x0, 1, false, [TS_SLOT_IDX]⟩,
   ⟨0x114, 0x0, 1, false, [TS_SLOT_CFG_VALID, TS_SLOT_CFG_TOK_EN, TS_SLOT_CFG_QUEUE, TS_SLOT_CFG_NPAGES]⟩,
   ⟨0x118, 0x0, 1, true, [TS_SLOT_LIST_LO]⟩,
   ⟨0x11c, 0x0, 1, false, [TS_SLOT_LIST_HI]⟩,
   ⟨0x120, 0x0, 1, true, [TS_SLOT_DST_LO]⟩,
   ⟨0x124, 0x0, 1, false, [TS_SLOT_DST_HI]⟩,
   ⟨0x128, 0x0, 1, false, [TS_SLOT_DEPTH_WIDX, TS_SLOT_DEPTH_DEPTH]⟩,
   ⟨0x12c, 0x0, 1, false, [TS_SLOT_SEQ]⟩,
   ⟨0x130, 0x0, 1, false, [TS_SLOT_CMD]⟩,
   ⟨0x138, 0x0, 1, true, [TS_LAST_AIR_LO]⟩,
   ⟨0x13c, 0x0, 1, false, [TS_LAST_AIR_HI]⟩,
   ⟨0x140, 0x0, 1, false, [TS_TMO]⟩,
   ⟨0x144, 0x0, 1, false, [TS_PT_DENIED]⟩,
   ⟨0x200, 0x20, 32, false, [TS_BW_CFG_EN, TS_BW_CFG_COUNTER, TS_BW_CFG_PAGE]⟩]

/-- Registers of the tollhouse page (R660). -/
def tab_tollhouse_1 : List RegDef :=
  [⟨0x204, 0x20, 32, false, [TS_BW_WIN_SCALE, TS_BW_WIN_W]⟩,
   ⟨0x208, 0x20, 32, true, [TS_BW_BYTES_LO]⟩,
   ⟨0x20c, 0x20, 32, false, [TS_BW_BYTES_HI]⟩,
   ⟨0x210, 0x20, 32, false, [TS_BW_RATE]⟩,
   ⟨0x214, 0x20, 32, false, [TS_BW_MAX]⟩,
   ⟨0x218, 0x20, 32, false, [TS_BW_THR]⟩,
   ⟨0x21c, 0x20, 32, false, [TS_BW_TAG_VALID, TS_BW_TAG_ABOVE, TS_BW_TAG_TAG]⟩]

/-- Registers of the tollhouse page (R660). -/
def tab_tollhouse : List RegDef := tab_tollhouse_0 ++ tab_tollhouse_1

/-- Registers of the xspi page (R691). -/
def tab_xspi : List RegDef :=
  [⟨0x100, 0x0, 1, false, [XS_CFG_OCTAL, XS_CFG_CLK]⟩,
   ⟨0x104, 0x0, 1, false, [XS_CMD_START, XS_CMD_KIND, XS_CMD_RD, XS_CMD_DUMMY, XS_CMD_OPCODE]⟩,
   ⟨0x108, 0x0, 1, false, [XS_ADDR]⟩,
   ⟨0x10c, 0x0, 1, false, [XS_LEN]⟩,
   ⟨0x110, 0x0, 1, true, [XS_BUF_LO]⟩,
   ⟨0x114, 0x0, 1, false, [XS_BUF_HI]⟩,
   ⟨0x118, 0x0, 1, true, [XS_DATA_LO]⟩,
   ⟨0x11c, 0x0, 1, false, [XS_DATA_HI]⟩,
   ⟨0x120, 0x0, 1, false, [XS_STAT_BUSY, XS_STAT_DONE, XS_STAT_ERR, XS_STAT_EVENT]⟩]

/-- Registers of the uart page (R692). -/
def tab_uart : List RegDef :=
  [⟨0x100, 0x40, 2, false, [U_CFG_DIV, U_CFG_FLOW, U_CFG_PARITY, U_CFG_STOP2, U_CFG_BITS]⟩,
   ⟨0x104, 0x40, 2, false, [U_STAT_RXCNT, U_STAT_TXCNT, U_STAT_PERR, U_STAT_FERR, U_STAT_OVF]⟩,
   ⟨0x108, 0x40, 2, false, [U_TX]⟩,
   ⟨0x10c, 0x40, 2, false, [U_RX_VALID, U_RX_PERR, U_RX_FERR, U_RX_DATA]⟩,
   ⟨0x110, 0x40, 2, true, [U_RXAIR_LO]⟩,
   ⟨0x114, 0x40, 2, false, [U_RXAIR_HI]⟩]

end Sys2Proof.Rg
end

