-- ==== Sys2Proof/Machine/RegMap.lean ====
section
/-! DEFINITION. The page directory (R45), the common page layout (R25–R33), which registers a page holds, and the value each
register has after its page resets (R36). -/
namespace Sys2Proof.Machine

/-- R45: the kind and instance of page slot `n`; `none` is an empty slot. -/
def pageOf (n : Nat) : Option (PageKind × Nat) :=
  if n = 0x000 then some (.sys, 0)
  else if n = 0x001 then some (.keeper, 0)
  else if n = 0x002 then some (.pwr, 0)
  else if n = 0x004 then some (.pylon, 0)
  else if n = 0x005 then some (.pylonRef, 1)
  else if n = 0x006 then some (.pylonTrig, 2)
  else if n = 0x008 then some (.keystone, 0)
  else if n = 0x009 then some (.parapet, 0)
  else if n = 0x00A then some (.tollhouse, 0)
  else if n = 0x00B then some (.eventHub, 0)
  else if n = 0x00C then some (.trestle0, 0)
  else if n = 0x00D then some (.trestle1, 1)
  else if n = 0x00E then some (.trestle2, 2)
  else if n = 0x00F then some (.trestle3, 3)
  else if 0x010 ≤ n ∧ n ≤ 0x05F then some (.domain, n - 0x010)
  else if n = 0x060 then some (.deck, 0)
  else if n = 0x061 then some (.deckVariant, 1)
  else if 0x080 ≤ n ∧ n ≤ 0x0BF then some (.pier, n - 0x080)
  else if 0x0C0 ≤ n ∧ n ≤ 0x0C7 then some (.bay, n - 0x0C0)
  else if 0x0D0 ≤ n ∧ n ≤ 0x0DF then some (.eng .fe, n - 0x0D0)
  else if 0x0E0 ≤ n ∧ n ≤ 0x0FF then some (.eng .ld, n - 0x0E0)
  else if 0x100 ≤ n ∧ n ≤ 0x10F then some (.eng .le, n - 0x100)
  else if 0x110 ≤ n ∧ n ≤ 0x117 then some (.eng .pe, n - 0x110)
  else if 0x118 ≤ n ∧ n ≤ 0x11F then some (.eng .td, n - 0x118)
  else if 0x120 ≤ n ∧ n ≤ 0x12F then some (.eng .vd, n - 0x120)
  else if 0x130 ≤ n ∧ n ≤ 0x13F then some (.eng .me, n - 0x130)
  else if 0x140 ≤ n ∧ n ≤ 0x143 then some (.eng .xc, n - 0x140)
  else if 0x144 ≤ n ∧ n ≤ 0x14B then some (.eng .ad, n - 0x144)
  else if 0x14C ≤ n ∧ n ≤ 0x153 then some (.eng .nb, n - 0x14C)
  else if 0x154 ≤ n ∧ n ≤ 0x15B then some (.eng .hq, n - 0x154)
  else if 0x160 ≤ n ∧ n ≤ 0x167 then some (.au, n - 0x160)
  else if 0x180 ≤ n ∧ n ≤ 0x1FF then some (.lane, n - 0x180)
  else if 0x200 ≤ n ∧ n ≤ 0x23F then some (.em, n - 0x200)
  else if 0x240 ≤ n ∧ n ≤ 0x25F then some (.cp, n - 0x240)
  else if 0x260 ≤ n ∧ n ≤ 0x26F then some (.lk, n - 0x260)
  else if n = 0x270 then some (.pool, 0)
  else if 0x280 ≤ n ∧ n ≤ 0x2E3 then some (.router, n - 0x280)
  else if n = 0x2F0 then some (.truss, 100)
  else if 0x300 ≤ n ∧ n ≤ 0x303 then some (.bm, n - 0x300)
  else if n = 0x304 then some (.hbmPhy, 0)
  else if 0x310 ≤ n ∧ n ≤ 0x313 then some (.cluster, n - 0x310)
  else if n = 0x314 then some (.pcie, 0)
  else if n = 0x315 then some (.xspi, 0)
  else if n = 0x316 then some (.pmbus, 0)
  else if n = 0x317 then some (.uart, 0)
  else if n = 0x318 then some (.gpio, 0)
  else if n = 0x319 then some (.debug, 0)
  else none

/-- The first page slot of each kind (R45). -/
def pageBase : PageKind → Nat
  | .sys => 0x000 | .keeper => 0x001 | .pwr => 0x002 | .pylon => 0x004 | .pylonRef => 0x005 | .pylonTrig => 0x006
  | .keystone => 0x008 | .parapet => 0x009 | .tollhouse => 0x00A | .eventHub => 0x00B | .trestle0 => 0x00C
  | .trestle1 => 0x00D | .trestle2 => 0x00E | .trestle3 => 0x00F | .domain => 0x010 | .deck => 0x060
  | .deckVariant => 0x061 | .pier => 0x080 | .bay => 0x0C0 | .eng .fe => 0x0D0 | .eng .ld => 0x0E0
  | .eng .le => 0x100 | .eng .pe => 0x110 | .eng .td => 0x118 | .eng .vd => 0x120 | .eng .me => 0x130
  | .eng .xc => 0x140 | .eng .ad => 0x144 | .eng .nb => 0x14C | .eng .hq => 0x154 | .au => 0x160 | .lane => 0x180
  | .em => 0x200 | .cp => 0x240 | .lk => 0x260 | .pool => 0x270 | .router => 0x280 | .truss => 0x2F0 | .bm => 0x300
  | .hbmPhy => 0x304 | .cluster => 0x310 | .pcie => 0x314 | .xspi => 0x315 | .pmbus => 0x316 | .uart => 0x317
  | .gpio => 0x318 | .debug => 0x319

/-- R45: the class code of each kind of page. -/
def pageClass : PageKind → Nat
  | .sys => 0x00 | .keeper => 0x01 | .pwr => 0x02 | .domain => 0x03 | .pylon => 0x04 | .pylonRef => 0x04
  | .pylonTrig => 0x04 | .keystone => 0x08 | .parapet => 0x09 | .tollhouse => 0x0A | .eventHub => 0x0B
  | .trestle0 => 0x0C | .trestle1 => 0x0C | .trestle2 => 0x0C | .trestle3 => 0x0C | .deck => 0x10
  | .deckVariant => 0x10 | .pier => 0x20 | .bay => 0x21 | .eng .fe => 0x30 | .eng .ld => 0x31 | .eng .le => 0x32
  | .eng .pe => 0x33 | .eng .td => 0x34 | .eng .vd => 0x35 | .eng .me => 0x36 | .eng .xc => 0x37 | .eng .ad => 0x38
  | .eng .nb => 0x39 | .eng .hq => 0x3A | .au => 0x40 | .lane => 0x48 | .em => 0x49 | .cp => 0x4A | .lk => 0x4B
  | .pool => 0x4C | .router => 0x11 | .truss => 0x11 | .bm => 0x50 | .hbmPhy => 0x51 | .cluster => 0x58
  | .pcie => 0x59 | .xspi => 0x5A | .pmbus => 0x5B | .uart => 0x5C | .gpio => 0x5D | .debug => 0x5E

/-- PG_CAP.CNT: the page has the counter bank (R172, R238, R276, R308, R335, R376, R406, R439, R476, R508, R543, R576
and the text before R608). -/
def capCnt : PageKind → Bool
  | .domain | .keystone | .trestle0 | .trestle1 | .trestle2 | .trestle3 | .pier | .bay | .eng _ | .au | .lane | .em | .cp
  | .lk | .pool | .router | .truss | .bm | .cluster | .pcie => true
  | _ => false

/-- PG_CAP.PT: the page has the perturbation registers. -/
def capPt : PageKind → Bool
  | .domain => false
  | k => capCnt k

/-- PG_CAP.CTXB. -/
def capCtxb : PageKind → Bool
  | .eng _ | .au => true
  | _ => false

/-- PG_CAP.OUT. -/
def capOut : PageKind → Bool
  | .pylon | .gpio | .lane | .em | .cp | .lk | .xspi | .uart => true
  | _ => false

/-- Whether PG_CTRL.ENABLE is writable on the page (R26, R335, R376, R576, R691–R693; the AU, xSPI, UART and debug pages
state nothing else than the common layout). -/
def enWritable : PageKind → Bool
  | .pylon | .gpio | .lane | .em | .cp | .lk | .pool | .xspi | .uart | .au | .debug => true
  | _ => false

/-- R42: the pages whose grant bits are fixed at 0. -/
def grantsFixed : PageKind → Bool
  | .sys | .keeper | .pwr | .domain | .keystone | .parapet | .pmbus | .debug => true
  | _ => false

/-- The fixed value of PG_CTRL.ENABLE where it is not writable: 0 on the SYS page, 1 elsewhere. -/
def enFixed : PageKind → Nat
  | .sys => 0
  | _ => 1

/-- PG_CTRL (0x008) of a kind of page. -/
def ctrlDef (k : PageKind) : RegDef :=
  if enWritable k then
    ⟨0x008, 0, 1, false, [⟨0x008, 31, 31, .ro, 0, 0⟩, ⟨0x008, 7, 4, .rwd, 0, 0⟩,
      ⟨0x008, 1, 1, if capOut k then .rwl else .ro, 0, 0⟩, ⟨0x008, 0, 0, .rwl, 0, 0⟩]⟩
  else
    ⟨0x008, 0, 1, false, [⟨0x008, 31, 31, .ro, 0, 0⟩, ⟨0x008, 7, 4, .rwd, 0, 0⟩,
      ⟨0x008, 1, 1, .ro, 0, 0⟩, ⟨0x008, 0, 0, .ro, enFixed k, 0⟩]⟩

/-- PG_CTX (0x030) of a kind of page. -/
def ctxDef (k : PageKind) : RegDef :=
  let g : Acc := if grantsFixed k then .ro else .rwl
  ⟨0x030, 0, 1, false, [⟨0x030, 18, 18, g, 0, 0⟩, ⟨0x030, 17, 17, g, 0, 0⟩, ⟨0x030, 16, 16, g, 0, 0⟩,
    ⟨0x030, 11, 0, if k = .sys then .ro else .rwl, 0, 0⟩]⟩

/-- The registers that every page has (R25). -/
def commonDefs (k : PageKind) : List RegDef :=
  [⟨0x000, 0, 1, false, [⟨0x000, 31, 24, .ro, 0, 0⟩, ⟨0x000, 23, 12, .ro, 0, 0⟩, ⟨0x000, 11, 0, .ro, 0, 0⟩]⟩,
   ⟨0x004, 0, 1, false, [⟨0x004, 31, 31, .ro, 0, 0⟩, ⟨0x004, 30, 30, .ro, 0, 0⟩, ⟨0x004, 29, 29, .ro, 0, 0⟩,
     ⟨0x004, 28, 28, .ro, 0, 0⟩, ⟨0x004, 27, 0, .ro, 0, 0⟩]⟩,
   ctrlDef k,
   ⟨0x00C, 0, 1, false, [⟨0x00C, 31, 3, .ro, 0, 0⟩, ⟨0x00C, 2, 2, .ro, 0, 0⟩, ⟨0x00C, 1, 1, .ro, 0, 0⟩,
     ⟨0x00C, 0, 0, .ro, 0, 0⟩]⟩]
  ++ Rg.tab_irq ++ Rg.tab_cap ++ [ctxDef k] ++ Rg.tab_lock

/-- R371, R378: the stream tables (0x200 receive, 0x400 transmit) and connection pages of a CP page, 128 entries each. -/
def cpTables : List RegDef :=
  [0x200, 0x400].map (fun o => ⟨o, 4, 128, false, [⟨o, 31, 31, .rw, 0, 4⟩, ⟨o, 20, 16, .rw, 0, 4⟩, ⟨o, 4, 0, .rw, 0, 4⟩]⟩) ++
  [0x600, 0x800, 0xA00, 0xC00].map fun o => ⟨o, 4, 128, false, [⟨o, 31, 31, .rw, 0, 4⟩, ⟨o, 30, 24, .rw, 0, 4⟩, ⟨o, 12, 0, .rw, 0, 4⟩]⟩

/-- The block-specific registers of a page (R21: an offset at which none of these lies is not defined). -/
def blockDefs (k : PageKind) (inst : Nat) : List RegDef :=
  match k with
  | .sys => Rg.tab_sys | .keeper => Rg.tab_keeper | .pwr => Rg.tab_pwr | .pylon => Rg.tab_pylon
  | .pylonRef => Rg.tab_pylonRef | .pylonTrig => Rg.tab_pylonTrig | .keystone => Rg.tab_keystone
  | .parapet => Rg.tab_parapet | .tollhouse => Rg.tab_tollhouse | .eventHub => Rg.tab_eventHub
  | .trestle0 => Rg.tab_trestle0 | .trestle1 => Rg.tab_trestle1 | .trestle2 => Rg.tab_trestle2
  | .trestle3 => Rg.tab_trestle3 | .domain => Rg.tab_domain | .deck => Rg.tab_deck | .deckVariant => Rg.tab_deckVariant
  | .pier => Rg.tab_pier | .bay => Rg.tab_bay
  | .eng .fe => Rg.tab_eng | .eng .me => Rg.tab_eng
  | .eng .ad => Rg.tab_eng
  | .eng .hq => (Rg.tab_eng.filter fun d => d.off != 0x10C) ++ (if inst = 0 then Rg.tab_hq else [])
  | .eng _ => Rg.tab_eng.filter fun d => d.off != 0x10C
  | .au => Rg.tab_au | .lane => Rg.tab_lane | .em => Rg.tab_em | .cp => Rg.tab_cp ++ cpTables | .lk => Rg.tab_lk
  | .pool => Rg.tab_pool | .router => Rg.tab_router | .truss => Rg.tab_truss | .bm => Rg.tab_bm
  | .hbmPhy => Rg.tab_hbmPhy | .cluster => Rg.tab_cluster | .pcie => Rg.tab_pcie | .xspi => Rg.tab_xspi
  | .pmbus => Rg.tab_pmbus | .uart => Rg.tab_uart | .gpio => Rg.tab_gpio | .debug => Rg.tab_debug

/-- Every register of a page. -/
def regDefs (k : PageKind) (inst : Nat) : List RegDef :=
  commonDefs k ++ (if capCnt k then Rg.tab_cnt else []) ++ (if capPt k then Rg.tab_pt else []) ++ blockDefs k inst

/-- Whether offset `off` is a register of the array `d`. -/
def regCovers (d : RegDef) (off : Nat) : Bool :=
  if d.stride = 0 then off = d.off
  else decide (d.off ≤ off) && (off - d.off) % d.stride == 0 && decide ((off - d.off) / d.stride < d.count)

/-- The register definition at offset `off` of a page, if its chapter defines one there. -/
def findReg (k : PageKind) (inst off : Nat) : Option RegDef :=
  (regDefs k inst).find? fun d => regCovers d off

/-- The value the fields' reset columns give a register. -/
def fieldsReset (fs : List Fld) : Nat := fs.foldl (fun a f => a + f.rst <<< f.lo) 0

/-- R584: the domains whose blocks have pads (R595). -/
def domainHasPads (d : Nat) : Bool := d = 1 || d = 5 || d = 6 || (72 ≤ d && d ≤ 79)

/-- R584: the reset value of D_CFG.QUIET_ST (0 ON, 1 GATE, 2 RET, 3 OFF). -/
def quietReset (d : Nat) : Nat :=
  if d ≤ 2 ∨ d = 5 ∨ 72 ≤ d then 0
  else if d = 3 ∨ d = 4 ∨ d = 6 then 1
  else if d ≤ 15 then 2
  else 3

/-- The registers whose reset value the tables give per page. -/
def resetSpecial (k : PageKind) (inst off : Nat) : Option Nat :=
  if off = 0x000 then some (pageClass k <<< 24 + inst <<< 12 + 0x001)
  else if off = 0x004 then
    some ((capCnt k).toNat <<< 31 + (capPt k).toNat <<< 30 + (capCtxb k).toNat <<< 29 + (capOut k).toNat <<< 28)
  else match k with
    | .sys =>
      if off = 0x104 then some (0x3001 + Config.gradeE.toNat)
      else if off = 0x108 then some (Config.uid % 2 ^ 32)
      else if off = 0x10C then some (Config.uid / 2 ^ 32 % 2 ^ 32)
      else none
    | .eng .fe => if off = 0x10C then some 8 else none
    | .eng .me => if off = 0x10C then some 12 else none
    | .router => if off = 0x100 then some (inst <<< 8 + (inst / 10) <<< 4 + inst % 10) else none
    | .domain =>
      if off = 0x104 then
        let st := if inst = 0 then 0 else 3
        some ((domainHasPads inst).toNat <<< 29 + st <<< 2 + st)
      else if off = 0x108 then some (1 <<< 29 + quietReset inst <<< 26 + 0x400)
      else none
    | _ => none

/-- The key of a register in the register store: 1,024 registers to a page. -/
def regKey (page off : Nat) : Nat := page * 1024 + off / 4

/-- What a register holds after its page resets (R36); offsets with no register read as 0. -/
def resetVal (key : Nat) : Word :=
  let off := key % 1024 * 4
  match pageOf (key / 1024) with
  | none => 0
  | some (k, inst) =>
    match resetSpecial k inst off with
    | some v => BitVec.ofNat 32 v
    | none =>
      match findReg k inst off with
      | none => 0
      | some d => BitVec.ofNat 32 (fieldsReset d.flds)

end Sys2Proof.Machine
end

