-- ==== Sys2Proof/Machine/Sparse.lean ====
section
/-! DEFINITION. Sparse stores: a list of (key, value) pairs in one canonical form. The keys rise strictly and no entry
holds the value `d k` that an unlisted key `k` reads as, so equal stores are equal lists. -/
namespace Sys2Proof.Sparse

/-- The value at key `k`; an unlisted key reads as `d k`. -/
def get {α : Type} (d : Nat → α) : List (Nat × α) → Nat → α
  | [], k => d k
  | (k', v) :: l, k => if k = k' then v else get d l k

/-- Writes `v` at key `k`; writing what an unlisted key reads as removes the entry. -/
def set {α : Type} [DecidableEq α] (d : Nat → α) : List (Nat × α) → Nat → α → List (Nat × α)
  | [], k, v => if v = d k then [] else [(k, v)]
  | (k', v') :: l, k, v =>
    if k < k' then (if v = d k then (k', v') :: l else (k, v) :: (k', v') :: l)
    else if k = k' then (if v = d k then l else (k, v) :: l)
    else (k', v') :: set d l k v

/-- The canonical form, from a lower bound of the keys on. -/
def wfFrom {α : Type} [DecidableEq α] (d : Nat → α) : Nat → List (Nat × α) → Bool
  | _, [] => true
  | lo, (k, v) :: l => decide (lo ≤ k) && decide (v ≠ d k) && wfFrom d (k + 1) l

/-- The canonical form. -/
def wf {α : Type} [DecidableEq α] (d : Nat → α) (l : List (Nat × α)) : Bool := wfFrom d 0 l

/-- Forgets every key that `p` holds of. -/
def drop {α : Type} (p : Nat → Bool) (l : List (Nat × α)) : List (Nat × α) := l.filter fun e => !p e.1

end Sys2Proof.Sparse
end

