-- ==== Sys2Proof/Machine/State.lean ====
section
/-! DEFINITION. The state of the block: every register (one sparse store), every memory byte, and the state that the spec
gives the blocks beside their registers, with the queue of waiting commands. -/
namespace Sys2Proof.Machine

/-- The answer to the last access: the ERR STATUS of R386 (0: no error) and the data of a read. -/
structure Rsp where
  status : Nat
  data : Nat
deriving DecidableEq, Repr

/-- Why the machine stops with a fault. No command of this block does: every command ends in a next state. -/
inductive Fault where
  /-- Raised by nobody; kept so that the type is not empty. Safe. -/
  | none
deriving DecidableEq, Repr

/-- Why a command is refused. -/
inductive Refusal where
  /-- The command has no meaning in the model yet; raised by the arm of exec that names it. Safe. -/
  | notModelled (mnemonic : String)
deriving DecidableEq, Repr

/-- The state of the block: all that the spec gives it, and the queue of commands that wait. -/
structure State where
  /-- Cycles since PORST_N was released (KP_UPTIME, R605). -/
  uptime : Nat
  /-- The air count (R6, R48). -/
  air : BitVec 64
  /-- The MODEL's own counter of free values that a step has used (log entry 3). -/
  free : Nat
  /-- Status and data with which the last access was answered (R386). -/
  rsp : Rsp
  /-- Every register of every page that differs from its reset value, by page and offset (R25, R36). -/
  regs : List (Nat × Word)
  /-- Upper halves that reads of _LO registers have latched (R11). -/
  hiLatch : List (Nat × Word)
  /-- Lower halves that writes of _LO registers have staged (R11). -/
  loStage : List (Nat × Word)
  /-- Per page, uptime + 1 of its held first-error capture (R30). -/
  capCy : List (Nat × Nat)
  /-- Occurrences of counter events since the last cycle: page, event, number (R644). -/
  samples : List (Nat × Nat × Nat)
  /-- Every byte of deck SRAM, bulk memory and the Caisson that is not 0 (R20, R409, R422, R625). -/
  mem : List Host.Cell
  /-- The Pylon (R48–R84). -/
  py : Pylon
  /-- The GPIO block (R85–R88). -/
  gp : Gpio
  /-- Error correction, logs, scrubbers, initialization, waiting accesses and landing effects (R97, R410–R440). -/
  mu : Mem
  /-- The Truss: waiting packets and transactions (R380–R407). -/
  nt : Mesh
  /-- The deck sequencer (R99–R133). -/
  dk : Deck
  /-- The fused key slots (R627). -/
  keys : List (Nat × KeySlot)
  /-- The Trestle (R480–R512). -/
  tr : Trestle
  /-- The piers that differ from their reset state (R134–R175). -/
  piers : List (Nat × Pier)
  /-- The engines (R201–R301). -/
  en : Engines
  /-- The serial lanes that differ from their reset state (R310–R336). -/
  lanes : List (Nat × Lane)
  /-- Power, modes and reset (R581–R611). -/
  pw : Power
  /-- The Abutment: harts, caches, event hub, PCIe (R442–R479). -/
  ab : Abut
  /-- The fronthaul (R338–R379). -/
  fh : Fh
  /-- The Keystone (R514–R543). -/
  ks : Ks
  /-- The POOL block (R545–R577). -/
  pl : Pool
  /-- Dependability and security (R615–R641). -/
  sec : Sec
  /-- The Tollhouse and perturbation (R642–R660). -/
  ts : Toll
  /-- The xSPI port, the UARTs and the test access port (R681–R692). -/
  io : Slow
  /-- The commands that wait, first in, first out (log entry 96). -/
  pending : List Instr
deriving DecidableEq, Repr

/-- The machine in reset: PORST_N is low, and its release is the command PORST_RELEASE (R36, R604). -/
def State.reset : State where
  uptime := 0
  air := 0
  free := 0
  rsp := ⟨0, 0⟩
  regs := []
  hiLatch := []
  loStage := []
  capCy := []
  samples := []
  mem := []
  py := Pylon.zero 0
  gp := Gpio.zero
  mu := Mem.zero
  nt := Mesh.zero
  dk := Deck.zero
  keys := [(0, ⟨true, Config.factoryKey, 0x4A520001, 3, false⟩)]
  tr := Trestle.zero
  piers := []
  en := Engines.zero
  lanes := []
  pw := Power.zero
  ab := Abut.zero
  fh := Fh.zero
  ks := Ks.zero
  pl := Pool.zero
  sec := Sec.zero
  ts := Toll.zero
  io := Slow.zero
  pending := []

end Sys2Proof.Machine
end

