-- ==== Sys2Proof/Machine/Topology.lean ====
section
/-! DEFINITION. Where blocks sit: routers and attachments (R382, R383), power domains (R37, R584), SOURCE numbers (R383). -/
namespace Sys2Proof.Machine

/-- R382: the engine router e of unit `n` of an engine family. -/
def engRouter : EngKind → Nat → Nat
  | .ld, n => n
  | .le, n => 2 * n
  | .vd, n => 2 * n
  | .fe, n => 2 * n + 1
  | .me, n => 2 * n + 1
  | .hq, n => 4 * n
  | .td, n => 4 * n + 1
  | .pe, n => 4 * n + 2
  | .nb, n => 4 * n + 2
  | .ad, n => 4 * n + 3
  | .xc, n => 8 * n + 5

/-- R382: how many units an engine family has (R45). -/
def engCount : EngKind → Nat
  | .fe => 16 | .ld => 32 | .le => 16 | .pe => 8 | .td => 8 | .vd => 16 | .me => 16 | .xc => 4 | .ad => 8 | .nb => 8
  | .hq => 8

/-- R383: the SOURCE of unit `n` of an engine family. -/
def engSource : EngKind → Nat → Nat
  | .fe, n => 64 + n | .ld, n => 80 + n | .le, n => 112 + n | .pe, n => 128 + n | .td, n => 136 + n | .vd, n => 144 + n
  | .me, n => 160 + n | .xc, n => 176 + n | .ad, n => 180 + n | .nb, n => 188 + n | .hq, n => 196 + n

/-- INST = 10y + x of a router. -/
def routerInst (x y : Nat) : Nat := 10 * y + x

/-- R382: router of bay b, quarter q. -/
def bayRouter (b q : Nat) : Nat := routerInst (1 + 2 * (b % 4) + q % 2) (1 + 6 * (b / 4) + q / 2)

/-- R382: router of engine router e. -/
def engRouterInst (e : Nat) : Nat := routerInst (1 + e % 8) (3 + e / 8)

/-- R382: router of attachment j of controller BMk. -/
def bmRouter (k j : Nat) : Nat := routerInst (if k < 2 then 0 else 9) (1 + 4 * (k % 2) + j)

/-- R382: the router at which a register page attaches. A BM page attaches at the router of attachment 0 (log entry 108, DEDUCED: the
table gives the controller four routers and its page none of its own). -/
def pageRouter (k : PageKind) (inst : Nat) : Nat :=
  match k with
  | .pier => bayRouter (inst / 8) (inst % 8 / 2)
  | .bay => bayRouter inst 0
  | .eng e => engRouterInst (engRouter e inst)
  | .au => routerInst (1 + inst) 0
  | .em => routerInst (1 + inst / 8) 0
  | .cp => routerInst (1 + inst / 4) 0
  | .lane => routerInst (1 + inst / 16) 0
  | .bm => bmRouter inst 0
  | .hbmPhy => routerInst 0 1
  | .pylon | .pylonRef | .pylonTrig | .gpio => routerInst 0 0
  | .tollhouse | .lk | .pool => routerInst 9 0
  | .sys | .keeper | .pwr | .domain | .keystone | .parapet => routerInst 0 9
  | .cluster => routerInst (1 + 2 * inst) 9
  | .trestle0 | .trestle1 | .trestle2 | .trestle3 => routerInst 2 9
  | .eventHub => routerInst 4 9
  | .pcie => routerInst 6 9
  | .xspi | .pmbus | .uart | .debug => routerInst 8 9
  | .deck | .deckVariant | .truss => routerInst 9 9
  | .router => inst

/-- R37, R584: the power domain of a register page. -/
def pageDomain (k : PageKind) (inst : Nat) : Nat :=
  match k with
  | .sys | .keeper | .pwr | .domain | .keystone | .parapet | .pmbus | .debug => 0
  | .pylon | .pylonRef | .pylonTrig | .gpio => 1
  | .router => if inst = 90 then 0 else 2
  | .truss | .deck | .deckVariant => 2
  | .trestle0 | .trestle1 | .trestle2 | .trestle3 | .eventHub => 3
  | .tollhouse | .pool | .lk => 4
  | .pcie => 5
  | .xspi | .uart => 6
  | .cluster => 8 + inst
  | .bm => 12 + inst
  | .hbmPhy => 12
  | .pier => 16 + inst / 2
  | .bay => 48 + inst
  | .eng e => 56 + engRouter e inst / 2
  | .au => 72 + inst
  | .em => 72 + inst / 8
  | .cp => 72 + inst / 4
  | .lane => 72 + inst / 16

/-- The power domain of page slot `n`; an empty slot has none. -/
def slotDomain (n : Nat) : Option Nat := (pageOf n).map fun p => pageDomain p.1 p.2

/-- R383: the engine family and unit of a SOURCE number. -/
def sourceEng (s : Nat) : Option (EngKind × Nat) :=
  if s < 64 then none
  else if s < 80 then some (.fe, s - 64)
  else if s < 112 then some (.ld, s - 80)
  else if s < 128 then some (.le, s - 112)
  else if s < 136 then some (.pe, s - 128)
  else if s < 144 then some (.td, s - 136)
  else if s < 160 then some (.vd, s - 144)
  else if s < 176 then some (.me, s - 160)
  else if s < 180 then some (.xc, s - 176)
  else if s < 188 then some (.ad, s - 180)
  else if s < 196 then some (.nb, s - 188)
  else if s < 204 then some (.hq, s - 196)
  else none

/-- R382, R383: the router of an initiator (attachment 0 for a BM controller). -/
def sourceRouter (s : Nat) : Option Nat :=
  if s < 64 then some (bayRouter (s / 8) (s % 8 / 2))
  else match sourceEng s with
    | some (k, n) => some (engRouterInst (engRouter k n))
    | none =>
      if s < 212 then some (routerInst (1 + (s - 204)) 0)
      else if s < 216 then some (bmRouter (s - 212) 0)
      else if s < 232 then some (routerInst (1 + 2 * ((s - 216) / 4)) 9)
      else if s = 232 ∨ s = 239 then some (routerInst 0 9)
      else if s = 233 then some (routerInst 6 9)
      else if s = 234 then some (routerInst 2 9)
      else if s = 235 then some (routerInst 8 9)
      else if s = 236 then some (routerInst 9 0)
      else if s = 237 then some (routerInst 0 0)
      else if s = 238 then some (routerInst 9 9)
      else none

/-- What hangs on a router's local port (R382). -/
inductive Attach where
  | initiator (source : Nat)
  | memory (base : Nat)
  | page (slot : Nat)
deriving DecidableEq, Repr

/-- R382: the memories of a router, as base addresses in increasing order. A pier's PSTAT line counts as a memory of its
own (log entry 108, DEDUCED). The bulk-memory attachments stand under the controller's first bulk address bits (k, j). -/
def routerMemories (inst : Nat) : List Nat :=
  let piers := (List.range 64).filter fun p => bayRouter (p / 8) (p % 8 / 2) = inst
  let pm := piers.flatMap fun p => [0x001000000000 + p * 0x80000, 0x001000000000 + p * 0x80000 + 0x7FF80]
  let bays := (List.range 32).filter fun i => bayRouter (i / 4) (i % 4) = inst
  let bm := bays.map fun i => 0x001002000000 + (i / 4) * 0x1000000 + (i % 4) * 0x400000
  let engs := (List.range 32).filter fun e => engRouterInst e = inst
  let em := engs.map fun e => 0x00100A000000 + e * 0x180000
  let bulk := ((List.range 16).filter fun i => bmRouter (i / 4) (i % 4) = inst).map fun i => i * 0x40
  bulk ++ pm ++ bm ++ em ++
    (if inst = 90 then [0x002000000000, 0x003000000000] else []) ++ (if inst = 96 then [0x005000000000] else [])

/-- R383: the attachments of a router in the order of their numbers. -/
def attachments (inst : Nat) : List Attach :=
  ((List.range 240).filter fun s => sourceRouter s = some inst).map .initiator ++
  (routerMemories inst).map .memory ++
  ((List.range 0x31A).filter fun n =>
    match pageOf n with
    | some (k, i) => pageRouter k i = inst
    | none => false).map .page

/-- R383: the number of an attachment at a router. -/
def attachNumber (inst : Nat) (a : Attach) : Option Nat := (attachments inst).idxOf? a

end Sys2Proof.Machine
end

