-- ==== Sys2Proof/Machine/Ops.lean ====
section
/-! DEFINITION. The named operations over registers and memory, recording an event (R30, R614), raising an interrupt source
(R28), power and mode queries, and the access checks of R694. -/
namespace Sys2Proof.Machine

/-! ## Fields -/

/-- The bits `hi:lo` of a number. -/
def bits (v hi lo : Nat) : Nat := (v >>> lo) % 2 ^ (hi + 1 - lo)

/-- A field of a register's value. -/
def fldGet (f : Fld) (w : Word) : Nat := bits w.toNat f.hi f.lo

/-- A register's value with one field replaced (the value is cut to the field's width). -/
def fldPut (f : Fld) (w : Word) (v : Nat) : Word :=
  BitVec.ofNat 32 (w.toNat - fldGet f w <<< f.lo + (v % 2 ^ (f.hi + 1 - f.lo)) <<< f.lo)

/-- A signed reading of the low `n` bits of a number. -/
def toInt (n v : Nat) : Int := if v % 2 ^ n < 2 ^ (n - 1) then (v % 2 ^ n : Nat) else (v % 2 ^ n : Nat) - (2 ^ n : Nat)

/-- The two's complement of an integer in `n` bits. -/
def ofInt (n : Nat) (i : Int) : Nat := (i % (2 ^ n : Nat)).toNat

/-- Inserts an item into a sorted list, before the first item that it does not come after. -/
def insertBy {α : Type} (le : α → α → Bool) (a : α) : List α → List α
  | [] => [a]
  | b :: l => if le a b then a :: b :: l else b :: insertBy le a l

/-- A list in order; items that are equal in it keep their places. -/
def sortBy {α : Type} (le : α → α → Bool) (l : List α) : List α := l.foldr (insertBy le) []

/-! ## The register store -/

/-- The register of a page at an offset. -/
def State.reg (s : State) (page off : Nat) : Word := Sparse.get resetVal s.regs (regKey page off)

/-- Sets a whole register. -/
def State.setReg (s : State) (page off : Nat) (v : Word) : State :=
  { s with regs := Sparse.set resetVal s.regs (regKey page off) v }

/-- A field of a page; `n` selects the instance in an array of registers. -/
def State.get (s : State) (page : Nat) (f : Fld) (n : Nat := 0) : Nat := fldGet f (s.reg page (f.off + n * f.str))

/-- Sets a field of a page. -/
def State.put (s : State) (page : Nat) (f : Fld) (v : Nat) (n : Nat := 0) : State :=
  let off := f.off + n * f.str
  s.setReg page off (fldPut f (s.reg page off) v)

/-- Whether a field is not 0. -/
def State.flag (s : State) (page : Nat) (f : Fld) (n : Nat := 0) : Bool := s.get page f n != 0

/-- A 64-bit value in a _LO/_HI pair (R11); `f` is the _LO field. -/
def State.get64 (s : State) (page : Nat) (f : Fld) (n : Nat := 0) : Nat :=
  let off := f.off + n * f.str
  (s.reg page off).toNat + (s.reg page (off + 4)).toNat * 2 ^ 32

/-- Sets a 64-bit value in a _LO/_HI pair. -/
def State.put64 (s : State) (page : Nat) (f : Fld) (v : Nat) (n : Nat := 0) : State :=
  let off := f.off + n * f.str
  (s.setReg page off (BitVec.ofNat 32 v)).setReg page (off + 4) (BitVec.ofNat 32 (v / 2 ^ 32))

/-- Adds to a field that saturates at its greatest value. -/
def State.satAdd (s : State) (page : Nat) (f : Fld) (v : Nat := 1) (n : Nat := 0) : State :=
  s.put page f (min (s.get page f n + v) (2 ^ (f.hi + 1 - f.lo) - 1)) n

/-- Adds to a field that wraps. -/
def State.wrapAdd (s : State) (page : Nat) (f : Fld) (v : Nat := 1) (n : Nat := 0) : State :=
  s.put page f (s.get page f n + v) n

/-- R36: a page resets to the values of its tables; its latches (R11) reset with it. -/
def State.resetPages (s : State) (p : Nat → Bool) : State :=
  { s with
    regs := Sparse.drop (fun k => p (k / 1024)) s.regs
    hiLatch := Sparse.drop (fun k => p (k / 1024)) s.hiLatch
    loStage := Sparse.drop (fun k => p (k / 1024)) s.loStage }

/-! ## Memory -/

/-- What a byte that nothing has written reads as (log entry 5, DESIGN CHOICE). -/
def memDefault : Nat → Byte := fun _ => 0

/-- The canonical form of memory. -/
def memWf (m : List Host.Cell) : Bool := Sparse.wf memDefault m

/-- Reads one byte. -/
def State.byte (s : State) (a : Nat) : Byte := Sparse.get memDefault s.mem a

/-- Writes one byte. -/
def State.setByte (s : State) (a : Nat) (v : Byte) : State := { s with mem := Sparse.set memDefault s.mem a v }

/-- `n` bytes of a memory from address `a` on, in little-endian order (R385). -/
def memLe (m : List Host.Cell) (a : Nat) : Nat → Nat
  | 0 => 0
  | n + 1 => (Sparse.get memDefault m a).toNat + 256 * memLe m (a + 1) n

/-- A memory with the low `n` bytes of `v` stored at `a` in little-endian order. -/
def memPut (m : List Host.Cell) (a : Nat) : Nat → Nat → List Host.Cell
  | 0, _ => m
  | n + 1, v => memPut (Sparse.set memDefault m a (BitVec.ofNat 8 v)) (a + 1) n (v / 256)

/-- Reads `n` bytes in little-endian order. -/
def State.load (s : State) (a n : Nat) : Nat := memLe s.mem a n

/-- Stores the low `n` bytes of `v` in little-endian order. -/
def State.store (s : State) (a n v : Nat) : State := { s with mem := memPut s.mem a n v }

/-- Copies `n` bytes from `a` to `b`, as read before the copy. -/
def State.copyBytes (s : State) (b a n : Nat) : State := s.store b n (s.load a n)

/-- The words of 4 bytes from `a` on. -/
def State.words (s : State) (a : Nat) : Nat → List Nat
  | 0 => []
  | n + 1 => s.load a 4 :: s.words (a + 4) n

/-- Stores a list of items of `w` bytes each. -/
def State.storeAll (s : State) (a w : Nat) : List Nat → State
  | [] => s
  | v :: vs => (s.store a w v).storeAll (a + w) w vs

/-- Reads `n` items of `w` bytes each. -/
def State.loadAll (s : State) (a w : Nat) : Nat → List Nat
  | 0 => []
  | n + 1 => s.load a w :: s.loadAll (a + w) w n

/-! ## Free values, time, mode and domains -/

/-- A fresh free value and the state that has used it up (log entry 3). -/
def State.fresh (s : State) : Nat × State := (Config.freeNat s.free, { s with free := s.free + 1 })

/-- The air count as a number (R6). -/
def State.now (s : State) : Nat := s.air.toNat

/-- One span is 983,040 cy (R5). -/
def spanCy : Nat := 983040

/-- One second in cy. -/
def secondCy : Nat := 1966080000

def pgSys : Nat := 0x000
def pgKeeper : Nat := 0x001
def pgPwr : Nat := 0x002
def pgPylon : Nat := 0x004
def pgRef : Nat := 0x005
def pgTrig : Nat := 0x006
def pgKeystone : Nat := 0x008
def pgParapet : Nat := 0x009
def pgToll : Nat := 0x00A
def pgHub : Nat := 0x00B
def pgTr0 : Nat := 0x00C
def pgTr1 : Nat := 0x00D
def pgTr2 : Nat := 0x00E
def pgTr3 : Nat := 0x00F
def pgDeck : Nat := 0x060
def pgVar : Nat := 0x061
def pgPool : Nat := 0x270
def pgTruss : Nat := 0x2F0
def pgPhy : Nat := 0x304
def pgPcie : Nat := 0x314
def pgXspi : Nat := 0x315
def pgPm : Nat := 0x316
def pgUart : Nat := 0x317
def pgGpio : Nat := 0x318
def pgDebug : Nat := 0x319

/-- The page of instance `n` of a kind. -/
def page (k : PageKind) (n : Nat) : Nat := pageBase k + n

/-- SYS_MODE.MODE: 0 INERT, 1 BRINGUP, 2 SERVICE, 3 DRAIN, 4 QUIET, 5 DIAGNOSTIC. -/
def State.mode (s : State) : Nat := s.get pgSys Rg.SYS_MODE_MODE

def modeInert : Nat := 0
def modeBringup : Nat := 1
def modeService : Nat := 2
def modeDrain : Nat := 3
def modeQuiet : Nat := 4
def modeDiag : Nat := 5

/-- R52: the air count is valid in LOCKED and HOLDOVER. -/
def State.airValid (s : State) : Bool := s.get pgPylon Rg.PY_STATE_STATE ≥ 2

/-- The air count where a register records it only while it is valid, else 0. -/
def State.airIfValid (s : State) : Nat := if s.airValid then s.now else 0

/-- D_STAT.CUR of domain `d`: 0 ON, 1 GATE, 2 RET, 3 OFF. -/
def State.domCur (s : State) (d : Nat) : Nat := s.get (page .domain d) Rg.D_STAT_CUR

/-- R585: a domain is ON only outside entries and wakes. -/
def State.domOn (s : State) (d : Nat) : Bool :=
  s.domCur d == 0 && !(s.flag (page .domain d) Rg.D_STAT_BUSY)

/-- R35, R585: the page of a domain in RET or OFF is asleep, and during a passage from or to one of them (log entry 31). -/
def State.asleep (s : State) (d : Nat) : Bool := s.domCur d ≥ 2 || s.pw.trans.any fun t => t.dom = d && decide (2 ≤ t.via)

/-- R26: ENABLE = 1 on a page. -/
def State.enabled (s : State) (p : Nat) : Bool := bits (s.reg p 0x008).toNat 0 0 == 1

/-- PG_CTRL.OUT_EN of a page. -/
def State.outEn (s : State) (p : Nat) : Bool := bits (s.reg p 0x008).toNat 1 1 == 1

/-- PG_LOCK.LOCK of a page. -/
def State.locked (s : State) (p : Nat) : Bool := s.get p Rg.PG_LOCK_LOCK == 1

/-- K: the deck clock period in cy at the current deck level (R95). -/
def State.deckK (s : State) : Nat :=
  let c := s.get pgPwr Rg.PWR_DECK_CUR
  if c = 0 then 1 else if c = 1 then 2 else 4

/-! ## Events -/

/-- The severities of R614. -/
inductive Severity where
  | fatal | corrected | info | degraded | alert
deriving DecidableEq, Repr

/-- R614: the first severity whose condition an event code meets. -/
def severity (code : Nat) : Severity :=
  let cls := code / 256
  let low := code % 256
  let engine := decide (0x30 ≤ cls) && decide (cls ≤ 0x3A)
  if [0x0202, 0x0203, 0x5101, 0x0908, 0x0911, 0x0915, 0x0916].contains code then .fatal
  else if low = 0x10 && ([0x08, 0x11, 0x20, 0x21, 0x50, 0x58].contains cls || engine) then .corrected
  else if Ev.infoCodes.contains code || (engine && (low = 0x03 || low = 0x08 || low = 0x09)) then .info
  else if (cls = 0x20 && 1 ≤ low && low ≤ 7) || (engine && [1, 2, 4, 5].contains low)
      || (0x101C ≤ code && code ≤ 0x101F) || code = 0x1103 || code = 0x1104
      || cls = 0x40 || cls = 0x48 || cls = 0x49 || cls = 0x4A then .degraded
  else .alert

/-- R615: the bit of PP_FAULT.SRC that a FATAL event sets. -/
def fatalBit (code : Nat) : Option Nat :=
  if code = 0x0202 ∨ code = 0x0203 then some 0
  else if code = 0x5101 then some 1
  else if code = 0x0908 then some 2
  else if code = 0x0911 then some 3
  else if code = 0x0915 then some 4
  else none

/-- The PG_IRQ source that a page's chapter assigns to an event (R90–R93, R132, R133, R173, R238, R276, R308, R335, R376,
R404, R406, R438–R440, R476, R508, R543, R576, R609–R611, R640, R641, R660, R691, R692). -/
def irqBitOf (k : PageKind) (code : Nat) : Option Nat :=
  let low := code % 256
  match k with
  | .pylon =>
    if code = Ev.LOCKED ∨ code = Ev.HOLDOVER then some 0 else if code = Ev.TIME_OOT then some 1
    else if code = Ev.DRIFT_ID ∨ code = Ev.DRIFT_UNRES ∨ code = Ev.LO_DRIFT then some 2
    else if code = Ev.PPS_FAST ∨ code = Ev.PPS_MISS ∨ code = Ev.PPS_STUCK then some 3
    else if code = Ev.TOD_MISMATCH then some 4 else if code = Ev.TIME_STEP then some 5
    else if code = Ev.FREQ_RANGE then some 6 else if code = Ev.COARSE_DENIED then some 7 else none
  | .pylonTrig =>
    if code = Ev.TRIG_LATE then some 0
    else if code = Ev.TRIG_RANGE ∨ code = Ev.TRIG_OWNER then some 1 else none
  | .gpio =>
    if code = Ev.CAP_OVF then some 1 else if code = Ev.STUCK then some 2 else if code = Ev.RATE_DROP then some 3
    else if code = Ev.GLITCH then some 4 else none
  | .deck =>
    if (0x1010 ≤ code ∧ code ≤ 0x1015) then some 1 else if code = Ev.LEASE_LAPSE then some 2
    else if code = Ev.UNIT_FAILED ∨ code = Ev.NO_DEGRADE then some 3
    else if code = Ev.THERM_CLASS ∨ code = Ev.THERM_LIMIT then some 4
    else if code = Ev.REPLAY_NONE ∨ code = Ev.REPLAY_FAIL then some 5 else none
  | .deckVariant => if code = Ev.LATE_SELECT ∨ code = Ev.SEL_INVALID then some 0 else none
  | .pier => if low = 0x10 then some 1 else some 0
  | .bay =>
    if low = 1 ∨ low = 2 ∨ low = 3 then some 1 else if low = 4 then some 3 else if low = 5 then some 4 else none
  | .eng _ =>
    if low = 3 then some 1 else if low = 0x10 then some 2 else if low = 8 then some 3 else if low = 9 then none
    else some 0
  | .lane =>
    if code = Ev.HI_BER ∨ code = Ev.HI_SER then some 1 else if code = Ev.FEC_UNCORR then some 2
    else if code = Ev.WAKE_ACT ∨ code = Ev.WAKE_OS then some 3 else if code = Ev.PLL_UNLOCK then some 5
    else if code = Ev.LOS then some 6 else none
  | .au | .em | .cp => some 0
  | .lk => some 0
  | .router =>
    if code = Ev.TARGET_DEAD then some 0 else if low = 0x10 then some 1
    else if code = Ev.HDR_UNCORR ∨ code = Ev.DATA_POISON ∨ code = Ev.BAD_HEADER ∨ code = Ev.XFER_INVALID_11 then some 2
    else none
  | .bm =>
    if low = 1 ∨ low = 2 ∨ low = 9 then some 0 else if low = 3 then some 1 else if low = 6 then some 3
    else if low = 8 then some 4 else if low = 7 then some 5 else if low = 4 ∨ low = 5 then some 6 else none
  | .hbmPhy => if 1 ≤ low ∧ low ≤ 4 then some (low - 1) else none
  | .cluster => if low = 1 ∨ low = 2 then some 0 else if low = 0x10 then some 1 else if low = 3 then some 2 else none
  | .pcie => if 1 ≤ low ∧ low ≤ 6 then some low else none
  | .eventHub => some 0
  | .trestle0 =>
    if low = 1 then some 0 else if low = 2 ∨ low = 3 then some 1 else if low = 4 ∨ low = 5 ∨ low = 6 then some 2
    else if low = 7 then some 3 else none
  | .trestle1 => if low = 9 then some 0 else if low = 8 then some 1 else if low = 0x0A then some 2 else none
  | .trestle2 => if low = 0x0B then some 0 else if low = 0x0C then some 1 else if low = 0x0D then some 2 else none
  | .trestle3 =>
    if low = 0x0F ∨ low = 0x10 ∨ low = 0x11 then some 0 else if low = 0x12 then some 1 else if low = 0x0E then some 2
    else none
  | .keystone =>
    if low = 0x0F then some 1 else if low = 2 ∨ low = 3 ∨ low = 5 then some 2 else if low = 0x0B ∨ low = 4 then some 3
    else if low = 0x0C ∨ low = 0x0D ∨ low = 0x0E then some 4
    else if 6 ≤ low ∧ low ≤ 9 then some 5 else none
  | .pool => if 1 ≤ low ∧ low ≤ 22 then some low else none
  | .pwr =>
    if code = Ev.MODE_DONE then some 0 else if code = Ev.RAIL_TIMEOUT ∨ code = Ev.RAIL_FAULT then some 1
    else if code = Ev.PLEVEL_DONE_02 ∨ code = Ev.PLEVEL_REFUSED then some 2 else if code = Ev.QUIET_WAKE then some 3
    else if code = Ev.STRAP_BAD then some 4 else none
  | .domain => if code = Ev.REFUSED then some 0 else if code = Ev.ABORTED then some 1 else none
  | .pmbus => some 1
  | .parapet =>
    if low = 1 ∨ low = 2 then some 0 else if low = 7 ∨ low = 8 then some 2
    else if 0x12 ≤ low ∧ low ≤ 0x15 then some 1 else some 3
  | .debug => some 0
  | .tollhouse => if low = 1 then some 0 else if low = 6 then some 2 else if low = 7 then some 3 else some 1
  | .xspi => some 1
  | _ => none

/-- Raises a PG_IRQ source of a page for one cycle: PG_IRQ latches it (R28). -/
def State.irq (s : State) (p b : Nat) : State :=
  s.setReg p 0x018 (s.reg p 0x018 ||| BitVec.ofNat 32 (2 ^ b))

/-- R30: the first-error capture. While a capture is held a further error sets OVF; of several errors of one cycle the
capture keeps the one with the lowest code. A held capture raises PG_IRQ source 31. -/
def State.capture (s : State) (p code ctx cap2 cap3 : Nat) : State :=
  let held := s.flag p Rg.PG_ERR_CAP0_VALID
  let sameCy := Sparse.get (fun _ => 0) s.capCy p == s.uptime + 1
  if held && !(sameCy && decide (code < s.get p Rg.PG_ERR_CAP0_EVENT)) then
    s.put p Rg.PG_ERR_CAP0_OVF 1
  else
    let s1 := s.setReg p 0x020 (BitVec.ofNat 32 (1 <<< 31 + held.toNat <<< 30 + (ctx % 4096) <<< 16 + code % 65536))
    let s2 := s1.setReg p 0x024 (BitVec.ofNat 32 s.now)
    let s3 := s2.setReg p 0x028 (BitVec.ofNat 32 cap2)
    let s4 := s3.setReg p 0x02C (BitVec.ofNat 32 cap3)
    { s4 with capCy := Sparse.set (fun _ => 0) s4.capCy p (s.uptime + 1) }

/-- Records an event on a page: its PG_IRQ source, its capture when the severity is ALERT, DEGRADED or FATAL (R30), and
FAULT_N for a FATAL one (R615). `cap2` and `cap3` are the values of PG_ERR_CAP2 and PG_ERR_CAP3. -/
def State.event (s : State) (p code : Nat) (ctx : Nat := 0) (cap2 : Nat := 0) (cap3 : Nat := 0) : State :=
  let s := match pageOf p with
    | some (k, _) =>
      match irqBitOf k code with
      | some b => s.irq p b
      | none => s
    | none => s
  let s := match severity code with
    | .info | .corrected => s
    | _ => (s.capture p code ctx cap2 cap3).irq p 31
  match fatalBit code with
  | some b => s.put pgParapet Rg.PP_FAULT_SRC (s.get pgParapet Rg.PP_FAULT_SRC ||| 2 ^ b)
  | none => s

/-- R44: an access event in the SYS page: the address, SOURCE[31:24], WRITE[23] and PRIV[22:21]. -/
def State.sysEvent (s : State) (code addr : Nat) (w : Who) (write : Bool) : State :=
  s.event pgSys code w.ctx (addr % 2 ^ 32)
    ((w.source % 256) <<< 24 + write.toNat <<< 23 + (w.priv % 4) <<< 21 + addr / 2 ^ 32 % 65536)

/-- R644: `v` occurrences of the counter event `code` of a page in this cycle. -/
def State.bump (s : State) (p code : Nat) (v : Nat := 1) : State := { s with samples := (p, code, v) :: s.samples }

/-! ## Register-page accesses -/

/-- ERR STATUS values of R386. -/
def stUnmapped : Nat := 1
def stAsleep : Nat := 2
def stWidth : Nat := 3
def stPrivilege : Nat := 4
def stContext : Nat := 5
def stDead : Nat := 6
def stTimeout : Nat := 7
def stPoison : Nat := 8

/-- Answers the access of the command. -/
def State.answer (s : State) (status data : Nat) : State := { s with rsp := ⟨status, data⟩ }

/-- R636: the power of the debug port over a page, by life-cycle state and authentication. -/
def debugAdmits (s : State) (k : PageKind) (off : Nat) : Bool :=
  let lc := s.get pgParapet Rg.PP_LC_LC
  let identity := k = .sys && decide (0x100 ≤ off) && decide (off < 0x120)
  if lc = 4 then identity
  else if lc = 2 then
    if s.flag pgDebug Rg.DBG_STAT_AUTH then k ≠ .parapet && k ≠ .keeper else identity || k = .debug
  else true

/-- R41, R42, R32, R444: whether an initiator is admitted to an offset of a page. -/
def admitted (s : State) (w : Who) (p : Nat) (k : PageKind) (off : Nat) (write : Bool) : Bool :=
  let ctxReg := (s.reg p 0x030).toNat
  let identity := k = .sys && decide (0x100 ≤ off) && decide (off < 0x120) && !write
  let privileged := w.source = 232 || (decide (216 ≤ w.source) && decide (w.source < 232) && w.priv = 3)
    || (w.source = 235 && debugAdmits s k off)
  let table :=
    if privileged then true
    else if 216 ≤ w.source ∧ w.source < 232 then
      w.priv = 1 && (identity ||
        ((bits ctxReg 16 16 = 1 || (bits ctxReg 17 17 = 1 && decide (0x080 ≤ off) && decide (off < 0x100)))
          && (w.ctx = 0 || w.ctx = bits ctxReg 11 0)))
    else if w.source = 233 then w.fn = 0 && (identity || bits ctxReg 18 18 = 1)
    else false
  if write && (off = 0x030 || off = 0xFF0 || (k = .cluster && (off = 0x104 || off = 0x108 || off = 0x10C))) then privileged
  else table

/-- R400: whether the router has marked the attachment of a page dead. -/
def pageDead (s : State) (p : Nat) (k : PageKind) (inst : Nat) : Bool :=
  let r := page .router (pageRouter k inst)
  if s.get r Rg.RT_STAT_ANY_DEAD = 0 then false
  else match attachNumber (pageRouter k inst) (.page p) with
    | some n => bits (s.reg r (0x140 + 4 * (n / 32))).toNat (n % 32) (n % 32) == 1
    | none => false

/-- The outcome of the access checks of R694 on a register page. -/
inductive PageAccess where
  /-- The access fails a check: the ERR STATUS and the event of the SYS page (0: none). -/
  | denied (status event : Nat)
  /-- The access reaches a register. -/
  | reg (page : Nat) (kind : PageKind) (inst off : Nat) (d : RegDef)
deriving DecidableEq, Repr

/-- The base of the register-page range (R20). -/
def pagesBase : Nat := 0x004000000000

/-- R694: the checks of an access to offset `off` of the page `p` in their order. An access by anyone but the Keeper (and the debug port
to its own page) travels on the Truss and needs D02 (R37, R641); without it the access is not answered (log entry 9). -/
def checkPage (s : State) (w : Who) (p off width : Nat) (write amo : Bool) : PageAccess :=
  match pageOf p with
  | none => .denied stUnmapped Ev.UNMAPPED
  | some (k, inst) =>
    let viaTruss := !(w.source = 232 || (w.source = 235 && k = .debug))
    if viaTruss && s.asleep 2 then .denied stTimeout 0
    else if pageDead s p k inst then .denied stDead 0
    else if s.asleep (pageDomain k inst) then .denied stAsleep Ev.PAGE_ASLEEP
    else match findReg k inst (off / 4 * 4) with
      | none => .denied stUnmapped Ev.UNMAPPED
      | some d =>
        let aligned := (width = 4 && off % 4 = 0) || (width = 8 && off % 8 = 0 && d.pair)
        if amo || !aligned then .denied stWidth Ev.ACCESS_WIDTH
        else if !(admitted s w p k off write) then .denied stPrivilege Ev.PRIVILEGE
        else .reg p k inst off d

/-- The answer to a refused access: the event in the SYS page, and the ERR response; a refused host write is discarded
without one (R41). -/
def State.deny (s : State) (w : Who) (addr : Nat) (write : Bool) (status event : Nat) : State :=
  let s := if event = 0 then s else s.sysEvent event addr w write
  s.answer (if write && w.source = 233 then 0 else status) 0

/-- R593: activity in a domain restarts its idle timer. -/
def State.touch (s : State) (d : Nat) : State :=
  { s with pw := { s.pw with act := Sparse.set (fun _ => 0) s.pw.act d (s.uptime + 1) } }

/-- An access of 4 bytes to the register at offset `off` of page `p` by a step of its own: the checks of R694, then the
effect `f` (R23). -/
def State.access (s : State) (w : Who) (p off : Nat) (write : Bool) (f : State → State) : State :=
  let addr := pagesBase + p * 4096 + off
  match checkPage s w p off 4 write false with
  | .denied st ev => s.deny w addr write st ev
  | .reg _ k inst _ _ => f ((s.answer 0 0).touch (pageDomain k inst))

/-- R54, R55, R597: the DECK page shows a plan armed or running. -/
def State.planBusy (s : State) : Bool := s.get pgDeck Rg.DK_STAT_STATE ≥ 2

/-! ## Power -/

/-- R602: a wake source reaches the Keeper while the device is in QUIET or enters it; the first counts. -/
def State.wakeSource (s : State) (cause src : Nat) : State :=
  let quiet := s.mode = modeQuiet || (s.flag pgSys Rg.SYS_MODE_BUSY && s.get pgSys Rg.SYS_MODE_TARGET = modeQuiet)
  if quiet && s.pw.wake.isNone then { s with pw := { s.pw with wake := some ⟨cause, src, s.now, s.uptime⟩ } } else s

end Sys2Proof.Machine
end

