-- ==== Sys2Proof/Machine/Flags.lean ====
section
/-! DEFINITION. The pier's reduction functions and flags: rounding, saturation and the lanes of registers (R180–R182), and
the condition results of compares (R188, R196). -/
namespace Sys2Proof.Machine

/-- R181: rnd(x, s) in rounding mode `mode`. -/
def rnd (mode : Nat) (x : Int) (s : Nat) : Int :=
  if mode = 0 then x / (2 ^ s : Nat)
  else if mode = 1 then (if s = 0 then x else (x + (2 ^ (s - 1) : Nat)) / (2 ^ s : Nat))
  else
    let q := x / (2 ^ s : Nat)
    let r := x % (2 ^ s : Nat)
    if 2 * r < (2 ^ s : Nat) then q else if (2 ^ s : Nat) < 2 * r then q + 1 else q + q % 2

/-- R181: a value clipped to the signed range of `n` bits. -/
def satN (n : Nat) (x : Int) : Int := max (-(2 ^ (n - 1) : Nat)) (min ((2 ^ (n - 1) : Nat) - 1) x)

/-- Whether satN clips. -/
def clips (n : Nat) (x : Int) : Bool := satN n x != x

/-- The signed lanes of `w` bits of a register (R180). -/
def lanes (w n v : Nat) : List Int := (List.range n).map fun i => toInt w (v >>> (w * i))

/-- A register from its lanes of `w` bits. -/
def packLanes (w : Nat) : List Int → Nat
  | [] => 0
  | x :: l => ofInt w x + 2 ^ w * packLanes w l

/-- Lane-wise application. -/
def zipLanes (f : Int → Int → Int) (a b : List Int) : List Int := List.zipWith f a b

/-- The bits of a vector of `w`-bit elements that guard `g` lets through (R183). -/
def guardMask (w g : Nat) : Nat := (List.range 32).foldl (fun m e => if g.testBit e then m + (2 ^ w - 1) <<< (w * e) else m) 0

/-- R182: whether a lane of an element that the guard lets through is clipped to `n` bits; two lanes make an element. -/
def anyClip (n g : Nat) (xs : List Int) : Bool :=
  (xs.zipIdx).any fun x => g.testBit (x.2 / 2) && clips n x.1

/-- A guard of all ones where a condition holds (R196). -/
def guardOf (b : Bool) : Nat := if b then 0xFFFFFFFF else 0

/-- The bits of a vector compare: bit e of the result tells whether the relation holds of element e's I halves (R188). -/
def compareBits (r : Int → Int → Bool) (a b : List Int) : Nat :=
  (List.range 32).foldl (fun m e => if r (a.getD (2 * e) 0) (b.getD (2 * e) 0) then m + 2 ^ e else m) 0

/-- R189: the leading bits of a `w`-bit value equal to its sign bit, less 1. -/
def headroom (w : Nat) (x : Int) : Nat :=
  let v := if x < 0 then (-x - 1).toNat else x.toNat
  w - 1 - (if v = 0 then 0 else v.log2 + 1)

end Sys2Proof.Machine
end

