-- ==== Sys2Proof/Machine/RegWrite.lean ====
section
/-! DEFINITION. Writing a register by the access codes of its fields (R8, R9, R27, R33, R34) and its _LO/_HI pairing (R11). -/
namespace Sys2Proof.Machine

/-- The mask of a field in its register. -/
def fldMask (f : Fld) : Nat := (2 ^ (f.hi + 1 - f.lo) - 1) <<< f.lo

/-- One field of a write: the new register value, and whether the write met a frozen field that it would change (R34).
R27: RWD fields are tested against the ENABLE before the write. R33: a lock freezes RWL and RWD fields. -/
def writeField (en locked : Bool) (v : Nat) (acc : Nat × Bool) (f : Fld) : Nat × Bool :=
  let m := fldMask f
  let old := acc.1 &&& m
  let new := v &&& m
  let rest := acc.1 - old
  let frozen := fun (b : Bool) => if b then (acc.1, acc.2 || new != old) else (rest + new, acc.2)
  match f.acc with
  | .ro | .rsv | .wo => acc
  | .rw => (rest + new, acc.2)
  | .w1c => (rest + (old - (old &&& new)), acc.2)
  | .w1s => (rest + (old ||| new), acc.2)
  | .rwl => frozen locked
  | .rwd => frozen (en || locked)

/-- A whole register written: its new value and whether a frozen field stood against the write. -/
def writeFields (en locked : Bool) (fs : List Fld) (old v : Nat) : Nat × Bool :=
  fs.foldl (writeField en locked v) (old, false)

/-- Whether an offset is the _HI half of a pair. -/
def isHiHalf (k : PageKind) (inst off : Nat) : Bool :=
  match findReg k inst (off - 4) with
  | some d => d.pair && decide (4 ≤ off)
  | none => false

/-- Writes one 32-bit register of a page that the access has reached (check 6 of R694: FROZEN_WRITE). A _LO half is staged;
a write of _HI makes the whole pair take effect with the _LO value written last (R11). -/
def State.writeReg (s : State) (w : Who) (p : Nat) (k : PageKind) (inst off : Nat) (d : RegDef) (v : Nat) : State :=
  let old := (s.reg p off).toNat
  let r := writeFields (s.enabled p) (s.locked p) d.flds old v
  let s1 := if r.2 then s.sysEvent Ev.FROZEN_WRITE (pagesBase + p * 4096 + off) w true else s
  let key := regKey p off
  if d.pair then
    if r.2 then s1 else { s1 with loStage := Sparse.set resetVal s1.loStage key (BitVec.ofNat 32 r.1) }
  else if isHiHalf k inst off then
    if r.2 || r.1 = old && (d.flds.all fun f => f.acc = .ro) then s1
    else (s1.setReg p (off - 4) (Sparse.get resetVal s1.loStage (regKey p (off - 4)))).setReg p off (BitVec.ofNat 32 r.1)
  else s1.setReg p off (BitVec.ofNat 32 r.1)

/-- The live levels of a page's interrupt sources (R27): the capture, and the sources that are levels (R93, R174, R438, R439, R692). The other
sources are raised for the one cycle of their event. -/
def State.rawIrq (s : State) (p : Nat) : Word :=
  let log := !(Sparse.get (fun _ => []) s.mu.cel p).isEmpty
  let uart := fun (u : Uart) => (!u.rx.isEmpty).toNat + 2 * u.tx.isEmpty.toNat
  let src := match pageOf p with
    | some (.gpio, _) => (!s.gp.queue.isEmpty).toNat
    | some (.bay, _) => (s.flag p Rg.BAY_STAT_FAULT).toNat + 4 * log.toNat
    | some (.bm, _) => 4 * log.toNat
    | some (.uart, _) => uart s.io.u0 + 16 * uart s.io.u1
    | _ => 0
  BitVec.ofNat 32 ((s.flag p Rg.PG_ERR_CAP0_VALID).toNat <<< 31 + src)

/-- PG_IRQ: what has been latched and what is raised now (R27). -/
def State.irqNow (s : State) (p : Nat) : Word := s.reg p 0x018 ||| s.rawIrq p

/-- R10, R28: a source that is still raised sets PG_IRQ again after a write cleared it. -/
def State.reIrq (s : State) (p : Nat) : State := s.setReg p 0x018 (s.irqNow p)

end Sys2Proof.Machine
end

