-- ==== Sys2Proof/Machine/MemOps.lean ====
section
/-! DEFINITION. The memories as their readers and writers see them: which memory holds an address (R20, R409, R410, R422),
error correction on a read and a write (R416, R418, R420, R435), admission (R39, R415, R424), and effects that land later
than the command that causes them (R97). -/
namespace Sys2Proof.Machine

/-- A write, by a step of its own, of the register at offset `off` of a page: the checks of R694, the write by the access
codes, then the effect `f`. -/
def State.command (s : State) (w : Who) (p off v : Nat) (f : State → State) : State :=
  match checkPage s w p off 4 true false with
  | .denied st ev => s.deny w (pagesBase + p * 4096 + off) true st ev
  | .reg p k inst off d => f ((((s.answer 0 0).touch (pageDomain k inst)).writeReg w p k inst off d v))

/-! ## Addresses -/

/-- What an address of the 48-bit space names (R20, R409). -/
inductive Place where
  | bulk (g : Nat)
  | pier (n off : Nat)
  | bay (b off : Nat)
  | slice (e off : Nat)
  | keystone (off : Nat)
  | caisson (off : Nat)
  | pages (slot off : Nat)
  | outbound (off : Nat)
  | none
deriving DecidableEq, Repr

def bulkEnd : Nat := 0x000C00000000
def pierBase : Nat := 0x001000000000
def bayBase : Nat := 0x001002000000
def sliceBase : Nat := 0x00100A000000
def sliceEnd : Nat := 0x00100D000000
def keystoneBase : Nat := 0x002000000000
def caissonBase : Nat := 0x003000000000
def outboundBase : Nat := 0x005000000000

/-- R20, R422. -/
def place (a : Nat) : Place :=
  if a < bulkEnd then .bulk (a / 0x30000000)
  else if a < pierBase then .none
  else if a < bayBase then .pier ((a - pierBase) / 0x80000) ((a - pierBase) % 0x80000)
  else if a < sliceBase then .bay ((a - bayBase) / 0x1000000) ((a - bayBase) % 0x1000000)
  else if a < sliceEnd then .slice ((a - sliceBase) / 0x180000) ((a - sliceBase) % 0x180000)
  else if a < keystoneBase then .none
  else if a < keystoneBase + 0x2000000 then .keystone (a - keystoneBase)
  else if a < caissonBase then .none
  else if a < caissonBase + 0x400000 then .caisson (a - caissonBase)
  else if a < pagesBase then .none
  else if a < pagesBase + 0x1000000 then .pages ((a - pagesBase) / 4096) (a % 4096)
  else if a < outboundBase then .none
  else if a < outboundBase + 0x1000000000 then .outbound (a - outboundBase)
  else .none

/-- Whether an address lies in deck SRAM. -/
def inDeck (a : Nat) : Bool := decide (pierBase ≤ a) && decide (a < sliceEnd)

/-- Whether `n` bytes from `a` on lie wholly in deck SRAM or wholly in bulk memory. -/
def mapped (a n : Nat) : Bool :=
  (decide (pierBase ≤ a) && decide (a + n ≤ sliceEnd)) || decide (a + n ≤ bulkEnd)

/-- Whether `n` bytes from `a` on lie wholly in one memory of R409, or wholly in bulk memory. -/
def oneMemory (a n : Nat) : Bool :=
  match place a, place (a + n - 1) with
  | .bulk _, .bulk _ => true
  | .pier p o, .pier q o' => p = q && (o < 0x7FF80) == (o' < 0x7FF80)
      && (o < 0x20000) == (o' < 0x20000) && (o < 0x50000) == (o' < 0x50000)
  | .bay b _, .bay c _ => b = c
  | .slice e _, .slice f _ => e = f
  | _, _ => false

/-- The base of the engine buffers that a 32-bit deck SRAM address of a descriptor implies (R391, R425): bits 47:32 are
0x0010. -/
def deckAddr (lo : Nat) : Nat := pierBase + lo

/-- R437: the page that records for the memory of an address: a bay page or a BM page. -/
def memPage (a : Nat) : Nat :=
  match place a with
  | .pier n _ => page .bay (n / 8)
  | .bay b _ => page .bay b
  | .slice e _ => page .bay (e / 4)
  | .bulk g => page .bm (g / 16)
  | _ => pgSys

def isBulk (a : Nat) : Bool := decide (a < bulkEnd)

/-- R584: the power domain of the memory of an address. -/
def memDomain (a : Nat) : Nat :=
  match place a with
  | .pier n _ => 16 + n / 2
  | .bay b _ => 48 + b
  | .slice e _ => 56 + e / 2
  | .bulk g => 12 + g / 16
  | .outbound _ => 5
  | _ => 0

/-- R410, R422: a number for the bank of an address: PM and PSTAT lines, XB and YB banks, SB and EB banks, and the
pseudo-channels of bulk memory. -/
def bankOf (a : Nat) : Nat :=
  match place a with
  | .pier n o => n * 16 + (if o < 0x20000 then 0 else if 0x7FF80 ≤ o then 13 else 1 + (o - 0x20000) / 0x8000)
  | .bay b o => 1024 + b * 64 + 16 * (o / 0x400000) + o / 128 % 16
  | .slice e o => 1536 + e * 12 + o / 0x20000
  | .bulk g => 1920 + g
  | _ => 2000

/-- R411: the line in which an address lies starts here; bulk memory is served by 64-byte units. -/
def lineSize (a : Nat) : Nat :=
  match place a with
  | .pier _ o => if o < 0x20000 then 32 else 128
  | .bay _ _ => 128
  | .slice _ _ => 128
  | _ => 64

/-! ## Error correction -/

def ecc0 : Nat → Ecc := fun _ => Ecc.clean

/-- The words, not clean, that `n` bytes from `a` on touch. -/
def eccHits (s : State) (a n : Nat) : List (Nat × Ecc) :=
  s.mu.ecc.filter fun e => decide (a < 8 * e.1 + 8) && decide (8 * e.1 < a + n)

def State.setEcc (s : State) (w : Nat) (e : Ecc) : State :=
  { s with mu := { s.mu with ecc := Sparse.set ecc0 s.mu.ecc w e } }

def cel0 : Nat → List CelEntry := fun _ => []

/-- R437: the low byte by which the bay class and the BM class name the same event. -/
def memCode (a bay bm : Nat) : Nat := if isBulk a then bm else bay

/-- R437: an event of a memory's page: the word's address, and the SOURCE of the reader in DETAIL[31:24]. -/
def State.memEvent (s : State) (a src bay bm : Nat) : State :=
  s.event (memPage a) (memCode a bay bm) 0 (a % 2 ^ 32) ((src % 256) <<< 24 + a / 2 ^ 32 % 65536)

/-- R435: logs a corrected word. -/
def State.celLog (s : State) (a src synd : Nat) (scrub : Bool) : State :=
  let p := memPage a
  let l := Sparse.get cel0 s.mu.cel p
  if l.any fun e => e.addr = a then
    let l' := l.map fun e => if e.addr = a then { e with count := min 255 (e.count + 1) } else e
    { s with mu := { s.mu with cel := Sparse.set cel0 s.mu.cel p l' } }
  else if 16 ≤ l.length then s.memEvent a src Ev.CEL_OVF_21 Ev.CEL_OVF_50
  else
    ({ s with mu := { s.mu with
        cel := Sparse.set cel0 s.mu.cel p (l ++ [CelEntry.mk a synd scrub (s.now % 2 ^ 32) 1]) } }).irq p 2

/-- R416, R420, R435: what the read of one word that is not clean leaves on its memory's page. -/
def State.noteWord (s : State) (src : Nat) (scrub : Bool) (w : Nat) (e : Ecc) : State :=
  let a := 8 * w
  let p := memPage a
  if e.kind = 1 then
    let s := if isBulk a then s.satAdd p Rg.BM_CE_CNT else s.satAdd p Rg.MEM_CE_CNT
    ((s.bump p 0x05).memEvent a src Ev.ECC_CORR_21 Ev.ECC_CORR_50).celLog a src e.synd scrub
  else if e.kind = 2 then
    let s := if isBulk a then s.satAdd p Rg.BM_UE_CNT_UE else s.satAdd p Rg.MEM_UE_CNT_UE
    s.memEvent a src Ev.SRAM_UE Ev.BM_UE
  else
    let s := if isBulk a then s.satAdd p Rg.BM_UE_CNT_POISON else s.satAdd p Rg.MEM_UE_CNT_POISON
    s.memEvent a src Ev.SRAM_POISON Ev.BM_POISON

/-- Whether local pseudo-channel `p` of BMk is plan-refreshed (R423). -/
def State.planPc (s : State) (g : Nat) : Bool :=
  bits (s.get (page .bm (g / 16)) Rg.BM_STAT_PLAN_PC) (g % 16) (g % 16) == 1

def State.pcHalted (s : State) (g : Nat) : Bool :=
  bits (s.get (page .bm (g / 16)) Rg.BM_STAT_HALT) (g % 16) (g % 16) == 1

/-- R430: an uncorrectable word under UE_ACT = 1 halts a controller-refreshed pseudo-channel. -/
def State.haltPc (s : State) (a src : Nat) : State :=
  match place a with
  | .bulk g =>
    let p := page .bm (g / 16)
    if s.flag p Rg.BM_CFG_UE_ACT && !(s.planPc g) && !(s.pcHalted g) then
      (s.put p Rg.BM_STAT_HALT (s.get p Rg.BM_STAT_HALT ||| 2 ^ (g % 16))).memEvent a src Ev.PC_HALT Ev.PC_HALT
    else s
  | _ => s

/-- Takes what a channel of page `p` has prepared for the page's next item under one of the kinds given (R654). -/
def State.ptTake (s : State) (p : Nat) (kinds : List Nat) : Option PtHit × State :=
  match s.ts.hits.find? fun h => h.page = p && kinds.contains h.kind with
  | some h => (some h, { s with ts := { s.ts with hits := s.ts.hits.erase h } })
  | none => (none, s)

/-- R654, R655: ERROR on the word of a bay or of bulk memory that a reader reads. The syndrome shown is a free value; a bay and bulk memory
have no check of their own to report (PARAM 2). -/
def State.ptWord (s : State) (src : Nat) (scrub : Bool) (a : Nat) : Nat × State :=
  if s.ts.hits.isEmpty then (0, s)
  else
    let r := s.ptTake (memPage a) [5]
    match r.1 with
    | none => r.2 |> fun s => (0, s)
    | some h =>
      let f := r.2.fresh
      let k := if h.param % 4 = 0 then 1 else if h.param % 4 = 1 then 2 else 3
      if h.param % 4 = 2 then (0, r.2) else (if 2 ≤ k then k else 0, f.2.noteWord src scrub (a / 8) ⟨k, f.1 % 256⟩)

/-- Reads `n` bytes from `a` on for reader `src`: the worst word met (0 clean or corrected, 2 uncorrectable, 3 poisoned)
and the state with every event of R420. The data themselves are `s.load a n`: a correctable word is held as corrected. -/
def State.readMem (s : State) (src : Nat) (scrub : Bool) (a n : Nat) : Nat × State :=
  let s := if isBulk a && !scrub then s.bump (memPage a) 0xF1 n else s
  (eccHits s a n).foldl
    (fun r e =>
      let s := r.2.noteWord src scrub e.1 e.2
      let s := if e.2.kind = 2 then s.haltPc (8 * e.1) src else s
      (if 2 ≤ e.2.kind then max r.1 e.2.kind else r.1, s))
    (s.ptWord src scrub a)

/-- R418: a write of `n` bytes at `a` over one word that is not clean. -/
def State.overWord (s : State) (src a n : Nat) (w : Nat) (e : Ecc) : State :=
  if a ≤ 8 * w ∧ 8 * w + 8 ≤ a + n then s.setEcc w Ecc.clean
  else if e.kind = 1 then ((s.noteWord src false w e)).setEcc w Ecc.clean
  else (s.setEcc w ⟨3, 0xFF⟩).memEvent (8 * w) src Ev.PARTIAL_UE_21 Ev.PARTIAL_UE_50

/-- Marks every word that `n` bytes from `a` on touch as poisoned (R418). -/
def State.poison (s : State) (a : Nat) : Nat → State
  | 0 => s
  | n + 1 => (s.poison a n).setEcc (a / 8 + n) ⟨3, 0xFF⟩

/-- R432: a write to a line that waits for its write-back. -/
def Scrub.touch (a n : Nat) (c : Scrub) : Scrub :=
  { c with back := c.back.map fun l => (l.1, l.2.1, l.2.2 || (decide (a < l.1 + l.2.1) && decide (l.1 < a + n))) }

/-- Writes the low `n` bytes of `v` at `a` for initiator `src` (R413, R418, R432, R449). -/
def State.writeMem (s : State) (src a n v : Nat) (poisoned : Bool := false) : State :=
  let s := (eccHits s a n).foldl (fun s e => s.overWord src a n e.1 e.2) s
  let s := if isBulk a then s.bump (memPage a) 0xF0 n else s
  let s := s.store a n v
  let s := { s with mu := { s.mu with
    scrubs := s.mu.scrubs.map fun c => (c.1, c.2.touch a n)
    resv := s.mu.resv.filter fun r => r.1 = src || !(decide (a < 64 * r.2 + 64) && decide (64 * r.2 < a + n)) } }
  if poisoned then s.poison a ((a % 8 + n + 7) / 8) else s

/-- The bytes of a number, little-endian. -/
def bytesOf : Nat → Nat → List Nat
  | 0, _ => []
  | n + 1, v => v % 256 :: bytesOf n (v / 256)

/-- The number that bytes spell, little-endian. -/
def ofBytes : List Nat → Nat
  | [] => 0
  | b :: l => b + 256 * ofBytes l

/-- Writes a list of bytes. -/
def State.writeBytes (s : State) (src a : Nat) (l : List Nat) (poisoned : Bool := false) : State :=
  s.writeMem src a l.length (ofBytes l) poisoned

/-- R417: every word of a range holds undefined data again (log entry 5). -/
def State.forgetMem (s : State) (lo hi : Nat) : State :=
  { s with
    mem := Sparse.drop (fun a => decide (lo ≤ a) && decide (a < hi)) s.mem
    mu := { s.mu with ecc := Sparse.drop (fun w => decide (lo ≤ 8 * w) && decide (8 * w < hi)) s.mu.ecc } }

/-! ## Effects that land later -/

/-- Overwrites `n` bytes with free values: what a read before an operation's completion returns (R97). -/
def State.blur (s : State) (src a : Nat) : Nat → State
  | 0 => s
  | n + 1 =>
    let s := s.blur src a n
    let f := s.fresh
    f.2.writeMem src (a + n) 1 (f.1 % 256)

/-- R97: bytes that a unit's operation makes visible at uptime `due`; until then a read of them returns data that the spec
does not define. -/
def State.land (s : State) (due unit source tag a : Nat) (data : List Nat) (poison : Bool := false) : State :=
  if due ≤ s.uptime then s.writeBytes source a data poison
  else
    let s := s.blur source a data.length
    { s with mu := { s.mu with later := s.mu.later ++ [⟨due, unit, source, tag, .bytes a data poison⟩] } }

/-- Withdraws the effects that a unit still owes. -/
def State.dropLater (s : State) (p : Later → Bool) : State :=
  { s with mu := { s.mu with later := s.mu.later.filter fun l => !p l } }

/-! ## The running plan -/

/-- The plan of a slot. -/
def Deck.slot (d : Deck) (n : Nat) : Option Plan := if n = 0 then d.slot0 else d.slot1

/-- The running plan. -/
def State.plan (s : State) : Option Plan := s.dk.run.bind s.dk.slot

/-- An event of the deck (R131): PG_ERR_CAP2 and ADDR_HI hold an address, DETAIL a value. A halting event stops the plan at
the end of the span. -/
def State.deckEvent (s : State) (code : Nat) (addr : Nat := 0) (detail : Nat := 0) (ctx : Nat := 0) : State :=
  let s := s.event pgDeck code ctx (addr % 2 ^ 32) ((detail % 65536) <<< 16 + addr / 2 ^ 32 % 65536)
  if 0x1010 ≤ code ∧ code ≤ 0x1015 ∧ s.dk.run.isSome then
    ({ s with dk := { s.dk with stopping := true } }).put pgDeck Rg.DK_STAT_STATE 5
  else s

/-- The region of a list that holds an address (R110). -/
def regionAt (l : List Region) (a : Nat) : Option Region :=
  l.find? fun r => decide (r.base ≤ a) && decide (a < r.base + 64 * r.len)

/-- R101: whether a deterministic write falls inside the plan's footprint. -/
def State.inFoot (s : State) (a n : Nat) : Bool :=
  match s.plan with
  | none => false
  | some p => (p.foot ++ p.bulk).any fun r => decide (r.base ≤ a) && decide (a + n ≤ r.base + 64 * r.len)

/-- R423: whether `n` bytes from `a` on lie in one plan-refreshed pseudo-channel. -/
def State.inPlanPc (s : State) (a n : Nat) : Bool :=
  decide (a + n ≤ bulkEnd) && a / 0x30000000 == (a + n - 1) / 0x30000000 && s.planPc (a / 0x30000000)

/-- A deterministic write of an operation: outside the footprint it is suppressed and raises FOOTPRINT (R131). -/
def State.detLand (s : State) (due unit source tag ctx a : Nat) (data : List Nat) (poison : Bool := false) : State :=
  if s.inFoot a data.length then s.land due unit source tag a data poison
  else s.deckEvent Ev.FOOTPRINT a 0 ctx

/-! ## Admission of dynamic accesses -/

/-- R39: a binding to context `c` admits the access. -/
def ctxAdmits (w : Who) (c : Nat) (shared : Bool := false) : Bool := w.ctx = 0 || w.ctx = c || shared

/-- R424: the dynamic window of a controller that governs an address. -/
def State.bmWindow (s : State) (k a : Nat) : Option Nat :=
  (List.range 16).find? fun n =>
    s.flag (page .bm k) Rg.BM_WIN_CTL_VALID n
      && decide (s.get (page .bm k) Rg.BM_WIN_BASE n ≤ a / 65536) && decide (a / 65536 ≤ s.get (page .bm k) Rg.BM_WIN_LIMIT n)

/-- R415, R424, R174: whether a dynamic access is admitted by context. -/
def State.ctxAdmitted (s : State) (w : Who) (a : Nat) (write : Bool) : Bool :=
  let regs := match s.plan with
    | some p => p.foot ++ p.bulk
    | none => []
  let bay := match place a with
    | .bay b _ => s.flag (page .bay b) Rg.BAY_DYN
    | _ => true
  bay &&
  match regionAt regs a with
  | some r => if write && r.kind = 0 then false else ctxAdmits w r.ctx
  | none =>
    match place a with
    | .bulk g =>
      match s.bmWindow (g / 16) a with
      | some n =>
        ctxAdmits w (s.get (page .bm (g / 16)) Rg.BM_WIN_CTL_CTX n) (s.flag (page .bm (g / 16)) Rg.BM_WIN_CTL_SHARED n)
          && (!write || s.flag (page .bm (g / 16)) Rg.BM_WIN_CTL_WR_EN n)
      | none => w.ctx = 0
    | _ => w.ctx = 0

/-- Whether stack `n` is trained, and out of self-refresh (R431). -/
def State.trained (s : State) (n : Nat) : Bool := bits (s.get pgPhy Rg.PHY_STAT_TRAINED) n n == 1

def State.selfRefresh (s : State) (n : Nat) : Bool :=
  bits (s.get pgPhy Rg.PHY_STAT_SREF) n n == 1 || decide (s.uptime < (if n = 0 then s.mu.wake0 else s.mu.wake1))

/-- The ERR STATUS and event with which a memory target refuses a dynamic access (0, 0: admitted): R421, R430, R431, R39,
R157. -/
def State.memRefusal (s : State) (w : Who) (a : Nat) (write : Bool) : Nat × Nat :=
  match place a with
  | .bulk g =>
    if s.asleep (memDomain a) then (stAsleep, Ev.PAGE_ASLEEP)
    else if !(s.trained (g / 32)) then (stUnmapped, Ev.UNMAPPED)
    else if s.selfRefresh (g / 32) then (stAsleep, Ev.PAGE_ASLEEP)
    else if s.pcHalted g then (stPoison, 0)
    else if !(s.ctxAdmitted w a write) then (stContext, Ev.CONTEXT)
    else (0, 0)
  | .pier _ o =>
    if s.asleep (memDomain a) then (stAsleep, Ev.PAGE_ASLEEP)
    else if write && decide (0x7FF80 ≤ o) then (stPrivilege, Ev.PRIVILEGE)
    else if !(s.ctxAdmitted w a write) then (stContext, Ev.CONTEXT)
    else (0, 0)
  | _ =>
    if s.asleep (memDomain a) then (stAsleep, Ev.PAGE_ASLEEP)
    else if !(s.ctxAdmitted w a write) then (stContext, Ev.CONTEXT)
    else (0, 0)

/-- R438, R439: dynamic lines served in a bay's shared memory, and dynamic units moved in bulk memory. -/
def State.dynServed (s : State) (a n : Nat) : State :=
  match place a with
  | .bay b _ => s.bump (page .bay b) 2 (max 1 (n / 128))
  | .bulk _ => s.bump (memPage a) 2 (max 1 (n / 64))
  | _ => s

/-- A dynamic access that a block makes on its own: read `n` bytes for `w`. `none`: refused or poisoned. -/
def State.dynRead (s : State) (w : Who) (a n : Nat) : Option Nat × State :=
  if !(mapped a n) then (none, s.sysEvent Ev.UNMAPPED a w false)
  else
    match s.memRefusal w a false with
    | (0, _) =>
      let r := ((s.touch (memDomain a)).dynServed a n).readMem w.source false a n
      (if 2 ≤ r.1 then none else some (s.load a n), r.2)
    | (_, 0) => (none, s)
    | (_, ev) => (none, s.sysEvent ev a w false)

/-- A dynamic access that a block makes on its own: write bytes for `w`. `false`: refused. -/
def State.dynWrite (s : State) (w : Who) (a : Nat) (l : List Nat) : Bool × State :=
  if !(mapped a l.length) then (false, s.sysEvent Ev.UNMAPPED a w true)
  else
    match s.memRefusal w a true with
    | (0, _) => (true, ((s.touch (memDomain a)).dynServed a l.length).writeBytes w.source a l)
    | (_, 0) => (false, s)
    | (_, ev) => (false, s.sysEvent ev a w true)

end Sys2Proof.Machine
end

