-- ==== Sys2Proof/Machine/Pylon.lean ====
section
/-! DEFINITION. Air time and the Pylon: PTP time, timebases, the state machine, references, drift, holdover, PPS, triggers and
GPIO (spec chapter 03). -/
namespace Sys2Proof.Machine

/-! ## PTP time and timebases -/

/-- A quotient of naturals rounded to nearest, ties to even (R7). -/
def roundEvenNat (n d : Nat) : Nat :=
  let q := n / d
  let r := n % d
  if 2 * r < d then q else if 2 * r > d then q + 1 else q + q % 2

/-- A quotient rounded to nearest, ties to even. -/
def roundEven (n : Int) (d : Nat) : Int :=
  if n < 0 then -(roundEvenNat (-n).toNat d : Nat) else (roundEvenNat n.toNat d : Nat)

/-- R48: PTP seconds at an air count. -/
def ptpSec (a : Nat) : Nat := 315964819 + a / secondCy

/-- R48: nanoseconds within the second, in units of 2⁻³² ns. -/
def ptpNs32 (a : Nat) : Nat := roundEvenNat (a % secondCy * 3125 * 2 ^ 32) 6144

/-- R61: the first cy of quarter-bit q of a 26-multiframe. -/
def gsmQuarter (q : Nat) : Nat := (2 * q * 589824 + 325) / 650

/-- R59, R61, R62: the value of TB_NOW for a timebase of the given kind, numerology and origin. -/
def tbNow (kind mu org a : Nat) : Nat :=
  let d : Int := a - org
  let j := d / 19660800
  let r := (d % 19660800).toNat
  let sub := r / 1966080
  let rs := r % 1966080
  if kind = 1 ∧ mu ≤ 4 then
    let len := 140288 / 2 ^ mu
    let half := rs / 983040
    let rh := rs % 983040
    let l := if rh < len + 1024 then 0 else (rh - 1024) / len
    let g := half * (7 * 2 ^ mu) + l
    (g % 14) <<< 26 + (g / 14) <<< 20 + sub <<< 16 + (j % 1024).toNat
  else if kind = 2 ∧ (mu = 0 ∨ mu = 2) then
    let g := rs / (163840 / 2 ^ mu)
    (g % 12) <<< 26 + (g / 12) <<< 20 + sub <<< 16 + (j % 1024).toNat
  else if kind = 3 then
    (r % 1310720 / 512) <<< 16 + (r / 1310720) <<< 12 + (j % 4096).toNat
  else if kind = 4 then
    let k := d / 235929600
    let m := (d % 235929600).toNat
    let q0 := m * 325 / 589824
    let q := if gsmQuarter (q0 + 1) ≤ m then q0 + 1 else q0
    (q % 5000 / 625) <<< 22 + ((26 * k + (q / 5000 : Nat)) % 2715648).toNat
  else 0

/-- Latches every TB_NOW register (R50). -/
def latchTb (s : State) : Nat → State
  | 0 => s
  | n + 1 =>
    let s := latchTb s n
    s.put pgPylon Rg.TB_NOW
      (tbNow (s.get pgPylon Rg.TB_CFG_KIND n) (s.get pgPylon Rg.TB_CFG_MU n) (s.get64 pgPylon Rg.TB_ORG_LO n) s.now) n

/-- R50: what a read of PY_AIR_LO latches. -/
def pyLatch (s : State) : State :=
  let a := s.now
  let ns := ptpNs32 a
  let s := s.put64 pgPylon Rg.PY_AIR_LO a
  let s := s.put64 pgPylon Rg.PY_SEC_LO (ptpSec a)
  let s := (s.put pgPylon Rg.PY_NS (ns / 2 ^ 32)).put pgPylon Rg.PY_FRAC (ns % 2 ^ 32)
  let s := { s with
    hiLatch := Sparse.set resetVal
      (Sparse.set resetVal s.hiLatch (regKey pgPylon 0x10C) (BitVec.ofNat 32 (a / 2 ^ 32)))
      (regKey pgPylon 0x114) (BitVec.ofNat 32 (ptpSec a / 2 ^ 32)) }
  latchTb s 16

/-- PY_AIR_READ (R50). -/
def execPyAirRead (w : Who) (s : State) : Host.Outcome State Fault Refusal :=
  .next (s.access w pgPylon 0x108 false fun s => (pyLatch s).answer 0 (s.now % 2 ^ 32))

/-! ## Triggers -/

/-- A trigger entry. -/
def State.trig (s : State) (i : Nat) : Trig := Sparse.get (fun _ => Trig.zero) s.py.trigs i

/-- Shows the selected entry's status in the staging page (R92). -/
def showTrig (s : State) (t : Trig) : State :=
  let idx := s.get pgTrig Rg.TRG_IDX
  let s := s.setReg pgTrig 0x11C (BitVec.ofNat 32
    (t.fired <<< 16 + t.carry.toNat <<< 3 + (decide (768 ≤ idx)).toNat <<< 2 + t.late.toNat <<< 1 + t.armed.toNat))
  s.put64 pgTrig Rg.TRG_LAST_LO t.last

/-- Writes a trigger entry, its bit of TRG_ARMED, and its status if it is the one selected (R92). -/
def State.setTrig (s : State) (i : Nat) (t : Trig) : State :=
  let s := { s with py := { s.py with trigs := Sparse.set (fun _ => Trig.zero) s.py.trigs i t } }
  let off := 0x140 + 4 * (i / 32)
  let old := (s.reg pgTrig off).toNat
  let new := if t.armed then old ||| 2 ^ (i % 32) else old - (old &&& 2 ^ (i % 32))
  let s := s.setReg pgTrig off (BitVec.ofNat 32 new)
  if s.get pgTrig Rg.TRG_IDX = i then showTrig s t else s

/-- R54, R55: a step disarms every trigger entry without firing it. -/
def disarmAll (s : State) : State :=
  (s.py.trigs.map (·.1)).foldl (fun s i => s.setTrig i { s.trig i with armed := false }) s

/-- R65: the latency L of an action code. -/
def trigLatency (action : Nat) : Nat :=
  if action = 1 then 8 else if action = 2 then 6 else if action = 3 then 6 else if action = 4 then 4
  else if action = 5 then 4 else if action = 6 then 8 else if action = 7 then 4 else if action = 8 then 2 else 0

/-- The ADV field of a SYNC_OUT (R65). -/
def syncAdv (s : State) (out : Nat) : Nat :=
  if out = 0 then s.get pgPylon Rg.OUT_ADV0_SO0_ADV else if out = 1 then s.get pgPylon Rg.OUT_ADV0_SO1_ADV
  else if out = 2 then s.get pgPylon Rg.OUT_ADV0_SO2_ADV else s.get pgPylon Rg.OUT_ADV1

/-- R65: sends a firing on its way. A SYNC_OUT pulse stands from target + L − ADV for its width; every other action reaches
its destination L cy after the firing. -/
def trigSend (s : State) (i : Nat) (t : Trig) : State :=
  let due := s.uptime + trigLatency t.action
  if t.action = 0 then s
  else if t.action = 2 then
    let out := t.arg % 4
    let start := due - syncAdv s out
    { s with py := { s.py with pulses := s.py.pulses ++ [⟨out, start, start + t.arg / 4⟩] } }
  else { s with py := { s.py with trigOut := s.py.trigOut ++ [⟨due, s.now, i, t.action, t.arg⟩] } }

/-- R64: whether an armed entry is due (the signed 32-bit compare). -/
def trigDue (s : State) (t : Trig) : Bool := t.armed && decide ((s.now + 2 ^ 64 - t.tgt) % 2 ^ 32 < 2 ^ 31)

/-- R66: the smallest target + n × PER after `now`. -/
def nextTarget (tgt per now : Nat) : Nat := if now < tgt then tgt else tgt + ((now - tgt) / per + 1) * per

/-- R65, R66: an entry fires now. -/
def fireTrig (s : State) (i : Nat) (t : Trig) : State :=
  let s := trigSend s i t
  let fired := min (t.fired + 1) 0xFFFF
  let stop := t.per = 0 || (t.count ≠ 0 && t.count ≤ fired)
  s.setTrig i { t with
    fired := fired
    last := s.now
    armed := !stop
    tgt := if t.per = 0 then t.tgt else nextTarget t.tgt t.per s.now }

/-- TRIGGER_FIRE (R64–R66): an armed entry that has reached its target fires; one that has not stays as it is. -/
def execTriggerFire (idx : Fin 1024) (s : State) : Host.Outcome State Fault Refusal :=
  let t := s.trig idx.val
  .next (if s.domOn 1 && trigDue s t then fireTrig s idx.val t else s)

/-- TRG_IDX_WRITE (R92): loads the entry into the staging registers. -/
def execTrgIdxWrite (w : Who) (value : Nat) (s : State) : Host.Outcome State Fault Refusal :=
  .next (s.access w pgTrig 0x100 true fun s =>
    let i := value % 1024
    let t := s.trig i
    let s := s.put pgTrig Rg.TRG_IDX i
    let s := s.put64 pgTrig Rg.TRG_TGT_LO t.tgt
    let s := (s.put pgTrig Rg.TRG_PER t.per).put pgTrig Rg.TRG_ARG t.arg
    let s := s.setReg pgTrig 0x114 (BitVec.ofNat 32 (t.count <<< 16 + t.action))
    showTrig s t)

/-- R64: the checks of ARM, the 64-bit distance apart. -/
def armRefused (per action arg : Nat) : Bool :=
  (decide (1 ≤ per) && decide (per ≤ 15)) || decide (2 ^ 31 ≤ per) || decide (9 ≤ action) || action = 8
    || (action = 3 && decide (47 < arg % 64)) || (action = 2 && arg / 4 = 0)

/-- TRG_ARM (R63, R64, R67): applies the staged values to the entry. An entry due in this cycle fires with its old contents
first. -/
def execTrgArm (w : Who) (s : State) : Host.Outcome State Fault Refusal :=
  .next (s.access w pgTrig 0x118 true fun s =>
    let i := s.get pgTrig Rg.TRG_IDX
    if 768 ≤ i then s.event pgTrig Ev.TRIG_OWNER
    else
      let s := if trigDue s (s.trig i) then fireTrig s i (s.trig i) else s
      let tgt := s.get64 pgTrig Rg.TRG_TGT_LO
      let per := s.get pgTrig Rg.TRG_PER
      let arg := s.get pgTrig Rg.TRG_ARG
      let action := s.get pgTrig Rg.TRG_CTL_ACTION
      let dist := if s.now ≤ tgt then tgt - s.now else s.now - tgt
      if armRefused per action arg || decide (2 ^ 31 ≤ dist) then s.event pgTrig Ev.TRIG_RANGE
      else
        let t : Trig := ⟨true, decide (tgt ≤ s.now), false, tgt, per, s.get pgTrig Rg.TRG_CTL_COUNT, action, arg, 0, 0⟩
        if tgt ≤ s.now then (fireTrig s i t).event pgTrig Ev.TRIG_LATE else s.setTrig i t)

/-- TRG_DISARM (R63, R67, R92). -/
def execTrgDisarm (w : Who) (s : State) : Host.Outcome State Fault Refusal :=
  .next (s.access w pgTrig 0x118 true fun s =>
    let i := s.get pgTrig Rg.TRG_IDX
    if 768 ≤ i then s.event pgTrig Ev.TRIG_OWNER
    else
      let s := if trigDue s (s.trig i) then fireTrig s i (s.trig i) else s
      s.setTrig i { s.trig i with armed := false })

/-- SYNC_OUT_PULSE_END (R65, R84): the pulses of an output whose width has elapsed end. -/
def execSyncOutPulseEnd (out : Fin 4) (s : State) : Host.Outcome State Fault Refusal :=
  .next { s with py := { s.py with pulses := s.py.pulses.filter fun p => !(p.out = out.val && decide (p.fin ≤ s.uptime)) } }

/-! ## The state machine and phase measurements -/

/-- Enters a state of R52: STATE, VALID, the entry instants and the events of R89. -/
def setPyState (s : State) (st : Nat) : State :=
  if s.get pgPylon Rg.PY_STATE_STATE = st then s
  else
    let s := (s.put pgPylon Rg.PY_STATE_STATE st).put pgPylon Rg.PY_STATE_VALID (if 2 ≤ st then 1 else 0)
    let s := { s with py := { s.py with stateUp := s.uptime } }
    let s := s.irq pgPylon 0
    if st = 2 then
      ({ s with py := { s.py with corr16 := [], corr256 := [], means16 := [], mean256 := none } }).event pgPylon Ev.LOCKED
    else if st = 3 then (s.put64 pgPylon Rg.PY_HOLD_AIR_LO s.now).event pgPylon Ev.HOLDOVER
    else s

/-- R54: moves the air count by `delta` cy in one cycle, disarms every trigger entry and records TIME_STEP. -/
def stepAir (s : State) (delta : Int) : State :=
  let s := { s with
    air := s.air + BitVec.ofInt 64 delta
    py := { s.py with stepped := true, stepUp := s.uptime + 1, run := 0 } }
  (disarmAll s).event pgPylon Ev.TIME_STEP

/-- R56: the loop's frequency demand in 10⁻¹², clipped at ±50 ppm with FREQ_RANGE. -/
def setFreq (s : State) (demand : Int) : State :=
  let c := max (-50000000) (min 50000000 demand)
  let s := s.put pgPylon Rg.PY_FREQ (ofInt 32 c)
  if c = demand then s else s.event pgPylon Ev.FREQ_RANGE

/-- R53: LOCKED is entered once the criterion is met. -/
def tryLock (s : State) : State :=
  let st := s.get pgPylon Rg.PY_STATE_STATE
  if (st = 1 ∨ st = 3) ∧ 16 ≤ s.py.run ∧ 31457280000 ≤ s.uptime - s.py.stateUp then setPyState s 2 else s

/-- R54: whether a phase error of `ph` (2⁻⁸ cy) is stepped. -/
def stepAllowed (s : State) (ph : Int) : Bool :=
  let acq := s.get pgPylon Rg.PY_STATE_STATE = 1
  (acq || s.flag pgPylon Rg.PY_CTL_STEP_EN) && !s.planBusy &&
    (decide ((s.get pgPylon Rg.PY_STEP_TH * 256 : Nat) < ph.natAbs) || (acq && !s.py.stepped))

/-- R53–R57: one phase measurement `ph` of the selected time reference, in 2⁻⁸ cy, with the loop's demand. -/
def measure (s : State) (ph : Int) (demand : Int) : State :=
  let s := s.put pgPylon Rg.PY_PHASE (ofInt 32 ph)
  let s :=
    if stepAllowed s ph then
      let delta := -(roundEven ph 256)
      (stepAir s delta).put pgPylon Rg.PY_PHASE (ofInt 32 (ph + delta * 256))
    else
      let s := if s.airValid && decide (s.get pgPylon Rg.PY_TH_PHASE_OOT * 256 < ph.natAbs) then s.event pgPylon Ev.TIME_OOT
        else s
      let within := decide (ph.natAbs ≤ s.get pgPylon Rg.PY_TH_LOCK_TH * 256)
      { s with py := { s.py with run := if within then s.py.run + 1 else 0 } }
  let s := s.put pgPylon Rg.PY_STATE_SLEWING (if s.get pgPylon Rg.PY_PHASE = 0 then 0 else 1)
  tryLock (setFreq s demand)

/-- COARSE_STEP (R55): a write of PY_COARSE_HI. -/
def execCoarseStep (w : Who) (value : Nat) (s : State) : Host.Outcome State Fault Refusal :=
  .next (s.access w pgPylon 0x13C true fun s =>
    let lo := (Sparse.get resetVal s.loStage (regKey pgPylon 0x138)).toNat
    let ofs := value % 2 ^ 32 * 2 ^ 32 + lo
    if s.get pgPylon Rg.PY_STATE_STATE ≤ 1 && !s.planBusy then stepAir (s.put64 pgPylon Rg.PY_COARSE_LO ofs) (toInt 64 ofs)
    else s.event pgPylon Ev.COARSE_DENIED)

/-! ## Reference slots -/

/-- A reference slot beside its registers. -/
def State.slot (s : State) (n : Nat) : RefSlot := Sparse.get (fun _ => RefSlot.zero) s.py.slots n

def State.setSlot (s : State) (n : Nat) (r : RefSlot) : State :=
  { s with py := { s.py with slots := Sparse.set (fun _ => RefSlot.zero) s.py.slots n r } }

/-- REF_STATn.STATE: 0 OFF, 1 QUALIFYING, 2 QUALIFIED, 3 SELECTED, 4 DISQUALIFIED. -/
def slotState (s : State) (n : Nat) : Nat := s.get pgRef Rg.REF_STAT_STATE n

/-- Enters a slot state; PG_IRQ bit 0 of PYLON_REF is a slot state change (R91). -/
def setSlotState (s : State) (n st : Nat) : State :=
  if slotState s n = st then s else (s.put pgRef Rg.REF_STAT_STATE st n).irq pgRef 0

/-- The DETAIL of a slot event (R89). -/
def slotDetail (n cause : Nat) : Nat := cause <<< 20 + n <<< 16

/-- R52: the state follows from the presence of a selected time reference. -/
def followTsel (s : State) : State :=
  let st := s.get pgPylon Rg.PY_STATE_STATE
  if s.flag pgPylon Rg.PY_STATE_TSEL_V then (if st = 0 then setPyState s 1 else s)
  else if st = 1 then setPyState s 0
  else if st = 2 then setPyState s 3
  else s

/-- Writes the selected time reference; a change records SEL_CHANGE (R72) and starts the count of R53 afresh. -/
def setTsel (s : State) (sel : Option Nat) : State :=
  let old := if s.flag pgPylon Rg.PY_STATE_TSEL_V then some (s.get pgPylon Rg.PY_STATE_TSEL) else none
  if old = sel then s
  else
    let s := match old with
      | some n => s.put pgRef Rg.REF_STAT_SEL_T 0 n
      | none => s
    let s := match sel with
      | some n => ((s.put pgRef Rg.REF_STAT_SEL_T 1 n).put pgPylon Rg.PY_STATE_TSEL n).put pgPylon Rg.PY_STATE_TSEL_V 1
      | none => (s.put pgPylon Rg.PY_STATE_TSEL 0).put pgPylon Rg.PY_STATE_TSEL_V 0
    ({ s with py := { s.py with run := 0 } }).event pgRef Ev.SEL_CHANGE 0 0 (slotDetail (sel.getD (old.getD 0)) 0)

/-- Writes the selected frequency reference; a change records SEL_CHANGE (R72). -/
def setFsel (s : State) (sel : Option Nat) : State :=
  let old := if s.flag pgPylon Rg.PY_STATE_FSEL_V then some (s.get pgPylon Rg.PY_STATE_FSEL) else none
  if old = sel then s
  else
    let s := match old with
      | some n => s.put pgRef Rg.REF_STAT_SEL_F 0 n
      | none => s
    let s := match sel with
      | some n => ((s.put pgRef Rg.REF_STAT_SEL_F 1 n).put pgPylon Rg.PY_STATE_FSEL n).put pgPylon Rg.PY_STATE_FSEL_V 1
      | none => (s.put pgPylon Rg.PY_STATE_FSEL 0).put pgPylon Rg.PY_STATE_FSEL_V 0
    s.event pgRef Ev.SEL_CHANGE 0 0 (slotDetail (sel.getD (old.getD 0)) 0)

/-- R72: a slot that leaves selection is deselected at once. -/
def deselect (s : State) (n : Nat) : State :=
  let s := if s.flag pgRef Rg.REF_STAT_SEL_F n then setFsel s none else s
  if s.flag pgRef Rg.REF_STAT_SEL_T n then followTsel (setTsel s none) else s

/-- R71: an entry to DISQUALIFIED with its cause (1 LOS, 2 STALE, 3 PPS_MISS, 4 DRIFT, 5 QUAL_FREQ). -/
def disqualify (s : State) (n cause : Nat) : State :=
  let s := setSlotState s n 4
  let s := (s.put pgRef Rg.REF_STAT_CAUSE cause n).put pgRef Rg.REF_STAT_WTR_LEFT (s.get pgRef Rg.QUAL_TIME_WTR) n
  let s := s.setSlot n { s.slot n with from0 := s.now, lost := false }
  let s := s.event pgRef Ev.REF_DISQ 0 0 (slotDetail n cause)
  deselect s n

/-- R71, R91: a write of REF_CFGn. A rise of EN latches KIND and SRC and enters QUALIFYING; a fall enters OFF. -/
def refCfgWrite (w : Who) (n value : Nat) (s : State) : State :=
  let was := s.flag pgRef Rg.REF_CFG_EN n
  let off := 0x100 + 0x20 * n
  let d : RegDef := ⟨0x100, 0x20, 8, false, [Rg.REF_CFG_PRIO, Rg.REF_CFG_SRC, Rg.REF_CFG_KIND, Rg.REF_CFG_EN]⟩
  let s := s.writeReg w pgRef .pylonRef 1 off d value
  if bits value 0 0 = 1 then
    if was then s
    else
      let s := s.setSlot n ⟨s.get pgRef Rg.REF_CFG_KIND n, s.get pgRef Rg.REF_CFG_SRC n, false, s.now, 0, s.uptime⟩
      setSlotState s n 1
  else deselect (setSlotState s n 0) n

/-- REF_SLOT_ENABLE (R71): a write of REF_CFGn with EN = 1; `value` gives the other fields. -/
def execRefSlotEnable (w : Who) (slot : Fin 8) (value : Nat) (s : State) : Host.Outcome State Fault Refusal :=
  .next (s.access w pgRef (0x100 + 0x20 * slot.val) true (refCfgWrite w slot.val (value ||| 1)))

/-- REF_SLOT_DISABLE (R71): a write of REF_CFGn with EN = 0. -/
def execRefSlotDisable (w : Who) (slot : Fin 8) (value : Nat) (s : State) : Host.Outcome State Fault Refusal :=
  .next (s.access w pgRef (0x100 + 0x20 * slot.val) true (refCfgWrite w slot.val (value - value % 2)))

/-- REF_OFS_COMMIT (R70): a write of REF_OFS_AIRn. A commit older than 1 s is discarded; a commit on the selected time
reference is one phase measurement. -/
def execRefOfsCommit (w : Who) (slot : Fin 8) (value : Nat) (demand : Int) (s : State) : Host.Outcome State Fault Refusal :=
  let n := slot.val
  .next (s.access w pgRef (0x10C + 0x20 * n) true fun s =>
    let s := s.put pgRef Rg.REF_OFS_AIR value n
    if s.flag pgRef Rg.REF_CFG_EN n && (s.slot n).kind = 3 then
      let d := (s.now % 2 ^ 32 + 2 ^ 32 - value % 2 ^ 32) % 2 ^ 32
      if secondCy < d then s
      else
        let s := s.setSlot n { s.slot n with commit := s.uptime }
        if s.flag pgRef Rg.REF_STAT_SEL_T n then measure s (toInt 32 (s.get pgRef Rg.REF_OFS n)) demand else s
    else s)

/-- R69: whether a slot's loss-of-signal condition holds. REF10M (KIND 1) is told by the command;
PPS_IN, PTP, SyncE and pool time are judged from the state (R318, R333, R560). -/
def lossHolds (s : State) (n : Nat) : Bool :=
  let r := s.slot n
  if r.kind = 2 then decide (2 ≤ s.py.ppsMisses)
  else if r.kind = 3 ∨ r.kind = 5 then decide (7864320000 ≤ s.uptime - r.commit)
  else if r.kind = 4 then
    let p := page .lane (r.src % 128)
    let lock := if s.get p Rg.LN_CFG_PERS = 3 then Rg.LN_STAT_AM_LOCK else Rg.LN_STAT_BLOCK_LOCK
    !(s.flag p Rg.LN_STAT_CDR_LOCK && s.flag p lock) || decide (2 ≤ s.get p Rg.LN_STAT_RX_STATE)
  else true

/-- The cause of R71 for the kind of a slot. -/
def lossCause (kind : Nat) : Nat := if kind = 2 then 3 else if kind = 3 then 2 else 1

/-- REF_LOSS_OF_SIGNAL (R69, R71). In DISQUALIFIED it restarts the WTR count. -/
def execRefLossOfSignal (slot : Fin 8) (s : State) : Host.Outcome State Fault Refusal :=
  let n := slot.val
  let st := slotState s n
  .next (
    if s.domOn 1 && lossHolds s n then
      if 1 ≤ st ∧ st ≤ 3 then
        let s := if (s.slot n).kind = 3 then s.event pgRef Ev.PTP_STALE 0 0 (slotDetail n 2) else s
        disqualify s n (lossCause (s.slot n).kind)
      else if st = 4 then
        (s.setSlot n { s.slot n with from0 := s.now, lost := true }).put pgRef Rg.REF_STAT_WTR_LEFT
          (s.get pgRef Rg.QUAL_TIME_WTR) n
      else s
    else s)

/-- The whole 1 s windows that began at or after `from0` and have ended by `now` (R71). -/
def windowsSince (from0 now : Nat) : Nat := (now - (from0 + secondCy - 1) / secondCy * secondCy) / secondCy

/-- R71: one slot at a whole second. `present` tells that its signal was present in the window that just ended. -/
def qualifyStep (present : Bool) (s : State) (n : Nat) : State :=
  let st := slotState s n
  let r := s.slot n
  let wins := windowsSince r.from0 s.now
  if st = 1 then
    let dy := (toInt 32 (s.get pgRef Rg.REF_Y1 n) - toInt 32 (s.get pgRef Rg.LO_Y1)).natAbs
    if 1 ≤ wins ∧ s.get pgRef Rg.QUAL_TH * 1000 < dy then disqualify s n 5
    else if s.get pgRef Rg.QUAL_TIME_QUAL ≤ wins then
      setSlotState (s.setSlot n { r with member := s.now }) n 2
    else s
  else if st = 4 then
    let wtr := s.get pgRef Rg.QUAL_TIME_WTR
    if r.lost || !present then
      (s.setSlot n { r with from0 := s.now, lost := !present }).put pgRef Rg.REF_STAT_WTR_LEFT wtr n
    else if wtr ≤ wins then
      setSlotState ((s.setSlot n { r with from0 := s.now }).put pgRef Rg.REF_STAT_WTR_LEFT 0 n) n 1
    else s.put pgRef Rg.REF_STAT_WTR_LEFT (wtr - wins) n
  else s

/-- R72: the best slot among those `ok` accepts: the lowest PRIO, then the lowest index. -/
def bestSlot (s : State) (ok : Nat → Bool) : Option Nat :=
  (List.range 8).foldl (fun best n =>
    if (slotState s n = 2 || slotState s n = 3) && ok n then
      match best with
      | none => some n
      | some b => if s.get pgRef Rg.REF_CFG_PRIO n < s.get pgRef Rg.REF_CFG_PRIO b then some n else best
    else best) none

/-- R72: the selection at a whole second. -/
def selectRefs (s : State) : State :=
  let kind := fun n => (s.slot n).kind
  let timeOk := fun n => kind n = 2 || kind n = 3 || kind n = 5
  let freqOk := fun n => decide (1 ≤ kind n) && decide (kind n ≤ 5)
  let revert := s.flag pgPylon Rg.PY_CTL_REVERT
  let t := if s.flag pgPylon Rg.PY_STATE_TSEL_V && !revert then some (s.get pgPylon Rg.PY_STATE_TSEL) else bestSlot s timeOk
  let f := if s.flag pgPylon Rg.PY_STATE_FSEL_V && !revert then some (s.get pgPylon Rg.PY_STATE_FSEL) else bestSlot s freqOk
  let s := setFsel (setTsel s t) f
  let s := (List.range 8).foldl (fun s n =>
    if slotState s n = 2 ∧ (t = some n ∨ f = some n) then setSlotState s n 3
    else if slotState s n = 3 ∧ ¬(t = some n ∨ f = some n) then setSlotState s n 2
    else s) s
  followTsel s

/-! ## Holdover -/

/-- θ in 1/256 °C: the die sensor, or HM_TNOW when TSRC = 1 (R76). -/
def theta (s : State) : Int :=
  toInt 16 (if s.flag pgPylon Rg.HM_CTL_TSRC then s.get pgPylon Rg.HM_TNOW else s.get pgPylon Rg.HM_TDIE)

/-- HM_TEMPi, signed, in 10⁻¹². -/
def hmTemp (s : State) (i : Nat) : Int := toInt 32 (s.get pgPylon Rg.HM_TEMP i)

/-- R76: the interpolation place of θ: the lower entry and the distance from it in 1/2,560 of 10 °C. -/
def thetaPlace (th : Int) : Nat × Nat :=
  let x := th + 40 * 256
  if x ≤ 0 then (0, 0) else if 15 * 2560 ≤ x then (15, 0) else (x.toNat / 2560, x.toNat % 2560)

/-- R76: the model's LO offset y(t, θ) in 10⁻¹²; the rounding of the quotient is not named (log entry 4). -/
def modelY (s : State) : Int :=
  let p := thetaPlace (theta s)
  let temp2560 := hmTemp s p.1 * (2560 - p.2) + (if p.1 < 15 then hmTemp s (p.1 + 1) else 0) * p.2
  let day : Int := 86400 * secondCy
  let age := toInt 32 (s.get pgPylon Rg.HM_AGE) * ((s.now : Int) - (s.get64 pgPylon Rg.HM_T0_LO : Nat))
  Config.roundDiv ((toInt 32 (s.get pgPylon Rg.HM_Y0) * 2560 + temp2560) * day + age * 2560) (2560 * 86400 * secondCy)

/-- The mean of a list of corrections. -/
def meanOf (l : List Int) : Int := Config.roundDiv (l.foldl (· + ·) 0) l.length

/-- R76: the frequency of HOLDOVER. A model offset y is corrected by −y (log entry 12). -/
def holdoverFreq (s : State) : State :=
  if s.get pgPylon Rg.PY_STATE_STATE ≠ 3 ∨ s.flag pgPylon Rg.PY_STATE_FSEL_V then s
  else if s.flag pgPylon Rg.HM_CTL_MODEL_V then setFreq s (-(modelY s))
  else match s.py.mean256 with
    | some m => setFreq s m
    | none => if s.py.means16 = [] then s else setFreq s (meanOf s.py.means16)

/-- Keeps the means of R76 at a whole second. -/
def trackCorr (s : State) : State :=
  if s.get pgPylon Rg.PY_STATE_STATE ≠ 2 then s
  else
    let c := toInt 32 (s.get pgPylon Rg.PY_FREQ)
    let c16 := c :: s.py.corr16
    let c256 := c :: s.py.corr256
    let end16 := s.now % (16 * secondCy) = 0
    let end256 := s.now % (256 * secondCy) = 0
    { s with py := { s.py with
        means16 := if end16 ∧ c16.length = 16 then meanOf c16 :: s.py.means16 else s.py.means16
        corr16 := if end16 then [] else c16
        mean256 := if end256 ∧ c256.length = 256 then some (meanOf c256) else s.py.mean256
        corr256 := if end256 then [] else c256 } }

/-- Stores the frequencies measured over a window: y of the slots and, last, of the LO (R73). -/
def putYs (s : State) (slotF loF : Fld) (ys : List Int) : State :=
  let s := (List.range 8).foldl (fun s n => s.put pgRef slotF (ofInt 32 (ys.getD n 0)) n) s
  s.put pgRef loF (ofInt 32 (ys.getD 8 0))

/-- REF_SECOND_BOUNDARY (R71–R73, R76): at a whole second of air time. The operands are what the hardware measures: y over
the windows that end now (slots 0–7, then the LO), the die sensor, and the slots whose signal was present. -/
def execRefSecondBoundary (y1 y16 y256 : List Int) (die : BitVec 16) (back : BitVec 8) (s : State) :
    Host.Outcome State Fault Refusal :=
  .next (
    if s.domOn 1 && s.now % secondCy = 0 then
      let s := s.put pgPylon Rg.HM_TDIE die.toNat
      let s := putYs s Rg.REF_Y1 Rg.LO_Y1 y1
      let s := if s.now % (16 * secondCy) = 0 then putYs s Rg.REF_Y16 Rg.LO_Y16 y16 else s
      let s := if s.now % (256 * secondCy) = 0 then putYs s Rg.REF_Y256 Rg.LO_Y256 y256 else s
      let s := (List.range 8).foldl (fun s n => qualifyStep (back.getLsbD n) s n) s
      trackCorr (holdoverFreq (selectRefs s))
    else s)

/-- Sets HM_CTL.MODEL_V and its mirror in PY_STATE. -/
def setModelV (s : State) (v : Nat) : State := (s.put pgPylon Rg.HM_CTL_MODEL_V v).put pgPylon Rg.PY_STATE_MODEL_V v

/-- The result of a drift window (R74). -/
inductive Drift where
  | quiet | drifter (who : Nat) | unresolved (two : Option Nat)
deriving DecidableEq, Repr

/-- R73: the members of a window of `len` cy that ended at `w`: the slots QUALIFIED or SELECTED throughout, and the LO (8). -/
def driftMembers (s : State) (w len : Nat) : List Nat :=
  ((List.range 8).filter fun n =>
    (slotState s n = 2 || slotState s n = 3) && decide ((s.slot n).member + len ≤ w)) ++ [8]

/-- R74: the evaluation of a window: the result and the mask of members that disagree with another. -/
def driftEval (ms : List Nat) (y : Nat → Int) (th : Nat) : Drift × Nat :=
  let c := fun i => (ms.filter fun j => decide (th < (y i - y j).natAbs)).length
  let mask := ms.foldl (fun a i => if c i = 0 then a else a + 2 ^ i) 0
  if ms.length < 2 ∨ mask = 0 then (.quiet, 0)
  else
    let full := ms.filter fun i => c i = ms.length - 1
    match full with
    | [i] =>
      if 3 ≤ ms.length ∧ (ms.all fun j => j = i || c j = 1) then (.drifter i, mask) else (.unresolved none, mask)
    | _ => (.unresolved (if ms.length = 2 then ms.head? else none), mask)

/-- R75: one window's result posted and acted on. -/
def driftPost (s : State) (w len : Nat) (slotF loF thF resF whoF disF : Fld) : State :=
  let y := fun i => if i = 8 then toInt 32 (s.get pgRef loF) else toInt 32 (s.get pgRef slotF i)
  let r := driftEval (driftMembers s w len) y (s.get pgRef thF)
  let s := s.put pgRef disF r.2
  match r.1 with
  | .quiet => (s.put pgRef resF 0).put pgRef whoF 0
  | .drifter i =>
    let s := (s.put pgRef resF 1).put pgRef whoF i
    if i = 8 then (setModelV s 0).event pgPylon Ev.LO_DRIFT
    else
      let s := s.event pgPylon Ev.DRIFT_ID 0 0 (slotDetail i 4)
      if slotState s i = 4 then s else disqualify s i 4
  | .unresolved two =>
    let s := ((s.put pgRef resF 2).put pgRef whoF 0).event pgPylon Ev.DRIFT_UNRES
    match two with
    | some i =>
      if s.flag pgPylon Rg.PY_CTL_DRIFT2_ACT ∧ i ≠ 8 ∧ slotState s i ≠ 4 then disqualify s i 4 else s
    | none => s

/-- DRIFT_RESULT_POST (R73–R75): 1 ms after the windows that end at a whole second. -/
def execDriftResultPost (s : State) : Host.Outcome State Fault Refusal :=
  .next (
    if s.domOn 1 && decide (1966080 ≤ s.now) && (s.now - 1966080) % secondCy = 0 then
      let w := s.now - 1966080
      let s1 := driftPost s w secondCy Rg.REF_Y1 Rg.LO_Y1 Rg.DRIFT_TH1 Rg.DRIFT_W1_RESULT Rg.DRIFT_W1_WHO Rg.DRIFT_W1_DIS
      let s2 := if w % (16 * secondCy) = 0 then driftPost s1 w (16 * secondCy) Rg.REF_Y16 Rg.LO_Y16 Rg.DRIFT_TH16
        Rg.DRIFT_W16_RESULT Rg.DRIFT_W16_WHO Rg.DRIFT_W16_DIS else s1
      if w % (256 * secondCy) = 0 then driftPost s2 w (256 * secondCy) Rg.REF_Y256 Rg.LO_Y256 Rg.DRIFT_TH256
        Rg.DRIFT_W256_RESULT Rg.DRIFT_W256_WHO Rg.DRIFT_W256_DIS else s2
    else s)

/-- R77: moves a TEMP entry towards the offset with weight 1/16 × share/2,560. -/
def learnTemp (s : State) (i share : Nat) (offset : Int) : State :=
  if 15 < i then s
  else s.put pgPylon Rg.HM_TEMP (ofInt 32 (hmTemp s i + Config.roundDiv ((offset - hmTemp s i) * share) (16 * 2560))) i

/-- HOLDOVER_MODEL_UPDATE (R77): at the end of a 256 s window while LOCKED and learning; `offset` is the LO offset measured
against the selected frequency reference, in 10⁻¹². -/
def execHoldoverModelUpdate (offset : Int) (s : State) : Host.Outcome State Fault Refusal :=
  .next (
    if s.domOn 1 && s.now % (256 * secondCy) = 0 && s.get pgPylon Rg.PY_STATE_STATE = 2
        && s.flag pgPylon Rg.HM_CTL_LEARN then
      let p := thetaPlace (theta s)
      let s := learnTemp (learnTemp s p.1 (2560 - p.2) offset) (p.1 + 1) p.2 offset
      let hist := (s.py.learnHist ++ [(s.now, offset)]).drop (s.py.learnHist.length + 1 - 64)
      let secs := s.py.learnS + 256
      let fit := Config.refit hist
      let s := { s with py := { s.py with learnHist := hist, learnS := secs } }
      let s := (s.put pgPylon Rg.HM_Y0 (ofInt 32 fit.1)).put pgPylon Rg.HM_AGE (ofInt 32 fit.2)
      let s := s.put pgPylon Rg.HM_CTL_LEARN_H (min 65535 (secs / 3600))
      if 86400 ≤ secs then setModelV s 1 else s
    else s)

/-! ## PPS_IN, ToD and PPS_OUT -/

/-- R80: an accepted change of PPS_IN: its level, and STUCK cleared. -/
def ppsChanged (s : State) (level : Nat) : State :=
  let s := (s.put pgPylon Rg.PPS_STAT_LEVEL level).put pgPylon Rg.PPS_STAT_STUCK 0
  { s with py := { s.py with ppsChange := s.uptime } }

/-- R79: the capture of the marking edge accepted now: the air count of the first cy of the stable level, minus PPS_DELAY. -/
def ppsCapture (s : State) : Int :=
  (s.now : Int) - s.get pgPylon Rg.PPS_CFG_FILT - toInt 32 (s.get pgPylon Rg.PPS_DELAY)

/-- The distance of an air count from the nearest whole second. -/
def fromSecond (a : Int) : Int :=
  let r := a % secondCy
  if 2 * r < secondCy then r else r - secondCy

/-- R81: the label, taken at the edge it waits for. -/
def takeLabel (s : State) (cap : Int) : State × Option Int :=
  if s.flag pgPylon Rg.PPS_STAT_TOD_PEND then
    let label : Int := (s.get64 pgPylon Rg.TOD_LO % 2 ^ 48 : Nat)
    let s := s.put pgPylon Rg.PPS_STAT_TOD_PEND 0
    if s.airValid then
      let own : Int := (cap - fromSecond cap) / secondCy + 315964819
      if own = label then (s, none) else (s.event pgPylon Ev.TOD_MISMATCH, none)
    else (s, some ((label - 315964819) * secondCy))
  else (s, none)

/-- PPS_IN_EDGE (R79–R81): a marking edge is accepted. It is a phase measurement when a KIND 2 slot is the selected time
reference; `demand` is the loop's frequency demand. -/
def execPpsInEdge (demand : Int) (s : State) : Host.Outcome State Fault Refusal :=
  .next (
    if !s.domOn 1 then s
    else
      let s := ppsChanged s (1 - s.get pgPylon Rg.PPS_CFG_POL)
      if s.py.ppsEdge ≠ 0 ∧ s.uptime + 1 - s.py.ppsEdge < 983040000 then s.event pgPylon Ev.PPS_FAST
      else
        let cap := ppsCapture s
        let s := { s with py := { s.py with ppsEdge := s.uptime + 1, ppsMisses := 0 } }
        let s := s.put64 pgPylon Rg.PPS_CAP_LO (ofInt 64 cap)
        let l := takeLabel s cap
        let s := l.1
        let sel := s.flag pgPylon Rg.PY_STATE_TSEL_V && (s.slot (s.get pgPylon Rg.PY_STATE_TSEL)).kind = 2
        if sel then
          match l.2 with
          | some tgt => measure s ((cap - tgt) * 256) demand
          | none => measure s (fromSecond cap * 256) demand
        else s)

/-- PPS_ACCEPTED_CHANGE (R80): an accepted change that is not the marking edge. -/
def execPpsAcceptedChange (s : State) : Host.Outcome State Fault Refusal :=
  .next (if s.domOn 1 then ppsChanged s (s.get pgPylon Rg.PPS_CFG_POL) else s)

/-- PPS_MISS (R80): no accepted marking edge for 1.5 s, and for every further second. -/
def execPpsMiss (s : State) : Host.Outcome State Fault Refusal :=
  .next (
    if s.domOn 1 ∧ s.py.ppsEdge ≠ 0 ∧ 2949120000 + s.py.ppsMisses * secondCy ≤ s.uptime + 1 - s.py.ppsEdge then
      ({ s with py := { s.py with ppsMisses := s.py.ppsMisses + 1 } }).event pgPylon Ev.PPS_MISS
    else s)

/-- PPS_STUCK (R80): the filtered level unchanged for 2 s, once. -/
def execPpsStuck (s : State) : Host.Outcome State Fault Refusal :=
  .next (
    if s.domOn 1 ∧ 3932160000 ≤ s.uptime - s.py.ppsChange ∧ ¬ s.flag pgPylon Rg.PPS_STAT_STUCK then
      (s.put pgPylon Rg.PPS_STAT_STUCK 1).event pgPylon Ev.PPS_STUCK
    else s)

/-- TOD_LABEL_WRITE (R81): a write of TOD_HI commits the label. -/
def execTodLabelWrite (w : Who) (value : Nat) (s : State) : Host.Outcome State Fault Refusal :=
  .next (s.access w pgPylon 0x1D4 true fun s =>
    let lo := (Sparse.get resetVal s.loStage (regKey pgPylon 0x1D0)).toNat
    (s.put64 pgPylon Rg.TOD_LO (value % 2 ^ 16 * 2 ^ 32 + lo)).put pgPylon Rg.PPS_STAT_TOD_PEND 1)

/-- PPS_OUT_PULSE (R83): PPS_OUT rises at a whole second, advanced by PPSO_ADV. -/
def execPpsOutPulse (s : State) : Host.Outcome State Fault Refusal :=
  .next (
    if s.domOn 1 && s.airValid && (s.now + s.get pgPylon Rg.OUT_ADV0_PPSO_ADV) % secondCy = 0
        && s.flag pgPylon Rg.PPSO_CFG then
      { s with py := { s.py with ppsOutEnd := s.uptime + s.get pgPylon Rg.PPSO_CFG * 1024 + 1 } }
    else s)

/-- PPS_OUT_END (R83). -/
def execPpsOutEnd (s : State) : Host.Outcome State Fault Refusal :=
  .next (
    if s.py.ppsOutEnd ≠ 0 ∧ s.py.ppsOutEnd ≤ s.uptime + 1 then { s with py := { s.py with ppsOutEnd := 0 } } else s)

/-! ## GPIO -/

/-- The filtered level of a pin. -/
def gpioIn (s : State) (pin : Nat) : Bool := bits (s.reg pgGpio (0x280 + 4 * (pin / 32))).toNat (pin % 32) (pin % 32) == 1

/-- Sets one bit of a register pair of 48 pins. -/
def gpioSetBit (s : State) (off pin : Nat) (v : Bool) : State :=
  let o := off + 4 * (pin / 32)
  let old := (s.reg pgGpio o).toNat
  s.setReg pgGpio o (BitVec.ofNat 32 (if v then old ||| 2 ^ (pin % 32) else old - (old &&& 2 ^ (pin % 32))))

/-- The DETAIL of a GPIO event (R89). -/
def pinDetail (pin : Nat) : Nat := pin <<< 16

/-- R85: the filter time of a pin. -/
def gpioFilter (s : State) (pin : Nat) : Nat :=
  s.get pgGpio Rg.GPIO_CFG_FILT pin * 16 ^ (min 3 (s.get pgGpio Rg.GPIO_CFG_FSCALE pin))

/-- R85, R86, R88: an accepted edge of a pin. -/
def gpioEdge (s : State) (pin : Nat) (act : Bool) : State :=
  let e := s.get pgGpio Rg.GPIO_CFG_EDGE pin
  let selected := e = 3 || (e = 1 && act) || (e = 2 && !act)
  if selected && s.flag pgGpio Rg.GPIO_CFG_CAP pin then
    let rate := s.get pgGpio Rg.GPIO_LIM_RATE pin
    let lastC := Sparse.get (fun _ => 0) s.gp.lastCap pin
    let first := s.uptime + 1 - gpioFilter s pin
    if rate ≠ 0 ∧ lastC ≠ 0 ∧ first ≤ lastC + rate * 1024 then s.event pgGpio Ev.RATE_DROP 0 0 (pinDetail pin)
    else if 64 ≤ s.gp.queue.length then s.event pgGpio Ev.CAP_OVF 0 0 (pinDetail pin)
    else
      let c : GpioCap := ⟨(s.now + 2 ^ 64 - gpioFilter s pin) % 2 ^ 64, pin, act⟩
      ({ s with gp := { s.gp with queue := s.gp.queue ++ [c], lastCap := Sparse.set (fun _ => 0) s.gp.lastCap pin first } }).irq
        pgGpio 0
  else s

/-- GPIO_INPUT_CHANGE (R85–R87, R602): a pin's new level either held for the filter time (`held`) or reverted sooner. -/
def execGpioInputChange (pin : Fin 48) (level held : Bool) (s : State) : Host.Outcome State Fault Refusal :=
  let n := pin.val
  .next (
    if !s.domOn 1 || gpioIn s n == level then s
    else if !held then s.event pgGpio Ev.GLITCH 0 0 (pinDetail n)
    else
      let act := level != s.flag pgGpio Rg.GPIO_CFG_INV n
      let s := gpioSetBit (gpioSetBit s 0x280 n level) 0x298 n false
      let s := { s with gp := { s.gp with high := Sparse.set (fun _ => 0) s.gp.high n (if act then s.uptime + 1 else 0) } }
      let s := if bits (s.reg pgPwr (0x10C + 4 * (n / 32))).toNat (n % 32) (n % 32) = 1 then s.wakeSource 2 n else s
      gpioEdge s n act)

/-- STUCK (R87): a pin whose filtered level after INV has stayed at 1 for its STUCK time. -/
def execStuck (pin : Fin 48) (s : State) : Host.Outcome State Fault Refusal :=
  let n := pin.val
  let since := Sparse.get (fun _ => 0) s.gp.high n
  let lim := s.get pgGpio Rg.GPIO_LIM_STUCK n
  .next (
    if s.domOn 1 ∧ lim ≠ 0 ∧ since ≠ 0 ∧ lim * 1966080 ≤ s.uptime + 1 - since
        ∧ bits (s.reg pgGpio (0x298 + 4 * (n / 32))).toNat (n % 32) (n % 32) = 0 then
      (gpioSetBit s 0x298 n true).event pgGpio Ev.STUCK 0 0 (pinDetail n)
    else s)

/-- GPIO_CAP_POP (R88): a read of GPIO_CAP_INFO. -/
def execGpioCapPop (w : Who) (s : State) : Host.Outcome State Fault Refusal :=
  .next (s.access w pgGpio 0x2A0 false fun s =>
    match s.gp.queue with
    | [] => (s.setReg pgGpio 0x2A0 0).answer 0 0
    | c :: q =>
      let info := 1 <<< 31 + c.rising.toNat <<< 16 + q.length <<< 8 + c.pin
      let s := ({ s with gp := { s.gp with queue := q } }).setReg pgGpio 0x2A0 (BitVec.ofNat 32 info)
      (s.put64 pgGpio Rg.GPIO_CAP_LO c.air).answer 0 info)

end Sys2Proof.Machine
end

