-- ==== Sys2Proof/Machine/Image.lean ====
section
/-! DEFINITION. The plan image (R102–R113): its layout in bulk memory, the checks of LOAD in their order (R101, R121), and
the plan that a sound image holds. -/
namespace Sys2Proof.Machine

/-! ## CRC-32C -/

/-- One byte of CRC-32C: the Castagnoli polynomial in its reflected form (log entry 7). -/
def crc32cByte (c b : Nat) : Nat :=
  let step := fun x => if x % 2 = 1 then (x / 2) ^^^ 0x82F63B78 else x / 2
  step (step (step (step (step (step (step (step (c ^^^ b))))))))

/-- CRC-32C of a list of bytes. -/
def crc32c (l : List Nat) : Nat := (l.foldl crc32cByte 0xFFFFFFFF) ^^^ 0xFFFFFFFF

/-! ## Units -/

/-- The engine family of a class code (R45). -/
def classEng (c : Nat) : Option EngKind :=
  if c = 0x30 then some .fe else if c = 0x31 then some .ld else if c = 0x32 then some .le else if c = 0x33 then some .pe
  else if c = 0x34 then some .td else if c = 0x35 then some .vd else if c = 0x36 then some .me else if c = 0x37 then some .xc
  else if c = 0x38 then some .ad else if c = 0x39 then some .nb else if c = 0x3A then some .hq else none

/-- R107: how many units a class code has. -/
def unitCount (c : Nat) : Nat :=
  match classEng c with
  | some k => engCount k
  | none =>
    if c = 0x20 then 64 else if c = 0x40 then 8 else if c = 0x50 then 4 else if c = 0x03 then 80 else if c = 0x0C then 256
    else if c = 0x11 then 100 else 0

def unitExists (u : Nat) : Bool := decide (u % 256 < unitCount (u / 256)) && decide (u < 65536)

/-- R108: whether an operation may name a unit. -/
def unitFits (op u : Nat) : Bool :=
  let c := u / 256
  unitExists u &&
  (if op = 1 then c = 0x20
   else if op = 2 ∨ op = 9 then (classEng c).isSome
   else if op = 3 ∨ op = 4 ∨ op = 5 then c = 0x40
   else if op = 6 ∨ op = 7 then c = 0x50
   else if op = 8 then c = 0x0C
   else if op = 10 then c = 0x03 && decide (16 ≤ u % 256) && decide (u % 256 ≤ 71)
   else if op = 11 then c = 0x11
   else op = 12)

/-- The unit code of an engine. -/
def engUnit (k : EngKind) (n : Nat) : Nat := pageClass (.eng k) * 256 + n

/-- The register page of a unit, where it has one. -/
def unitPage (u : Nat) : Option Nat :=
  let c := u / 256
  let n := u % 256
  match classEng c with
  | some k => some (page (.eng k) n)
  | none =>
    if c = 0x20 then some (page .pier n) else if c = 0x40 then some (page .au n) else if c = 0x50 then some (page .bm n)
    else if c = 0x03 then some (page .domain n) else if c = 0x11 then some (page .router n) else none

/-- The power domain of a unit. -/
def unitDomain (u : Nat) : Nat :=
  if u / 256 = 0x03 then u % 256
  else match unitPage u with
    | some p => (slotDomain p).getD 2
    | none => 3

/-! ## Reading the image -/

/-- A field of the image: `n` bytes at offset `o`. -/
def imgU (s : State) (b o n : Nat) : Nat := s.load (b + o) n

/-- The bytes of a part of the image. -/
def imgBytes (s : State) (b o n : Nat) : List Nat := s.loadAll (b + o) 1 n

/-- The first check that fails: its byte offset. -/
def firstBad : List (Nat × Bool) → Option Nat
  | [] => none
  | (o, ok) :: l => if ok then firstBad l else some o

/-- `n` consecutive numbers from `o` on, `w` apart. -/
def stepsOf (o w n : Nat) : List Nat := (List.range n).map fun i => o + w * i

/-- R103: the header's checks, IMG_TARGET's apart. -/
def headerChecks (s : State) (b : Nat) : List (Nat × Bool) :=
  [(0x00, b % 4096 = 0 && imgU s b 0x00 4 = 0x4C504458), (0x04, imgU s b 0x04 2 = 1), (0x06, imgU s b 0x06 2 = 128),
   (0x08, decide (b + imgU s b 0x08 8 ≤ bulkEnd)), (0x1C, decide (imgU s b 0x1C 1 ≤ 2)),
   (0x1E, decide (imgU s b 0x1E 2 ≤ 200)), (0x20, decide (1 ≤ imgU s b 0x20 2 ∧ imgU s b 0x20 2 ≤ 256)),
   (0x22, decide (1 ≤ imgU s b 0x22 2 ∧ imgU s b 0x22 2 ≤ 1024)),
   (0x24, decide (6 ≤ imgU s b 0x24 2 ∧ imgU s b 0x24 2 ≤ 4096)), (0x26, imgU s b 0x26 2 = 0),
   (0x28, decide (imgU s b 0x28 8 + 40 * imgU s b 0x24 2 ≤ imgU s b 0x08 8)), (0x40, imgU s b 0x40 1 = 85),
   (0x41, imgU s b 0x41 1 = 105), (0x42, imgU s b 0x42 58 = 0), (0x7C, imgU s b 0x7C 4 = crc32c (imgBytes s b 0 0x7C))]

/-- R131: the checks whose failure is IMG_TARGET. -/
def targetOk (s : State) (b : Nat) : Bool :=
  imgU s b 0x18 2 = 0x7720 && imgU s b 0x1A 2 = 0x4201 && imgU s b 0x1D 1 = 3

/-- A section-table entry (R104), with its own offset in the image. -/
structure SecEntry where
  at_ : Nat
  type : Nat
  flags : Nat
  ctx : Nat
  ofs : Nat
  len : Nat
  loadAddr : Nat
  crc : Nat

/-- Reads the section table. -/
def secTable (s : State) (b : Nat) : List SecEntry :=
  (stepsOf (imgU s b 0x28 8) 40 (imgU s b 0x24 2)).map fun o =>
    ⟨o, imgU s b o 2, imgU s b (o + 2) 2, imgU s b (o + 4) 2, imgU s b (o + 8) 8, imgU s b (o + 0x10) 8,
      imgU s b (o + 0x18) 8, imgU s b (o + 0x20) 4⟩

def knownType (t : Nat) : Bool := (decide (1 ≤ t) && decide (t ≤ 12)) || t = 0xFFFF

/-- R104, R105: the checks of one section-table entry and its CRC. -/
def secChecks (s : State) (b : Nat) (e : SecEntry) : List (Nat × Bool) :=
  let len := imgU s b 0x08 8
  let code := e.type = 4 ∨ e.type = 5 ∨ e.type = 6
  [(e.at_, knownType e.type), (e.at_ + 2, decide (e.flags ≤ 1) && (!(decide code) || e.flags = 1)),
   (e.at_ + 4, decide (e.ctx < 4096)), (e.at_ + 6, imgU s b (e.at_ + 6) 2 = 0),
   (e.at_ + 8, e.ofs % 64 = 0 && decide (e.ofs + e.len ≤ len)),
   (e.at_ + 0x18, decide (e.loadAddr < 2 ^ 48) && (e.flags % 2 = 0 || mapped e.loadAddr e.len)),
   (e.at_ + 0x24, imgU s b (e.at_ + 0x24) 4 = 0),
   (e.at_ + 0x20, e.crc = crc32c (imgBytes s b e.ofs (min e.len len)))]

/-! ## Well-formedness (R101) -/

def countType (l : List SecEntry) (t : Nat) : Nat := (l.filter fun e => e.type = t).length

/-- R105: the counts of the sections, SIGNATURE last. -/
def countChecks (l : List SecEntry) : List (Nat × Bool) :=
  let one := fun t => countType l t = 1
  let most := fun t => decide (countType l t ≤ 1)
  [(0x28, one 1 && one 7 && one 11 && one 0xFFFF && most 8 && most 9 && most 12
      && (match l.getLast? with
          | some e => e.type = 0xFFFF
          | none => false))]

/-- R107, R108: the slot-table entry at offset `o`. -/
def readSlot (s : State) (b o : Nat) : SlotEntry :=
  let w0 := imgU s b o 4
  let w1 := imgU s b (o + 4) 4
  let w3 := imgU s b (o + 12) 4
  ⟨bits w0 31 24, bits w0 19 0, bits w1 16 16 = 1, bits w1 15 0, imgU s b (o + 8) 4 + (w3 % 65536) * 2 ^ 32, w3 / 65536⟩

def slotChecks (s : State) (b k o : Nat) : List (Nat × Bool) :=
  let e := readSlot s b o
  [(o, decide (1 ≤ e.op ∧ e.op ≤ 12) && bits (imgU s b o 4) 23 20 = 0 && decide (e.ofs < 983040) && e.ofs % k = 0),
   (o + 4, bits (imgU s b (o + 4) 4) 31 17 = 0 && unitFits e.op e.unit)]

/-- R105: entries sorted by OFS, then by unit. -/
def sortedSlots : List SlotEntry → Bool
  | a :: b :: l => (decide (a.ofs < b.ofs) || (a.ofs = b.ofs && decide (a.unit ≤ b.unit))) && sortedSlots (b :: l)
  | _ => true

/-- The last state of a list that names a unit. -/
def lastState (l : List (Nat × Nat)) (u : Nat) : Nat :=
  match (l.filter fun x => x.1 = u).getLast? with
  | some x => x.2
  | none => 0

/-- R591: the begins of the wakes of a list of requests (offset, domain, state), after the requests `seen`. -/
def wakeBegins (seen : List (Nat × Nat)) : List SlotEntry → List (Nat × Bool)
  | [] => []
  | e :: l =>
    let cur := lastState seen e.unit
    let rest := wakeBegins (seen ++ [(e.unit, e.arg % 4)]) l
    if 2 ≤ cur ∧ e.arg % 4 < 2 then (e.ofs, decide (cur = 3)) :: rest else rest

/-- R591: the begins of the wakes that a slot table holds: (offset, whether from OFF). A domain's state before its first
POWER entry is that of its last one, since spans repeat (log entry 13). -/
def wakesOf (l : List SlotEntry) : List (Nat × Bool) :=
  let pw := l.filter fun e => e.op = 10
  wakeBegins (pw.map fun e => (e.unit, e.arg % 4)) pw

def wakesOk (l : List SlotEntry) : Bool :=
  let w := wakesOf l
  w.all fun x =>
    decide ((w.filter fun y => decide (x.1 ≤ y.1) && decide (y.1 < x.1 + 512)).length ≤ 8)
      && decide ((w.filter fun y => y.2 && decide (y.1 ≤ x.1) && decide (x.1 < y.1 + 39322)).length ≤ 4)

/-- R109, R393: a link reservation. -/
def readLink (s : State) (b o : Nat) : LinkSlot :=
  let w0 := imgU s b o 4
  let w1 := imgU s b (o + 4) 4
  ⟨bits w0 19 0, bits w0 31 20, bits w1 10 8, bits w1 6 0⟩

def linkChecks (s : State) (b k o : Nat) : List (Nat × Bool) :=
  let e := readLink s b o
  let w1 := imgU s b (o + 4) 4
  [(o, decide (1 ≤ e.len) && e.ofs % k = 0 && decide (e.ofs + k * e.len ≤ 983040)),
   (o + 4, decide (e.port ≤ 4) && decide (e.router ≤ 99) && bits w1 31 11 = 0 && bits w1 7 7 = 0)]

/-- R110: a region. -/
def readRegion (s : State) (b o : Nat) : Region :=
  ⟨imgU s b o 8, imgU s b (o + 8) 4, imgU s b (o + 12) 2, imgU s b (o + 14) 1⟩

def regionChecks (s : State) (b : Nat) (bulk : Bool) (o : Nat) : List (Nat × Bool) :=
  let r := readRegion s b o
  [(o, decide (r.base < 2 ^ 48) && mapped r.base (64 * r.len) && (!bulk || r.base % 0x30000000 = 0)),
   (o + 8, !bulk || (r.len % 12582912 = 0 && decide (r.len ≠ 0))),
   (o + 12, decide (r.ctx < 4096)), (o + 14, decide (r.kind ≤ 1)), (o + 15, imgU s b (o + 15) 1 = 0)]

/-- R111: a trigger entry. -/
def readPlanTrig (s : State) (b o : Nat) : PlanTrig :=
  let f := imgU s b (o + 2) 2
  ⟨imgU s b o 2, bits f 0 0 = 1, bits f 1 1 = 1, imgU s b (o + 4) 1, imgU s b (o + 6) 2, imgU s b (o + 8) 8,
    imgU s b (o + 16) 4, imgU s b (o + 20) 4⟩

/-- R64, R65: what a plan entry's ACTION, PER and ARG must satisfy; ACTION 8 is the plan's alone. -/
def planTrigOk (t : PlanTrig) : Bool :=
  !((decide (1 ≤ t.per) && decide (t.per ≤ 15)) || decide (2 ^ 31 ≤ t.per) || decide (9 ≤ t.action)
    || (t.action = 3 && decide (47 < t.arg % 64)) || (t.action = 2 && t.arg / 4 = 0))

def trigChecks (s : State) (b o : Nat) : List (Nat × Bool) :=
  let t := readPlanTrig s b o
  [(o, decide (768 ≤ t.idx ∧ t.idx ≤ 1023)), (o + 2, decide (imgU s b (o + 2) 2 ≤ 3)), (o + 5, imgU s b (o + 5) 1 = 0),
   (o + 8, decide (8 ≤ t.rel ∧ t.rel ≤ 2147483647)), (o + 4, planTrigOk t)]

/-- R112: a replay map of a section at offset `o`. -/
def readMap (s : State) (b o : Nat) : ReplayMap :=
  let wc := imgU s b o 2
  let sc := imgU s b (o + 2) 2
  ⟨(stepsOf (o + 8) 8 wc).map fun p => (imgU s b p 4, imgU s b (p + 4) 4),
   (stepsOf (o + 8 + 8 * wc) 16 sc).map fun p =>
     ⟨imgU s b p 2, imgU s b (p + 2) 1, imgU s b (p + 4) 2, imgU s b (p + 8) 4⟩⟩

def typeOf (l : List SecEntry) (i : Nat) : Nat :=
  match l[i]? with
  | some e => e.type
  | none => 0

/-- R112: the windows of a variant total at least ⌊983,040 × REPLAY_PM / 1,000⌋ cy. -/
def mapChecks (s : State) (b : Nat) (l : List SecEntry) (e : SecEntry) : List (Nat × Bool) :=
  let m := readMap s b e.ofs
  let wc := m.wins.length
  let sc := m.steps.length
  [(e.ofs, decide (wc ≤ 8) && e.len = 8 + 8 * wc + 16 * sc), (e.ofs + 4, imgU s b (e.ofs + 4) 4 = 0),
   (e.ofs + 8, m.wins.all fun w => decide (w.1 + w.2 ≤ 983040)),
   (e.ofs + 8, decide (983040 * imgU s b 0x1E 2 / 1000 ≤ (m.wins.map (·.2)).sum))]
  ++ (stepsOf (e.ofs + 8 + 8 * wc) 16 sc).flatMap fun p =>
    [(p + 2, decide (imgU s b (p + 2) 1 < wc)), (p + 3, imgU s b (p + 3) 1 = 0), (p + 4, typeOf l (imgU s b (p + 4) 2) = 2),
     (p + 6, imgU s b (p + 6) 2 = 0), (p + 12, imgU s b (p + 12) 4 = 0)]

/-- R106: a variant. -/
def readVariant (s : State) (b o : Nat) : Variant :=
  let f := imgU s b (o + 1) 1
  ⟨bits f 0 0 = 1, bits f 1 1 = 1, imgU s b (o + 2) 2, imgU s b (o + 4) 2, imgU s b (o + 6) 2, imgU s b (o + 8) 2,
    imgU s b (o + 10) 2, imgU s b (o + 12) 2, imgU s b (o + 14) 2, imgU s b (o + 16) 2⟩

def variantChecks (s : State) (b : Nat) (l : List SecEntry) (o i : Nat) : List (Nat × Bool) :=
  let v := readVariant s b o
  [(o, imgU s b o 1 = i), (o + 1, decide (imgU s b (o + 1) 1 ≤ 3)),
   (o + 2, v.pos = 0xFFFF || decide (v.pos < imgU s b 0x22 2)),
   (o + 4, if v.degraded then decide (v.base < imgU s b 0x20 2) else v.base = i),
   (o + 6, if v.degraded then unitExists v.excl else v.excl = 0),
   (o + 8, typeOf l v.stCool = 2), (o + 10, typeOf l v.stHot = 2), (o + 12, typeOf l v.lsCool = 3),
   (o + 14, typeOf l v.lsHot = 3), (o + 16, v.replay = 0xFFFF || typeOf l v.replay = 10), (o + 18, imgU s b (o + 18) 14 = 0)]

/-- R178: a PIER_CODE section's target. -/
def pierCodeOk (e : SecEntry) : Bool :=
  let a := (e.loadAddr - pierBase) % 0x80000
  decide (pierBase ≤ e.loadAddr) && decide (e.loadAddr < bayBase) && a % 32 = 0 && decide (e.len ≠ 0) && e.len % 32 = 0
    && decide (a + e.len ≤ 0x20000)

/-- The number of entries of `w` bytes in a section, where its length is a whole number of them. -/
def whole (e : SecEntry) (w : Nat) : Nat × Bool := (e.at_ + 0x10, e.len % w = 0)

/-- R101: the well-formedness of one section. -/
def bodyChecks (s : State) (b k : Nat) (l : List SecEntry) (e : SecEntry) : List (Nat × Bool) :=
  let at_ := fun w => stepsOf e.ofs w (e.len / w)
  if e.type = 1 then
    (e.at_ + 0x10, e.len = 32 * imgU s b 0x20 2) ::
      ((List.range (imgU s b 0x20 2)).flatMap fun i => variantChecks s b l (e.ofs + 32 * i) i)
  else if e.type = 2 then
    whole e 16 :: ((at_ 16).flatMap (slotChecks s b k) ++
      [(e.ofs, sortedSlots ((at_ 16).map (readSlot s b)) && wakesOk ((at_ 16).map (readSlot s b)))])
  else if e.type = 3 then whole e 8 :: (at_ 8).flatMap (linkChecks s b k)
  else if e.type = 4 then [(e.at_ + 0x18, pierCodeOk e)]
  else if e.type = 7 then whole e 16 :: (at_ 16).flatMap (regionChecks s b false)
  else if e.type = 8 then whole e 16 :: (at_ 16).flatMap (regionChecks s b true)
  else if e.type = 9 then whole e 24 :: (at_ 24).flatMap (trigChecks s b)
  else if e.type = 10 then mapChecks s b l e
  else if e.type = 11 then
    [(e.at_ + 0x10, e.len = 2 * imgU s b 0x22 2),
     (e.ofs, (at_ 2).all fun o => decide (imgU s b o 2 < imgU s b 0x20 2))]
  else if e.type = 12 then
    whole e 4 :: (at_ 4).map fun o => (o, bits (imgU s b o 4) 15 8 = 0)
  else if e.type = 0xFFFF then
    [(e.at_ + 0x10, e.len = 112), (e.ofs + 4, imgU s b (e.ofs + 4) 2 = 1), (e.ofs + 6, imgU s b (e.ofs + 6) 10 = 0)]
  else []

/-- The section of a type that an image holds once. -/
def secOf (l : List SecEntry) (t : Nat) : Option SecEntry := l.find? fun e => e.type = t

/-- R101, R105, R118: each position has a default variant that is valid there. -/
def defaultChecks (s : State) (b : Nat) (l : List SecEntry) : List (Nat × Bool) :=
  match secOf l 11, secOf l 1 with
  | some d, some v =>
    (List.range (imgU s b 0x22 2)).map fun p =>
      let i := imgU s b (d.ofs + 2 * p) 2
      let pos := imgU s b (v.ofs + 32 * i + 2) 2
      (d.ofs + 2 * p, pos = 0xFFFF || pos = p)
  | _, _ => []

/-- Everything that step 4 of R121 checks. -/
def wellFormedChecks (s : State) (b k : Nat) (l : List SecEntry) : List (Nat × Bool) :=
  countChecks l ++ l.flatMap (bodyChecks s b k l) ++ defaultChecks s b l

/-! ## The plan -/

def readSection (s : State) (b : Nat) (e : SecEntry) : Section :=
  ⟨e.ctx,
   if e.type = 2 then .slots ((stepsOf e.ofs 16 (e.len / 16)).map (readSlot s b))
   else if e.type = 3 then .links ((stepsOf e.ofs 8 (e.len / 8)).map (readLink s b))
   else if e.type = 10 then .map (readMap s b e.ofs)
   else .other⟩

/-- The plan that an image holds. -/
def readPlan (s : State) (b : Nat) (l : List SecEntry) : Plan :=
  let items := fun t w => match secOf l t with
    | some e => stepsOf e.ofs w (e.len / w)
    | none => []
  { id := imgU s b 0x10 4
    rev := imgU s b 0x14 4
    plevel := imgU s b 0x1C 1
    period := imgU s b 0x22 2
    hotLimit := imgU s b 0x41 1
    variants := (items 1 32).map (readVariant s b)
    sections := l.map (readSection s b)
    foot := (items 7 16).map (readRegion s b)
    bulk := (items 8 16).map (readRegion s b)
    trigs := (items 9 24).map (readPlanTrig s b)
    defaults := (items 11 2).map fun o => imgU s b o 2
    rings := (items 12 4).map fun o => (imgU s b o 1, imgU s b (o + 2) 2)
    loads := (l.filter fun e => e.flags % 2 = 1).map fun e => (e.loadAddr, b + e.ofs, e.len) }

/-! ## The signature -/

/-- R622: whether key slot `n` is accepted in the life-cycle state. -/
def keyAccepted (lc n : Nat) : Bool :=
  if lc = 0 then true else if lc = 1 ∨ lc = 2 then n ≠ 0 else if lc = 3 then n = 0 else false

/-- R627: the key slot that a KEY_ID selects for a purpose. -/
def selectKey (s : State) (id purpose : Nat) : Option Nat :=
  match (List.range 16).find? fun n =>
    let k := Sparse.get (fun _ => KeySlot.empty) s.keys n
    k.used && !k.revoked && k.id = id with
  | some n =>
    let k := Sparse.get (fun _ => KeySlot.empty) s.keys n
    if bits k.purpose purpose purpose = 1 ∧ keyAccepted (s.get pgSys Rg.SYS_LC) n then some n else none
  | none => none

/-- A number from bytes stored most significant first. -/
def beNat (l : List Nat) : Nat := l.foldl (fun a b => 256 * a + b) 0

/-- Whether a signature of `n` bytes at `a` verifies under a KEY_ID and purpose (R113, R627). -/
def signatureOk (s : State) (id purpose : Nat) (msg : List Nat) (r q : Nat) : Bool :=
  match selectKey s id purpose with
  | some n => Config.ecdsaP384 (Sparse.get (fun _ => KeySlot.empty) s.keys n).key msg r q
  | none => false

/-- R113, R121: the plan's signature. -/
def imgSigned (s : State) (b : Nat) (l : List SecEntry) : Bool :=
  match secOf l 0xFFFF with
  | some e =>
    signatureOk s (imgU s b e.ofs 4) 1 (imgBytes s b 0 e.ofs) (beNat (imgBytes s b (e.ofs + 16) 48))
      (beNat (imgBytes s b (e.ofs + 64) 48))
  | none => false

/-- The outcome of LOAD's checks: the refusing event and the failing byte offset, or the plan. -/
inductive LoadCheck where
  | bad (event ofs : Nat)
  | good (p : Plan)

/-- R121: the checks of LOAD in their order. -/
def checkImage (s : State) (b : Nat) : LoadCheck :=
  match firstBad (headerChecks s b) with
  | some o => .bad Ev.IMG_FORMAT o
  | none =>
    if !(targetOk s b) then .bad Ev.IMG_TARGET 0
    else
      let l := secTable s b
      let k := if imgU s b 0x1C 1 = 0 then 1 else if imgU s b 0x1C 1 = 1 then 2 else 4
      match firstBad (l.flatMap (secChecks s b)) with
      | some o => .bad Ev.IMG_FORMAT o
      | none =>
        match firstBad (wellFormedChecks s b k l) with
        | some o => .bad Ev.IMG_FORMAT o
        | none => if imgSigned s b l then .good (readPlan s b l) else .bad Ev.IMG_SIGNATURE 0

end Sys2Proof.Machine
end

