-- ==== Sys2Proof/Machine/Memory.lean ====
section
/-! DEFINITION. The memory commands: initialization, scrubbers, corrected-error logs, refresh, the HBM PHY (spec chapter 13). -/
namespace Sys2Proof.Machine

/-! ## Initialization -/

/-- R438: the range that MEM_INIT.SEL names in bay `b`; 13–15 are reserved. -/
def initRange (b sel : Nat) : Option (Nat × Nat) :=
  if sel < 8 then some (pierBase + (8 * b + sel) * 0x80000, 0x7FF80)
  else if sel = 8 then some (bayBase + b * 0x1000000, 0x1000000)
  else if sel < 13 then some (sliceBase + (4 * b + sel - 9) * 0x180000, 0x180000)
  else none

/-- The lines of that range (R409, R432). -/
def initLines (sel : Nat) : Nat := if sel < 8 then 7167 else if sel = 8 then 131072 else 12288

/-- R419: zeros with valid check bits. -/
def State.zeroMem (s : State) (a n : Nat) : State := s.forgetMem a (a + n)

/-- MEM_INIT_START (R419, R438): a write of MEM_INIT with START. A start while an initialization is in progress has no
effect. -/
def execMemInitStart (w : Who) (b : Fin 8) (value : Nat) (s : State) : Host.Outcome State Fault Refusal :=
  let p := page .bay b.val
  .next (s.command w p 0x218 value fun s =>
    let sel := s.get p Rg.MEM_INIT_SEL
    if bits value 31 31 = 1 ∧ (initRange b.val sel).isSome ∧ ¬ s.flag p Rg.MEM_INIT_STAT_BUSY then
      { (s.put p Rg.MEM_INIT_STAT_BUSY 1) with mu := { s.mu with inits := s.mu.inits ++ [⟨p, sel, s.uptime⟩] } }
    else s)

/-- The initialization in progress on a page. -/
def State.initOf (s : State) (p : Nat) : Option MemInit := s.mu.inits.find? fun i => i.page = p

/-- Ends the initialization of a page: BUSY, DONE and the interrupt source. -/
def State.initEnd (s : State) (p : Nat) (busy done : Fld) : State :=
  let s := (s.put p busy 0).put p done 1
  { s with mu := { s.mu with inits := s.mu.inits.filter fun i => i.page ≠ p } }

/-- MEM_INIT_DONE (R419): at one line per free bank cycle at most. A memory that is not ON is passed over (R421). -/
def execMemInitDone (b : Fin 8) (s : State) : Host.Outcome State Fault Refusal :=
  let p := page .bay b.val
  .next (
    match s.initOf p with
    | none => s
    | some i =>
      match initRange b.val i.sel with
      | none => s
      | some r =>
        if s.uptime < i.up0 + initLines i.sel * s.deckK then s
        else
          let s := if s.domOn (memDomain r.1) then s.zeroMem r.1 r.2 else s
          (s.initEnd p Rg.MEM_INIT_STAT_BUSY Rg.MEM_INIT_STAT_DONE).irq p 5)

/-- BM_INIT_START (R419, R439): a write of BM_INIT. -/
def execBmInitStart (w : Who) (k : Fin 4) (value : Nat) (s : State) : Host.Outcome State Fault Refusal :=
  let p := page .bm k.val
  .next (s.command w p 0x10C value fun s =>
    if value % 65536 ≠ 0 ∧ ¬ s.flag p Rg.BM_INIT_STAT_BUSY then
      { (s.put p Rg.BM_INIT_STAT_BUSY 1) with mu := { s.mu with inits := s.mu.inits ++ [⟨p, value % 65536, s.uptime⟩] } }
    else s)

/-- The controller-refreshed pseudo-channels of BMk that a mask names. -/
def initPcs (s : State) (k mask : Nat) : List Nat :=
  ((List.range 16).filter fun q => bits mask q q = 1 && !(s.planPc (16 * k + q))).map fun q => 16 * k + q

/-- INIT_DONE (R419): each pseudo-channel takes 3,145,728 cy. -/
def execInitDone (k : Fin 4) (s : State) : Host.Outcome State Fault Refusal :=
  let p := page .bm k.val
  .next (
    match s.initOf p with
    | none => s
    | some i =>
      let pcs := initPcs s k.val i.sel
      if s.uptime < i.up0 + pcs.length * 3145728 then s
      else
        let s := pcs.foldl (fun s g => s.zeroMem (g * 0x30000000) 0x30000000) s
        (s.initEnd p Rg.BM_INIT_STAT_BUSY Rg.BM_INIT_STAT_DONE).event p Ev.INIT_DONE)

/-! ## Scrubbers -/

/-- R432: lines in a deck scrubber's lap. -/
def lapLines : Nat := 237560

/-- R432: line `i` of the lap of bay `b`, in address order, memory after memory: its address and length. -/
def lapLine (b i : Nat) : Nat × Nat :=
  if i < 8 * 7167 then
    let base := pierBase + (8 * b + i / 7167) * 0x80000
    let j := i % 7167
    if j < 4096 then (base + 32 * j, 32) else (base + 0x20000 + 128 * (j - 4096), 128)
  else
    let j := i - 8 * 7167
    if j < 131072 then (bayBase + b * 0x1000000 + 128 * j, 128)
    else (sliceBase + 4 * b * 0x180000 + 128 * (j - 131072), 128)

def scrub0 : Nat → Scrub := fun _ => Scrub.zero

def State.scrubOf (s : State) (p : Nat) : Scrub := Sparse.get scrub0 s.mu.scrubs p

def State.setScrub (s : State) (p : Nat) (c : Scrub) : State :=
  { s with mu := { s.mu with scrubs := Sparse.set scrub0 s.mu.scrubs p c } }

/-- One scrubber read of a line: the counts of the lap and, for a correctable word, a write-back. -/
def State.scrubLine (s : State) (p a n : Nat) (on : Bool) : State :=
  let c := s.scrubOf p
  let c := if c.pos = 0 then { c with air0 := s.now, up0 := s.uptime, corr := 0, ue := 0, defer := 0 } else c
  let hits := if on then eccHits s a n else []
  let corr := (hits.filter fun e => e.2.kind = 1).length
  let ue := (hits.filter fun e => 2 ≤ e.2.kind).length
  let s := if on then (s.readMem 238 true a n).2 else s
  let c' := { c with
    pos := c.pos + 1
    corr := c.corr + corr
    ue := c.ue + ue
    defer := if on then c.defer else c.defer + 1
    last := s.uptime + 1
    back := if corr = 0 then c.back else c.back ++ [(a, n, false)] }
  (s.bump p 0x04).setScrub p c'

/-- R434: the end of a deck lap. -/
def State.deckLapEnd (s : State) (p : Nat) : State :=
  let c := s.scrubOf p
  let s := s.satAdd p Rg.MEM_SCR_STAT_LAPS
  let s := (s.put64 p Rg.MEM_LAP_AIR_LO c.air0).put p Rg.MEM_LAP_CY (min (s.uptime + 1 - c.up0) 0xFFFFFFFF)
  let s := (s.put p Rg.MEM_LAP_SUM_CORR (min c.corr 65535)).put p Rg.MEM_LAP_SUM_UE (min c.ue 255)
  let s := s.put p Rg.MEM_LAP_SUM_DEFER (min c.defer 255)
  (s.event p Ev.SCRUB_LAP_21).setScrub p { Scrub.zero with back := c.back, last := c.last }

/-- SCRUB_READ (R432, R434, R421). -/
def execScrubRead (b : Fin 8) (s : State) : Host.Outcome State Fault Refusal :=
  let p := page .bay b.val
  let c := s.scrubOf p
  let int := max 1 (s.get p Rg.MEM_SCR_CFG_INT) * s.deckK
  .next (
    if ¬ s.flag p Rg.MEM_SCR_CFG_EN ∨ (c.last ≠ 0 ∧ s.uptime + 1 < c.last + int) ∨ s.asleep (48 + b.val) then s
    else
      let l := lapLine b.val c.pos
      let s := s.put p Rg.MEM_SCR_STAT_BUSY 1
      let s := s.scrubLine p l.1 l.2 (s.domOn (memDomain l.1))
      if lapLines ≤ (s.scrubOf p).pos then s.deckLapEnd p else s)

/-- The page of scrubber `u`: the bays' 0–7, then BM0–BM3. -/
def scrubPage (u : Nat) : Nat := if u < 8 then page .bay u else page .bm (u - 8)

/-- The word indexes of a line that read correctable. -/
def correctable (s : State) (a n : Nat) : List Nat := ((eccHits s a n).filter fun e => e.2.kind = 1).map (·.1)

/-- SCRUB_WRITEBACK (R432, R433): the oldest corrected line is written back, or skipped and counted as deferred when
another write to it was served in between. -/
def execScrubWriteback (u : Fin 12) (s : State) : Host.Outcome State Fault Refusal :=
  let p := scrubPage u.val
  let c := s.scrubOf p
  .next (
    match c.back with
    | [] => s
    | (a, n, hit) :: rest =>
      if hit then s.setScrub p { c with back := rest, defer := c.defer + 1 }
      else
        let s := (correctable s a n).foldl (fun s w => s.setEcc w Ecc.clean) s
        s.setScrub p { c with back := rest })

/-- R433: reads in a bulk lap. -/
def bmLapReads : Nat := 50331648

/-- R434: the end of a bulk lap. -/
def State.bmLapEnd (s : State) (p : Nat) : State :=
  let c := s.scrubOf p
  let s := s.satAdd p Rg.BM_SCR_STAT_LAPS
  let s := (s.put64 p Rg.BM_LAP_AIR_LO c.air0).put64 p Rg.BM_LAP_CY_LO (s.uptime + 1 - c.up0)
  let s := (s.put p Rg.BM_LAP_SUM_CORR (min c.corr 65535)).put p Rg.BM_LAP_SUM_UE (min c.ue 65535)
  (s.event p Ev.SCRUB_LAP_50).setScrub p { Scrub.zero with back := c.back, last := c.last }

/-- BM_SCRUB_READ (R433, R434): the next 256 bytes; a halted pseudo-channel is passed over. -/
def execBmScrubRead (k : Fin 4) (s : State) : Host.Outcome State Fault Refusal :=
  let p := page .bm k.val
  let c := s.scrubOf p
  let a := k.val * 0x300000000 + 256 * c.pos
  let int := max 1 (s.get p Rg.BM_SCR_INT)
  .next (
    if ¬ s.flag p Rg.BM_CFG_SCR_EN ∨ (c.last ≠ 0 ∧ s.uptime + 1 < c.last + int) ∨ ¬ s.domOn (12 + k.val) then s
    else
      let s := s.put p Rg.BM_SCR_STAT_BUSY 1
      let s := if s.pcHalted (a / 0x30000000) then s.setScrub p { c with pos := c.pos + 1048576 }
        else s.scrubLine p a 256 true
      if bmLapReads ≤ (s.scrubOf p).pos then s.bmLapEnd p else s)

/-- CEL_POP (R435): a read of CEL_INFO pops the oldest entry. -/
def execCelPop (w : Who) (u : Fin 12) (s : State) : Host.Outcome State Fault Refusal :=
  let p := scrubPage u.val
  let off := if u.val < 8 then 0x220 else 0x240
  .next (s.access w p off false fun s =>
    match Sparse.get cel0 s.mu.cel p with
    | [] => (s.setReg p off 0).answer 0 0
    | e :: rest =>
      let info := 1 <<< 31 + e.scrub.toNat <<< 30 + rest.length <<< 24 + e.count <<< 16 + e.synd % 65536
      let s := { s with mu := { s.mu with cel := Sparse.set cel0 s.mu.cel p rest } }
      let s := s.setReg p off (BitVec.ofNat 32 info)
      let s := s.setReg p (off + 4) (BitVec.ofNat 32 e.addr)
      let s := s.setReg p (off + 8) (BitVec.ofNat 32 (e.addr / 2 ^ 32))
      (s.setReg p (off + 12) (BitVec.ofNat 32 e.air)).answer 0 info)

/-- BM_RELEASE (R430): each 1 ends a halt. -/
def execBmRelease (w : Who) (k : Fin 4) (value : Nat) (s : State) : Host.Outcome State Fault Refusal :=
  let p := page .bm k.val
  .next (s.command w p 0x108 value fun s =>
    let h := s.get p Rg.BM_STAT_HALT
    s.put p Rg.BM_STAT_HALT (h - (h &&& value)))

/-! ## Refresh -/

/-- R116: the greatest refresh interval of a class. -/
def refi (hot : Bool) : Nat := if hot then 1916 else 7667

/-- R427: a pseudo-channel is unavailable for this long after a refresh. -/
def tRfc : Nat := 563

/-- The class of the deck's current span. -/
def State.deckHot (s : State) : Bool := s.flag pgDeck Rg.DK_STAT_THERM

/-- A refresh of global pseudo-channel `g` that keeps it unavailable for `busy` cy. -/
def State.refresh (s : State) (g busy : Nat) (hot : Bool) : State :=
  { s with mu := { s.mu with
    refAt := Sparse.set (fun _ => 0) s.mu.refAt g (s.uptime + 1)
    refHot := Sparse.set (fun _ => 0) s.mu.refHot g hot.toNat
    refBusy := Sparse.set (fun _ => 0) s.mu.refBusy g (s.uptime + busy) } }

/-- R117, R428: the class that a reading (in 1/256 °C, signed) gives, from the class so far. -/
def thermClass (s : State) (was : Bool) : Bool :=
  let t := toInt 16 (s.get pgDeck Rg.DK_THERM_HBM_T)
  if (s.get pgDeck Rg.DK_THERM_HOT_ENTER * 256 : Nat) ≤ t then true
  else if t ≤ (s.get pgDeck Rg.DK_THERM_HOT_EXIT * 256 : Nat) then false
  else was

/-- CONTROLLER_REFRESH (R428): a controller refreshes a pseudo-channel that no plan window holds. -/
def execControllerRefresh (g : Fin 64) (s : State) : Host.Outcome State Fault Refusal :=
  let k := g.val / 16
  .next (
    if s.planPc g.val ∨ ¬ s.domOn (12 + k) then s
    else s.refresh g.val tRfc (if s.plan.isSome then s.deckHot else s.flag (page .bm k) Rg.BM_REF_STAT_HOT))

/-- REFRESH_MISS (R116): a plan-refreshed pseudo-channel reaches its interval limit: the controller refreshes it itself and
the plan halts. -/
def execRefreshMiss (g : Fin 64) (s : State) : Host.Outcome State Fault Refusal :=
  let last := Sparse.get (fun _ => 0) s.mu.refAt g.val
  let hot := Sparse.get (fun _ => 0) s.mu.refHot g.val == 1
  .next (
    if s.planPc g.val ∧ last + refi hot ≤ s.uptime + 1 then
      let s := s.satAdd (page .bm (g.val / 16)) Rg.BM_REF_STAT_MISS
      (s.refresh g.val (8 * s.deckK + tRfc) s.deckHot).deckEvent Ev.REFRESH_MISS 0 (g.val / 16 * 256 + g.val % 16)
    else s)

/-! ## The HBM PHY -/

/-- R429: one stack's reading; a failed read is taken as 105 °C. -/
def State.tempRead (s : State) (f : Fld) (t : Option Int) : State :=
  match t with
  | some t => s.put pgPhy f (ofInt 16 (t * 256))
  | none => (s.put pgPhy f (105 * 256)).event pgPhy Ev.TEMP_FAIL

/-- HBM_TEMP_READ (R429): the readings of the two stacks in whole degrees (`none`: the read fails). R117 uses the higher. -/
def execHbmTempRead (t0 t1 : Option Int) (s : State) : Host.Outcome State Fault Refusal :=
  .next (
    if ¬ s.domOn 12 then s
    else
      let s := (s.tempRead Rg.HBM_T0 t0).tempRead Rg.HBM_T1 t1
      let a := toInt 16 (s.get pgPhy Rg.HBM_T0)
      let b := toInt 16 (s.get pgPhy Rg.HBM_T1)
      s.put pgDeck Rg.DK_THERM_HBM_T (ofInt 16 (max a b)))

/-- The uptime + 1 at which the training of stack `n` began. -/
def State.trainOf (s : State) (n : Nat) : Nat := if n = 0 then s.mu.train0 else s.mu.train1

def State.setTrain (s : State) (n v : Nat) : State :=
  if n = 0 then { s with mu := { s.mu with train0 := v } } else { s with mu := { s.mu with train1 := v } }

/-- PHY_TRAIN (R431): a write of PHY_CMD.TRAIN. -/
def execPhyTrain (w : Who) (value : Nat) (s : State) : Host.Outcome State Fault Refusal :=
  .next (s.access w pgPhy 0x104 true fun s =>
    [0, 1].foldl (fun s n => if bits value n n = 1 then s.setTrain n (s.uptime + 1) else s) s)

/-- TRAIN_COMPLETE (R440): training that has not completed within 39,321,600 cy fails. -/
def execTrainComplete (n : Fin 2) (good : Bool) (s : State) : Host.Outcome State Fault Refusal :=
  let t := s.trainOf n.val
  .next (
    if t = 0 then s
    else
      let s := s.setTrain n.val 0
      if good ∧ s.uptime + 1 ≤ t + 39321600 then
        s.put pgPhy Rg.PHY_STAT_TRAINED (s.get pgPhy Rg.PHY_STAT_TRAINED ||| 2 ^ n.val)
      else s.event pgPhy Ev.TRAIN_FAIL)

/-- Sets or clears one bit of a field. -/
def State.putBit (s : State) (p : Nat) (f : Fld) (n : Nat) (v : Bool) : State :=
  let old := s.get p f
  s.put p f (if v then old ||| 2 ^ n else old - (old &&& 2 ^ n))

/-- R431: a request for self-refresh of one stack, or for its end. -/
def State.srefStack (s : State) (n : Nat) (on : Bool) : State :=
  let was := bits (s.get pgPhy Rg.PHY_CMD_SREF) n n == 1
  if on then
    if (List.range 32).any fun g => s.planPc (32 * n + g) then s.event pgPhy Ev.SREF_DENIED
    else (s.putBit pgPhy Rg.PHY_CMD_SREF n true).putBit pgPhy Rg.PHY_STAT_SREF n true
  else if was then
    let s := (s.putBit pgPhy Rg.PHY_CMD_SREF n false).putBit pgPhy Rg.PHY_STAT_SREF n false
    if n = 0 then { s with mu := { s.mu with wake0 := s.uptime + 3933 } }
    else { s with mu := { s.mu with wake1 := s.uptime + 3933 } }
  else s

/-- SREF_REQUEST (R431): a write of PHY_CMD.SREF. -/
def execSrefRequest (w : Who) (value : Nat) (s : State) : Host.Outcome State Fault Refusal :=
  .next (s.access w pgPhy 0x104 true fun s =>
    (s.srefStack 0 (bits value 4 4 == 1)).srefStack 1 (bits value 5 5 == 1))

/-- CA_PARITY (R437, R440). -/
def execCaParity (n : Fin 2) (s : State) : Host.Outcome State Fault Refusal :=
  .next (if s.domOn (12 + 2 * n.val) then (s.satAdd pgPhy Rg.PHY_ERR).event pgPhy Ev.CA_PARITY 0 0 (n.val <<< 16) else s)

end Sys2Proof.Machine
end

