-- ==== Sys2Proof/Machine/Deck.lean ====
section
/-! DEFINITION. The deck sequencer: LOAD, ARM, swap and stop, the span and its variants, FAILED, replays, the lease, and the
issue of slot-table operations (spec chapter 04). -/
namespace Sys2Proof.Machine

/-! ## The span -/

/-- The start of the current span. -/
def State.spanStart (s : State) : Nat := s.get64 pgDeck Rg.DK_SPAN_LO

/-- The offset of now in the current span. -/
def State.spanOfs (s : State) : Nat := s.now - s.spanStart

/-- The span number of an instant on the grid (R114). -/
def State.spanNo (s : State) (a : Nat) : Nat := (a - s.get64 pgDeck Rg.DK_ORG_LO) / spanCy

/-- The span tag of the current span (R114). -/
def State.spanTag (s : State) : Nat := s.spanNo s.spanStart % 65536

/-- R115: the position of the span that starts at `a`. -/
def posAt (d : Deck) (p : Plan) (a : Nat) : Nat := (d.phase + (a - d.start) / spanCy) % p.period

/-- DK_STAT.STATE (R132). -/
def deckStateCode (d : Deck) : Nat :=
  if d.run.isSome then (if d.stopping || d.stopAt.isSome then 5 else if d.armed.isSome then 4 else 3)
  else if d.armed.isSome then 2
  else if d.slot0.isSome || d.slot1.isSome then 1
  else 0

/-- Shows the deck's state in DK_STAT (R132) and the slots in DK_PLANn and DK_REVn. -/
def State.showDeck (s : State) : State :=
  let d := s.dk
  let s := s.put pgDeck Rg.DK_STAT_STATE (deckStateCode d)
  let s := s.put pgDeck Rg.DK_STAT_RUN_SLOT (d.run.getD 0)
  let s := s.put pgDeck Rg.DK_STAT_PLEVEL (match s.plan with
    | some p => p.plevel
    | none => 0)
  let show' := fun (s : State) (o : Option Plan) (id rev : Fld) =>
    match o with
    | some p => (s.put pgDeck id p.id).put pgDeck rev p.rev
    | none => (s.put pgDeck id 0).put pgDeck rev 0
  show' (show' s d.slot0 Rg.DK_PLAN0 Rg.DK_REV0) d.slot1 Rg.DK_PLAN1 Rg.DK_REV1

def State.setDeck (s : State) (d : Deck) : State := ({ s with dk := d }).showDeck

/-- Stores a plan in a slot. -/
def Deck.setSlot (d : Deck) (n : Nat) (p : Option Plan) : Deck := if n = 0 then { d with slot0 := p } else { d with slot1 := p }

/-- The grid is released when no plan runs or is armed (R126). -/
def State.gridCheck (s : State) : State :=
  if s.dk.run.isNone && s.dk.armed.isNone then (s.put pgDeck Rg.DK_STAT_GRID_V 0).put64 pgDeck Rg.DK_ORG_LO 0 else s

/-! ## Commands -/

/-- R132: a command completes: DK_RESULT and PG_IRQ bit 0. -/
def State.deckDone (s : State) (ev : Nat) : State :=
  let s := (s.put pgDeck Rg.DK_RESULT_DONE 1).put pgDeck Rg.DK_RESULT_OK (if ev = 0 then 1 else 0)
  ((s.put pgDeck Rg.DK_RESULT_EVENT ev).put pgDeck Rg.DK_STAT_PEND 0).irq pgDeck 0

/-- A refused command. -/
def State.deckRefuse (s : State) (ev : Nat) (addr : Nat := 0) (detail : Nat := 0) : State :=
  (s.deckEvent ev addr detail).deckDone ev

/-- A write of DK_CMD. A command while another is in progress is refused with SLOT_BUSY and leaves DK_RESULT to the one in
progress (log entry 14). -/
def State.deckCmd (s : State) (w : Who) (f : State → State) : State :=
  s.access w pgDeck 0x104 true fun s => if s.flag pgDeck Rg.DK_STAT_PEND then s.deckEvent Ev.SLOT_BUSY else f s

def Deck.isArmedSlot (d : Deck) (n : Nat) : Bool :=
  match d.armed with
  | some a => a.slot = n
  | none => false

/-- LOAD (R121): the image at DK_IMG is checked; a sound one is then copied (PLAN_LOAD_DONE). -/
def execLoad (w : Who) (slot : Fin 2) (s : State) : Host.Outcome State Fault Refusal :=
  .next (s.deckCmd w fun s =>
    if s.dk.run = some slot.val ∨ s.dk.isArmedSlot slot.val then s.deckRefuse Ev.SLOT_BUSY
    else
      match checkImage s (s.get64 pgDeck Rg.DK_IMG_LO) with
      | .bad ev o => s.deckRefuse ev o
      | .good p =>
        let s := ({ s with dk := { s.dk with loading := some (slot.val, p) } }).put pgDeck Rg.DK_STAT_PEND 1
        s.setReg pgDeck 0x108 0)

/-- PLAN_LOAD_DONE (R121): the copies of the sections with LOAD = 1 are complete. -/
def execPlanLoadDone (s : State) : Host.Outcome State Fault Refusal :=
  .next (
    match s.dk.loading with
    | none => s
    | some (n, p) =>
      let s := p.loads.foldl (fun s l => s.writeBytes 238 l.1 (s.loadAll l.2.1 1 l.2.2)) s
      (s.setDeck { (s.dk.setSlot n (some p)) with loading := none }).deckDone 0)

/-- R118: whether a variant is valid at a position. -/
def varValid (p : Plan) (v pos : Nat) : Bool :=
  match p.variants[v]? with
  | some x => x.pos = 0xFFFF || x.pos = pos
  | none => false

/-- Whether two regions overlap. -/
def overlap (a b : Region) : Bool := decide (a.base < b.base + 64 * b.len) && decide (b.base < a.base + 64 * a.len)

/-- R122: the region of a plan that may not stand beside the running plan's. -/
def footClash (new old : Plan) : Option Region :=
  (new.foot ++ new.bulk).find? fun r =>
    (old.foot ++ old.bulk).any fun q =>
      overlap r q && (if r.kind = 0 then q.kind = 0 || r.base ≠ q.base || r.len ≠ q.len || r.ctx ≠ q.ctx
        else r.base ≠ q.base || r.len ≠ q.len || r.ctx ≠ q.ctx)

/-- R122: a TRIGGERS entry without ADOPT that names an entry held with CARRY = 1. -/
def trigClash (s : State) (p : Plan) : Option PlanTrig :=
  p.trigs.find? fun t => !t.adopt && (s.trig t.idx).carry && (s.trig t.idx).armed

/-- R122: the refusal of ARM, in the order of its table: the event, an address and a detail. -/
def armRefusal (s : State) (slot : Nat) : Option (Nat × Nat × Nat) :=
  let at_ := s.get64 pgDeck Rg.DK_ARM_LO
  let v0 := s.get pgDeck Rg.DK_ARM_CFG_VAR0
  let v1 := s.get pgDeck Rg.DK_ARM_CFG_VAR1
  let ph := s.get pgDeck Rg.DK_ARM_CFG_PHASE
  if !s.airValid then some (Ev.ARM_NO_TIME, 0, 0)
  else match s.dk.slot slot with
    | none => some (Ev.SLOT_BUSY, 0, 0)
    | some p =>
      let org := s.get64 pgDeck Rg.DK_ORG_LO
      let grid := s.flag pgDeck Rg.DK_STAT_GRID_V
      if s.dk.run = some slot then some (Ev.SLOT_BUSY, 0, 0)
      else if p.plevel ≠ min 2 (s.get pgPwr Rg.PWR_DECK_CUR) then some (Ev.PLEVEL_MISMATCH, 0, 0)
      else if (if grid then decide (at_ < org) || (at_ - org) % spanCy ≠ 0 else at_ % 4 ≠ 0) then some (Ev.ARM_GRID, 0, 0)
      else if at_ ≤ s.now + spanCy then some (Ev.ARM_LATE, 0, 0)
      else if p.period ≤ ph ∨ varValid p v0 ph = false then some (Ev.SEL_INVALID, 0, v0)
      else if varValid p v1 ((ph + 1) % p.period) = false then some (Ev.SEL_INVALID, 0, v1)
      else if s.dk.armed.isSome ∨ s.dk.stopAt = some at_ then some (Ev.SLOT_BUSY, 0, 0)
      else match s.plan.bind (footClash p) with
        | some r => some (Ev.FOOTPRINT_OVERLAP, r.base, 0)
        | none =>
          match trigClash s p with
          | some t => if s.dk.run.isSome then some (Ev.TRIG_COLLIDE, 0, t.idx) else none
          | none => none

/-- ARM (R114, R122). -/
def execArm (w : Who) (slot : Fin 2) (s : State) : Host.Outcome State Fault Refusal :=
  .next (s.deckCmd w fun s =>
    match armRefusal s slot.val with
    | some (ev, a, d) => s.deckRefuse ev a d
    | none =>
      let at_ := s.get64 pgDeck Rg.DK_ARM_LO
      let s := if s.flag pgDeck Rg.DK_STAT_GRID_V then s
        else (s.put64 pgDeck Rg.DK_ORG_LO at_).put pgDeck Rg.DK_STAT_GRID_V 1
      let a : Armed := ⟨slot.val, at_, s.get pgDeck Rg.DK_ARM_CFG_VAR0, s.get pgDeck Rg.DK_ARM_CFG_VAR1,
        s.get pgDeck Rg.DK_ARM_CFG_PHASE, false⟩
      (s.setDeck { s.dk with armed := some a }).deckDone 0)

/-- DISARM (R122, R131). -/
def execDisarm (w : Who) (s : State) : Host.Outcome State Fault Refusal :=
  .next (s.deckCmd w fun s =>
    match s.dk.armed with
    | none => s.deckRefuse Ev.SLOT_BUSY
    | some a =>
      if a.committed ∨ a.s ≤ s.now + spanCy then s.deckRefuse Ev.ARM_COMMITTED
      else ((s.setDeck { s.dk with armed := none }).gridCheck).deckDone 0)

/-- STOP (R126). -/
def execStop (w : Who) (s : State) : Host.Outcome State Fault Refusal :=
  .next (s.deckCmd w fun s =>
    let at_ := s.get64 pgDeck Rg.DK_ARM_LO
    let org := s.get64 pgDeck Rg.DK_ORG_LO
    let same : Bool := match s.dk.armed with
      | some a => a.s = at_
      | none => false
    if s.dk.run.isNone || same then s.deckRefuse Ev.SLOT_BUSY
    else if at_ < org ∨ (at_ - org) % spanCy ≠ 0 then s.deckRefuse Ev.ARM_GRID
    else if at_ ≤ s.now + spanCy then s.deckRefuse Ev.ARM_LATE
    else (s.setDeck { s.dk with stopAt := some at_ }).deckDone 0)

/-- UNLOAD (R132). -/
def execUnload (w : Who) (slot : Fin 2) (s : State) : Host.Outcome State Fault Refusal :=
  .next (s.deckCmd w fun s =>
    if s.dk.run = some slot.val ∨ s.dk.isArmedSlot slot.val then s.deckRefuse Ev.SLOT_BUSY
    else (s.setDeck (s.dk.setSlot slot.val none)).deckDone 0)

/-! ## Variants -/

/-- R117: the class latched for the next span, from the class of the span before it. -/
def State.latchTherm (s : State) (was : Bool) : Bool × State :=
  let hot := thermClass s was
  let s := if hot = was then s else s.deckEvent Ev.THERM_CLASS
  let t := toInt 16 (s.get pgDeck Rg.DK_THERM_HBM_T)
  let lim : Nat := match s.plan with
    | some p => p.hotLimit
    | none => 105
  (hot, if (lim * 256 : Nat) < t then s.deckEvent Ev.THERM_LIMIT 0 (s.get pgDeck Rg.DK_THERM_HBM_T) else s)

/-- The units of the FAILED set in the order in which they entered it (R119). -/
def State.failedUnits (s : State) : List Nat :=
  (s.dk.failOrder.filter fun n => s.flag pgDeck Rg.DK_FAIL_VALID n).map fun n => s.get pgDeck Rg.DK_FAIL_UNIT n

/-- R119: the index of the degraded variant that replaces `v` without unit `u`. -/
def degradedOf (p : Plan) (v u : Nat) : Option Nat :=
  p.variants.findIdx? fun x => x.degraded && x.base = v && x.excl = u

/-- R119: the variant that runs for a chosen one, with the units fenced. -/
def State.substitute (s : State) (p : Plan) (v : Nat) (hot dflt : Bool) : InForce :=
  let f := s.failedUnits
  match f with
  | [] => ⟨v, hot, false, dflt, s.dk.overflow⟩
  | u :: rest =>
    match degradedOf p v u with
    | some d => ⟨d, hot, true, dflt, rest ++ s.dk.overflow⟩
    | none => ⟨v, hot, false, dflt, f ++ s.dk.overflow⟩

/-- DV_STAT and DV_SPAN (R133), and the class of the current span in DK_STAT. -/
def State.showVar (s : State) : State :=
  let c := s.dk.cur
  let n := s.dk.next
  let v := n.hot.toNat <<< 21 + c.hot.toNat <<< 20 + n.deg.toNat <<< 19 + c.deg.toNat <<< 18 + n.dflt.toNat <<< 17
    + c.dflt.toNat <<< 16 + (n.var % 256) <<< 8 + c.var % 256
  let s := s.setReg pgVar 0x104 (BitVec.ofNat 32 v)
  (s.put pgVar Rg.DV_SPAN s.spanTag).put pgDeck Rg.DK_STAT_THERM c.hot.toNat

/-- R118: the checks of the selection for the span that starts at `a`. -/
def State.latchSelect (s : State) (p : Plan) (a : Nat) : Nat × Bool × State :=
  let v := s.get pgVar Rg.DV_SEL_VAR
  let pos := posAt s.dk p a
  let dflt := p.defaults.getD pos 0
  if !s.dk.selected || s.get pgVar Rg.DV_SEL_TAG ≠ s.spanNo a % 65536 then
    (dflt, true, s.event pgVar Ev.LATE_SELECT)
  else if varValid p v pos = false then (dflt, true, s.event pgVar Ev.SEL_INVALID 0 0 (v <<< 16))
  else (v, false, s)

/-- The slot-table entries that run in a span (R115). -/
def Plan.tableOf (p : Plan) (i : InForce) : List SlotEntry × Nat :=
  match p.variants[i.var]? with
  | none => ([], 0)
  | some v =>
    match p.sections[if i.hot then v.stHot else v.stCool]? with
    | some ⟨ctx, .slots l⟩ => (l, ctx)
    | _ => ([], 0)

/-- The link reservations in force in a span (R393). -/
def Plan.linksOf (p : Plan) (i : InForce) : List LinkSlot :=
  match p.variants[i.var]? with
  | none => []
  | some v =>
    match p.sections[if i.hot then v.lsHot else v.lsCool]? with
    | some ⟨_, .links l⟩ => l
    | _ => []

/-- The replay map in force in a span. -/
def Plan.mapOf (p : Plan) (i : InForce) : ReplayMap :=
  match p.variants[i.var]? with
  | none => ⟨[], []⟩
  | some v =>
    match p.sections[v.replay]? with
    | some ⟨_, .map m⟩ => m
    | _ => ⟨[], []⟩

/-- Opens a span of the running plan at `a`: DK_SPAN, DK_POS, DV_LATE, NO_DEGRADE and the span-start interrupt. -/
def State.beginSpan (s : State) (p : Plan) (a : Nat) : State :=
  let s := (s.put64 pgDeck Rg.DK_SPAN_LO a).put pgDeck Rg.DK_POS (posAt s.dk p a)
  let s := if s.dk.cur.dflt then s.satAdd pgVar Rg.DV_LATE else s
  let s := { s with dk := { s.dk with replays := [], restore := false } }
  let s := s.irq pgVar 1
  let used := s.dk.cur.fenced.filter fun u => (p.tableOf s.dk.cur).1.any fun e => e.unit = u
  match used with
  | [] => s
  | u :: _ => s.deckEvent Ev.NO_DEGRADE 0 u

/-- R129: removals of FAILED units take effect. -/
def State.dropFailed (s : State) : State :=
  let gone := s.dk.failDrop
  let s := gone.foldl (fun s n => s.setReg pgDeck (0x180 + 4 * n) 0) s
  { s with dk := { s.dk with failDrop := [], failOrder := s.dk.failOrder.filter fun n => !(gone.contains n) } }

/-- Whether the plan stops, or a committed plan starts, at the boundary `a`. -/
def Deck.endsAt (d : Deck) (a : Nat) : Bool := d.stopping || d.stopAt = some a

def Deck.startsAt (d : Deck) (a : Nat) : Bool :=
  match d.armed with
  | some x => x.committed && x.s = a
  | none => false

/-- VARIANT_LATCH (R115, R117–R119, R133): the start of span k + 1, at which the deck latches the selection for span
k + 2. The latch of the first span of an armed plan is SWAP_COMMIT's. -/
def execVariantLatch (s : State) : Host.Outcome State Fault Refusal :=
  let a := s.spanStart + spanCy
  .next (
    match s.plan with
    | none => s
    | some p =>
      if s.now < a ∨ s.dk.endsAt a ∨ s.dk.startsAt a then s
      else
        let s := ({ s with dk := { s.dk with cur := s.dk.next } }).beginSpan p a
        let s := s.dropFailed
        let swap : Bool := match s.dk.armed with
          | some x => x.s = a + spanCy
          | none => false
        if swap then s.showVar
        else
          let sel := s.latchSelect p (a + spanCy)
          let th := sel.2.2.latchTherm s.dk.cur.hot
          let n := th.2.substitute p sel.1 th.1 sel.2.1
          ({ th.2 with dk := { th.2.dk with next := n, selected := false } }).showVar)

/-- VARIANT_SELECT (R118, R120). -/
def execVariantSelect (w : Who) (value : Nat) (s : State) : Host.Outcome State Fault Refusal :=
  .next (s.command w pgVar 0x100 value fun s => { s with dk := { s.dk with selected := true } })

/-! ## Swap, start and stop -/

/-- SWAP_COMMIT (R123): at S − 983,040, after the running plan's latch of that instant. -/
def execSwapCommit (s : State) : Host.Outcome State Fault Refusal :=
  .next (
    match s.dk.armed with
    | none => s
    | some a =>
      if a.committed ∨ s.now + spanCy < a.s then s
      else
        match s.plan with
        | none =>
          match s.dk.slot a.slot with
          | none => s
          | some b =>
            let th := s.latchTherm s.dk.cur.hot
            let n := th.2.substitute b a.var0 th.1 false
            (th.2.setDeck { th.2.dk with armed := some { a with committed := true }, next := n, selected := false })
        | some p =>
          if s.spanStart + spanCy ≠ a.s then s
          else
            let drained : Bool := match p.variants[s.dk.cur.var]? with
              | some v => v.drained
              | none => false
            let th := s.latchTherm s.dk.cur.hot
            if drained then
              match s.dk.slot a.slot with
              | none => s
              | some b =>
                let n := th.2.substitute b a.var0 th.1 false
                (th.2.setDeck { th.2.dk with armed := some { a with committed := true }, next := n, selected := false }).showVar
            else
              let s := th.2.deckEvent Ev.SWAP_NOT_DRAINED
              let n := s.substitute p (p.defaults.getD (posAt s.dk p a.s) 0) th.1 false
              (s.setDeck { s.dk with armed := none, next := n, selected := false }).showVar)

/-- Whether a unit code names an engine. -/
def isEngineUnit (u : Nat) : Bool := (classEng (u / 256)).isSome

/-- Whether a unit code names a pier. -/
def isPierUnit (u : Nat) : Bool := u / 256 = 0x20

/-- R124: the registers, guards, loops and repeat buffer of a pier are undefined at a swap; it runs no program (log entry 15). -/
def State.haltPiers (s : State) : State :=
  s.piers.foldl
    (fun s e =>
      let f := s.fresh
      let x := { Pier.zero with state := e.2.state, tag := e.2.tag, ctx := e.2.ctx, era := f.1 }
      { f.2 with piers := Sparse.set (fun _ => Pier.zero) f.2.piers e.1 x })
    s

/-- R123, R124, R356: engines and AU_RX_CLOSEs still busy are aborted, their outputs are not written, open reception buffers are
discarded; the piers stop. -/
def State.abortEngines (s : State) : State :=
  let au := fun (u : Nat) => u / 256 = 0x40
  let busy := s.dk.jobs.filter fun j =>
    (isEngineUnit j.unit || isPierUnit j.unit || (au j.unit && j.op = 4)) && decide (s.uptime < j.fin)
  let s := busy.foldl (fun s j => s.deckEvent Ev.SWAP_INFLIGHT 0 j.unit) s
  let s := s.dropLater fun l => au l.unit || busy.any fun j => j.unit = l.unit && isEngineUnit j.unit
  let s := { s with dk := { s.dk with
    jobs := s.dk.jobs.filter fun j => !(isEngineUnit j.unit || isPierUnit j.unit || au j.unit), replays := [] } }
  let s := (s.en.runs.filter fun r => !r.dyn).foldl
    (fun s r => match unitPage r.job.unit with
      | some p => s.put p Rg.ENG_STAT_BUSY 0
      | none => s) s
  let s := { s with en := { s.en with runs := s.en.runs.filter (·.dyn) }, fh := { s.fh with rx := [], chains := [] } }
  s.haltPiers

/-- R67, R123: plan A's trigger entries at a swap: those carried or adopted stay; the others fire if due, then disarm. -/
def State.swapTrigs (s : State) (keep : Nat → Bool) : State :=
  (s.py.trigs.map (·.1)).foldl
    (fun s i =>
      let t := s.trig i
      if i < 768 ∨ t.armed = false ∨ t.carry ∨ keep i then s
      else
        let s := if trigDue s t then fireTrig s i t else s
        s.setTrig i { s.trig i with armed := false })
    s

/-- R63, R111, R123: the trigger entries of a plan that starts. An ADOPT entry keeps its contents and its armed state. -/
def State.startTrigs (s : State) (p : Plan) (at_ : Nat) : State :=
  p.trigs.foldl
    (fun s t =>
      if t.adopt ∧ (s.trig t.idx).armed then s.setTrig t.idx { s.trig t.idx with carry := t.carry }
      else s.setTrig t.idx ⟨true, false, t.carry, at_ + t.rel, t.per, t.count, t.action, t.arg, 0, 0⟩)
    s

/-- The global pseudo-channels that a plan's bulk windows hold (R423). -/
def planPcs (p : Plan) : List Nat :=
  (List.range 64).filter fun g =>
    p.bulk.any fun r => decide (r.base < (g + 1) * 0x30000000) && decide (g * 0x30000000 < r.base + 64 * r.len)

/-- BM_STAT.PLAN_PC of the four controllers (R423). -/
def State.setPlanPcs (s : State) (l : List Nat) : State :=
  (List.range 4).foldl
    (fun s k =>
      let m := (List.range 16).foldl (fun m q => if l.contains (16 * k + q) then m + 2 ^ q else m) 0
      s.put (page .bm k) Rg.BM_STAT_PLAN_PC m)
    s

/-- R116, R423: pseudo-channels that become plan-refreshed now count as refreshed now. -/
def State.startRefresh (s : State) (old new : List Nat) (hot : Bool) : State :=
  (new.filter fun g => !(old.contains g)).foldl (fun s g => s.refresh g 0 hot) s

/-- R486: rings smaller than the starting plan needs. -/
def State.checkRings (s : State) (p : Plan) : State :=
  p.rings.foldl
    (fun s r =>
      if (Sparse.get (fun _ => Ring.zero) s.tr.rings r.1).size < r.2 then s.event pgTr0 Ev.RING_SHORT 0 0 (r.1 <<< 16) else s)
    s

/-- PLAN_START (R123, R125): at S the committed plan starts; a running plan stops. -/
def execPlanStart (s : State) : Host.Outcome State Fault Refusal :=
  .next (
    match s.dk.armed with
    | none => s
    | some a =>
      match s.dk.slot a.slot with
      | none => s
      | some b =>
        if a.committed = false ∨ s.now < a.s then s
        else
          let first := s.dk.run.isNone
          let old := match s.plan with
            | some p => planPcs p
            | none => []
          let adopted := fun i => b.trigs.any fun t => t.adopt && t.idx = i
          let s := if first then s else (s.abortEngines).swapTrigs adopted
          let d := match s.dk.run with
            | some n => s.dk.setSlot n none
            | none => s.dk
          let s := s.setDeck { d with
            run := some a.slot, armed := none, stopAt := none, stopping := false, phase := a.phase, start := a.s,
            cur := d.next }
          let s := s.startTrigs b a.s
          let s := (s.setPlanPcs (planPcs b)).startRefresh old (planPcs b) s.dk.cur.hot
          let s := s.checkRings b
          let s := if first then
              (s.put64 pgDeck Rg.DK_LEASE_END_LO (a.s + 16 * spanCy)).put pgDeck Rg.DK_LEASE_STAT 0
            else s
          let s := (s.beginSpan b a.s).dropFailed
          let th := s.latchTherm s.dk.cur.hot
          let n := th.2.substitute b a.var1 th.1 false
          ({ th.2 with dk := { th.2.dk with next := n, selected := false } }).showVar)

/-- PLAN_STOP (R126, R131): the plan stops with no successor at the end of its span. -/
def execPlanStop (s : State) : Host.Outcome State Fault Refusal :=
  let a := s.spanStart + spanCy
  .next (
    match s.dk.run with
    | none => s
    | some n =>
      if s.dk.endsAt a = false ∨ s.dk.startsAt a ∨ s.now < a then s
      else
        let s := s.abortEngines
        let s := (s.py.trigs.map (·.1)).foldl
          (fun s i =>
            if i < 768 then s
            else
              let s := if trigDue s (s.trig i) then fireTrig s i (s.trig i) else s
              s.setTrig i { s.trig i with armed := false })
          s
        let s := s.setPlanPcs []
        let s := s.setDeck { (s.dk.setSlot n none) with
          run := none, stopAt := none, stopping := false, cur := InForce.zero, lent := [] }
        (s.gridCheck).showVar)

/-! ## The lease -/

/-- LEASE_RENEW (R130). -/
def execLeaseRenew (w : Who) (value : Nat) (s : State) : Host.Outcome State Fault Refusal :=
  .next (s.command w pgDeck 0x150 value fun s =>
    if value % 2 = 0 ∨ s.dk.run.isNone then s
    else
      let lapsed := s.flag pgDeck Rg.DK_LEASE_STAT
      let s := (s.put64 pgDeck Rg.DK_LEASE_END_LO (s.spanStart + 16 * spanCy)).put pgDeck Rg.DK_LEASE_STAT 0
      { s with dk := { s.dk with restore := s.dk.restore || lapsed } })

/-- LEASE_LAPSE (R130): the air count reaches the lease end. -/
def execLeaseLapse (s : State) : Host.Outcome State Fault Refusal :=
  .next (
    if s.dk.run.isNone ∨ s.now < s.get64 pgDeck Rg.DK_LEASE_END_LO ∨ s.flag pgDeck Rg.DK_LEASE_STAT then s
    else (s.put pgDeck Rg.DK_LEASE_STAT 1).deckEvent Ev.LEASE_LAPSE)

/-- R16, R130: whether the approach units send under the plan. -/
def State.leaseHolds (s : State) : Bool := s.dk.run.isSome && !(s.flag pgDeck Rg.DK_LEASE_STAT) && !s.dk.restore

/-! ## FAILED and replays -/

/-- R129: a unit enters the FAILED set; a ninth is fenced without entering it. -/
def State.addFailed (s : State) (u : Nat) : State :=
  if (s.failedUnits).contains u || s.dk.overflow.contains u then s
  else
    match (List.range 8).find? fun n => !(s.flag pgDeck Rg.DK_FAIL_VALID n) with
    | some n =>
      let s := s.setReg pgDeck (0x180 + 4 * n) (BitVec.ofNat 32 (2 ^ 31 + u % 65536))
      ({ s with dk := { s.dk with failOrder := s.dk.failOrder.filter (· ≠ n) ++ [n] } }).deckEvent Ev.UNIT_FAILED 0 u
    | none => ({ s with dk := { s.dk with overflow := s.dk.overflow ++ [u] } }).deckEvent Ev.NO_DEGRADE 0 u

/-- FAIL_SET (R129). -/
def execFailSet (w : Who) (value : Nat) (s : State) : Host.Outcome State Fault Refusal :=
  .next (s.command w pgDeck 0x168 value fun s => s.addFailed (value % 65536))

/-- FAIL_REMOVE (R129): the removal takes effect at the next latch. -/
def execFailRemove (w : Who) (n : Fin 8) (value : Nat) (s : State) : Host.Outcome State Fault Refusal :=
  .next (s.access w pgDeck (0x180 + 4 * n.val) true fun s =>
    if bits value 31 31 = 1 ∧ s.flag pgDeck Rg.DK_FAIL_VALID n.val then
      { s with dk := { s.dk with failDrop := s.dk.failDrop.filter (· ≠ n.val) ++ [n.val] } }
    else s)

/-- R129: the fault count of a unit within 2,048 spans. -/
def State.countFault (s : State) (u : Nat) : State :=
  let k := s.spanNo s.spanStart
  let l := (u, k) :: (s.dk.faults.filter fun f => decide (k < f.2 + 2048))
  let s := { s with dk := { s.dk with faults := l } }
  let th := s.get pgDeck Rg.DK_FAILCFG
  if th ≠ 0 ∧ th ≤ (l.filter fun f => f.1 = u).length then s.addFailed u else s

/-- R127: the step record by which a fault at span offset `ofs` can still be replayed: its window's start. -/
def State.replayable (s : State) (step ofs : Nat) : Option (ReplayStep × Nat) :=
  match s.plan with
  | none => none
  | some p =>
    let m := p.mapOf s.dk.cur
    match m.steps.find? fun r => r.step = step with
    | none => none
    | some r =>
      match m.wins[r.win]? with
      | none => none
      | some w =>
        if ofs ≤ r.faultBy ∧ ofs ≤ w.1 ∧ !(s.dk.replays.any fun x => x.win = r.win) then some (r, w.1) else none

/-- Changes every replay scheduled in the span. -/
def State.mapReplays (s : State) (f : Replay → Replay) : State :=
  { s with dk := { s.dk with replays := s.dk.replays.map f } }

/-- R127–R129: a checked fault of a job at span offset `ofs`. -/
def State.jobFault (s : State) (j : Job) (ofs : Nat) : State :=
  if j.replay then
    let s := (s.satAdd pgDeck Rg.DK_REPLAY_FAIL).deckEvent Ev.REPLAY_FAIL 0 j.step
    let s := s.mapReplays fun r => if r.step = j.step then { r with faulted := true } else r
    (s.countFault j.unit).addFailed j.unit
  else
    let s := s.countFault j.unit
    match (if j.repl then s.replayable j.step ofs else none) with
    | some (r, w) =>
      { s with dk := { s.dk with replays := s.dk.replays ++ [Replay.mk r.step r.win w r.subtab false false false] } }
    | none =>
      let s := s.deckEvent Ev.REPLAY_NONE 0 j.step
      if j.repl then s else s.addFailed j.unit

/-- The operation of a unit that a report concerns: its latest. -/
def State.jobOf (s : State) (u : Nat) : Option Job := (s.dk.jobs.filter fun j => j.unit = u).getLast?

/-- A unit reports a checked fault of its latest operation, at span offset `ofs` (now, unless it is given). -/
def State.reportFault (s : State) (u : Nat) (ofs : Option Nat := none) : State :=
  match s.jobOf u with
  | some j => s.jobFault j (ofs.getD s.spanOfs)
  | none => s

/-- UNIT_FAULT (R127–R129). -/
def execUnitFault (unit : Fin 65536) (s : State) : Host.Outcome State Fault Refusal :=
  .next (s.reportFault unit.val)

/-- REPLAY_RUN (R127): at its window's start a scheduled replay begins. -/
def execReplayRun (win : Fin 8) (s : State) : Host.Outcome State Fault Refusal :=
  .next (s.mapReplays fun r => if r.win = win.val ∧ r.start ≤ s.spanOfs then { r with begun := true } else r)

/-- R127: a replay whose operations have all completed without fault records REPLAY_OK. -/
def State.settleReplays (s : State) : State :=
  s.dk.replays.foldl
    (fun s r =>
      let mine := s.dk.jobs.filter fun j => j.replay && j.step = r.step
      if r.begun && !r.done && !mine.isEmpty && mine.all fun j => decide (j.fin ≤ s.uptime) then
        let s := s.mapReplays fun x => if x.win = r.win then { x with done := true } else x
        if r.faulted then s else (s.satAdd pgDeck Rg.DK_REPLAY_OK).deckEvent Ev.REPLAY_OK 0 r.step
      else s)
    s

/-! ## Issue of slot-table operations -/

/-- What a slot-table entry gives to its unit. -/
structure Issue where
  unit : Nat
  arg : Nat
  ctx : Nat
  step : Nat
  repl : Bool
  replay : Bool
  fenced : Bool

/-- Entry `i` of the table in force (`r` = 0), or of the SUBTAB of the replay of window `r` − 1, that is due now. -/
def State.entryDue (s : State) (r i : Nat) : Option (SlotEntry × Nat) :=
  match s.plan with
  | none => none
  | some p =>
    if r = 0 then
      match (p.tableOf s.dk.cur).1[i]? with
      | some e => if e.ofs = s.spanOfs then some (e, (p.tableOf s.dk.cur).2) else none
      | none => none
    else
      match s.dk.replays.find? fun x => x.win + 1 = r && x.begun with
      | none => none
      | some x =>
        match p.sections[x.subtab]? with
        | some ⟨ctx, .slots l⟩ =>
          match l[i]? with
          | some e => if x.start + e.ofs = s.spanOfs then some ({ e with step := x.step }, ctx) else none
          | none => none
        | _ => none

/-- R99, R101: whether a unit is still occupied, or lent. -/
def State.occupied (s : State) (u : Nat) : Bool :=
  (s.dk.jobs.any fun j => j.unit = u && decide (s.uptime < j.free))
    || s.dk.lent.any fun l => l.1 = u && decide (s.uptime < l.2.2)

/-- R119: whether a unit is fenced in the current span. -/
def State.fenced (s : State) (u : Nat) : Bool := s.dk.cur.fenced.contains u

/-- Issues a slot-table entry of operation `op` that is due: COLL_UNIT and POWER_UNREADY suppress it (R101, R131). An
entry that is not due, or of another operation, has no effect. -/
def State.issueSlot (s : State) (op r i : Nat) (f : Issue → State → State) : State :=
  match s.entryDue r i with
  | none => s
  | some (e, ctx) =>
    if e.op ≠ op then s
    else
      let x : Issue := ⟨e.unit, e.arg, ctx, e.step, e.repl, decide (r ≠ 0), s.fenced e.unit⟩
      if x.fenced then f x s
      else if s.occupied e.unit then
        (if op = 8 then s.deckEvent Ev.COLL_PORT e.arg e.unit ctx else s.deckEvent Ev.COLL_UNIT e.ofs e.unit ctx)
      else if op ≠ 10 ∧ !(s.domOn (unitDomain e.unit)) then s.deckEvent Ev.POWER_UNREADY 0 e.unit ctx
      else f x s

/-- Records an operation in flight: its unit is occupied for `occ` cy and it completes after `lat` cy. Older operations of
the unit that have completed are forgotten. -/
def State.addJob (s : State) (x : Issue) (op occ lat : Nat) : State :=
  let keep := s.dk.jobs.filter fun j => j.unit ≠ x.unit || decide (s.uptime < j.fin)
  let j : Job := ⟨x.unit, op, x.step, x.repl, x.replay, x.arg, x.ctx, s.uptime, s.uptime + occ, s.uptime + lat⟩
  ({ s with dk := { s.dk with jobs := keep ++ [j] } }).touch (unitDomain x.unit)

/-- LEND (R99): opens a lent window of an engine. -/
def execSlotLend (r i : Nat) (s : State) : Host.Outcome State Fault Refusal :=
  .next (s.issueSlot 9 r i fun x s =>
    let w := x.arg % 2 ^ 20
    let k := s.deckK
    if x.fenced then s
    else
      let s := s.addJob x 9 ((w + k - 1) / k * k) 0
      if w = 0 then s
      else
        let s := match unitPage x.unit with
          | some p => s.put p Rg.ENG_STAT_LENT 1
          | none => s
        { s with dk := { s.dk with
        lent := (s.dk.lent.filter fun l => decide (s.uptime < l.2.2)) ++ [(x.unit, s.uptime, s.uptime + w)] } })

/-- R99, R239: lent windows that have ended close. -/
def State.lentTick (s : State) : State :=
  let ended := s.dk.lent.filter fun l => decide (l.2.2 ≤ s.uptime)
  let s := { s with dk := { s.dk with lent := s.dk.lent.filter fun l => decide (s.uptime < l.2.2) } }
  ended.foldl
    (fun s l => match unitPage l.1 with
      | some p => if s.dk.lent.any fun m => m.1 = l.1 then s else s.put p Rg.ENG_STAT_LENT 0
      | none => s) s

/-- NOP (R108). -/
def execSlotNop (r i : Nat) (s : State) : Host.Outcome State Fault Refusal :=
  .next (s.issueSlot 12 r i fun _ s => s)

end Sys2Proof.Machine
end

