-- ==== Sys2Proof/Machine/BankPort.lean ====
section
/-! DEFINITION. Bank ports of deck SRAM (R101, R131, R144, R156, R158, R217, R384, R391, R410–R412): which deterministic access takes
a bank in a deck clock cycle, and what becomes of the one that meets it there. -/
namespace Sys2Proof.Machine

def pier0 : Nat → Pier := fun _ => Pier.zero

def State.pier (s : State) (p : Nat) : Pier := Sparse.get pier0 s.piers p

def State.setPier (s : State) (p : Nat) (x : Pier) : State := { s with piers := Sparse.set pier0 s.piers p x }

/-- R438: a deterministic access is served in a bay's shared memory. -/
def State.bayServed (s : State) (bank : Nat) : State :=
  if 1024 ≤ bank ∧ bank < 1536 then s.bump (page .bay ((bank - 1024) / 64)) 1 else s

/-- R154: an address of a pier's PM, whose port is bus P (R144). -/
def inPm (a : Nat) : Bool :=
  match place a with
  | .pier _ o => decide (o < 0x20000)
  | _ => false

/-- The units of an FFT engine's input table (R217). -/
def fftTabUnits (w : List Nat) : Nat :=
  if bits (w.getD 4 0) 29 29 = 1 then (bits (w.getD 4 0) 22 16 + 15) / 16 else 0

/-- The address of the unit that an FFT engine reads next: of the table at IN, or of the input of transform `j` (R213, R217). -/
def fftUnit (w tab : List Nat) (j i : Nat) : Nat :=
  if tab.length / 16 < fftTabUnits w then deckAddr (w.getD 5 0) + 4 * tab.length
  else deckAddr (if bits (w.getD 4 0) 29 29 = 1 then tab.getD j 0 else w.getD 5 0 + j * w.getD 6 0) + 64 * i

/-- The address at which an effect takes a bank port. -/
def Eff.portAddr : Eff → Option Nat
  | .deliver a _ _ => some a
  | .copy src _ _ _ _ _ _ => some src
  | .fft _ w tab _ j i _ _ => some (fftUnit w tab j i)
  | .bytes _ _ _ | .pm _ _ _ | .bit _ _ _ | .token _ _ _ | .fault => none

/-- What remains of an effect whose access is suppressed: a unit that is not written, or one that was not read. -/
def Later.lose (l : Later) : Option Later :=
  match l.eff with
  | .copy src dst h n ctx bad _ => some { l with eff := .copy src dst h n ctx bad true }
  | .fft t0 w tab acc j i bad _ => some { l with eff := .fft t0 w tab acc j i bad true }
  | _ => none

/-- A pier's load that does not take place: the write of its register and the fault of its data (R139, R170). -/
def Pier.dropLoad (x : Pier) (now k slot : Nat) : Pier :=
  { x with
    writes := x.writes.filter fun w => !(w.issue = now && w.slot = slot && w.due ≠ now + k)
    traps := x.traps.filter fun t => !(t.code = Ev.DM_ECC && decide (now < t.cycle) && t.pc = x.pc) }

/-- R131: the access `e` of this cycle is suppressed after all: what hangs on it does not come about. -/
def State.losePort (s : State) (e : PortUse) : State :=
  let k := s.deckK
  if e.slot ≠ 0 then
    let lat := if 1024 ≤ e.bank ∧ e.bank < 1536 then 4 else 2
    (s.setPier e.src ((s.pier e.src).dropLoad s.uptime k e.slot)).dropLater fun l =>
      match l.eff with
      | .bytes a _ _ => l.source = e.src && a = e.addr && l.due = s.uptime + k * lat
      | _ => false
  else
    let mine := fun (l : Later) => l.source = e.src && l.tag = e.tag && l.due = s.uptime + k && l.eff.portAddr = some e.addr
    let record := s.mu.later.any fun l => mine l && match l.eff with
      | .deliver _ [] _ => true
      | _ => false
    { s with
      mu := { s.mu with later := s.mu.later.filterMap fun l => if mine l then l.lose else some l }
      en := if record then { s.en with runs := s.en.runs.map fun r => if r.status = e.addr then { r with status := 0 } else r } else s.en }

/-- Which of two contenders is served: the lower SOURCE, then the lower TAG; of two accesses of one initiator, the first
(R131, R384). -/
def PortUse.beats (e f : PortUse) : Bool := decide (e.src < f.src) || (e.src = f.src && decide (e.tag < f.tag))

/-- R101, R131, R156, R158: an access in this cycle; a second one to its bank collides. The answer tells whether it is served. -/
def State.takePort (s : State) (e : PortUse) : Bool × State :=
  let put := fun (s : State) (l : List PortUse) =>
    { s with mu := { s.mu with ports := (l.filter fun x => decide (s.uptime < x.at_ + 2 * s.deckK)) ++ [e] } }
  match s.mu.ports.find? fun x => x.bank = e.bank && x.at_ = s.uptime + 1 with
  | none => (true, (put s s.mu.ports).bayServed e.bank)
  | some x =>
    let s := s.deckEvent Ev.COLL_PORT e.addr
    if e.beats x then (true, put (s.losePort x) (s.mu.ports.erase x)) else (false, s)

end Sys2Proof.Machine
end

