-- ==== Sys2Proof/Machine/Truss.lean ====
section
/-! DEFINITION. The Truss: movers, the mesh, dead targets, timeouts and monitors (spec chapter 12), and the bulk-memory
slot-table operations (R425–R427) and RING_WRITE (R485). -/
namespace Sys2Proof.Machine

/-! ## Scheduled effects -/

/-- Schedules an effect. -/
def State.schedule (s : State) (due unit source tag : Nat) (e : Eff) : State :=
  { s with mu := { s.mu with later := s.mu.later ++ [⟨due, unit, source, tag, e⟩] } }

def ring0 : Nat → Ring := fun _ => Ring.zero

def State.setRing (s : State) (n : Nat) (r : Ring) : State :=
  { s with tr := { s.tr with rings := Sparse.set ring0 s.tr.rings n r } }

/-- R485: a token reaches its ring; a full ring, or one with SIZE = 0, discards it. -/
def State.ringAppend (s : State) (n ctx : Nat) (words : List Nat) : State :=
  let r := Sparse.get ring0 s.tr.rings n
  if r.size ≤ r.items.length then
    (s.setRing n { r with ovf := min 65535 (r.ovf + 1) }).event pgTr0 Ev.RING_OVF 0 0 (n <<< 16)
  else s.setRing n { r with items := r.items ++ [(ctx, words)] }

/-! ## Geometry -/

/-- R382: the router of the memory that holds an address; for bulk memory, of the attachment that bits 7:6 choose. -/
def memRouter (a : Nat) : Nat :=
  match place a with
  | .pier n _ => bayRouter (n / 8) (n % 8 / 2)
  | .bay b o => bayRouter b (o / 0x400000)
  | .slice e _ => engRouterInst e
  | .bulk g => bmRouter (g / 16) (a / 64 % 4)
  | .pages p _ =>
    match pageOf p with
    | some (k, i) => pageRouter k i
    | none => 90
  | .outbound _ => 96
  | _ => 90

def absDiff (a b : Nat) : Nat := if a ≤ b then b - a else a - b

/-- R388: the Manhattan distance between two routers. -/
def hops (r q : Nat) : Nat := absDiff (r % 10) (q % 10) + absDiff (r / 10) (q / 10)

/-- R388: the output port towards router (dx, dy), along x first. -/
def outPort (r dx dy : Nat) : Nat :=
  if r % 10 < dx then 1 else if dx < r % 10 then 3 else if r / 10 < dy then 2 else if dy < r / 10 then 0 else 4

/-- The router behind an output port. -/
def nextRouter (r p : Nat) : Nat := if p = 0 then r - 10 else if p = 1 then r + 1 else if p = 2 then r + 10 else r - 1

/-- The words of a descriptor (R202). -/
def State.descWords (s : State) (a : Nat) : List Nat := s.words a 16

/-- The units of a copy: their bytes and whether the source reads bad. -/
def State.readUnits (s : State) (src a : Nat) : Nat → List (List Nat × Bool) × State
  | 0 => ([], s)
  | n + 1 =>
    let r := s.readUnits src a n
    let q := r.2.readMem src false (a + 64 * n) 64
    (r.1 ++ [(bytesOf 64 (s.load (a + 64 * n) 64), decide (2 ≤ q.1))], q.2)

/-- Lands the units of a copy, unit i at `due i`. -/
def State.landUnits (s : State) (due : Nat → Nat) (unit source tag a : Nat) : Nat → List (List Nat × Bool) → State
  | _, [] => s
  | i, u :: l => (s.land (due i) unit source tag (a + 64 * i) u.1 u.2).landUnits due unit source tag a (i + 1) l

/-- A 64-byte-aligned descriptor address in the engine buffers (R202, R425). -/
def descAddrOk (a : Nat) : Bool := a % 64 = 0 && decide (sliceBase ≤ a) && decide (a + 64 ≤ sliceEnd)

/-! ## DECK_XFER -/

/-- R391, R392: a mover's descriptor is sound. -/
def moverOk (r a : Nat) (w : List Nat) : Bool :=
  let n := w.getD 3 0
  let src := deckAddr (w.getD 1 0)
  let dst := deckAddr (w.getD 2 0)
  a % 64 = 0 && w.getD 0 0 = 0x01000000 && decide (1 ≤ n) && decide (n ≤ 255) && src % 64 = 0 && dst % 64 = 0
    && (w.drop 4).all (· = 0) && inDeck src && inDeck dst && oneMemory src (64 * n) && memRouter src = r
    && memRouter (src + 64 * n - 1) = r && oneMemory dst (64 * n) && memRouter dst = memRouter (dst + 64 * n - 1)

/-- R97: the units of a region hold free values until the operation's own write, where no unit that it has yet to read lies. -/
def State.blurOut (s : State) (src a : Nat) (own : List (Nat × Nat)) (n : Nat) : State :=
  (List.range ((n + 63) / 64)).foldl (fun s i =>
    let b := a + 64 * i
    let m := min 64 (n - 64 * i)
    if own.any fun r => decide (b < r.1 + r.2) && decide (r.1 < b + m) then s else s.blur src b m) s

/-- DECK_XFER (R391, R392, R99). The mover reads unit i in cycle t + 2 + i; it is delivered in cycle t + 4 + h + i (R389, R390).
A mover that loses the port for its descriptor moves nothing (log entry 109). -/
def execSlotDeckXfer (r i : Nat) (s : State) : Host.Outcome State Fault Refusal :=
  .next (s.issueSlot 11 r i fun x s =>
    if x.fenced then s
    else
      let rt := x.unit % 256
      let w := s.descWords x.arg
      let k := s.deckK
      let n := w.getD 3 0 % 256
      let t := s.takePort ⟨bankOf x.arg, s.uptime + 1, 240, rt, 0, x.arg, 0⟩
      let s := t.2
      if t.1 && !(moverOk rt x.arg w) then
        (s.addJob x 11 (k * n) (k * n)).event (page .router rt) Ev.XFER_INVALID_11 x.ctx x.arg (240 <<< 24 + x.arg / 2 ^ 32 % 65536)
      else
        let src := deckAddr (w.getD 1 0)
        let dst := deckAddr (w.getD 2 0)
        let h := hops rt (memRouter dst)
        let s := s.addJob x 11 (k * n) (k * (4 + h + n))
        if !t.1 then s
        else if !(s.domOn (memDomain dst)) then s.deckEvent Ev.POWER_UNREADY dst x.unit x.ctx
        else if !(s.inFoot dst (64 * n)) then s.deckEvent Ev.FOOTPRINT dst 0 x.ctx
        else (s.blurOut 240 dst [(src, 64 * n)] (64 * n)).schedule (s.uptime + 3 * k) x.unit 240 rt (.copy src dst h n x.ctx false false))

/-! ## BM_XFER, BM_REFRESH and RING_WRITE -/

/-- R425: the layout of a BM_XFER descriptor. -/
def bmXferOk (a : Nat) (w : List Nat) : Bool :=
  let n := w.getD 4 0
  (w.getD 0 0 = 0x01000000 || w.getD 0 0 = 0x02000000) && descAddrOk a && w.getD 1 0 % 64 = 0 && w.getD 2 0 % 64 = 0
    && decide (w.getD 3 0 < 65536) && decide (1 ≤ n) && decide (n ≤ 4096) && (w.drop 5).all (· = 0)
    && inDeck (deckAddr (w.getD 1 0)) && decide (deckAddr (w.getD 1 0) + 64 * n ≤ sliceEnd)

/-- ⌈a / b⌉. -/
def ceilDiv (a b : Nat) : Nat := (a + b - 1) / b

/-- R99: the latency of a transfer of `n` units from bulk memory to deck SRAM. -/
def bmLatency (k n : Nat) : Nat := 208 + k * ceilDiv n (4 * k)

/-- R427: whether a deterministic access from now to `until` overlaps a refresh of pseudo-channel `g`. -/
def State.pcBusy (s : State) (g : Nat) : Bool := decide (s.uptime < Sparse.get (fun _ => 0) s.mu.refBusy g)

/-- BM_XFER (R425, R426, R423, R427). -/
def execSlotBmXfer (r i : Nat) (s : State) : Host.Outcome State Fault Refusal :=
  .next (s.issueSlot 6 r i fun x s =>
    if x.fenced then s
    else
      let k := x.unit % 256
      let p := page .bm k
      let w := s.descWords x.arg
      let kk := s.deckK
      let n := w.getD 4 0 % 8192
      let out := w.getD 0 0 = 0x02000000
      let bulk := w.getD 3 0 % 65536 * 2 ^ 32 + w.getD 2 0
      let deck := deckAddr (w.getD 1 0)
      let g := bulk / 0x30000000
      let lat := if out then 176 + kk * ceilDiv n (4 * kk) else bmLatency kk n
      let s := s.addJob x 6 (kk * ceilDiv n (4 * kk)) lat
      if !(bmXferOk x.arg w) || (decide (bulk < bulkEnd) && g / 16 ≠ k) then s.event p Ev.XFER_INVALID_50 x.ctx x.arg (x.arg / 2 ^ 32)
      else if !(s.inPlanPc bulk (64 * n)) then
        ((s.event p Ev.XFER_INVALID_50 x.ctx bulk (bulk / 2 ^ 32)).event p Ev.NOT_PLAN_PC x.ctx bulk (bulk / 2 ^ 32)).deckEvent
          Ev.FOOTPRINT bulk 0 x.ctx
      else if !(s.trained (g / 32)) || s.selfRefresh (g / 32) then s.deckEvent Ev.POWER_UNREADY 0 x.unit x.ctx
      else if s.pcBusy g then s.deckEvent Ev.COLL_PORT bulk 0 x.ctx
      else
        let src := if out then deck else bulk
        let dst := if out then bulk else deck
        let u := s.readUnits (212 + k) src n
        let s := u.2.landUnits (fun _ => u.2.uptime + lat) x.unit (212 + k) 0 dst 0 u.1
        if u.1.any (·.2) then s.schedule (s.uptime + lat) x.unit (212 + k) 0 .fault else s)

/-- BM_REFRESH (R427): 8 c on the controller; only plan-refreshed pseudo-channels of the mask. -/
def execSlotBmRefresh (r i : Nat) (s : State) : Host.Outcome State Fault Refusal :=
  .next (s.issueSlot 7 r i fun x s =>
    if x.fenced then s
    else
      let k := x.unit % 256
      let c := 8 * s.deckK
      let hot := s.deckHot
      let s := s.addJob x 7 c c
      if !(s.trained (k / 2)) || s.selfRefresh (k / 2) then s.deckEvent Ev.POWER_UNREADY 0 x.unit x.ctx
      else
        ((List.range 16).filter fun q => bits x.arg q q = 1 && s.planPc (16 * k + q)).foldl
          (fun s q => s.refresh (16 * k + q) (c + tRfc) hot) s)

/-- RING_WRITE (R485, R99): the token is read at issue and appended 4 c later. -/
def execSlotRingWrite (r i : Nat) (s : State) : Host.Outcome State Fault Refusal :=
  .next (s.issueSlot 8 r i fun x s =>
    if x.fenced then s
    else
      let k := s.deckK
      let s := s.addJob x 8 k (4 * k)
      (s.readMem 238 false x.arg 64).2.schedule (s.uptime + 4 * k) x.unit 238 0 (.token (x.unit % 256) x.ctx (s.words x.arg 16)))

/-! ## The mesh -/

/-- Reservations of an output port in a cycle of the current span (R393). -/
def State.reserved (s : State) (r p ofs : Nat) : Bool :=
  match s.plan with
  | none => false
  | some q => (q.linksOf s.dk.cur).any fun l =>
      l.router = r && l.port = p && decide (l.ofs ≤ ofs) && decide (ofs < l.ofs + s.deckK * l.len)

/-- R395: no cycle of the next `n` cy of the current span lies in a reservation of the port; the next span's reservations
are known as well. -/
def State.resvFree (s : State) (r p n : Nat) : Bool :=
  let hit := fun (q : Plan) (f : InForce) (from_ to_ : Nat) =>
    (q.linksOf f).any fun l => l.router = r && l.port = p && decide (l.ofs < to_) && decide (from_ < l.ofs + s.deckK * l.len)
  match s.plan with
  | none => true
  | some q =>
    let o := s.spanOfs
    !(hit q s.dk.cur o (min (o + n) spanCy)) && !(decide (spanCy < o + n) && hit q s.dk.next 0 (o + n - spanCy))

/-- R386: whether the command and LEN are sound in the class. -/
def headerOk (p : Packet) : Bool :=
  let c := p.cls
  let cmd :=
    if p.cmd = 1 then decide (c ≤ 2) else if p.cmd = 2 ∨ p.cmd = 3 then decide (1 ≤ c ∧ c ≤ 3)
    else if p.cmd = 4 ∨ p.cmd = 5 ∨ p.cmd = 6 then decide (1 ≤ c ∧ c ≤ 3) else if p.cmd = 7 then c = 1
    else if p.cmd = 8 then c = 3 else if p.cmd = 9 then decide (c = 1 ∨ c = 2) else false
  cmd && decide (p.dx ≤ 9) && decide (p.dy ≤ 9) && decide (1 ≤ p.len)
    && (if c = 0 then decide (p.len ≤ 255) else decide (p.len ≤ 16))

/-- R386: the data units that follow the header. -/
def dataUnits (p : Packet) : Nat := if p.cmd = 3 then 0 else p.len

def isResponse (p : Packet) : Bool := p.cmd = 4 || p.cmd = 5 || p.cmd = 6

/-- R386: the commands that await a response. -/
def awaits (p : Packet) : Bool := p.cmd = 2 || p.cmd = 3 || p.cmd = 9

/-- R405: DETAIL of a router event. -/
def routerDetail (port source : Nat) : Nat := (source % 256) <<< 24 + port <<< 16

/-- A router's event (R405). -/
def State.routerEvent (s : State) (r code port : Nat) (p : Packet) : State :=
  s.event (page .router r) code p.ctx (p.addr % 2 ^ 32) (routerDetail port p.source + p.addr / 2 ^ 32 % 65536)

/-- R394: COLL_LINK, once for each packet at each router; DETAIL names router and port. -/
def State.collLink (s : State) (r port : Nat) (source tag : Nat) : State :=
  let key := (r, source, tag)
  if s.nt.c0Hit.contains key then s
  else ({ s with nt := { s.nt with c0Hit := key :: s.nt.c0Hit } }).deckEvent Ev.COLL_LINK 0 (r * 256 + port)

/-- The rest of a class-0 packet is dropped: what it still owes does not land. -/
def State.dropClass0 (s : State) (r source tag : Nat) : State :=
  ({ s with nt := { s.nt with c0Drop := (r, source, tag) :: s.nt.c0Drop } }).dropLater fun l => l.source = source && l.tag = tag

/-- A class-0 unit leaves an output port (R389). -/
def State.c0Forward (s : State) (r out port source tag : Nat) : State :=
  let s := { s with nt := { s.nt with
    c0At := ((s.nt.c0At.filter fun (x : Nat × Nat × Nat × Nat × Nat) => x.1 ≠ 5 * r + out) ++ [(5 * r + out, s.uptime + 1, port, source, tag)]) } }
  let s := if out = 4 then s.bump (page .router r) 0xF1 64 else s
  (s.satAdd (page .router r) Rg.RT_C0_UNITS).bump (page .router r) 0x01

/-- The unit code of the initiator of a class-0 packet (R383, R107). -/
def c0Unit (source tag : Nat) : Nat := if source < 64 then 0x2000 + source else 0x1100 + tag % 128

/-- R394: a class-0 unit at its output port. -/
def State.routeC0 (s : State) (r port : Nat) (p : Packet) : State :=
  let out := outPort r p.dx p.dy
  if s.nt.c0Drop.contains (r, p.source, p.tag) then s
  else
    match s.nt.c0At.find? fun (x : Nat × Nat × Nat × Nat × Nat) => x.1 = 5 * r + out && x.2.1 = s.uptime + 1 with
    | some (_, _, port', src', tag') =>
      let s := (s.collLink r out p.source p.tag).collLink r out src' tag'
      if decide (port < port') || (port = port' && (decide (p.source < src') || (p.source = src' && decide (p.tag < tag')))) then
        (s.dropClass0 r src' tag').c0Forward r out port p.source p.tag
      else s.dropClass0 r p.source p.tag
    | none =>
      if s.reserved r out s.spanOfs then s.c0Forward r out port p.source p.tag
      else
        let busy := decide (s.uptime + 1 < Sparse.get (fun _ => 0) s.nt.portEnd (5 * r + out))
        let s := s.collLink r out p.source p.tag
        if busy then s.dropClass0 r p.source p.tag else s.c0Forward r out port p.source p.tag

/-- The accumulators of a monitor (R404). -/
def State.monAdd (s : State) (p : Packet) (req units lat hold : Nat) : State :=
  (List.range 4).foldl
    (fun s m =>
      if s.flag pgTruss Rg.TR_MON_CFG_EN m && s.get pgTruss Rg.TR_MON_CFG_SOURCE m = p.source
          && s.get pgTruss Rg.TR_MON_CFG_CLASS m = p.cls then
        let a := Sparse.get (fun _ => []) s.nt.mon m
        let a' := [a.getD 0 0 + req, a.getD 1 0 + units, a.getD 2 0 + lat, max (a.getD 3 0) lat, a.getD 4 0 + hold]
        { s with nt := { s.nt with mon := Sparse.set (fun _ => []) s.nt.mon m a' } }
      else s)
    s

/-- TRUSS_PACKET_ROUTE (R387, R388, R394, R399): unit `unit` of a packet (0: the header) arrives at an input port; `err` is
the worst word error of the unit: 0 none, 1 a corrected bit, 2 a double-bit error. -/
def execTrussPacketRoute (r : Fin 100) (port : Fin 5) (p : Packet) (unit : Nat) (err : Fin 3) (s : State) :
    Host.Outcome State Fault Refusal :=
  let pg := page .router r.val
  let hit := s.ptTake pg [5]
  .next (
    if !(s.domOn (pageDomain .router r.val)) then s
    else
      let err : Fin 3 := match hit.1 with
        | some h => if h.param % 4 = 0 then 1 else if h.param % 4 = 1 then 2 else err
        | none => err
      let s := if port.val = 4 then hit.2.bump pg 0xF0 64 else hit.2
      let s := if err.val = 1 then
          ((s.satAdd pg Rg.RT_ERR_ECC_CORR).bump pg 0x06).routerEvent r.val Ev.ECC_CORR_11 port.val p
        else s
      if unit = 0 ∧ err.val = 2 then
        let s := s.routerEvent r.val Ev.HDR_UNCORR port.val p
        if p.cls = 0 then (s.dropClass0 r.val p.source p.tag).reportFault (c0Unit p.source p.tag) else s
      else if unit = 0 ∧ headerOk p = false then
        let s := s.routerEvent r.val Ev.BAD_HEADER port.val p
        if p.cls = 0 then s.dropClass0 r.val p.source p.tag else s
      else
        let s := if unit ≠ 0 ∧ err.val = 2 then
            (s.satAdd pg Rg.RT_ERR_POISON).routerEvent r.val Ev.DATA_POISON port.val p
          else s
        if p.cls = 0 then
          let s := if err.val = 2 then
              { s with mu := { s.mu with later := s.mu.later.map fun l =>
                match l.eff with
                | .deliver a d q => if l.source = p.source ∧ l.tag = p.tag then { l with eff := .deliver a d true } else { l with eff := .deliver a d q }
                | _ => l } }
            else s
          s.routeC0 r.val port.val p
        else if unit ≠ 0 then
          if err.val = 2 then
            { s with nt := { s.nt with bufs := s.nt.bufs.map fun b =>
              if b.router = r.val ∧ b.pkt = p then { b with poison := true } else b } }
          else s
        else
          let first := port.val = 4
          let s := if first then s.monAdd p 1 (dataUnits p) 0 0 else s
          let s := if first ∧ awaits p then
              { s with nt := { s.nt with reqs := s.nt.reqs ++ [⟨p.source, p.tag, r.val, p.cls, s.uptime⟩] } }
            else s
          { s with nt := { s.nt with bufs := s.nt.bufs ++
            [⟨r.val, port.val, p, s.uptime, false, outPort r.val p.dx p.dy⟩] } })

/-- R396: units held in a router's input buffer for a port, class and kind. -/
def State.bufUnits (s : State) (r port cls : Nat) (resp : Bool) : Nat :=
  ((s.nt.bufs.filter fun b => b.router = r && b.port = port && b.pkt.cls = cls && isResponse b.pkt == resp).map
    fun b => dataUnits b.pkt + 1).sum

/-- The input port of the next router behind an output port: a packet that leaves east enters from the west. -/
def entryPort (out : Nat) : Nat := (out + 2) % 4

/-- R395: a waiting packet may begin as far as reservations go. -/
def State.clearAhead (s : State) (b : Buffered) : Bool := s.resvFree b.router b.out (s.deckK * (dataUnits b.pkt + 1))

/-- R395: the next router has room and is not made to refuse (R654), or the output is the local port. -/
def State.roomAhead (s : State) (b : Buffered) : Bool :=
  b.out = 4 ||
    decide (Sparse.get (fun _ => 0) s.ts.press (page .router (nextRouter b.router b.out)) ≤ s.uptime) &&
    decide (s.bufUnits (nextRouter b.router b.out) (entryPort b.out) b.pkt.cls (isResponse b.pkt) + dataUnits b.pkt + 1 ≤ 17)

/-- R397: the rank of a packet: class 3, then classes 1 and 2 by W1 and AGE, then responses, then round robin of the ports. -/
def State.rank (s : State) (w1Left : Bool) (last : Nat) (b : Buffered) : Nat :=
  let age := s.get pgTruss Rg.TR_ARB_AGE * 1024
  let cls := if b.pkt.cls = 2 ∧ b.since + age ≤ s.uptime then 1 else b.pkt.cls
  let c := if cls = 3 then 0 else if cls = 1 then (if w1Left then 1 else 2) else (if w1Left then 2 else 1)
  (c * 2 + (if isResponse b.pkt then 0 else 1)) * 5 + (b.port + 4 - last) % 5

/-- The element of least rank, the first on a tie. -/
def leastBy {α : Type} (f : α → Nat) : List α → Option α
  | [] => none
  | a :: l =>
    match leastBy f l with
    | none => some a
    | some b => if f a ≤ f b then some a else some b

/-- The attachment that a packet is for. -/
def packetAttach (r : Nat) (p : Packet) : Option Nat :=
  match place p.addr with
  | .pages q _ => attachNumber r (.page q)
  | .pier n o => attachNumber r (.memory (pierBase + n * 0x80000 + (if 0x7FF80 ≤ o then 0x7FF80 else 0)))
  | .bay b o => attachNumber r (.memory (bayBase + b * 0x1000000 + o / 0x400000 * 0x400000))
  | .slice e _ => attachNumber r (.memory (sliceBase + e * 0x180000))
  | .bulk g => attachNumber r (.memory ((4 * (g / 16) + p.addr / 64 % 4) * 0x40))
  | .keystone _ => attachNumber r (.memory keystoneBase)
  | .caisson _ => attachNumber r (.memory caissonBase)
  | .outbound _ => attachNumber r (.memory outboundBase)
  | .none => none

def State.attDead (s : State) (r : Nat) (a : Option Nat) : Bool :=
  match a with
  | some n => bits (s.reg (page .router r) (0x140 + 4 * (n / 32))).toNat (n % 32) (n % 32) == 1
  | none => false

/-- A packet leaves a router's local port: a response completes its request (R404); a dead attachment's packet is absorbed,
and a request that awaits a response is answered ERR TARGET_DEAD (R400). -/
def State.deliver (s : State) (b : Buffered) : State :=
  if isResponse b.pkt then
    match s.nt.reqs.find? fun q => q.source = b.pkt.source && q.tag = b.pkt.tag with
    | some q =>
      let s := { s with nt := { s.nt with reqs := s.nt.reqs.filter fun x => !(x.source = q.source && x.tag = q.tag) } }
      let s := s.monAdd { b.pkt with cls := q.cls } 0 0 (s.uptime - q.since) 0
      if b.poison then s.answer stPoison 0 else s
    | none => s
  else if !isResponse b.pkt && s.attDead b.router (packetAttach b.router b.pkt) then
    if awaits b.pkt then
      ({ s with nt := { s.nt with reqs := s.nt.reqs.filter fun x => !(x.source = b.pkt.source && x.tag = b.pkt.tag) } }).answer
        stDead 0
    else s
  else s

/-- DYNAMIC_PACKET_FORWARD (R395–R397, R400): one deck clock cycle of an output port of a router. -/
def execDynamicPacketForward (r : Fin 100) (out : Fin 5) (s : State) : Host.Outcome State Fault Refusal :=
  let pg := page .router r.val
  let key := 5 * r.val + out.val
  .next (
    let wait := s.nt.bufs.filter fun b => b.router = r.val && b.out = out.val && decide (b.since ≤ s.uptime)
    let room := wait.filter s.roomAhead
    let may := room.filter s.clearAhead
    let last := Sparse.get (fun _ => 0) s.nt.lastIn key
    let w1 := Sparse.get (fun _ => 0) s.nt.w1 key
    let left := decide (w1 < max 1 (s.get pgTruss Rg.TR_ARB_W1))
    if s.uptime + 1 < Sparse.get (fun _ => 0) s.nt.portEnd key then s
    else
      let held := room.filter fun b => !(s.clearAhead b)
      let s := if held.isEmpty then s
        else
          let s := (s.satAdd pg Rg.RT_HOLD 1 out.val).bump pg 0x04
          held.foldl (fun s b => if b.port = 4 then s.monAdd b.pkt 0 0 0 1 else s) s
      match leastBy (s.rank left last) may with
      | none => s
      | some b =>
        let n := s.deckK * (dataUnits b.pkt + 1)
        let cyc := s.uptime - b.since
        let s := s.put pg Rg.RT_WAIT_MAX (max (s.get pg Rg.RT_WAIT_MAX) cyc)
        let s := s.bump pg (if b.pkt.cls = 3 then 0x03 else 0x02)
        let s := if out.val = 4 then s.bump pg 0xF1 (64 * (dataUnits b.pkt + 1)) else s
        let s := { s with nt := { s.nt with
          bufs := s.nt.bufs.erase b
          portEnd := Sparse.set (fun _ => 0) s.nt.portEnd key (s.uptime + 1 + n)
          lastIn := Sparse.set (fun _ => 0) s.nt.lastIn key b.port
          w1 := Sparse.set (fun _ => 0) s.nt.w1 key (if b.pkt.cls = 2 then 0 else if b.pkt.cls = 1 then w1 + 1 else w1) } }
        if out.val = 4 then s.deliver b
        else
          let q := nextRouter r.val out.val
          { s with nt := { s.nt with bufs := s.nt.bufs ++
            [{ b with router := q, port := entryPort out.val, since := s.uptime + s.deckK, out := outPort q b.pkt.dx b.pkt.dy }] } })

/-- TARGET_DEAD (R400): a packet has waited DEAD_TO × 1,024 cy at the local port for an attachment. An attachment whose
domain is in RET or OFF is not marked. -/
def execTargetDead (r : Fin 100) (att : Fin 128) (s : State) : Host.Outcome State Fault Refusal :=
  let pg := page .router r.val
  let lim := s.get pgTruss Rg.TR_TMO_DEAD_TO * 1024
  .next (
    match s.nt.bufs.find? fun b => b.router = r.val && b.out = 4 && !isResponse b.pkt
        && packetAttach r.val b.pkt = some att.val && decide (b.since + lim ≤ s.uptime) with
    | none => s
    | some b =>
      let dom := match place b.pkt.addr with
        | .pages p _ => (slotDomain p).getD 2
        | _ => memDomain b.pkt.addr
      if s.asleep dom then s
      else
        let off := 0x140 + 4 * (att.val / 32)
        let s := s.setReg pg off (s.reg pg off ||| BitVec.ofNat 32 (2 ^ (att.val % 32)))
        (s.put pg Rg.RT_STAT_ANY_DEAD 1).routerEvent r.val Ev.TARGET_DEAD 4 b.pkt)

/-- R400: absorption ends for an attachment. -/
def State.revive (s : State) (r att : Nat) : State :=
  let pg := page .router r
  let off := 0x140 + 4 * (att / 32)
  let old := (s.reg pg off).toNat
  let s := s.setReg pg off (BitVec.ofNat 32 (old - (old &&& 2 ^ (att % 32))))
  let any := (List.range 4).any fun i => s.reg pg (0x140 + 4 * i) ≠ 0
  s.put pg Rg.RT_STAT_ANY_DEAD any.toNat

/-- RT_REVIVE (R400). -/
def execRtRevive (w : Who) (r : Fin 100) (value : Nat) (s : State) : Host.Outcome State Fault Refusal :=
  .next (s.command w (page .router r.val) 0x108 value fun s =>
    if bits value 31 31 = 1 then s.revive r.val (value % 128) else s)

/-- RSP_TIMEOUT (R402): a request has no response within RSP_TO × 1,024 cy. -/
def execRspTimeout (source : Fin 256) (tag : Nat) (s : State) : Host.Outcome State Fault Refusal :=
  let lim := s.get pgTruss Rg.TR_TMO_RSP_TO * 1024
  .next (
    match s.nt.reqs.find? fun q => q.source = source.val && q.tag = tag && decide (q.since + lim ≤ s.uptime) with
    | none => s
    | some q =>
      let s := { s with nt := { s.nt with reqs := s.nt.reqs.filter fun x => !(x.source = q.source && x.tag = q.tag) } }
      (s.event (page .router q.router) Ev.RSP_TIMEOUT 0 0 (routerDetail 4 q.source)).answer stTimeout 0)

/-- TRUSS_MONITOR_WINDOW (R404): monitor `m` at an air count that is a multiple of TR_WIN × 983,040. -/
def execTrussMonitorWindow (m : Fin 4) (s : State) : Host.Outcome State Fault Refusal :=
  let win := max 1 (s.get pgTruss Rg.TR_WIN) * spanCy
  .next (
    if s.now % win ≠ 0 ∨ ¬ s.domOn 2 then s
    else
      let a := Sparse.get (fun _ => []) s.nt.mon m.val
      let put := fun (s : State) (f : Fld) (i : Nat) => s.put pgTruss f (min (a.getD i 0) 0xFFFFFFFF) m.val
      let s := put (put (put (put (put s Rg.TR_MON_REQ 0) Rg.TR_MON_UNITS 1) Rg.TR_MON_LAT_SUM 2) Rg.TR_MON_LAT_MAX 3)
        Rg.TR_MON_HOLD 4
      let s := s.put pgTruss Rg.TR_MON_TAG (s.now / spanCy) m.val
      ({ s with nt := { s.nt with mon := Sparse.set (fun _ => []) s.nt.mon m.val [] } }).irq pgTruss 0)

/-- RT_CLR (R406). -/
def execRtClr (w : Who) (r : Fin 100) (value : Nat) (s : State) : Host.Outcome State Fault Refusal :=
  let pg := page .router r.val
  .next (s.command w pg 0x130 value fun s =>
    if value % 2 = 0 then s
    else [0x110, 0x114, 0x118, 0x11C, 0x120, 0x124, 0x128, 0x12C].foldl (fun s o => s.setReg pg o 0) s)

end Sys2Proof.Machine
end

