-- ==== Sys2Proof/Machine/Operands.lean ====
section
/-! DEFINITION. The pier's registers, its bundles and the operand fields of their six slots (R134–R137, R176–R177, R184,
R187, R192, R195), address generation (R154, R161, R162), and what makes a bundle illegal. -/
namespace Sys2Proof.Machine

/-! ## Registers -/

/-- Keys of the registers of R134 and R136; S, X, Y, N, M and G exist in the main (0) and the shadow (1) bank. -/
def kV (r : Nat) : Nat := r
def kW (r : Nat) : Nat := 32 + r
def kS (bank r : Nat) : Nat := 64 + 32 * bank + r
def kX (bank r : Nat) : Nat := 128 + 8 * bank + r
def kY (bank r : Nat) : Nat := 144 + 8 * bank + r
def kN (bank r : Nat) : Nat := 160 + 8 * bank + r
def kM (bank r : Nat) : Nat := 176 + 8 * bank + r
def kG (bank r : Nat) : Nat := 192 + 8 * bank + r
def kC (r : Nat) : Nat := 208 + r

/-- The width of a register. -/
def keyWidth (k : Nat) : Nat := if k < 32 then 1024 else if k < 40 then 2048 else 32

/-- The bank from which the pier issues. -/
def Pier.bank (x : Pier) : Nat := x.shadow.toNat

/-- A register's value: G0 reads all ones (R135); one that the program has not written reads a free value (R137). -/
def Pier.reg (x : Pier) (k : Nat) : Nat :=
  if k = kG 0 0 ∨ k = kG 1 0 then 0xFFFFFFFF
  else match x.regs.find? fun e => e.1 = k with
    | some e => e.2 % 2 ^ keyWidth k
    | none => Config.pierReg x.era k % 2 ^ keyWidth k

/-- Inserts or replaces an entry, keys rising. -/
def putKey (l : List (Nat × Nat)) (k v : Nat) : List (Nat × Nat) :=
  match l with
  | [] => [(k, v)]
  | (k', v') :: t => if k < k' then (k, v) :: (k', v') :: t else if k = k' then (k, v) :: t else (k', v') :: putKey t k v

/-- Writes a register: G0 is never written (R135); the control registers keep the bits that R136 gives them, a write of
EVCMP arms EV1, and a write of SAT clears the bits that are 1. -/
def Pier.setReg (x : Pier) (k v : Nat) : Pier :=
  if k = kG 0 0 ∨ k = kG 1 0 then x
  else if k = kC 2 then { x with regs := putKey x.regs k (v % 4) }
  else if k = kC 3 then { x with regs := putKey x.regs k (v % 256) }
  else if k = kC 4 then { x with regs := putKey x.regs k (v % 2 ^ 20), arm1 := true }
  else if k = kC 5 ∨ k = kC 6 then { x with regs := putKey x.regs k (v % 2 ^ 17 / 32 * 32) }
  else if k = kC 8 then { x with regs := putKey x.regs k (x.reg k - (x.reg k &&& v)) }
  else if k = kC 0 ∨ k = kC 1 ∨ k = kC 7 ∨ k = kC 9 then x
  else { x with regs := putKey x.regs k (v % 2 ^ keyWidth k) }

/-- Sets sticky SAT flags (R182). -/
def Pier.orSat (x : Pier) (b : Nat) : Pier :=
  if b = 0 then x else { x with regs := putKey x.regs (kC 8) (x.reg (kC 8) ||| b) }

/-- Adds a pending write. -/
def Pier.pend (x : Pier) (w : PierWr) : Pier := { x with writes := x.writes ++ [w], last := max x.last w.due }

/-! ## Bundles -/

/-- The system address of a pier address of local memory (R157). -/
def pierAddr (p a : Nat) : Nat := pierBase + p * 0x80000 + a

/-- R146: whether the current bundle is served by the repeat buffer. -/
def Pier.fromBuffer (x : Pier) : Bool :=
  match x.bufLevel with
  | some l => !x.bufFirst && x.act.getD l false && x.buf.any fun e => e.1 = x.pc
  | none => false

/-- The 256 bits of the current bundle (R176). -/
def State.bundle (s : State) (p : Nat) : Nat :=
  let x := s.pier p
  if x.fromBuffer then
    match x.buf.find? fun e => e.1 = x.pc with
    | some e => e.2
    | none => 0
  else s.load (pierAddr p x.pc) 32

/-- The word of a slot: VA0, VA1, VP, LX, LY, SC are slots 0–5 (R176). -/
def slotWord (b slot : Nat) : Nat :=
  if slot = 0 then bits b 47 0 else if slot = 1 then bits b 95 48 else if slot = 2 then bits b 143 96
  else if slot = 3 then bits b 175 144 else if slot = 4 then bits b 207 176 else bits b 255 208

/-- The opcode of a slot's word. -/
def slotOp (slot w : Nat) : Nat := if slot = 3 ∨ slot = 4 then bits w 31 27 else bits w 47 40

/-- R184: the fields of a VA operation. -/
structure VaF where
  g : Nat
  d : Nat
  a : Nat
  b : Nat
  sh : Nat
  cja : Bool
  cjb : Bool
  rnd : Nat
  bs : Bool
  rsv : Nat

def vaF (w : Nat) : VaF :=
  ⟨bits w 39 37, bits w 36 32, bits w 31 27, bits w 26 22, bits w 21 17, bits w 16 16 = 1, bits w 15 15 = 1, bits w 14 13,
    bits w 12 12 = 1, bits w 11 0⟩

/-- R187: the fields of a VP operation. -/
structure VpF where
  g : Nat
  d : Nat
  a : Nat
  b : Nat
  c : Nat
  imm : Nat

def vpF (w : Nat) : VpF := ⟨bits w 39 37, bits w 36 32, bits w 31 27, bits w 26 22, bits w 21 17, bits w 16 0⟩

/-- R192: the fields of an LX or LY operation. -/
structure LsF where
  op : Nat
  g : Nat
  a : Nat
  am : Nat
  mw : Nat
  imm5 : Nat
  n : Nat
  r : Nat
  e : Nat

def lsF (w : Nat) : LsF :=
  ⟨bits w 31 27, bits w 26 24, bits w 23 21, bits w 20 18, bits w 17 15, bits w 14 10, bits w 14 12, bits w 9 5, bits w 4 0⟩

/-- R195: the fields of an SC operation. -/
structure ScF where
  op : Nat
  g : Nat
  d : Nat
  a : Nat
  b : Nat
  imm : Nat
  dcl : Nat
  acl : Nat
  tgt : Nat
  lvl : Nat
  cs : Bool
  fin : Nat
  count : Nat

def scF (w : Nat) : ScF :=
  ⟨bits w 47 40, bits w 39 37, bits w 36 32, bits w 31 27, bits w 26 22, bits w 15 0, bits w 26 24, bits w 23 21, bits w 11 0,
    bits w 36 35, bits w 34 34 = 1, bits w 27 16, bits w 15 0⟩

/-! ## Legality (R150, R177) -/

/-- A VA word: its opcode and, by the operation's row in R185, which fields are used and in what range. -/
def vaLegal (w : Nat) : Bool :=
  let f := vaF w
  let op := slotOp 0 w
  let noC := !f.cja && !f.cjb
  let noR := f.rnd = 0
  let noSh := f.sh = 0
  let noB := f.b = 0 && !f.bs
  let sh15 := decide (f.sh ≤ 15)
  let r3 := decide (f.rnd ≤ 2)
  let wd := decide (f.d < 8)
  f.rsv = 0 &&
  (if op = 0 then w = 0
   else if op = 1 ∨ op = 2 ∨ (8 ≤ op ∧ op ≤ 0x0B) then noC && noR && noSh
   else if 3 ≤ op ∧ op ≤ 5 then noC && noR && noSh && noB
   else if op = 0x0C then noC && noR && noB && sh15
   else if op = 0x0D then noC && r3 && noB && sh15
   else if op = 0x0E then noC && noR && noB && sh15 && decide (1 ≤ f.sh)
   else if op = 0x10 ∨ op = 0x11 then noC && r3 && sh15 && f.d % 2 = 0
   else if op = 0x18 then r3
   else if op = 0x19 then noC && r3
   else if 0x20 ≤ op ∧ op ≤ 0x22 then wd && noR && noSh
   else if op = 0x23 ∨ op = 0x24 then wd && noC && noR && noSh
   else if op = 0x28 then decide (f.a < 8) && noC && r3 && (if f.bs then noSh else f.b = 0)
   else if op = 0x29 then wd && noC && noR && noB && decide (f.sh ≤ 16)
   else if op = 0x2A ∨ op = 0x2B then wd && decide (f.a < 8) && decide (f.b < 8) && noC && noR && noSh && !f.bs
   else false)

/-- A VP word (R188). -/
def vpLegal (w : Nat) : Bool :=
  let f := vpF w
  let op := slotOp 2 w
  let b0 := f.b = 0
  let c0 := f.c = 0
  let i0 := f.imm = 0
  let i5 := decide (f.imm < 32)
  if op = 0 then w = 0
  else if op = 1 then i0
  else if op = 2 then b0 && c0 && i5
  else if op = 3 then c0 && decide (f.imm ≤ 32)
  else if op = 4 then
    c0 && bits f.imm 3 3 = 0 && bits f.imm 15 7 = 0 && decide (2 ≤ f.imm % 8) && decide (f.imm % 8 ≤ 4)
      && decide (bits f.imm 6 4 < f.imm % 8)
  else if op = 5 then c0 && decide (f.imm ≤ 1)
  else if op = 6 then c0 && (if bits f.imm 16 16 = 1 then f.a = 0 && f.imm = 65536 else b0 && i5)
  else if op = 7 then b0 && c0 && i5
  else if op = 8 then c0 && i5
  else if op = 9 then c0 && decide (f.imm < 16)
  else if op = 0x0A then b0 && c0
  else if op = 0x10 then f.a = 0 && c0 && i0
  else if op = 0x11 then b0 && c0 && i0
  else if op = 0x12 then b0 && c0 && decide (1 ≤ f.imm) && decide (f.imm ≤ 1024)
  else if op = 0x18 ∨ op = 0x19 then b0 && decide (f.c < 8) && bits f.imm 14 11 = 0
  else if op = 0x1A then b0 && decide (f.c < 8) && (f.imm = 0 || f.imm = 32768)
  else if op = 0x1B then decide (f.a < 8) && b0 && decide (f.c < 8) && (f.imm = 0 || f.imm = 32768)
  else if 0x20 ≤ op ∧ op ≤ 0x22 then decide (f.d < 8) && c0 && i0
  else false

/-- An LX or LY word (R192, R193). -/
def lsLegal (w : Nat) : Bool :=
  let f := lsF w
  let amOk :=
    if f.am = 0 then f.mw = 0 && f.imm5 = 0
    else if f.am = 1 ∨ f.am = 2 then f.imm5 = 0
    else if f.am = 3 then bits w 11 10 = 0
    else if f.am = 4 then true
    else if f.am = 5 then f.mw = 0 && bits w 11 10 = 0
    else false
  if f.op = 0 then w = 0
  else if f.op = 4 ∨ f.op = 0x0B then amOk
  else if (1 ≤ f.op ∧ f.op ≤ 5) ∨ (8 ≤ f.op ∧ f.op ≤ 0x0A) then amOk && f.e = 0
  else if f.op = 0x10 then amOk && decide (1 ≤ f.am) && decide (f.am ≤ 4) && f.r = 0 && f.e = 0
  else false

/-- R197: whether an index lies in a class's range. -/
def classIndexOk (c i : Nat) : Bool := if c = 0 then true else if c = 6 then decide (i ≤ 9) else if c = 7 then decide (i < 4) else decide (i < 8)

/-- An SC word (R195–R198). -/
def scLegal (w : Nat) : Bool :=
  let f := scF w
  let op := f.op
  let sr := bits w 21 0 = 0
  let si := bits w 26 16 = 0
  let sb := bits w 26 12 = 0
  if op = 0 then w = 0
  else if 1 ≤ op ∧ op ≤ 0x0F then sr
  else if op = 0x10 then sr && f.b = 0
  else if 0x18 ≤ op ∧ op ≤ 0x1A then si
  else if 0x1B ≤ op ∧ op ≤ 0x1D then si && decide (f.imm < 32)
  else if op = 0x1E ∨ op = 0x1F then si && f.a = 0
  else if 0x20 ≤ op ∧ op ≤ 0x25 then sr && decide (f.d < 8)
  else if op = 0x28 ∨ op = 0x29 then si && decide (f.d < 8)
  else if op = 0x2C ∨ op = 0x2D then sr && decide (f.d < 8) && decide (f.a < 8) && decide (f.b < 8)
  else if op = 0x2E then sr && f.b = 0 && decide (f.d < 8) && decide (f.a < 8)
  else if 0x30 ≤ op ∧ op ≤ 0x32 then sr
  else if op = 0x38 then
    bits w 20 0 = 0 && f.dcl ≠ 7 && classIndexOk f.dcl f.d && classIndexOk f.acl f.a
  else if op = 0xC0 then sb && f.d = 0 && f.a = 0
  else if op = 0xC1 then sb && f.a = 0
  else if op = 0xC2 then sb && f.d = 0 && f.tgt = 0
  else if op = 0xC8 ∨ op = 0xC9 then bits w 36 0 = 0
  else if op = 0xE0 then f.g = 0 && bits w 33 28 = 0 && (!f.cs || decide (f.count < 32))
  else false

/-- Whether an operation of the SC slot is a control transfer. -/
def isTransfer (op : Nat) : Bool := op = 0xC0 || op = 0xC1 || op = 0xC2 || op = 0xC8 || op = 0xC9

/-- R150, R199: what a REP or a control transfer requires of the loop state and the bank. -/
def scStateOk (x : Pier) (w : Nat) : Bool :=
  let f := scF w
  let active := fun j => x.act.getD j false
  if f.op = 0xE0 then
    let lea := f.fin * 32
    !x.shadow && x.delay = 0 && decide (x.pc + 32 ≤ lea)
      && (List.range 4).all fun j => !(active j) || (decide (j < f.lvl) && decide (lea ≤ x.lea.getD j 0))
  else if isTransfer f.op then
    x.delay = 0
      && (List.range 4).all (fun j => !(active j) || !(decide (x.lea.getD j 0 ≤ x.pc + 64) && decide (x.pc ≤ x.lea.getD j 0)))
      && (if f.op = 0xC8 then x.shadow else if f.op = 0xC9 then !x.shadow else true)
  else true

/-! ## Address generation (R154, R161, R162) -/

def rev (n : Nat) (x : Nat) : Nat := (List.range n).foldl (fun a i => if x.testBit i then a + 2 ^ (n - 1 - i) else a) 0

/-- R162: reverses the order of `b` digits of `w` bits each. -/
def revDigits (b w x : Nat) : Nat := (List.range b).foldl (fun a i => a + bits x (w * i + w - 1) (w * i) <<< (w * (b - 1 - i))) 0

/-- R162: the update function of mode word `k`; `none`: the update raises ADDR. -/
def addrUpd (x : Pier) (k a : Nat) (d : Int) : Option Nat :=
  let m := x.reg (kM x.bank k)
  let mode := bits m 31 30
  if mode = 0 then some (ofInt 32 (a + d))
  else if mode = 1 then
    let len := bits m 27 0
    let base := x.reg (kM x.bank (k + 1))
    if k % 2 = 1 ∨ len = 0 then none else some (ofInt 32 (base + ((a : Int) - base + d) % (len : Nat)))
  else if mode = 2 then
    let b := bits m 4 0
    let w := 1 + bits m 5 5
    let f := bits m 12 8
    if b = 0 ∨ 20 < b ∨ 32 < b * w + f then none
    else
      let n := b * w
      let fa := a / 2 ^ f % 2 ^ n
      let g := ofInt 32 d / 2 ^ f % 2 ^ n
      some (a - fa * 2 ^ f + revDigits b w ((revDigits b w fa + revDigits b w g) % 2 ^ n) * 2 ^ f)
  else none

/-- R161: the effective address, and the new value of the address register (`none`: unchanged; `some none`: ADDR). -/
def addrMode (x : Pier) (f : LsF) (bus w : Nat) : Nat × Option (Option Nat) :=
  let a := x.reg (if bus = 0 then kX x.bank f.a else kY x.bank f.a)
  let n := x.reg (kN x.bank (f.n % 8))
  if f.am = 0 then (a, none)
  else if f.am = 1 then (a, some (addrUpd x f.mw a w))
  else if f.am = 2 then (a, some (addrUpd x f.mw a (-(w : Int))))
  else if f.am = 3 then (a, some (addrUpd x f.mw a (toInt 32 n)))
  else if f.am = 4 then (a, some (addrUpd x f.mw a (toInt 5 f.imm5 * w)))
  else ((a + n) % 2 ^ 32, none)

/-- Where a pier access goes (R154): the local memories, the bay, or a remote window. -/
inductive PierPlace where
  | xm | ym | pstat | bay | remote
  | bad
deriving DecidableEq, Repr

/-- R154: the range that holds an access of `w` bytes on a bus (0 X, 1 Y). -/
def pierPlace (bus a w : Nat) (store : Bool) : PierPlace :=
  let e := a + w
  if 0x20000 ≤ a ∧ e ≤ 0x50000 then (if bus = 0 then .xm else .bad)
  else if 0x50000 ≤ a ∧ e ≤ 0x7FF80 then (if bus = 1 then .ym else .bad)
  else if 0x7FF80 ≤ a ∧ e ≤ 0x80000 then (if bus = 1 ∧ store = false then .pstat else .bad)
  else if 0x01000000 ≤ a ∧ e ≤ 0x02000000 then .bay
  else if (0x02000000 ≤ a ∧ e ≤ 0x05000000) ∨ (0x08000000 ≤ a ∧ e ≤ 0x10000000) then (if store then .remote else .bad)
  else .bad

/-- The system address of a pier access (R154, R157). -/
def pierSys (p a : Nat) : Nat :=
  if a < 0x80000 then pierAddr p a
  else if a < 0x02000000 then bayBase + p / 8 * 0x1000000 + (a - 0x01000000)
  else if a < 0x05000000 then sliceBase + (a - 0x02000000)
  else bayBase + (a - 0x08000000)

/-- R193: the width of an LX or LY operation. -/
def lsWidth (op : Nat) : Nat := if op = 1 ∨ op = 8 ∨ op = 0x10 then 128 else if op = 2 ∨ op = 9 then 64 else 4

/-- Whether an LX or LY word is a store whose guard lets it act and which goes through a remote window. -/
def remoteStore (x : Pier) (bus w : Nat) : Bool :=
  let f := lsF w
  let wd := lsWidth f.op
  decide (8 ≤ f.op) && decide (f.op ≤ 0x0B) && (x.reg (kG x.bank f.g)).testBit 0
    && pierPlace bus (addrMode x f bus wd).1 wd true == .remote

/-- R150, R177: whether the bundle executes. -/
def bundleLegal (x : Pier) (b : Nat) : Bool :=
  vaLegal (slotWord b 0) && vaLegal (slotWord b 1) && vpLegal (slotWord b 2) && lsLegal (slotWord b 3)
    && lsLegal (slotWord b 4) && scLegal (slotWord b 5) && scStateOk x (slotWord b 5)
    && !(remoteStore x 0 (slotWord b 3) && remoteStore x 1 (slotWord b 4))

end Sys2Proof.Machine
end

