-- ==== Sys2Proof/Machine/PierCore.lean ====
section
/-! DEFINITION. The pier's program: PIER_START, events, faults, PSTAT and the cycle by which it moves on (R137–R152, R160,
R163–R175). A row of the instruction set issues its operation from the bundle at the pier's pc in that bundle's cycle. -/
namespace Sys2Proof.Machine

def pgPier (p : Nat) : Nat := page .pier p

/-- R107: the unit code of a pier. -/
def pierUnit (p : Nat) : Nat := 0x2000 + p

/-- The span offset of a cycle that began at uptime `c` ≤ now (R114). -/
def State.ofsAt (s : State) (c : Nat) : Nat :=
  (s.now - (s.uptime - c) - s.get64 pgDeck Rg.DK_ORG_LO) % spanCy

/-! ## What the pages show -/

/-- P_STAT (R173). -/
def pierStat (x : Pier) : Nat :=
  x.state <<< 28 + x.shadow.toNat <<< 27 + x.ev1.isSome.toNat <<< 26 + x.ev0.isSome.toNat <<< 25
    + x.bufLevel.isSome.toNat <<< 24 + (x.bufLevel.getD 0 % 4) <<< 22
    + ((List.range 4).foldl (fun a j => if x.act.getD j false then a + 2 ^ j else a) 0) <<< 16 + x.tag % 65536

/-- The piers of a bay in a given PSTAT state, as a mask (R174). -/
def State.bayMask (s : State) (b st : Nat) : Nat :=
  (List.range 8).foldl (fun a i => if (s.pier (8 * b + i)).state = st then a + 2 ^ i else a) 0

/-- Shows a pier's state on its page and on its bay's page; a FAULT raises source 0 of the bay (R173, R174). -/
def State.showPier (s : State) (p : Nat) : State :=
  let b := page .bay (p / 8)
  let s := s.setReg (pgPier p) 0x100 (BitVec.ofNat 32 (pierStat (s.pier p)))
  let s := (s.put b Rg.BAY_STAT_FAULT (s.bayMask (p / 8) 3)).put b Rg.BAY_STAT_RUN (s.bayMask (p / 8) 1)
  if s.get b Rg.BAY_STAT_FAULT = 0 then s else s.irq b 0

/-- A counter event of a pier, once in a cycle (R175, R644). -/
def State.bumpOnce (s : State) (pg code : Nat) : State :=
  if s.samples.any fun (e : Nat × Nat × Nat) => e.1 = pg && e.2.1 = code then s else s.bump pg code

/-- R160: the words 0 to 3 of the PSTAT line. -/
def pstatBytes (state tag ofs code sat : Nat) : List Nat :=
  bytesOf 4 (state <<< 28 + tag % 65536) ++ bytesOf 4 (ofs % 2 ^ 20) ++ bytesOf 4 (code % 65536) ++ bytesOf 4 (sat % 16)

/-- Writes the PSTAT line; a read in the write's cycle returns the value before it (R160). -/
def State.pstat (s : State) (p state ofs code sat : Nat) : State :=
  s.schedule (s.uptime + s.deckK) (pierUnit p) p 0 (.bytes (pierAddr p 0x7FF80) (pstatBytes state (s.pier p).tag ofs code sat) false)

/-- Events that find no program running are discarded (R164). -/
def State.discardEvent (s : State) (p : Nat) : State := (s.satAdd (pgPier p) Rg.P_EVDISC).irq (pgPier p) 2

/-- The events still pending when a program ends are discarded (R164). -/
def State.dropEvents (s : State) (p : Nat) : State :=
  let x := s.pier p
  let s := if x.ev0.isSome then s.discardEvent p else s
  let s := if x.ev1.isSome then s.discardEvent p else s
  s.setPier p { s.pier p with ev0 := none, ev1 := none }

/-- R152, R169: the occupancy of the program ends at the later of `end_` and its last completion. -/
def State.closeJob (s : State) (p end_ : Nat) : State :=
  let e := max end_ (s.pier p).last
  { s with dk := { s.dk with
    jobs := s.dk.jobs.map fun j => if j.unit = pierUnit p && decide (e < j.fin) then { j with free := e, fin := e } else j } }

/-! ## Start -/

/-- The completion of a program that has not ended: after any uptime that matters. -/
def openEnd : Nat := 2 ^ 64

/-- PIER_START (R99, R137, R151, R160): the first bundle issues 4 c later; a fenced pier shows FAULT with NO_DEGRADE. -/
def execSlotPierStart (r i : Nat) (s : State) : Host.Outcome State Fault Refusal :=
  .next (s.issueSlot 1 r i fun x s =>
    let p := x.unit % 64
    let k := s.deckK
    if x.fenced then
      let s := s.setPier p { s.pier p with state := 3, tag := s.spanTag }
      (s.schedule (s.uptime + 4 * k) (pierUnit p) p 0
        (.bytes (pierAddr p 0x7FF80) (pstatBytes 3 s.spanTag ((s.spanOfs + 4 * k) % spanCy) 0x101F 0) false)).showPier p
    else
      let f := s.fresh
      let old := f.2.pier p
      let y : Pier := { Pier.zero with
        running := true, state := old.state, pc := x.arg % 2 ^ 32, at_ := f.2.uptime + 4 * k, tag := f.2.spanTag, ctx := x.ctx,
        era := f.1, regs := [(kC 2, 0), (kC 8, 0)] }
      ((f.2.setPier p y).addJob x 1 openEnd openEnd).showPier p)

/-! ## Faults -/

/-- R169: a fault raised in the cycle that began at uptime `c` by the bundle at `pc`: the program stops, PSTAT shows FAULT, and
the deck hears of it. -/
def State.pierFault (s : State) (p code c pc : Nat) : State :=
  let pg := pgPier p
  let ofs := s.ofsAt c
  let x := s.pier p
  let s := s.setPier p { x with running := false, state := 3, traps := [], turn := false, rep := none }
  let s := ((s.put pg Rg.P_END_OFS ofs).put pg Rg.P_FAULT code)
  let s := if code = Ev.RESIDUE then s.satAdd pg Rg.P_FLTCNT_RESIDUE else s
  let s := s.event pg code x.ctx ofs ((pc / 32 % 4096) <<< 16)
  let s := s.writeBytes p (pierAddr p 0x7FF80) (pstatBytes 3 x.tag ofs code (x.reg (kC 8)))
  let s := (s.dropEvents p).closeJob p (c + s.deckK)
  (s.reportFault (pierUnit p) (some ofs)).showPier p

/-- A corrected single-bit error of a fetch or a load (R145, R169, R170). -/
def State.pierCorr (s : State) (p : Nat) : State :=
  (s.satAdd (pgPier p) Rg.P_FLTCNT_ECC_CORR).event (pgPier p) Ev.ECC_CORR_20 (s.pier p).ctx

/-! ## The cycle -/

/-- R145: whether the bundle at the pier's pc cannot be read. -/
def State.pmBad (s : State) (p : Nat) : Bool :=
  !(s.pier p).fromBuffer && (eccHits s (pierAddr p (s.pier p).pc) 32).any fun e => decide (2 ≤ e.2.kind)

/-- Whether a bundle would issue from the pier in the present cycle. -/
def State.pierIssues (s : State) (p : Nat) : Bool :=
  let x := s.pier p
  x.running && x.at_ = s.uptime && decide (x.pc < 0x20000) && !(s.pmBad p) && bundleLegal x (s.bundle p)

/-- Whether slot `slot` of that bundle holds opcode `op` and has not issued yet. -/
def State.pierReady (s : State) (p slot op : Nat) : Bool :=
  s.pierIssues p && !((s.pier p).issued.contains slot) && slotOp slot (slotWord (s.bundle p) slot) = op

/-- R167, R168: the check of an operation: `chk` 1 is a residue that differs (only a checked operation has one), 2 a parity
error of a register that the operation reads. A residue shows in the cycle in which the result is written. -/
def Pier.check (x : Pier) (now k lat : Nat) (chk : Fin 3) (checked reads : Bool) : Pier :=
  if chk.val = 1 ∧ checked then { x with traps := x.traps ++ [⟨now + (lat - 1) * k, Ev.RESIDUE, x.pc⟩] }
  else if chk.val = 2 ∧ reads then { x with traps := x.traps ++ [⟨now, Ev.RF_PARITY, x.pc⟩] }
  else x

/-- Issues an operation of latency `lat` (R138): `f` gives the registers that it writes, each with its value and the SAT bits
that a clipped lane sets; with an empty list (its guard lets nothing through) it only takes its slot. -/
def State.pierOp (s : State) (p slot op lat : Nat) (chk : Fin 3) (checked reads : Bool)
    (f : Pier → Nat → List (Nat × PierVal × Nat)) : State :=
  if !(s.pierReady p slot op) then s
  else
    let x := s.pier p
    let k := s.deckK
    let l := f x (slotWord (s.bundle p) slot)
    let acts := !l.isEmpty
    let x := { x with issued := x.issued ++ [slot] }
    let x := l.foldl (fun x e => x.pend ⟨s.uptime + k * lat, s.uptime, slot, e.1, e.2.1, e.2.2⟩) x
    let x := if acts then x.check s.uptime k lat chk checked reads else x
    let s := s.setPier p x
    if acts && checked then s.bumpOnce (pgPier p) 0x0C else s

/-- What a pending write makes of its register, from the registers before the writes of the cycle: the key, the bits it
covers, the value and the SAT bits (R140, R182). -/
def PierWr.result (w : PierWr) (x : Pier) : Nat × Nat × Nat × Nat :=
  match w.val with
  | .put m v => (w.key, m, v, w.sat)
  | .mac m add =>
    let sum := zipLanes (· + ·) (lanes 32 64 (x.reg w.key)) add
    let hit := (sum.zipIdx).any fun e => m.testBit (32 * e.2) && clips 32 e.1
    (w.key, m, packLanes 32 (sum.map (satN 32)), if hit then w.sat else 0)

/-- Inserts a write by its issue, then its slot (R141). -/
def insertWr (w : PierWr) : List PierWr → List PierWr
  | [] => [w]
  | v :: l => if v.issue < w.issue ∨ (v.issue = w.issue ∧ v.slot ≤ w.slot) then v :: insertWr w l else w :: v :: l

/-- The register writes that are due: each from the registers before this cycle, the later issue and the higher slot last
(R138, R140, R141). -/
def Pier.settle (x : Pier) (now : Nat) : Pier :=
  let due := (x.writes.filter fun w => decide (w.due ≤ now)).foldl (fun l w => insertWr w l) []
  let rs := due.map fun w => w.result x
  let y := rs.foldl
    (fun (y : Pier) (r : Nat × Nat × Nat × Nat) =>
      let old := y.reg r.1
      let full := 2 ^ keyWidth r.1 - 1
      (if full ≤ r.2.1 then y.setReg r.1 r.2.2.1 else y.setReg r.1 ((old - (old &&& r.2.1)) ||| (r.2.2.1 &&& r.2.1))).orSat r.2.2.2)
    x
  { y with writes := x.writes.filter fun w => decide (now < w.due) }

/-- R148: the levels whose LEA is the current bundle: the bundle that follows, and the loop state. -/
def Pier.loopBack (x : Pier) : List Nat → Pier
  | [] => { x with pc := x.pc + 32 }
  | j :: l =>
    if x.act.getD j false && x.lea.getD j 0 = x.pc then
      if 1 < x.lc.getD j 0 then
        { x with lc := x.lc.set j (x.lc.getD j 0 - 1), pc := x.lsa.getD j 0, bufFirst := x.bufFirst && x.bufLevel != some j }
      else
        ({ x with lc := x.lc.set j 0, act := x.act.set j false,
                  bufLevel := if x.bufLevel = some j then none else x.bufLevel }).loopBack l
    else x.loopBack l

/-- R147: a REP sets its level up; R146: a body of at most 64 bundles takes the repeat buffer. -/
def Pier.setLoop (x : Pier) (lvl count lea : Nat) : Pier :=
  let lsa := x.pc + 32
  let x := { x with act := x.act.set lvl true, lc := x.lc.set lvl count, lsa := x.lsa.set lvl lsa, lea := x.lea.set lvl lea,
                    pc := lsa }
  if lea - lsa < 2048 then { x with bufLevel := some lvl, bufFirst := true, buf := [] } else x

/-- R149: a taken branch ends the active levels that do not hold its target. -/
def Pier.endLevels (x : Pier) (t : Nat) : Pier :=
  (List.range 4).foldl
    (fun (x : Pier) j =>
      if x.act.getD j false && !(decide (x.lsa.getD j 0 ≤ t) && decide (t ≤ x.lea.getD j 0)) then
        { x with act := x.act.set j false, bufLevel := if x.bufLevel = some j then none else x.bufLevel }
      else x)
    x

/-- After a bundle: what issues next and when (R147–R149, R152, R165). `none`: the program has ended. -/
def Pier.advance (x : Pier) (k b : Nat) : Option Pier :=
  let cap := match x.bufLevel with
    | some l => x.bufFirst && x.act.getD l false && decide (x.lsa.getD l 0 ≤ x.pc) && decide (x.pc ≤ x.lea.getD l 0)
    | none => false
  let x := if cap then { x with buf := putKey x.buf x.pc b } else x
  let x := { x with issued := [], at_ := x.at_ + k, begun := true }
  if x.turn then some { x with turn := false, delay := 2, pc := x.pc + 32 }
  else if x.delay = 2 then some { x with delay := 1, pc := x.pc + 32 }
  else if x.delay = 1 then
    let x := { x with delay := 0 }
    match x.jump with
    | .stay => some { x with pc := x.pc + 32 }
    | .to t => some { (x.endLevels t) with pc := t, jump := .stay }
    | .rte => some { x with pc := x.evret, shadow := false, jump := .stay }
    | .fin => none
  else
    match x.rep with
    | some (_, 0, lea) => some { x with rep := none, pc := lea + 32, at_ := x.at_ + 2 * k }
    | some (lvl, count, lea) => some ({ x with rep := none }.setLoop lvl count lea)
    | none => some (x.loopBack [3, 2, 1, 0])

/-- R152: END's delay slots have issued: nothing issues from now on. -/
def State.pierDone (s : State) (p : Nat) (x : Pier) : State :=
  let ofs := s.ofsAt s.uptime
  let s := s.setPier p { x with running := false, state := 2, delay := 0, jump := .stay, issued := [], begun := true }
  let s := (s.put (pgPier p) Rg.P_END_OFS ofs).pstat p 2 ofs 0 (x.reg (kC 8))
  (s.dropEvents p).closeJob p s.uptime

/-- The end of a bundle's cycle; `legal` tells whether it was legal in its cycle. A bundle that cannot execute faults (R145, R150, R153); the first one shows RUNNING (R151). -/
def State.pierCycle (s : State) (p : Nat) (legal : Bool) : State :=
  let x := s.pier p
  let pg := pgPier p
  let s := if x.begun then s
    else
      let s := s.put pg Rg.P_START_OFS (s.ofsAt x.at_)
      let line := s.load (pierAddr p 0x7FF80) 16
      let s := s.writeBytes p (pierAddr p 0x7FF80) (pstatBytes 1 x.tag (bits line 51 32) 0 (bits line 99 96))
      s.setPier p { s.pier p with state := 1 }
  let x := s.pier p
  let b := s.bundle p
  if 0x20000 ≤ x.pc then s.pierFault p Ev.ADDR x.at_ x.pc
  else
    let r := if x.fromBuffer then (0, s) else s.readMem p false (pierAddr p x.pc) 32
    let corr := !x.fromBuffer && (eccHits s (pierAddr p x.pc) 32).any fun e => e.2.kind = 1
    let s := if corr then r.2.pierCorr p else r.2
    if 2 ≤ r.1 then s.pierFault p Ev.PM_ECC x.at_ x.pc
    else if legal = false then s.pierFault p Ev.ILLEGAL x.at_ x.pc
    else
      let s := (s.put pg Rg.P_PC x.pc).bumpOnce pg 0x01
      let s := if x.fromBuffer then s.bumpOnce pg 0x02 else s
      match x.advance s.deckK b with
      | some y => s.setPier p y
      | none => s.pierDone p x

/-- The earliest trap of a list. -/
def firstTrap (l : List PierTrap) : Option PierTrap :=
  l.foldl (fun o t => match o with
    | some u => if t.cycle < u.cycle then some t else some u
    | none => some t) none

/-- One cy of a pier: its pending writes, the end of its bundle's cycle, and the faults raised in it (R138, R169). -/
def State.pierTick (s : State) (p : Nat) : State :=
  let legal := bundleLegal (s.pier p) (s.bundle p)
  let s := s.setPier p ((s.pier p).settle s.uptime)
  let x := s.pier p
  let k := s.deckK
  let s := if x.running && decide (x.at_ + k ≤ s.uptime) then s.pierCycle p legal else s
  let due := (s.pier p).traps.filter fun t => decide (t.cycle + k ≤ s.uptime)
  let s := if (s.pier p).state = 3 then s
    else match firstTrap due with
      | some t => s.pierFault p t.code t.cycle t.pc
      | none => s
  s.showPier p

/-- All piers move on. -/
def State.tickPiers (s : State) : State := (s.piers.map (·.1)).foldl State.pierTick s

/-! ## Events -/

/-- R164: an event is raised now. -/
def State.raiseEvent (s : State) (p n : Nat) : State :=
  let x := s.pier p
  let old := if n = 0 then x.ev0 else x.ev1
  if !x.running then s.discardEvent p
  else if old = some s.uptime then s
  else if old.isSome then s.satAdd (pgPier p) Rg.P_EVCNT_MERGED
  else (s.setPier p (if n = 0 then { x with ev0 := some s.uptime } else { x with ev1 := some s.uptime })).showPier p

/-- EV0 (R163): the pier's deck signal line takes effect now, by a trigger of ACTION 0x8. -/
def execEv0 (p : Fin 64) (s : State) : Host.Outcome State Fault Refusal :=
  let x := s.pier p.val
  .next (
    if (x.reg (kC 2)).testBit 0 ∧ (s.py.trigOut.any fun o => o.action = 8 && o.due = s.uptime && o.arg % 256 = x.reg (kC 3) % 256) then
      s.raiseEvent p.val 0
    else s)

/-- EV1 (R163): once per write of EVCMP, in the cycle of that span offset; the arming is spent even when EVEN bit 1 is 0. -/
def execEv1 (p : Fin 64) (s : State) : Host.Outcome State Fault Refusal :=
  let x := s.pier p.val
  let c := x.reg (kC 4)
  .next (
    if x.arm1 ∧ c < spanCy ∧ c ≤ s.spanOfs ∧ s.spanOfs < c + s.deckK then
      let s := s.setPier p.val { x with arm1 := false }
      if (x.reg (kC 2)).testBit 1 then s.raiseEvent p.val 1 else s
    else s)

/-- PIER_EVENT_TAKE (R164, R165): the first eligible cycle after an event was raised; EV0 goes first. -/
def execPierEventTake (p : Fin 64) (s : State) : Host.Outcome State Fault Refusal :=
  let x := s.pier p.val
  let raised := fun (e : Option Nat) => match e with
    | some c => decide (c < s.uptime)
    | none => false
  .next (
    if !(s.pierIssues p.val) || x.shadow || x.delay ≠ 0 || !x.issued.isEmpty || !(raised x.ev0 || raised x.ev1) then s
    else
      let zero := raised x.ev0
      let y := { x with
        evret := x.pc, shadow := true, pc := x.reg (if zero then kC 5 else kC 6), at_ := x.at_ + 3 * s.deckK,
        ev0 := if zero then none else x.ev0, ev1 := if zero then x.ev1 else none }
      (((s.setPier p.val y).satAdd (pgPier p.val) Rg.P_EVCNT_TAKEN).bumpOnce (pgPier p.val) 0x09).showPier p.val)

end Sys2Proof.Machine
end

