-- ==== Sys2Proof/Machine/PierVec.lean ====
section
/-! DEFINITION. The operations of the pier's vector slots VA0, VA1 and VP (R180–R191). -/
namespace Sys2Proof.Machine

/-! ## VA operands and results -/

/-- Every element set to a 32-bit word. -/
def broadcast (v : Nat) : Nat := (List.range 32).foldl (fun a e => a + v <<< (32 * e)) 0

/-- R184: the second operand, a V register or a broadcast S register. -/
def bVec (x : Pier) (f : VaF) : Nat := if f.bs then broadcast (x.reg (kS x.bank f.b)) else x.reg (kV f.b)

def aLanes (x : Pier) (f : VaF) : List Int := lanes 16 64 (x.reg (kV f.a))

def bLanes (x : Pier) (f : VaF) : List Int := lanes 16 64 (bVec x f)

/-- Applies a function to the (I, Q) halves of each element. -/
def byElem (g : Int → Int → Int × Int) : List Int → List Int
  | i :: q :: l => (g i q).1 :: (g i q).2 :: byElem g l
  | l => l

/-- R184: the exact complex products of the elements, conjugated where the fields say. -/
def products (x : Pier) (f : VaF) : List Int :=
  let conj := fun (c : Bool) (l : List Int) => if c then byElem (fun i q => (i, -q)) l else l
  let rec go : List Int → List Int → List Int
    | ai :: aq :: a, bi :: bq :: b => (ai * bi - aq * bq) :: (ai * bq + aq * bi) :: go a b
    | _, _ => []
  go (conj f.cja (aLanes x f)) (conj f.cjb (bLanes x f))

/-- R182: the SAT bit of a VA slot. -/
def vaSat (va : Nat) : Nat := 2 ^ va

/-- The guard of a VA operation; the pier that issues stands in `x`. -/
structure VaSlot where
  va : Nat
  guard : Nat

/-- A V register gets 64 lanes, saturated (R181–R183). -/
def vecWrAt (v : VaSlot) (d : Nat) (l : List Int) : Nat × PierVal × Nat :=
  (kV d, .put (guardMask 32 v.guard) (packLanes 16 (l.map (satN 16))), if anyClip 16 v.guard l then vaSat v.va else 0)

def vecWr (v : VaSlot) (f : VaF) (l : List Int) : Nat × PierVal × Nat := vecWrAt v f.d l

/-- VBFLY and VBFLYJ: the sum into V(d), the difference into V(d + 1). -/
def butterfly (v : VaSlot) (f : VaF) (a b : List Int) : List (Nat × PierVal × Nat) :=
  [vecWrAt v f.d ((zipLanes (· + ·) a b).map fun y => rnd f.rnd y f.sh),
   vecWrAt v (f.d + 1) ((zipLanes (· - ·) a b).map fun y => rnd f.rnd y f.sh)]

/-- A W register accumulates 64 lanes (R140). -/
def macWr (v : VaSlot) (f : VaF) (l : List Int) : Nat × PierVal × Nat := (kW f.d, .mac (guardMask 64 v.guard) l, vaSat v.va)

/-- A W register gets 64 lanes, saturated. -/
def accWr (v : VaSlot) (f : VaF) (l : List Int) : Nat × PierVal × Nat :=
  (kW f.d, .put (guardMask 64 v.guard) (packLanes 32 (l.map (satN 32))), if anyClip 32 v.guard l then vaSat v.va else 0)

/-- R185: the readout shift. -/
def readShift (x : Pier) (f : VaF) : Nat := if f.bs then x.reg (kS x.bank f.b) % 32 else f.sh

/-- Issues a VA operation. With a guard of zero it only takes its slot (R135, R175). -/
def State.vaOp (s : State) (p va op lat : Nat) (chk : Fin 3) (checked : Bool)
    (f : Pier → VaF → VaSlot → List (Nat × PierVal × Nat)) : State :=
  if !(s.pierReady p va op) then s
  else
    let x := s.pier p
    let q := vaF (slotWord (s.bundle p) va)
    let g := x.reg (kG x.bank q.g)
    let s := if g = 0 then s else s.bumpOnce (pgPier p) (3 + va)
    s.pierOp p va op lat chk checked true fun x _ => if g = 0 then [] else f x q ⟨va, g⟩

/-- A V register gets 1,024 bits. -/
def bitWrOf (g : Nat) (f : VaF) (v : Nat) : Nat × PierVal × Nat := (kV f.d, .put (guardMask 32 g) v, 0)

/-- VRDO: a V register gets 64 lanes, saturated; SAT bit 2 for either slot (R182). -/
def readWr (v : VaSlot) (f : VaF) (l : List Int) : Nat × PierVal × Nat :=
  (kV f.d, .put (guardMask 32 v.guard) (packLanes 16 (l.map (satN 16))), if anyClip 16 v.guard l then 4 else 0)

/-! ## VA operations -/

/-- VADD (R185). -/
def execPierVadd (p : Fin 64) (va : Fin 2) (chk : Fin 3) (s : State) : Host.Outcome State Fault Refusal :=
  .next (s.vaOp p.val va.val 0x1 2 chk true fun x f v => [vecWr v f (zipLanes (· + ·) (aLanes x f) (bLanes x f))])

/-- VSUB (R185). -/
def execPierVsub (p : Fin 64) (va : Fin 2) (chk : Fin 3) (s : State) : Host.Outcome State Fault Refusal :=
  .next (s.vaOp p.val va.val 0x2 2 chk true fun x f v => [vecWr v f (zipLanes (· - ·) (aLanes x f) (bLanes x f))])

/-- VNEG (R185). -/
def execPierVneg (p : Fin 64) (va : Fin 2) (chk : Fin 3) (s : State) : Host.Outcome State Fault Refusal :=
  .next (s.vaOp p.val va.val 0x3 2 chk true fun x f v => [vecWr v f ((aLanes x f).map (- ·))])

/-- VABS (R185). -/
def execPierVabs (p : Fin 64) (va : Fin 2) (chk : Fin 3) (s : State) : Host.Outcome State Fault Refusal :=
  .next (s.vaOp p.val va.val 0x4 2 chk true fun x f v => [vecWr v f ((aLanes x f).map fun a => (a.natAbs : Int))])

/-- VCONJ (R185). -/
def execPierVconj (p : Fin 64) (va : Fin 2) (chk : Fin 3) (s : State) : Host.Outcome State Fault Refusal :=
  .next (s.vaOp p.val va.val 0x5 2 chk true fun x f v => [vecWr v f (byElem (fun i q => (i, -q)) (aLanes x f))])

/-- VAND (R185). -/
def execPierVand (p : Fin 64) (va : Fin 2) (chk : Fin 3) (s : State) : Host.Outcome State Fault Refusal :=
  .next (s.vaOp p.val va.val 0x8 2 chk false fun x f v => [bitWrOf v.guard f (x.reg (kV f.a) &&& bVec x f)])

/-- VOR (R185). -/
def execPierVor (p : Fin 64) (va : Fin 2) (chk : Fin 3) (s : State) : Host.Outcome State Fault Refusal :=
  .next (s.vaOp p.val va.val 0x9 2 chk false fun x f v => [bitWrOf v.guard f (x.reg (kV f.a) ||| bVec x f)])

/-- VXOR (R185). -/
def execPierVxor (p : Fin 64) (va : Fin 2) (chk : Fin 3) (s : State) : Host.Outcome State Fault Refusal :=
  .next (s.vaOp p.val va.val 0xa 2 chk false fun x f v => [bitWrOf v.guard f (x.reg (kV f.a) ^^^ bVec x f)])

/-- VANDN (R185). -/
def execPierVandn (p : Fin 64) (va : Fin 2) (chk : Fin 3) (s : State) : Host.Outcome State Fault Refusal :=
  .next (s.vaOp p.val va.val 0xb 2 chk false fun x f v => [bitWrOf v.guard f (x.reg (kV f.a) - (x.reg (kV f.a) &&& bVec x f))])

/-- VSHL (R185). -/
def execPierVshl (p : Fin 64) (va : Fin 2) (chk : Fin 3) (s : State) : Host.Outcome State Fault Refusal :=
  .next (s.vaOp p.val va.val 0xc 2 chk false fun x f v => [vecWr v f ((aLanes x f).map (· * (2 ^ f.sh : Nat)))])

/-- VSRA (R185). -/
def execPierVsra (p : Fin 64) (va : Fin 2) (chk : Fin 3) (s : State) : Host.Outcome State Fault Refusal :=
  .next (s.vaOp p.val va.val 0xd 2 chk false fun x f v => [vecWr v f ((aLanes x f).map fun a => rnd f.rnd a f.sh)])

/-- VCLIP (R185). -/
def execPierVclip (p : Fin 64) (va : Fin 2) (chk : Fin 3) (s : State) : Host.Outcome State Fault Refusal :=
  .next (s.vaOp p.val va.val 0xe 2 chk false fun x f v =>
    [vecWr v f ((aLanes x f).map fun a => max (-(2 ^ f.sh : Nat)) (min ((2 ^ f.sh : Nat) - 1) a))])

/-- VBFLY (R185). -/
def execPierVbfly (p : Fin 64) (va : Fin 2) (chk : Fin 3) (s : State) : Host.Outcome State Fault Refusal :=
  .next (s.vaOp p.val va.val 0x10 2 chk true fun x f v => butterfly v f (aLanes x f) (bLanes x f))

/-- VBFLYJ (R185). -/
def execPierVbflyj (p : Fin 64) (va : Fin 2) (chk : Fin 3) (s : State) : Host.Outcome State Fault Refusal :=
  .next (s.vaOp p.val va.val 0x11 2 chk true fun x f v => butterfly v f (aLanes x f) (byElem (fun i q => (q, -i)) (bLanes x f)))

/-- VCMUL (R185). -/
def execPierVcmul (p : Fin 64) (va : Fin 2) (chk : Fin 3) (s : State) : Host.Outcome State Fault Refusal :=
  .next (s.vaOp p.val va.val 0x18 4 chk true fun x f v => [vecWr v f ((products x f).map fun a => rnd f.rnd a f.sh)])

/-- VRMUL (R185). -/
def execPierVrmul (p : Fin 64) (va : Fin 2) (chk : Fin 3) (s : State) : Host.Outcome State Fault Refusal :=
  .next (s.vaOp p.val va.val 0x19 4 chk true fun x f v =>
    [vecWr v f ((zipLanes (· * ·) (aLanes x f) (bLanes x f)).map fun a => rnd f.rnd a f.sh)])

/-- VCMAC (R140, R185, R186). -/
def execPierVcmac (p : Fin 64) (va : Fin 2) (chk : Fin 3) (s : State) : Host.Outcome State Fault Refusal :=
  .next (s.vaOp p.val va.val 0x20 5 chk true fun x f v => [macWr v f (products x f)])

/-- VCMACN (R140, R185, R186). -/
def execPierVcmacn (p : Fin 64) (va : Fin 2) (chk : Fin 3) (s : State) : Host.Outcome State Fault Refusal :=
  .next (s.vaOp p.val va.val 0x21 5 chk true fun x f v => [macWr v f ((products x f).map (- ·))])

/-- VCMACZ (R140, R185, R186). -/
def execPierVcmacz (p : Fin 64) (va : Fin 2) (chk : Fin 3) (s : State) : Host.Outcome State Fault Refusal :=
  .next (s.vaOp p.val va.val 0x22 5 chk true fun x f v => [accWr v f (products x f)])

/-- VRMAC (R140, R185, R186). -/
def execPierVrmac (p : Fin 64) (va : Fin 2) (chk : Fin 3) (s : State) : Host.Outcome State Fault Refusal :=
  .next (s.vaOp p.val va.val 0x23 5 chk true fun x f v => [macWr v f (zipLanes (· * ·) (aLanes x f) (bLanes x f))])

/-- VRMACZ (R140, R185, R186). -/
def execPierVrmacz (p : Fin 64) (va : Fin 2) (chk : Fin 3) (s : State) : Host.Outcome State Fault Refusal :=
  .next (s.vaOp p.val va.val 0x24 5 chk true fun x f v => [accWr v f (zipLanes (· * ·) (aLanes x f) (bLanes x f))])

/-- VRDO (R185). -/
def execPierVrdo (p : Fin 64) (va : Fin 2) (chk : Fin 3) (s : State) : Host.Outcome State Fault Refusal :=
  .next (s.vaOp p.val va.val 0x28 3 chk true fun x f v =>
    [readWr v f ((lanes 32 64 (x.reg (kW f.a))).map fun a => rnd f.rnd a (readShift x f))])

/-- VWSET (R185). -/
def execPierVwset (p : Fin 64) (va : Fin 2) (chk : Fin 3) (s : State) : Host.Outcome State Fault Refusal :=
  .next (s.vaOp p.val va.val 0x29 2 chk false fun x f v => [accWr v f ((aLanes x f).map (· * (2 ^ f.sh : Nat)))])

/-- VWADD (R185). -/
def execPierVwadd (p : Fin 64) (va : Fin 2) (chk : Fin 3) (s : State) : Host.Outcome State Fault Refusal :=
  .next (s.vaOp p.val va.val 0x2a 2 chk true fun x f v =>
    [accWr v f (zipLanes (· + ·) (lanes 32 64 (x.reg (kW f.a))) (lanes 32 64 (x.reg (kW f.b))))])

/-- VWSUB (R185). -/
def execPierVwsub (p : Fin 64) (va : Fin 2) (chk : Fin 3) (s : State) : Host.Outcome State Fault Refusal :=
  .next (s.vaOp p.val va.val 0x2b 2 chk true fun x f v =>
    [accWr v f (zipLanes (· - ·) (lanes 32 64 (x.reg (kW f.a))) (lanes 32 64 (x.reg (kW f.b))))])

/-! ## VP operands and results -/

/-- The 32 elements of a V register, as 32-bit words. -/
def elems (v : Nat) : List Nat := (List.range 32).map fun e => bits v (32 * e + 31) (32 * e)

/-- A V register from its elements. -/
def ofElems : List Nat → Nat
  | [] => 0
  | e :: l => e + 2 ^ 32 * ofElems l

/-- A VP operation's vector result under its guard. -/
def permWr (x : Pier) (f : VpF) (l : List Nat) : List (Nat × PierVal × Nat) :=
  let g := x.reg (kG x.bank f.g)
  if g = 0 then [] else [(kV f.d, .put (guardMask 32 g) (ofElems l), 0)]

/-- A VP operation's scalar result under guard bit 0. -/
def scalWr (x : Pier) (f : VpF) (v : Nat) : List (Nat × PierVal × Nat) :=
  if (x.reg (kG x.bank f.g)).testBit 0 then [(kS x.bank f.d, .put 0xFFFFFFFF v, 0)] else []

/-- A vector compare into a guard, bit by bit under the operation's guard (R183, R188). -/
def cmpWr (x : Pier) (f : VpF) (r : Int → Int → Bool) : List (Nat × PierVal × Nat) :=
  let g := x.reg (kG x.bank f.g)
  let v := compareBits r (lanes 16 64 (x.reg (kV f.a))) (lanes 16 64 (x.reg (kV f.b)))
  if g = 0 then [] else [(kG x.bank f.d, .put g v, 0)]

/-- R191: one step of the sequence registers. -/
def goldStep (a : Nat × Nat) : Nat × Nat :=
  (a.1 / 2 + ((bits a.1 3 3 + a.1) % 2) <<< 30, a.2 / 2 + ((bits a.2 3 3 + bits a.2 2 2 + bits a.2 1 1 + a.2) % 2) <<< 30)

def goldSteps : Nat → Nat × Nat → Nat × Nat
  | 0, a => a
  | n + 1, a => goldSteps n (goldStep a)

/-- `n` sequence bits, the first in bit 0. -/
def goldBits : Nat → Nat × Nat → Nat
  | 0, _ => 0
  | n + 1, a => (a.1 + a.2) % 2 + 2 * goldBits n (goldStep a)

/-- A sequence state as a vector. -/
def stateElems (a : Nat × Nat) : List Nat := [a.1, a.2] ++ List.replicate 30 0

/-- R189: the lanes that take part, with their numbers. -/
def taking (x : Pier) (f : VpF) : List (Int × Nat) :=
  let m := x.reg (kG x.bank f.c)
  let l := (lanes 16 64 (x.reg (kV f.a))).zipIdx
  if bits f.imm 16 16 = 1 then l.filter fun e => m.testBit (e.2 / 2)
  else (l.filter fun e => e.2 % 2 = 0 && m.testBit (e.2 / 2)).map fun e => (e.1, e.2 / 2)

/-- R189: VMAX and VMIN; `better v w` tells that v replaces w, `nobody` is the value when no lane takes part. -/
def search (x : Pier) (f : VpF) (better : Int → Int → Bool) (nobody : Nat) : Nat :=
  let best := (taking x f).foldl
    (fun (o : Option (Int × Nat)) e => match o with
      | some b => if better e.1 b.1 then some e else some b
      | none => some e) none
  let r := match best with
    | some b => ofInt 16 b.1 + ((f.imm % 2048 + b.2) % 2048) <<< 16
    | none => nobody + 2 ^ 31
  let p := x.reg (kS x.bank f.d)
  if bits f.imm 15 15 = 1 && !(p.testBit 31) && (best.isNone || !(better (toInt 16 r) (toInt 16 p))) then p else r

/-- R189: VBEXP and VBEXPW on lanes of `w` bits. -/
def blockExp (x : Pier) (f : VpF) (w v : Nat) : Nat :=
  let m := x.reg (kG x.bank f.c)
  let l := ((lanes w 64 v).zipIdx).filter fun e => m.testBit (e.2 / 2)
  let r := l.foldl (fun r e => min r (headroom w e.1)) (w - 1)
  if bits f.imm 15 15 = 1 then min r (x.reg (kS x.bank f.d) % 32) else r

/-! ## VP operations -/

/-- VPERM (R188). -/
def execPierVperm (p : Fin 64) (chk : Fin 3) (s : State) : Host.Outcome State Fault Refusal :=
  .next (s.pierOp p.val 2 0x1 3 chk false true fun x w =>
    let f := vpF w
    let src := elems (x.reg (kV f.a)) ++ elems (x.reg (kV f.b))
    permWr x f ((elems (x.reg (kV f.c))).map fun e => src.getD (e % 64) 0))

/-- VROT (R188). -/
def execPierVrot (p : Fin 64) (chk : Fin 3) (s : State) : Host.Outcome State Fault Refusal :=
  .next (s.pierOp p.val 2 0x2 3 chk false true fun x w =>
    let f := vpF w
    let a := elems (x.reg (kV f.a))
    permWr x f ((List.range 32).map fun e => a.getD ((e + f.imm) % 32) 0))

/-- VALIGN (R188). -/
def execPierValign (p : Fin 64) (chk : Fin 3) (s : State) : Host.Outcome State Fault Refusal :=
  .next (s.pierOp p.val 2 0x3 3 chk false true fun x w =>
    let f := vpF w
    let src := elems (x.reg (kV f.a)) ++ elems (x.reg (kV f.b))
    permWr x f ((List.range 32).map fun e => src.getD (e + f.imm) 0))

/-- VDEINT (R190). -/
def execPierVdeint (p : Fin 64) (chk : Fin 3) (s : State) : Host.Outcome State Fault Refusal :=
  .next (s.pierOp p.val 2 0x4 3 chk false true fun x w =>
    let f := vpF w
    let n := f.imm % 8
    let o := bits f.imm 6 4
    let src := x.reg (kV f.a) + x.reg (kV f.b) <<< 1024
    let w := if bits f.imm 16 16 = 1 then 16 else 32
    let d := (List.range (1024 / w)).foldl
      (fun d e => if n * e + o < 2048 / w then d + bits src (w * (n * e + o) + w - 1) (w * (n * e + o)) <<< (w * e) else d) 0
    permWr x f (elems d))

/-- VINTL (R188). -/
def execPierVintl (p : Fin 64) (chk : Fin 3) (s : State) : Host.Outcome State Fault Refusal :=
  .next (s.pierOp p.val 2 0x5 3 chk false true fun x w =>
    let f := vpF w
    let a := elems (x.reg (kV f.a))
    let b := elems (x.reg (kV f.b))
    permWr x f ((List.range 32).map fun e => (if e % 2 = 0 then a else b).getD (e / 2 + 16 * f.imm) 0))

/-- VBCAST (R188). -/
def execPierVbcast (p : Fin 64) (chk : Fin 3) (s : State) : Host.Outcome State Fault Refusal :=
  .next (s.pierOp p.val 2 0x6 3 chk false true fun x w =>
    let f := vpF w
    let v := if bits f.imm 16 16 = 1 then x.reg (kS x.bank f.b) else (elems (x.reg (kV f.a))).getD f.imm 0
    permWr x f (List.replicate 32 v))

/-- VEXT (R188). -/
def execPierVext (p : Fin 64) (chk : Fin 3) (s : State) : Host.Outcome State Fault Refusal :=
  .next (s.pierOp p.val 2 0x7 3 chk false true fun x w =>
    let f := vpF w
    scalWr x f ((elems (x.reg (kV f.a))).getD f.imm 0))

/-- VINS (R188). -/
def execPierVins (p : Fin 64) (chk : Fin 3) (s : State) : Host.Outcome State Fault Refusal :=
  .next (s.pierOp p.val 2 0x8 3 chk false true fun x w =>
    let f := vpF w
    permWr x f ((elems (x.reg (kV f.a))).set f.imm (x.reg (kS x.bank f.b))))

/-- VSIGN (R188). -/
def execPierVsign (p : Fin 64) (chk : Fin 3) (s : State) : Host.Outcome State Fault Refusal :=
  .next (s.pierOp p.val 2 0x9 3 chk false true fun x w =>
    let f := vpF w
    let b := x.reg (kV f.b)
    let l := ((lanes 16 64 (x.reg (kV f.a))).zipIdx).map fun e => if b.testBit (64 * f.imm + e.2) then satN 16 (-e.1) else e.1
    permWr x f (elems (packLanes 16 l)))

/-- VRAMP (R188). -/
def execPierVramp (p : Fin 64) (chk : Fin 3) (s : State) : Host.Outcome State Fault Refusal :=
  .next (s.pierOp p.val 2 0xa 3 chk false true fun x w =>
    let f := vpF w
    let a := x.reg (kS x.bank f.a) % 65536
    let st := f.imm % 65536
    if bits f.imm 16 16 = 1 then
      permWr x f ((List.range 32).map fun e => (a + 2 * e * st) % 65536 + ((a + (2 * e + 1) * st) % 65536) <<< 16)
    else permWr x f ((List.range 32).map fun e => (a + e * st) % 65536))

/-- VSEQI (R191). -/
def execPierVseqi (p : Fin 64) (chk : Fin 3) (s : State) : Host.Outcome State Fault Refusal :=
  .next (s.pierOp p.val 2 0x10 3 chk false true fun x w =>
    let f := vpF w
    permWr x f (stateElems (goldSteps 1600 (1, x.reg (kS x.bank f.b) % 2 ^ 31))))

/-- VSEQ (R191). -/
def execPierVseq (p : Fin 64) (chk : Fin 3) (s : State) : Host.Outcome State Fault Refusal :=
  .next (s.pierOp p.val 2 0x11 3 chk false true fun x w =>
    let f := vpF w
    let a := elems (x.reg (kV f.a))
    permWr x f (elems (goldBits 1024 (a.getD 0 0 % 2 ^ 31, a.getD 1 0 % 2 ^ 31))))

/-- VSEQA (R191). -/
def execPierVseqa (p : Fin 64) (chk : Fin 3) (s : State) : Host.Outcome State Fault Refusal :=
  .next (s.pierOp p.val 2 0x12 3 chk false true fun x w =>
    let f := vpF w
    let a := elems (x.reg (kV f.a))
    permWr x f (stateElems (goldSteps (f.imm % 2048) (a.getD 0 0 % 2 ^ 31, a.getD 1 0 % 2 ^ 31))))

/-- VMAX (R189). -/
def execPierVmax (p : Fin 64) (chk : Fin 3) (s : State) : Host.Outcome State Fault Refusal :=
  .next (s.pierOp p.val 2 0x18 4 chk false true fun x w =>
    let f := vpF w
    scalWr x f (search x f (fun v w => decide (w < v)) 0x8000))

/-- VMIN (R189). -/
def execPierVmin (p : Fin 64) (chk : Fin 3) (s : State) : Host.Outcome State Fault Refusal :=
  .next (s.pierOp p.val 2 0x19 4 chk false true fun x w =>
    let f := vpF w
    scalWr x f (search x f (fun v w => decide (v < w)) 0x7FFF))

/-- VBEXP (R189). -/
def execPierVbexp (p : Fin 64) (chk : Fin 3) (s : State) : Host.Outcome State Fault Refusal :=
  .next (s.pierOp p.val 2 0x1a 4 chk false true fun x w =>
    let f := vpF w
    scalWr x f (blockExp x f 16 (x.reg (kV f.a))))

/-- VBEXPW (R189). -/
def execPierVbexpw (p : Fin 64) (chk : Fin 3) (s : State) : Host.Outcome State Fault Refusal :=
  .next (s.pierOp p.val 2 0x1b 4 chk false true fun x w =>
    let f := vpF w
    scalWr x f (blockExp x f 32 (x.reg (kW f.a))))

/-- VCMPEQ (R188). -/
def execPierVcmpeq (p : Fin 64) (chk : Fin 3) (s : State) : Host.Outcome State Fault Refusal :=
  .next (s.pierOp p.val 2 0x20 2 chk false true fun x w =>
    let f := vpF w
    cmpWr x f fun a b => decide (a = b))

/-- VCMPLT (R188). -/
def execPierVcmplt (p : Fin 64) (chk : Fin 3) (s : State) : Host.Outcome State Fault Refusal :=
  .next (s.pierOp p.val 2 0x21 2 chk false true fun x w =>
    let f := vpF w
    cmpWr x f fun a b => decide (a < b))

/-- VCMPLE (R188). -/
def execPierVcmple (p : Fin 64) (chk : Fin 3) (s : State) : Host.Outcome State Fault Refusal :=
  .next (s.pierOp p.val 2 0x22 2 chk false true fun x w =>
    let f := vpF w
    cmpWr x f fun a b => decide (a ≤ b))

end Sys2Proof.Machine
end

