-- ==== Sys2Proof/Machine/PierMem.lean ====
section
/-! DEFINITION. The pier's memory slots LX and LY (R154–R159, R161, R192–R194). -/
namespace Sys2Proof.Machine

/-- The fields of an LX or LY operation with the bank it issues from. -/
structure LsB extends LsF where
  bank : Nat

/-- A register or an address that a memory operation writes. -/
def Pier.pendAt (x : Pier) (s : State) (lat slot key : Nat) (v : PierVal) : Pier :=
  x.pend ⟨s.uptime + s.deckK * lat, s.uptime, slot, key, v, 0⟩

/-- Raises a fault in the present cycle. -/
def Pier.trap (x : Pier) (now code : Nat) : Pier := { x with traps := x.traps ++ [⟨now, code, x.pc⟩] }

/-- R159, R389: the `n` units of a remote store, each delivered at the target's port in the cycle before it is visible. -/
def State.remoteStore (s : State) (due : Nat → Nat) (p a w v : Nat) (n : Nat) : State :=
  (List.range n).foldl (fun s j =>
    let m := min 64 (w - 64 * j)
    (s.blur p (a + 64 * j) m).schedule (due j) (pierUnit p) p 0 (.deliver (a + 64 * j) (bytesOf m (v / 2 ^ (512 * j))) false)) s

/-- Issues an LX or LY operation: `ld` gives the register and value of a load, `st` the data of a store. A guard bit of 0
keeps the access and the update away (R135). -/
def State.lsOp (s : State) (p bus op : Nat) (chk : Fin 3) (reads : Bool) (ld : LsB → Nat → Nat × PierVal)
    (st : Pier → LsF → Nat) : State :=
  if !(s.pierReady p (3 + bus) op) then s
  else
    let x := s.pier p
    let k := s.deckK
    let slot := 3 + bus
    let f := lsF (slotWord (s.bundle p) slot)
    let x1 := { x with issued := x.issued ++ [slot] }
    if !((x.reg (kG x.bank f.g)).testBit 0) then s.setPier p x1
    else
      let x1 := x1.check s.uptime k 1 chk false reads
      let w := lsWidth op
      let m := addrMode x f bus w
      let a := m.1
      let sys := pierSys p a
      let store := decide (8 ≤ op) && decide (op ≤ 0x0B)
      let pl := pierPlace bus a w store
      let bad := op ≠ 0x10 && (pl == .bad || a % w ≠ 0)
      let upd := fun (y : Pier) =>
        match m.2 with
        | none => y
        | some none => y.trap s.uptime Ev.ADDR
        | some (some v) => y.pendAt s 1 slot (if bus = 0 then kX x.bank f.a else kY x.bank f.a) (.put 0xFFFFFFFF v)
      if bad then s.setPier p (x1.trap s.uptime (if pl == .bad then Ev.ADDR else Ev.ALIGN))
      else if op = 0x10 then s.setPier p (upd x1)
      else
        let pg := pgPier p
        let s := s.bumpOnce pg (5 + bus)
        let s := if pl == .bay then s.bumpOnce pg 0x07 else if pl == .remote then s.bumpOnce pg 0x08 else s
        if pl == .remote then
          let s := s.setPier p (upd x1)
          let n := if w = 128 then 2 else 1
          let h := hops (bayRouter (p / 8) (p % 8 / 2)) (memRouter sys)
          if !(s.domOn (memDomain sys)) then s.deckEvent Ev.POWER_UNREADY sys (pierUnit p) x.ctx
          else if !(s.inFoot sys w) then s.deckEvent Ev.FOOTPRINT sys 0 x.ctx
          else s.remoteStore (fun j => s.uptime + k * (3 + h + j)) p sys w (st x f) n
        else
          let lat := if store then (if pl == .bay then 4 else 2) else if pl == .bay then 8 else 4
          let t := if pl == .pstat then (true, s) else s.takePort ⟨bankOf sys, s.uptime + 1, p, 0, slot, sys, 0⟩
          let s := t.2
          if store then
            let y := upd { x1 with last := max x1.last (s.uptime + k * lat) }
            let s := s.setPier p y
            if t.1 then s.schedule (s.uptime + k * lat) (pierUnit p) p 0 (.bytes sys (bytesOf w (st x f)) false) else s
          else
            let hit := eccHits s sys w
            let r := s.readMem p false sys w
            let v := ld ⟨f, x.bank⟩ (s.load sys w)
            let y := upd (if t.1 then x1.pendAt s lat slot v.1 v.2 else x1)
            let y := if 2 ≤ r.1 then { y with traps := y.traps ++ [⟨s.uptime + (lat - 1) * k, Ev.DM_ECC, x.pc⟩] } else y
            let s := r.2.setPier p y
            if hit.any fun e => e.2.kind = 1 then s.pierCorr p else s

/-- LDV (R192–R194). -/
def execPierLdv (p : Fin 64) (bus : Fin 2) (chk : Fin 3) (s : State) : Host.Outcome State Fault Refusal :=
  .next (s.lsOp p.val bus.val 0x1 chk false (fun f v => (kV f.r, .put (2 ^ 1024 - 1) v)) fun _ _ => 0)

/-- LDH (R192–R194). -/
def execPierLdh (p : Fin 64) (bus : Fin 2) (chk : Fin 3) (s : State) : Host.Outcome State Fault Refusal :=
  .next (s.lsOp p.val bus.val 0x2 chk false (fun f v => (kV f.r, .put (2 ^ 512 - 1) v)) fun _ _ => 0)

/-- LDS (R192–R194). -/
def execPierLds (p : Fin 64) (bus : Fin 2) (chk : Fin 3) (s : State) : Host.Outcome State Fault Refusal :=
  .next (s.lsOp p.val bus.val 0x3 chk false (fun f v => (kS f.bank f.r, .put 0xFFFFFFFF v)) fun _ _ => 0)

/-- LDE (R192–R194). -/
def execPierLde (p : Fin 64) (bus : Fin 2) (chk : Fin 3) (s : State) : Host.Outcome State Fault Refusal :=
  .next (s.lsOp p.val bus.val 0x4 chk false (fun f v => (kV f.r, .put (0xFFFFFFFF <<< (32 * f.e)) (v <<< (32 * f.e)))) fun _ _ => 0)

/-- LDB (R192–R194). -/
def execPierLdb (p : Fin 64) (bus : Fin 2) (chk : Fin 3) (s : State) : Host.Outcome State Fault Refusal :=
  .next (s.lsOp p.val bus.val 0x5 chk false (fun f v => (kV f.r, .put (2 ^ 1024 - 1) (broadcast v))) fun _ _ => 0)

/-- STV (R192–R194). -/
def execPierStv (p : Fin 64) (bus : Fin 2) (chk : Fin 3) (s : State) : Host.Outcome State Fault Refusal :=
  .next (s.lsOp p.val bus.val 0x8 chk true (fun _ _ => (0, .put 0 0)) fun x f => x.reg (kV f.r))

/-- STH (R192–R194). -/
def execPierSth (p : Fin 64) (bus : Fin 2) (chk : Fin 3) (s : State) : Host.Outcome State Fault Refusal :=
  .next (s.lsOp p.val bus.val 0x9 chk true (fun _ _ => (0, .put 0 0)) fun x f => x.reg (kV f.r) % 2 ^ 512)

/-- STS (R192–R194). -/
def execPierSts (p : Fin 64) (bus : Fin 2) (chk : Fin 3) (s : State) : Host.Outcome State Fault Refusal :=
  .next (s.lsOp p.val bus.val 0xa chk true (fun _ _ => (0, .put 0 0)) fun x f => x.reg (kS x.bank f.r))

/-- STE (R192–R194). -/
def execPierSte (p : Fin 64) (bus : Fin 2) (chk : Fin 3) (s : State) : Host.Outcome State Fault Refusal :=
  .next (s.lsOp p.val bus.val 0xb chk true (fun _ _ => (0, .put 0 0)) fun x f => (elems (x.reg (kV f.r))).getD f.e 0)

/-- AUPD (R192, R193). -/
def execPierAupd (p : Fin 64) (bus : Fin 2) (chk : Fin 3) (s : State) : Host.Outcome State Fault Refusal :=
  .next (s.lsOp p.val bus.val 0x10 chk false (fun _ _ => (0, .put 0 0)) fun _ _ => 0)

end Sys2Proof.Machine
end

