-- ==== Sys2Proof/Machine/PierScalar.lean ====
section
/-! DEFINITION. The pier's scalar and control slot SC (R147–R149, R195–R199). -/
namespace Sys2Proof.Machine

def sA (x : Pier) (f : ScF) : Nat := x.reg (kS x.bank f.a)
def sB (x : Pier) (f : ScF) : Nat := x.reg (kS x.bank f.b)
def iA (x : Pier) (f : ScF) : Int := toInt 32 (sA x f)
def iB (x : Pier) (f : ScF) : Int := toInt 32 (sB x f)
def gA (x : Pier) (f : ScF) : Nat := x.reg (kG x.bank f.a)

/-- Guard bit 0 lets an SC operation act (R183). -/
def guarded (x : Pier) (f : ScF) : Bool := (x.reg (kG x.bank f.g)).testBit 0

/-- The result goes to S(D), modulo 2³². -/
def sTo (x : Pier) (f : ScF) (v : Nat) : List (Nat × PierVal × Nat) :=
  if guarded x f then [(kS x.bank f.d, .put 0xFFFFFFFF (v % 2 ^ 32), 0)] else []

/-- ADDS and SUBS: the result clipped to the S32 range; SAT bit 3 when clipped. -/
def sSat (x : Pier) (f : ScF) (v : Int) : List (Nat × PierVal × Nat) :=
  if guarded x f then [(kS x.bank f.d, .put 0xFFFFFFFF (ofInt 32 (satN 32 v)), if clips 32 v then 8 else 0)] else []

/-- The result goes to G(D). -/
def gTo (x : Pier) (f : ScF) (v : Nat) : List (Nat × PierVal × Nat) :=
  if guarded x f then [(kG x.bank (f.d % 8), .put 0xFFFFFFFF v, 0)] else []

/-- Issues an SC operation. -/
def State.scOp (s : State) (p op lat : Nat) (chk : Fin 3) (checked reads : Bool)
    (f : Pier → ScF → List (Nat × PierVal × Nat)) : State :=
  s.pierOp p 5 op lat chk checked reads fun x w => f x (scF w)

/-- R197: the key of a register class and index, as a destination. -/
def classKey (bank c i : Nat) : Nat :=
  if c = 0 then kS bank i else if c = 1 then kX bank i else if c = 2 then kY bank i else if c = 3 then kN bank i
  else if c = 4 then kM bank i else if c = 5 then kG bank i else kC i

/-- R136, R197: what a source of MOVR reads as. -/
def State.classRead (s : State) (p : Nat) (x : Pier) (c i : Nat) : Nat :=
  if c = 7 then x.lc.getD i 0
  else if c = 6 then
    if i = 0 then s.spanOfs % 2 ^ 20 else if i = 1 then s.spanTag else if i = 7 then x.evret
    else if i = 9 then p + (p / 8) <<< 6 else x.reg (kC i)
  else x.reg (classKey x.bank c i)

/-- R167: MOVR reads a register file with parity only from class S. -/
def State.movrReads (s : State) (p : Nat) : Bool := (scF (slotWord (s.bundle p) 5)).acl = 0

/-- Issues a control transfer: whether it acts or not, two delay slots follow (R149, R199). -/
def State.transfer (s : State) (p op : Nat) (chk : Fin 3) (reads : Bool) (wr : Pier → ScF → List (Nat × PierVal × Nat))
    (j : Pier → ScF → PierJump) : State :=
  if !(s.pierReady p 5 op) then s
  else
    let s := s.scOp p op 1 chk false reads fun x f => if guarded x f then wr x f else []
    let x := s.pier p
    let f := scF (slotWord (s.bundle p) 5)
    let x := if guarded x f && reads then x.check s.uptime s.deckK 1 chk false true else x
    s.setPier p { x with turn := true, jump := if guarded x f then j x f else .stay }

/-- ADD (R196). -/
def execPierAdd (p : Fin 64) (chk : Fin 3) (s : State) : Host.Outcome State Fault Refusal :=
  .next (s.scOp p.val 0x1 1 chk true true fun x f => sTo x f (sA x f + sB x f))

/-- SUB (R196). -/
def execPierSub (p : Fin 64) (chk : Fin 3) (s : State) : Host.Outcome State Fault Refusal :=
  .next (s.scOp p.val 0x2 1 chk true true fun x f => sTo x f (2 ^ 32 + sA x f - sB x f))

/-- ADDS (R196). -/
def execPierAdds (p : Fin 64) (chk : Fin 3) (s : State) : Host.Outcome State Fault Refusal :=
  .next (s.scOp p.val 0x3 1 chk true true fun x f => sSat x f (iA x f + iB x f))

/-- SUBS (R196). -/
def execPierSubs (p : Fin 64) (chk : Fin 3) (s : State) : Host.Outcome State Fault Refusal :=
  .next (s.scOp p.val 0x4 1 chk true true fun x f => sSat x f (iA x f - iB x f))

/-- AND (R196). -/
def execPierAnd (p : Fin 64) (chk : Fin 3) (s : State) : Host.Outcome State Fault Refusal :=
  .next (s.scOp p.val 0x5 1 chk false true fun x f => sTo x f (sA x f &&& sB x f))

/-- OR (R196). -/
def execPierOr (p : Fin 64) (chk : Fin 3) (s : State) : Host.Outcome State Fault Refusal :=
  .next (s.scOp p.val 0x6 1 chk false true fun x f => sTo x f (sA x f ||| sB x f))

/-- XOR (R196). -/
def execPierXor (p : Fin 64) (chk : Fin 3) (s : State) : Host.Outcome State Fault Refusal :=
  .next (s.scOp p.val 0x7 1 chk false true fun x f => sTo x f (sA x f ^^^ sB x f))

/-- ANDN (R196). -/
def execPierAndn (p : Fin 64) (chk : Fin 3) (s : State) : Host.Outcome State Fault Refusal :=
  .next (s.scOp p.val 0x8 1 chk false true fun x f => sTo x f (sA x f - (sA x f &&& sB x f)))

/-- SHL (R196). -/
def execPierShl (p : Fin 64) (chk : Fin 3) (s : State) : Host.Outcome State Fault Refusal :=
  .next (s.scOp p.val 0x9 1 chk false true fun x f => sTo x f (sA x f <<< (sB x f % 32)))

/-- SHRL (R196). -/
def execPierShrl (p : Fin 64) (chk : Fin 3) (s : State) : Host.Outcome State Fault Refusal :=
  .next (s.scOp p.val 0xa 1 chk false true fun x f => sTo x f (sA x f >>> (sB x f % 32)))

/-- SHRA (R196). -/
def execPierShra (p : Fin 64) (chk : Fin 3) (s : State) : Host.Outcome State Fault Refusal :=
  .next (s.scOp p.val 0xb 1 chk false true fun x f => sTo x f (ofInt 32 (iA x f / (2 ^ (sB x f % 32) : Nat))))

/-- MIN (R196). -/
def execPierMin (p : Fin 64) (chk : Fin 3) (s : State) : Host.Outcome State Fault Refusal :=
  .next (s.scOp p.val 0xc 1 chk false true fun x f => sTo x f (ofInt 32 (min (iA x f) (iB x f))))

/-- MAX (R196). -/
def execPierMax (p : Fin 64) (chk : Fin 3) (s : State) : Host.Outcome State Fault Refusal :=
  .next (s.scOp p.val 0xd 1 chk false true fun x f => sTo x f (ofInt 32 (max (iA x f) (iB x f))))

/-- MINU (R196). -/
def execPierMinu (p : Fin 64) (chk : Fin 3) (s : State) : Host.Outcome State Fault Refusal :=
  .next (s.scOp p.val 0xe 1 chk false true fun x f => sTo x f (min (sA x f) (sB x f)))

/-- MAXU (R196). -/
def execPierMaxu (p : Fin 64) (chk : Fin 3) (s : State) : Host.Outcome State Fault Refusal :=
  .next (s.scOp p.val 0xf 1 chk false true fun x f => sTo x f (max (sA x f) (sB x f)))

/-- CLZ (R196). -/
def execPierClz (p : Fin 64) (chk : Fin 3) (s : State) : Host.Outcome State Fault Refusal :=
  .next (s.scOp p.val 0x10 1 chk false true fun x f => sTo x f (if sA x f = 0 then 32 else 31 - (sA x f).log2))

/-- ADDI (R196). -/
def execPierAddi (p : Fin 64) (chk : Fin 3) (s : State) : Host.Outcome State Fault Refusal :=
  .next (s.scOp p.val 0x18 1 chk true true fun x f => sTo x f (ofInt 32 (iA x f + toInt 16 f.imm)))

/-- ANDI (R196). -/
def execPierAndi (p : Fin 64) (chk : Fin 3) (s : State) : Host.Outcome State Fault Refusal :=
  .next (s.scOp p.val 0x19 1 chk false true fun x f => sTo x f (sA x f &&& f.imm))

/-- ORI (R196). -/
def execPierOri (p : Fin 64) (chk : Fin 3) (s : State) : Host.Outcome State Fault Refusal :=
  .next (s.scOp p.val 0x1a 1 chk false true fun x f => sTo x f (sA x f ||| f.imm))

/-- SHLI (R196). -/
def execPierShli (p : Fin 64) (chk : Fin 3) (s : State) : Host.Outcome State Fault Refusal :=
  .next (s.scOp p.val 0x1b 1 chk false true fun x f => sTo x f (sA x f <<< (f.imm % 32)))

/-- SHRLI (R196). -/
def execPierShrli (p : Fin 64) (chk : Fin 3) (s : State) : Host.Outcome State Fault Refusal :=
  .next (s.scOp p.val 0x1c 1 chk false true fun x f => sTo x f (sA x f >>> (f.imm % 32)))

/-- SHRAI (R196). -/
def execPierShrai (p : Fin 64) (chk : Fin 3) (s : State) : Host.Outcome State Fault Refusal :=
  .next (s.scOp p.val 0x1d 1 chk false true fun x f => sTo x f (ofInt 32 (iA x f / (2 ^ (f.imm % 32) : Nat))))

/-- MOVI (R196). -/
def execPierMovi (p : Fin 64) (chk : Fin 3) (s : State) : Host.Outcome State Fault Refusal :=
  .next (s.scOp p.val 0x1e 1 chk false false fun x f => sTo x f (ofInt 32 (toInt 16 f.imm)))

/-- MOVIH (R196). -/
def execPierMovih (p : Fin 64) (chk : Fin 3) (s : State) : Host.Outcome State Fault Refusal :=
  .next (s.scOp p.val 0x1f 1 chk false true fun x f => sTo x f (f.imm <<< 16 + x.reg (kS x.bank f.d) % 65536))

/-- CMPEQ (R196). -/
def execPierCmpeq (p : Fin 64) (chk : Fin 3) (s : State) : Host.Outcome State Fault Refusal :=
  .next (s.scOp p.val 0x20 1 chk false true fun x f => gTo x f (guardOf (sA x f == sB x f)))

/-- CMPNE (R196). -/
def execPierCmpne (p : Fin 64) (chk : Fin 3) (s : State) : Host.Outcome State Fault Refusal :=
  .next (s.scOp p.val 0x21 1 chk false true fun x f => gTo x f (guardOf (sA x f != sB x f)))

/-- CMPLT (R196). -/
def execPierCmplt (p : Fin 64) (chk : Fin 3) (s : State) : Host.Outcome State Fault Refusal :=
  .next (s.scOp p.val 0x22 1 chk false true fun x f => gTo x f (guardOf (decide (iA x f < iB x f))))

/-- CMPGE (R196). -/
def execPierCmpge (p : Fin 64) (chk : Fin 3) (s : State) : Host.Outcome State Fault Refusal :=
  .next (s.scOp p.val 0x23 1 chk false true fun x f => gTo x f (guardOf (decide (iB x f ≤ iA x f))))

/-- CMPLTU (R196). -/
def execPierCmpltu (p : Fin 64) (chk : Fin 3) (s : State) : Host.Outcome State Fault Refusal :=
  .next (s.scOp p.val 0x24 1 chk false true fun x f => gTo x f (guardOf (decide (sA x f < sB x f))))

/-- CMPGEU (R196). -/
def execPierCmpgeu (p : Fin 64) (chk : Fin 3) (s : State) : Host.Outcome State Fault Refusal :=
  .next (s.scOp p.val 0x25 1 chk false true fun x f => gTo x f (guardOf (decide (sB x f ≤ sA x f))))

/-- CMPEQI (R196). -/
def execPierCmpeqi (p : Fin 64) (chk : Fin 3) (s : State) : Host.Outcome State Fault Refusal :=
  .next (s.scOp p.val 0x28 1 chk false true fun x f => gTo x f (guardOf (decide (iA x f = toInt 16 f.imm))))

/-- CMPLTI (R196). -/
def execPierCmplti (p : Fin 64) (chk : Fin 3) (s : State) : Host.Outcome State Fault Refusal :=
  .next (s.scOp p.val 0x29 1 chk false true fun x f => gTo x f (guardOf (decide (iA x f < toInt 16 f.imm))))

/-- GAND (R196). -/
def execPierGand (p : Fin 64) (chk : Fin 3) (s : State) : Host.Outcome State Fault Refusal :=
  .next (s.scOp p.val 0x2c 1 chk false false fun x f => gTo x f (gA x f &&& x.reg (kG x.bank f.b)))

/-- GOR (R196). -/
def execPierGor (p : Fin 64) (chk : Fin 3) (s : State) : Host.Outcome State Fault Refusal :=
  .next (s.scOp p.val 0x2d 1 chk false false fun x f => gTo x f (gA x f ||| x.reg (kG x.bank f.b)))

/-- GNOT (R196). -/
def execPierGnot (p : Fin 64) (chk : Fin 3) (s : State) : Host.Outcome State Fault Refusal :=
  .next (s.scOp p.val 0x2e 1 chk false false fun x f => gTo x f (0xFFFFFFFF - gA x f))

/-- MUL (R196). -/
def execPierMul (p : Fin 64) (chk : Fin 3) (s : State) : Host.Outcome State Fault Refusal :=
  .next (s.scOp p.val 0x30 3 chk true true fun x f => sTo x f (sA x f * sB x f))

/-- MULHS (R196). -/
def execPierMulhs (p : Fin 64) (chk : Fin 3) (s : State) : Host.Outcome State Fault Refusal :=
  .next (s.scOp p.val 0x31 3 chk true true fun x f => sTo x f (ofInt 32 (iA x f * iB x f / (2 ^ 32 : Nat))))

/-- MULHU (R196). -/
def execPierMulhu (p : Fin 64) (chk : Fin 3) (s : State) : Host.Outcome State Fault Refusal :=
  .next (s.scOp p.val 0x32 3 chk true true fun x f => sTo x f (sA x f * sB x f / 2 ^ 32))

/-- MOVR (R197). -/
def execPierMovr (p : Fin 64) (chk : Fin 3) (s : State) : Host.Outcome State Fault Refusal :=
  .next (s.scOp p.val 0x38 1 chk false (s.movrReads p.val) fun x f =>
    if guarded x f then [(classKey x.bank f.dcl f.d, .put 0xFFFFFFFF (s.classRead p.val x f.acl f.a), 0)] else [])

/-- BR (R149, R183, R196). -/
def execPierBr (p : Fin 64) (chk : Fin 3) (s : State) : Host.Outcome State Fault Refusal :=
  .next (s.transfer p.val 0xc0 chk false (fun _ _ => []) fun _ f => .to (f.tgt % 4096 * 32))

/-- BRL (R149, R183, R196). -/
def execPierBrl (p : Fin 64) (chk : Fin 3) (s : State) : Host.Outcome State Fault Refusal :=
  .next (s.transfer p.val 0xc1 chk false (fun x f => [(kS x.bank f.d, .put 0xFFFFFFFF (x.pc + 96), 0)]) fun _ f => .to (f.tgt % 4096 * 32))

/-- BRR (R149, R183, R196). -/
def execPierBrr (p : Fin 64) (chk : Fin 3) (s : State) : Host.Outcome State Fault Refusal :=
  .next (s.transfer p.val 0xc2 chk true (fun _ _ => []) fun x f => .to (bits (x.reg (kS x.bank f.a)) 16 5 * 32))

/-- RTE (R149, R165, R199). -/
def execPierRte (p : Fin 64) (chk : Fin 3) (s : State) : Host.Outcome State Fault Refusal :=
  .next (s.transfer p.val 0xc8 chk false (fun _ _ => []) fun _ _ => .rte)

/-- END (R149, R152, R199). -/
def execPierEnd (p : Fin 64) (chk : Fin 3) (s : State) : Host.Outcome State Fault Refusal :=
  .next (s.transfer p.val 0xc9 chk false (fun _ _ => []) fun _ _ => .fin)

/-- REP (R147, R198): the loop is set up when the bundle's cycle ends. -/
def execPierRep (p : Fin 64) (chk : Fin 3) (s : State) : Host.Outcome State Fault Refusal :=
  .next (
    if !(s.pierReady p.val 5 0xE0) then s
    else
      let x := s.pier p.val
      let f := scF (slotWord (s.bundle p.val) 5)
      let n := if f.cs then x.reg (kS x.bank (f.count % 32)) % 65536 else f.count
      let x := { x with issued := x.issued ++ [5], rep := some (f.lvl, n, f.fin * 32) }
      s.setPier p.val (x.check s.uptime s.deckK 1 chk false f.cs))

end Sys2Proof.Machine
end

