-- ==== Sys2Proof/Machine/Engine.lean ====
section
/-! DEFINITION. What all engines share (R99, R201–R209, R237–R241): descriptors, issue, chaining, items, faults; and bits and
CRCs (R242–R246). -/
namespace Sys2Proof.Machine

/-! ## Descriptors -/

/-- Word `i` of a descriptor. -/
def dw (w : List Nat) (i : Nat) : Nat := w.getD i 0

/-- Bits of word `i`. -/
def df (w : List Nat) (i hi lo : Nat) : Nat := bits (dw w i) hi lo

/-- The system address of a 32-bit deck address (R202). -/
def deckOf (a : Nat) : Nat := pierBase + a

/-- R202: a table, descriptor or status address lies in the engine buffers. -/
def tabOk (a : Nat) : Bool := a % 64 = 0 && decide (0x0A000000 ≤ a) && decide (a < 0x0D000000)

/-- R202: a data buffer lies in bay shared memory or the engine buffers. -/
def bufOk (a : Nat) : Bool := a % 64 = 0 && decide (0x02000000 ≤ a) && decide (a < 0x0D000000)

/-- Words that must be zero. -/
def zeros (w : List Nat) (l : List Nat) : Bool := l.all fun i => dw w i = 0

/-- The masks of reserved bits of words that must be zero. -/
def rsvOk (w : List Nat) (l : List (Nat × Nat)) : Bool := l.all fun e => dw w e.1 &&& e.2 = 0

/-- R203, R207: the words common to all families. -/
def commonOk (w : List Nat) : Bool :=
  rsvOk w [(0, 0x00FFFFFE)] && (if dw w 0 % 2 = 1 then tabOk (dw w 1) else dw w 1 = 0) && tabOk (dw w 2)

def inRange (lo hi v : Nat) : Bool := decide (lo ≤ v) && decide (v ≤ hi)

/-! ## Latencies (R99): latency and occupancy in cy, from a descriptor and K -/

/-- Units of 64 bytes of an FFT transform. -/
def fftP (w : List Nat) : Nat := ceilDiv (df w 4 15 0) 16

/-- R99, R221: the cycles of one item of a matrix batch. -/
def meItem (w : List Nat) : Nat :=
  let m := df w 5 6 0
  let n := df w 5 14 8
  let k := df w 5 22 16
  let op := df w 0 31 24
  if op = 1 then ceilDiv (m * n * k) 512 else if op = 2 then ceilDiv (k * n * n) 512
  else 8 * n + ceilDiv (4 * n ^ 3 + 8 * n * n * k) 512

/-- The rows of R99: latency and occupancy, in c. -/
def engCycles (k : EngKind) (w : List Nat) : Nat × Nat :=
  let op := df w 0 31 24
  match k with
  | .fe => let b := df w 4 22 16; (96 + (b + 1) * fftP w, b * fftP w + 8)
  | .me =>
    if op = 4 then
      let x := ceilDiv (dw w 9 * df w 5 22 16 * df w 5 6 0) 512
      (32 + x, x)
    else
      let x := df w 4 24 16 * meItem w
      (if op = 3 then 64 + x else 48 + x, x)
  | .ad =>
    let mode := df w 4 3 0
    let lra := if mode = 4 then 4096 else if mode = 5 then 8 * df w 5 15 0 else df w 5 15 0 * df w 5 31 16
    let x := ceilDiv (df w 4 14 8) 4 * (ceilDiv (df w 4 22 16 * lra) 64 + 32)
    (128 + x, x)
  | .ld =>
    let zc := df w 4 8 0
    let x := df w 5 27 16 * (df w 5 5 0 * ceilDiv zc 24 + 4)
    (80 + x + ceilDiv ((if df w 4 9 9 = 0 then 22 else 10) * zc) 512, x)
  | .le =>
    let zc := df w 4 8 0
    let x := ceilDiv ((if df w 4 15 15 = 0 then 22 else 10) * zc) 512 + 7 * df w 4 14 9
    (40 + x, x)
  | .pe =>
    let n := df w 4 31 28
    let x := if op = 1 then ceilDiv (2 ^ n) 64 else (if df w 4 27 25 = 4 then 2 else 1) * ceilDiv (2 ^ n * n) 64
    (if op = 1 then 16 + x else 48 + x, x)
  | .td =>
    let kb := df w 4 12 0
    let x := df w 4 20 16 * (ceilDiv kb 16 + 32)
    (64 + x + ceilDiv kb 512, x)
  | .vd =>
    let x := ceilDiv ((df w 4 13 0 + (if df w 4 23 23 = 1 then 128 else 0)) * 2 ^ (df w 4 31 28 - 1)) 16
    (32 + x, x)
  | .xc =>
    let x := ceilDiv (df w 4 25 16) 96 * ceilDiv (df w 4 15 0) 2
    (64 + x, x)
  | .nb =>
    let x := if op = 2 then 148 else if df w 4 25 25 = 1 then 296 else 148 * ceilDiv (df w 4 6 0) 4
    (96 + x, x)
  | .hq => (0, 0)

/-- R265: bits of a bit buffer. -/
def hqNb (w : List Nat) : Nat := if df w 4 31 30 = 2 then 3 * (df w 4 12 0 + 4) else df w 5 31 16

/-- R267: the units of a HARQ buffer with its header. -/
def hqUnits (w : List Nat) (bitBuf : Bool) : Nat :=
  1 + (if bitBuf then ceilDiv (hqNb w) 512 else ceilDiv (df w 5 31 16) 64)

/-- R99, R267: latency and occupancy in cy. -/
def engTiming (k : EngKind) (w : List Nat) (K : Nat) : Nat × Nat :=
  match k with
  | .hq =>
    let op := df w 0 31 24
    if op = 3 then
      let n := hqUnits w (df w 4 20 20 = 1)
      (176 + K * ceilDiv n (4 * K), K * ceilDiv n (4 * K))
    else
      let nu := df w 7 15 0
      (bmLatency K nu + K * (24 + ceilDiv nu 2), K * ceilDiv nu 2)
  | _ => let c := engCycles k w; (K * c.1, K * c.2)

/-! ## Pages and events -/

/-- The page of an engine unit. -/
def engPage (u : Nat) : Nat := (unitPage u).getD pgDeck

/-- The Truss SOURCE of an engine unit (R383). -/
def unitSource (u : Nat) : Nat :=
  match classEng (u / 256) with
  | some k => engSource k (u % 256)
  | none => 238

/-- An event of an engine (R237, R275, R307): the span offset of the issue, and the item. -/
def State.engEvent (s : State) (u low ctx ofs item : Nat) : State :=
  s.event (engPage u) (u / 256 * 256 + low) ctx ofs ((item % 65536) <<< 16)

/-- Reads `n` bytes for an engine: whether an uncorrectable or poisoned word was met, and the events of the read; corrected
errors count in ENG_ERRS (R236). -/
def State.engRead (s : State) (u a n : Nat) : Bool × State :=
  let corr := (eccHits s a n).filter fun e => e.2.kind = 1
  let s := s.bump (engPage u) 0x06 (ceilDiv n 64)
  let r := s.readMem (unitSource u) false a n
  let s := if corr.isEmpty then r.2 else (r.2.satAdd (engPage u) Rg.ENG_ERRS_ECC_CORR corr.length).engEvent u Ev.ENG_ECC_CORR 0 0 0
  (decide (2 ≤ r.1), s)

/-- Reads several ranges. -/
def State.engReads (s : State) (u : Nat) (l : List (Nat × Nat)) : Bool × State :=
  l.foldl (fun r e => let q := r.2.engRead u e.1 e.2; (r.1 || q.1, q.2)) (false, s)

/-- ENG_STAT.BUSY and DYN (R239). -/
def State.showEng (s : State) (u : Nat) : State :=
  let l := s.en.runs.filter fun r => r.job.unit = u
  let s := s.put (engPage u) Rg.ENG_STAT_BUSY (if l.isEmpty then 0 else 1)
  s.put (engPage u) Rg.ENG_STAT_DYN (if l.any (·.dyn) then 1 else 0)

/-! ## Issue -/

/-- An operation as its family's meaning gets it. -/
structure EngIn where
  x : Issue
  dyn : Bool
  w : List Nat
  k : Nat
  lat : Nat
  occ : Nat

/-- What a family's meaning answers: its items, QUAL and words 4–15 of the status record, and the state with its outputs
scheduled. -/
structure EngOut where
  items : List EngItem
  qual : Nat
  words : List Nat
  s : State

/-- The uptime of completion. -/
def EngIn.fin (e : EngIn) (s : State) : Nat := s.uptime + e.lat

/-- Bytes that the operation makes visible at uptime `due`. -/
def State.engLand (s : State) (e : EngIn) (due a : Nat) (data : List Nat) : State :=
  (s.bump (engPage e.x.unit) 0x07 (ceilDiv data.length 64)).land due e.x.unit (unitSource e.x.unit) 0 a data

/-- One item that completes with the operation. -/
def EngIn.one (e : EngIn) (s : State) (codes : List Nat) (info qual det : Nat) (mark : Bool) : EngItem :=
  ⟨s.uptime + e.lat, codes, info, qual, det, 1, mark, false⟩

/-- R206: the first four words of a status record. -/
def statusHead (state tag user qual code ofs : Nat) : List Nat :=
  bytesOf 4 (state <<< 28 + tag % 65536) ++ bytesOf 4 user ++ bytesOf 4 ((qual % 65536) <<< 16 + code % 65536)
    ++ bytesOf 4 (ofs % 2 ^ 20)

/-- A whole status record. -/
def statusBytes (state tag user qual code ofs : Nat) (words : List Nat) : List Nat :=
  statusHead state tag user qual code ofs ++ (List.range 12).flatMap fun i => bytesOf 4 (words.getD i 0)

/-- Runs the descriptor of an issue (R201–R207): a fenced unit only gets its status record; a bad descriptor DESC_INVALID. -/
def State.engRun (s : State) (kind : EngKind) (dyn : Bool) (x : Issue) (ok : List Nat → State → Bool)
    (f : EngIn → State → EngOut) : State :=
  let u := x.unit
  let pg := engPage u
  let k := s.deckK
  let w := s.descWords x.arg
  let good := x.arg % 64 = 0 && decide (sliceBase ≤ x.arg) && decide (x.arg < sliceEnd) && commonOk w && ok w s
  let t := if good then engTiming kind w k else (5 * k, 4 * k)
  let st := deckOf (dw w 2)
  let ofs := (s.spanOfs + (if good then t.1 else 4 * k)) % spanCy
  if x.fenced then
    if tabOk (dw w 2) then
      s.schedule (s.uptime + t.1) u (unitSource u) 0 (.bytes st (statusHead 3 s.spanTag (dw w 3) 0 0x101F ofs) false)
    else s
  else
    let s := (s.engRead u x.arg 64).2
    let s := if dyn then s.bump pg 0x03 else
      ((s.put pg Rg.ENG_STAT_TAG s.spanTag).put pg Rg.ENG_LAST_OFS s.spanOfs).bump pg 0x02
    let s := s.put pg Rg.ENG_LAST_DESC (x.arg % 2 ^ 32)
    let s := if dyn then s else s.addJob x 2 t.2 t.1
    if good then
      let o := f ⟨x, dyn, w, k, t.1, t.2⟩ s
      let j : Job := ⟨u, 2, x.step, x.repl, x.replay, x.arg, x.ctx, s.uptime, s.uptime + t.2, s.uptime + t.1⟩
      let next := if dw w 0 % 2 = 1 && !dyn then some (deckOf (dw w 1)) else none
      let r : EngRun := ⟨j, dyn, st, dw w 3, s.spanTag, next, o.items, 0, o.qual, o.words⟩
      ({ o.s with en := { o.s.en with runs := o.s.en.runs ++ [r] } }).showEng u
    else
      let s := ((s.satAdd pg Rg.ENG_ERRS_DESC).engEvent u Ev.ENG_DESC_INVALID x.ctx s.spanOfs 0).put pg Rg.ENG_STAT_LAST_STATE 4
      if dyn then
        let j : Job := ⟨u, 2, x.step, x.repl, x.replay, x.arg, x.ctx, s.uptime, s.uptime + 4 * k, s.uptime + 5 * k⟩
        let r : EngRun := ⟨j, true, st, dw w 3, s.spanTag, none, [], u / 256 * 256 + Ev.ENG_DESC_INVALID, 0, []⟩
        ({ s with en := { s.en with runs := s.en.runs ++ [r] } }).showEng u
      else if tabOk (dw w 2) then
        s.schedule (s.uptime + 5 * k) u (unitSource u) 0
          (.deliver st (statusBytes 4 s.spanTag (dw w 3) 0 (u / 256 * 256 + Ev.ENG_DESC_INVALID) ofs []) false)
      else s

/-- The successor that a unit issues now (R204): its descriptor address, the job that began the chain, and the runs with the
chain taken. -/
def State.chainDue (s : State) (u : Nat) : Option (Nat × Job × State) :=
  match s.en.runs.find? fun r => r.job.unit = u && r.next.isSome && r.job.free = s.uptime with
  | some r =>
    match r.next with
    | some a => some (a, r.job, { s with en := { s.en with
        runs := s.en.runs.map fun q => if q = r then { q with next := none } else q } })
    | none => none
  | none => none

/-- Issues an operation of an engine family (R201, R204). `mine` tells which descriptors are of this row; a command that is
not due, or whose descriptor is another row's, has no effect. -/
def State.engIssue (s : State) (b : IssueBy) (kind : EngKind) (mine : List Nat → Bool) (ok : List Nat → State → Bool)
    (f : EngIn → State → EngOut) : State :=
  match b with
  | .table r i =>
    match s.entryDue r i with
    | some (e, _) =>
      if classEng (e.unit / 256) = some kind && mine (s.descWords e.arg) then
        s.issueSlot 2 r i fun x s => s.engRun kind false x ok f
      else s
    | none => s
  | .chain u =>
    match s.chainDue u with
    | some (a, j, s') =>
      let x : Issue := ⟨u, a, j.ctx, j.step, j.repl, j.replay, s.fenced u⟩
      if classEng (u / 256) ≠ some kind ∨ mine (s.descWords a) = false then s
      else if s.dk.run.isNone then s'
      else if s.occupied u then s'.deckEvent Ev.COLL_UNIT s.spanOfs u j.ctx
      else if !(s.domOn (unitDomain u)) then s'.deckEvent Ev.POWER_UNREADY 0 u j.ctx
      else s'.engRun kind false x ok f
    | none => s
  | .lent u a c =>
    let open_ := s.dk.lent.any fun l => l.1 = u && decide (l.2.1 ≤ s.uptime) && decide (s.uptime < l.2.2)
    let placed := s.tr.jobs.any fun j => j.unit = u
    if classEng (u / 256) = some kind && mine (s.descWords a) && open_ && placed && s.domOn (unitDomain u)
        && !(s.en.runs.any fun r => r.job.unit = u && r.dyn) then
      s.engRun kind true ⟨u, a, c, 0, false, false, false⟩ ok f
    else s

/-! ## Items and completion -/

/-- A checked fault of an operation: its event, ENG_FAULTS, and the report to the deck at the present span offset (R208). -/
def State.engFault (s : State) (r : EngRun) (low item : Nat) : EngRun × State :=
  let u := r.job.unit
  let s := ((s.satAdd (engPage u) Rg.ENG_FAULTS_FAULT).bump (engPage u) 0x09).engEvent u low r.job.ctx (s.ofsAt r.job.issue) item
  let s := if r.dyn then s else s.jobFault r.job s.spanOfs
  ({ r with code := if r.code = 0 then u / 256 * 256 + low else r.code }, s)

/-- An item completes: `upset` adds the low byte of a fault that the hardware meets in it (0: none). -/
def State.judgeItem (s : State) (r : EngRun) (i : Nat) (upset : Nat) : EngRun × State :=
  match r.items[i]? with
  | none => (r, s)
  | some it =>
    if it.done then (r, s)
    else
      let u := r.job.unit
      let pg := engPage u
      let s := (s.satAdd pg Rg.ENG_ACT_ITEMS it.count).bump pg 0x05
      let s := if it.det = 0 then s else s.satAdd pg Rg.ENG_ACT_DET it.det
      let s := if it.qual = 0 then s else s.satAdd pg Rg.ENG_FAULTS_QUAL it.qual
      let s := if it.mark then s.bump pg 0x08 else s
      let s := if it.info = 0 then s else s.engEvent u it.info r.job.ctx (s.ofsAt r.job.issue) i
      let r := { r with items := r.items.set i { it with done := true } }
      (it.codes ++ (if upset = 0 then [] else [upset])).foldl (fun q c => q.2.engFault q.1 c i) (r, s)

/-- Judges every item not yet judged. -/
def State.judgeAll (s : State) (r : EngRun) : EngRun × State :=
  (List.range r.items.length).foldl (fun q i => q.2.judgeItem q.1 i 0) (r, s)

/-- Replaces the run `r` by `q`. -/
def State.setRun (s : State) (r q : EngRun) : State :=
  { s with en := { s.en with runs := s.en.runs.map fun x => if x = r then q else x } }

/-- The completion of item `i` of the oldest operation of a unit of family `kind` in which it is due and not judged. -/
def State.itemComplete (s : State) (kind : EngKind) (u i upset : Nat) : State :=
  let due := fun (r : EngRun) => r.job.unit = u && match r.items[i]? with
    | some it => !it.done && decide (it.due ≤ s.uptime)
    | none => false
  if classEng (u / 256) ≠ some kind then s
  else
    match s.en.runs.find? due with
    | some r => let q := s.judgeItem r i upset; q.2.setRun r q.1
    | none => s

/-! ## Bits and CRCs -/

/-- R243: the `n` bits from address `a` on, most significant bit of each byte first. -/
def State.bitsAt (s : State) (a n : Nat) : List Bool :=
  (List.range n).map fun k => (s.byte (a + k / 8)).toNat.testBit (7 - k % 8)

/-- A byte from up to eight bits, the first in bit 7. -/
def packByte (l : List Bool) : Nat := (l.zipIdx).foldl (fun a e => if e.1 then a + 2 ^ (7 - e.2) else a) 0

/-- R243: a bit sequence as bytes, zero to the end of its last 64-byte unit. -/
def packBits (l : List Bool) : List Nat :=
  (List.range (64 * ceilDiv l.length 512)).map fun i => packByte ((l.drop (8 * i)).take 8)

/-- A number as `n` bits, most significant first. -/
def msbBits (n v : Nat) : List Bool := (List.range n).map fun i => v.testBit (n - 1 - i)

def ofMsb (l : List Bool) : Nat := l.foldl (fun a b => 2 * a + b.toNat) 0

/-- R244: the length and generator of a CRC code. -/
def crcCode (c : Nat) : Nat × Nat :=
  if c = 1 then (24, 0x864CFB) else if c = 2 then (24, 0x800063) else if c = 3 ∨ c = 4 then (24, 0xB2B117)
  else if c = 5 ∨ c = 10 then (16, 0x1021) else if c = 6 then (11, 0x621) else if c = 7 then (6, 0x21)
  else if c = 8 then (8, 0x9B) else if c = 9 then (12, 0x80F) else (0, 0)

/-- The remainder of a sequence times x^L by the generator, from an initial register. -/
def crcFrom (n gen init : Nat) (l : List Bool) : Nat :=
  l.foldl (fun r b => if (r.testBit (n - 1)) != b then ((2 * r) % 2 ^ n) ^^^ gen else (2 * r) % 2 ^ n) init

/-- R244: the CRC bits of a sequence, with `mask` the RNTI of code 4 or the MASK of code 10. -/
def crcOf (code mask : Nat) (l : List Bool) : Nat :=
  let c := crcCode code
  if code = 4 then crcFrom c.1 c.2 0 (List.replicate 24 true ++ l) ^^^ (mask % 65536)
  else if code = 10 then crcFrom c.1 c.2 0 l ^^^ (mask % 65536)
  else crcFrom c.1 c.2 0 l

/-- Whether a sequence that ends in its CRC bits satisfies it. -/
def crcPass (code mask : Nat) (l : List Bool) : Bool :=
  let n := (crcCode code).1
  decide (n ≤ l.length) && crcOf code mask (l.take (l.length - n)) == ofMsb (l.drop (l.length - n))

/-- R245: (s(x) · x^after) mod g. -/
def crcPart (code : Nat) (seg : List Bool) (after : Nat) : Nat :=
  let c := crcCode code
  let r := seg.foldl (fun r b => let r2 := 2 * r + b.toNat; if r2.testBit c.1 then (r2 % 2 ^ c.1) ^^^ c.2 else r2) 0
  (List.range after).foldl (fun r _ => let r2 := 2 * r; if r2.testBit c.1 then (r2 % 2 ^ c.1) ^^^ c.2 else r2) r

/-- R242: the soft values from address `a` on; −128 reads as −127. -/
def State.softAt (s : State) (a n : Nat) : List Int :=
  (List.range n).map fun k => max (-127) (toInt 8 (s.byte (a + k)).toNat)

/-- The C16 elements from address `a` on: (I, Q). -/
def State.c16At (s : State) (a n : Nat) : List (Int × Int) :=
  (List.range n).map fun k => (toInt 16 (s.load (a + 4 * k) 2), toInt 16 (s.load (a + 4 * k + 2) 2))

/-- The bytes of a C16 element. -/
def c16Bytes (e : Int × Int) : List Nat := bytesOf 2 (ofInt 16 e.1) ++ bytesOf 2 (ofInt 16 e.2)

/-- The bytes of a 32-bit word. -/
def wordBytes (v : Nat) : List Nat := bytesOf 4 v

end Sys2Proof.Machine
end

