-- ==== Sys2Proof/Machine/EngOfdm.lean ====
section
/-! DEFINITION. The FFT engines, the matrix engines and the access detectors (R210–R233, R289–R291). -/
namespace Sys2Proof.Machine

/-! ## FFT -/

/-- R210: N = 2^a · 3^b · 5^c. -/
def smooth (n : Nat) : Bool :=
  let strip := fun (p n : Nat) => (List.range 16).foldl (fun n _ => if n % p = 0 && decide (0 < n) then n / p else n) n
  strip 5 (strip 3 (strip 2 n)) = 1

/-- The words of R217 that must be sound (R207). -/
def fftOk (w : List Nat) (s : State) : Bool :=
  let n := df w 4 15 0
  let b := df w 4 22 16
  let p := fftP w
  let meas := df w 4 30 30 = 1
  df w 0 31 24 = 1 && rsvOk w [(4, 0x80800000), (13, 0xFFFFFF80)] && zeros w [14, 15]
    && inRange 12 49152 n && smooth n && inRange 1 64 b && decide (df w 4 26 25 ≤ 1) && decide (df w 13 6 5 ≤ 2)
    && (df w 4 28 28 = 0 || n % 32 = 0)
    && (if df w 4 29 29 = 1 then tabOk (dw w 5) && (s.words (deckOf (dw w 5)) b).all bufOk else bufOk (dw w 5) && dw w 6 % 64 = 0)
    && bufOk (dw w 7) && dw w 8 % 64 = 0 && decide (64 * p ≤ dw w 8) && bufOk (dw w 9)
    && (if meas then
          df w 4 24 24 = 0 && bufOk (dw w 10) && dw w 11 % 64 = 0 && rsvOk w [(12, 0xFE00)] && decide (df w 12 31 16 < n)
            && inRange 1 275 (df w 12 8 0) && decide (ceilDiv (df w 12 8 0) 8 + 1 ≤ p)
        else zeros w [10, 11, 12])

/-- The greatest magnitude of the halves of a list of elements. -/
def maxAbs (l : List (Int × Int)) : Nat := l.foldl (fun m e => max m (max e.1.natAbs e.2.natAbs)) 0

def energy (l : List (Int × Int)) : Nat := l.foldl (fun a e => a + (e.1 * e.1 + e.2 * e.2).toNat) 0

/-- How many halves clip to 16 bits. -/
def clipped16 (l : List (Int × Int)) : Nat := l.foldl (fun a e => a + (clips 16 e.1).toNat + (clips 16 e.2).toNat) 0

/-- R211: rnd of both halves. -/
def rndAll (mode sh : Nat) (l : List (Int × Int)) : List (Int × Int) := l.map fun e => (rnd mode e.1 sh, rnd mode e.2 sh)

def satAll (l : List (Int × Int)) : List (Int × Int) := l.map fun e => (satN 16 e.1, satN 16 e.2)

/-- R211: the exponent of a transform. All-zero input keeps E = SH (R236). -/
def fftExp (w : List Nat) (zero : Bool) (y : List (Int × Int)) : Nat :=
  let sh := df w 13 4 0
  let m := df w 13 6 5
  if df w 4 26 25 = 0 || zero then sh
  else ((List.range 32).find? fun e => decide (sh ≤ e) && clipped16 (rndAll m e y) = 0).getD 31

/-- R215: the energy check. -/
def fftCheck (n ein eout e tol : Nat) : Bool :=
  let d := absDiff (n * ein) (2 ^ (2 * e) * eout)
  ein = 0 || decide (d * 2 ^ tol ≤ n * ein + 2 * n * 2 ^ (2 * e) * 2 ^ tol)

/-- R214: one measurement row. -/
def measRow (w : List Nat) (y : List (Int × Int)) : List Nat :=
  let n := df w 4 15 0
  (List.range (df w 12 8 0)).flatMap fun g =>
    bytesOf 8 (energy ((List.range 12).map fun i => y.getD ((df w 12 31 16 + 12 * g + i) % n) (0, 0)))

/-- Schedules a list of bytes in units of 64, unit i delivered in the cycle that ends at `due i` (R217). -/
def State.fftLand (s : State) (u : Nat) (due : Nat → Nat) (a : Nat) (data : List Nat) : State :=
  let n := ceilDiv data.length 64
  (List.range n).foldl
    (fun s i => s.schedule (due i) u (unitSource u) 0 (.deliver (a + 64 * i) ((data.drop (64 * i)).take 64) false))
    (s.bump (engPage u) 0x07 n)

/-- The samples of a transform of size `n` from its input units. -/
def fftSamples (acc : List Nat) (n : Nat) : List (Int × Int) :=
  (List.range n).map fun i =>
    let v := acc.getD (i / 16) 0 / 2 ^ (32 * (i % 16))
    (toInt 16 (v % 65536), toInt 16 (v / 65536 % 65536))

/-- A 64-bit mask as two words. -/
def maskWords (l : List Bool) : List Nat :=
  let m := (l.zipIdx).foldl (fun a e => if e.1 then a + 2 ^ e.2 else a) 0
  [m % 2 ^ 32, m / 2 ^ 32]

/-- A bit of four words, set. -/
def setBit (l : List Nat) (i : Nat) (v : Bool) : List Nat :=
  if v then l.set (i / 32) (l.getD (i / 32) 0 ||| 2 ^ (i % 32)) else l

/-- Transform j of the operation issued at `t0` (R210–R217), once its last input unit is read: its outputs follow at the cycles of
R217; its item and the masks of the status record (R216) take what it met. -/
def State.fftOut (s : State) (u t0 : Nat) (w : List Nat) (j : Nat) (acc : List Nat) (bad : Bool) : State :=
  let k := s.deckK
  let n := df w 4 15 0
  let m := df w 13 6 5
  let x := fftSamples acc n
  let zero := energy x = 0
  let y := if zero then List.replicate n (0, 0) else Config.fftInner (df w 4 24 24) (df w 4 27 27) (df w 4 28 28) x
  let ex := fftExp w zero y
  let r := rndAll m ex y
  let sat := clipped16 r
  let out := satAll r
  let ein := energy x
  let eout := energy out
  let skip := decide (0 < sat)
  let fail := !skip && !(fftCheck n ein eout ex (s.get (engPage u) Rg.ENG_CHK))
  let info := wordBytes ((min sat 65535) <<< 16 + (if skip then 1 else if fail then 2 else 0) <<< 8 + ex) ++ wordBytes (maxAbs out)
    ++ bytesOf 8 ein ++ bytesOf 8 eout ++ List.replicate 40 0
  let base := s.uptime + 89 * k
  let s := s.fftLand u (fun _ => base - k) (deckOf (dw w 9) + 64 * j) info
  let s := s.fftLand u (fun i => base + k * i) (deckOf (dw w 7) + j * dw w 8) (out.flatMap c16Bytes)
  let s := if df w 4 30 30 = 1 then s.fftLand u (fun i => base + k * i) (deckOf (dw w 10) + j * dw w 11) (measRow w out) else s
  let codes := (if fail then [1] else []) ++ (if bad then [2] else [])
  let note := fun (q : EngRun) =>
    if q.job.unit = u && q.job.issue = t0 then
      { q with
        items := q.items.modify j fun it => { it with codes := it.codes ++ codes, qual := skip.toNat, mark := skip }
        qual := if skip then 1 else q.qual
        words := setBit (setBit q.words j fail) (64 + j) skip }
    else q
  { s with en := { s.en with runs := s.en.runs.map note } }

/-- R217: the unit that an FFT engine read in the cycle that ends now, and the next one: table units from t + 1 on, input units from
t + 8 on. A unit whose read was suppressed is a free value (log entry 109). -/
def State.fftStep (s : State) (u t0 : Nat) (w tab acc : List Nat) (j i : Nat) (bad lost : Bool) : State :=
  let k := s.deckK
  let a := fftUnit w tab j i
  let f := s.fresh
  let rd := s.engRead u a 64
  let v := if lost then f.1 % 2 ^ 512 else s.load a 64
  let s := if lost then f.2 else rd.2
  let next := fun (s : State) (n : Nat) (e : Eff) => s.schedule (s.uptime + n * k) u (unitSource u) 0 e
  if tab.length / 16 < fftTabUnits w then
    let tab := tab ++ (List.range 16).map fun m => v / 2 ^ (32 * m) % 2 ^ 32
    let done := tab.length / 16
    next s (if done < fftTabUnits w then 1 else 8 - done) (.fft t0 w tab acc j i bad false)
  else
    let acc := acc ++ [v]
    let bad := bad || (!lost && rd.1)
    if i + 1 < fftP w then next s 1 (.fft t0 w tab acc j (i + 1) bad false)
    else
      let s := s.fftOut u t0 w j acc bad
      if j + 1 < df w 4 22 16 then next s 1 (.fft t0 w tab [] (j + 1) 0 false false) else s

/-- FFT (R210–R217). The engine reads its inputs and writes its outputs at the cycles of R217; one that loses the port for its descriptor
computes nothing (log entry 109). -/
def execEngFft (by_ : IssueBy) (s : State) : Host.Outcome State Fault Refusal :=
  .next (s.engIssue by_ .fe (fun _ => true) fftOk fun e s =>
    let w := e.w
    let u := e.x.unit
    let src := unitSource u
    let p := fftP w
    let b := df w 4 22 16
    let t := s.takePort ⟨bankOf e.x.arg, s.uptime + 1, src, 0, 0, e.x.arg, 0⟩
    if !t.1 then ⟨[], 0, [], t.2⟩
    else
      let s := t.2
      let tab := s.words (deckOf (dw w 5)) (16 * fftTabUnits w)
      let own := (List.range b).map fun j => (fftUnit w tab j 0, 64 * p)
      let s := s.blurOut src (deckOf (dw w 9)) own (64 * b)
      let s := (List.range b).foldl (fun s j =>
        let s := s.blurOut src (deckOf (dw w 7) + j * dw w 8) own (4 * df w 4 15 0)
        if df w 4 30 30 = 1 then s.blurOut src (deckOf (dw w 10) + j * dw w 11) own (8 * df w 12 8 0) else s) s
      let s := s.schedule (s.uptime + e.lat) u src 0 (.deliver (deckOf (dw w 2)) [] false)
      let s := s.schedule (s.uptime + e.k * (if fftTabUnits w = 0 then 9 else 2)) u src 0 (.fft s.uptime w [] [] 0 0 false false)
      ⟨(List.range b).map fun j => ⟨s.uptime + e.k * (96 + (j + 2) * p), [], 0, 0, 0, 1, false, false⟩, 0, List.replicate 4 0, s⟩)

/-- FFT_TRANSFORM_COMPLETE (R208, R215, R237): transform `j` of a unit completes; `parity` tells of a mismatch in the engine's
buffers. -/
def execFftTransformComplete (unit : Fin 65536) (j : Fin 64) (parity : Bool) (s : State) : Host.Outcome State Fault Refusal :=
  .next (s.itemComplete .fe unit.val j.val (if parity then Ev.ENG_PARITY else 0))

/-! ## Matrix engines: numbers -/

/-- The exponent, sign and significand of a binary32 word that is finite: its value is the integer times 2^−149. -/
def f32Scaled (v : Nat) : Int :=
  let e := bits v 30 23
  let m := bits v 22 0
  let a : Int := if e = 0 then (m : Int) else ((m + 2 ^ 23) * 2 ^ (e - 1) : Nat)
  if v.testBit 31 then -a else a

/-- The natural number that orders non-negative binary32 words. -/
def f32Nat (v : Nat) : Nat := (f32Scaled v).toNat

/-- Rounds a / 2^s to the nearest integer, ties to even. -/
def nearest (a : Int) (s : Nat) : Int := rnd 2 a s

/-- R219: PARAM as an integer, ties to even. -/
def f32Int (v : Nat) : Int := if bits v 30 23 = 255 then Config.paramInt v else nearest (f32Scaled v) 149

/-- R219: the binary16 value nearest v · 2^e, ties to even; whether it overflows. A value below the normal range becomes a zero
of its sign (log entry 106, DEDUCED: judged before rounding). -/
def toHalf (v e : Int) : Nat × Bool :=
  let sign := if v < 0 then 0x8000 else 0
  let a := v.natAbs
  if a = 0 then (0, false)
  else
    let top : Int := a.log2 + e
    if top < -14 then (sign, false)
    else
      let sh : Int := 10 - (a.log2 : Int)
      let m := if 0 ≤ sh then a * 2 ^ sh.toNat else (nearest a (-sh).toNat).toNat
      let m' := if m = 2048 then 1024 else m
      let top := if m = 2048 then top + 1 else top
      if 15 < top then (sign + 0x7BFF, true) else (sign + (top + 15).toNat * 1024 + (m' - 1024), false)

/-! ## Matrix engines: operands -/

/-- R218: the elements, in row-major order, of a stored matrix of `r` rows and `c` columns with leading dimension `ld`. -/
def State.matAt (s : State) (a r c ld : Nat) : List Nat :=
  (List.range (r * c)).map fun i => s.load (a + 4 * ((i / c) * ld + i % c)) 4

/-- The ranges of memory of such a matrix. -/
def matRanges (a r c ld : Nat) : List (Nat × Nat) := (List.range r).map fun i => (a + 4 * (i * ld), 4 * c)

/-- An element of C16. -/
def c16Of (v : Nat) : Int × Int := (toInt 16 v, toInt 16 (v / 65536))

def cmul (a b : Int × Int) : Int × Int := (a.1 * b.1 - a.2 * b.2, a.1 * b.2 + a.2 * b.1)

def cadd (a b : Int × Int) : Int × Int := (a.1 + b.1, a.2 + b.2)

def conj (a : Int × Int) : Int × Int := (a.1, -a.2)

/-- The stored dimensions of A, of B and of C for one item (R220): rows and columns. -/
def meDims (w : List Nat) : (Nat × Nat) × (Nat × Nat) × (Nat × Nat) :=
  let m := df w 5 6 0
  let n := df w 5 14 8
  let k := df w 5 22 16
  let ta := df w 4 6 6 = 1
  let tb := df w 4 7 7 = 1
  let op := df w 0 31 24
  if op = 1 then (if ta then (k, m) else (m, k), if tb then (n, k) else (k, n), (m, n))
  else if op = 2 then ((k, n), (0, 0), (n, n))
  else if op = 3 then ((n, n), if tb then (k, n) else (n, k), (n, k))
  else ((m, k), (k, dw w 9), (m, dw w 9))

/-- R219: whether an operation runs on the exact path. -/
def meExact (w : List Nat) : Bool :=
  df w 0 31 24 ≠ 3 && df w 4 1 0 = 0 && (df w 0 31 24 = 2 || df w 4 3 2 = 0)

/-- An entry of op(X) of a stored matrix. -/
def opAt (l : List Nat) (cols : Nat) (t : Bool) (i j : Nat) : Int × Int :=
  if t then conj (c16Of (l.getD (j * cols + i) 0)) else c16Of (l.getD (i * cols + j) 0)

/-- R219: the exact results of one item: for every entry of C, the sum over k with PARAM on the diagonal. -/
def exactItem (w a b : List Nat) : List (Int × Int) :=
  let d := meDims w
  let op := df w 0 31 24
  let (m, n) := d.2.2
  let k := df w 5 22 16
  let p := f32Int (dw w 14)
  (List.range (m * n)).map fun x =>
    let i := x / n
    let j := x % n
    let sum := (List.range k).foldl
      (fun acc t => cadd acc
        (if op = 2 then cmul (opAt a n true i t) (opAt a n false t j)
         else cmul (opAt a d.1.2 (df w 4 6 6 = 1) i t) (opAt b d.2.1.2 (df w 4 7 7 = 1) t j))) (0, 0)
    if i = j then (sum.1 + p, sum.2) else sum

/-- R219: exact values in the output format: the words and how many halves clipped. -/
def exactOut (w : List Nat) (l : List (Int × Int)) : List Nat × Nat :=
  if df w 4 5 4 = 0 then
    let r := rndAll (df w 4 9 8) (df w 5 28 24) l
    (r.map fun e => ofInt 16 (satN 16 e.1) + ofInt 16 (satN 16 e.2) * 65536, clipped16 r)
  else
    let ex := toInt 8 (df w 15 7 0) + toInt 8 (if df w 0 31 24 = 2 then df w 15 7 0 else df w 15 15 8)
    let h := l.map fun e => (toHalf e.1 ex, toHalf e.2 ex)
    (h.map fun e => e.1.1 + e.2.1 * 65536, h.foldl (fun a e => a + e.1.2.toNat + e.2.2.toNat) 0)

/-- R207, R220: the descriptor of a matrix operation. -/
def meOk (w : List Nat) (_ : State) : Bool :=
  let op := df w 0 31 24
  let d := meDims w
  let app := op = 4
  let dim := inRange 1 64
  inRange 1 4 op && rsvOk w [(4, 0xFE00F800), (5, 0xE0808080), (15, 0xE0000000)]
    && decide (df w 4 9 8 ≤ 2) && decide (df w 4 5 4 ≤ 1) && decide (df w 4 3 2 ≤ 1) && decide (df w 4 1 0 ≤ 1)
    && dim (df w 5 22 16) && (op = 4 || dim (df w 5 14 8)) && ((op ≠ 1 && op ≠ 4) || dim (df w 5 6 0))
    && (if app then df w 4 24 16 = 0 && inRange 1 65535 (dw w 9) && inRange 1 65535 (df w 13 31 16) && df w 4 10 10 = 0
        else inRange 1 256 (df w 4 24 16) && df w 13 31 16 = 0)
    && ((op ≠ 2 && op ≠ 4) || (df w 4 7 7 = 0 && df w 4 6 6 = 0)) && (op ≠ 3 || df w 4 6 6 = 0)
    && (if op = 3 then inRange 1 24 (df w 15 28 24) else df w 15 28 24 = 0)
    && (op ≠ 1 || dw w 14 = 0 || df w 5 6 0 = df w 5 14 8)
    && bufOk (dw w 6) && dw w 7 % 64 = 0 && bufOk (dw w 10) && (op = 2 || bufOk (dw w 8)) && (app || dw w 9 % 64 = 0)
    && (app || dw w 11 % 64 = 0) && decide (d.1.2 ≤ df w 12 15 0) && (op = 2 || decide (d.2.1.2 ≤ df w 12 31 16))
    && decide (d.2.2.2 ≤ df w 13 15 0)

/-- Lands rows of elements: `n` columns from column `c0` on. -/
def State.landRows (s : State) (e : EngIn) (due a ld c0 n : Nat) (l : List Nat) : State :=
  (List.range (if n = 0 then 0 else l.length / n)).foldl
    (fun s r => s.engLand e due (a + 4 * (r * ld + c0)) (((l.drop (n * r)).take n).flatMap wordBytes)) s

/-- One item, or one group of APPLY: the result in the output format. -/
def meItemOut (w a b : List Nat) : Config.MeResult :=
  if meExact w then
    let o := exactOut w (exactItem w a b)
    ⟨o.1, 0, o.2, 0, false⟩
  else Config.meFloat w a b

/-- The accumulated result of the items done: items, COND flags, SATCNT, NANCNT. -/
structure MeAcc where
  items : List EngItem
  cond : List Bool
  sat : Nat
  nan : Nat
  s : State

/-- GEMM, GRAM and SOLVE, item by item (R220–R224). -/
def State.meBatch (s : State) (e : EngIn) : EngOut :=
  let w := e.w
  let op := df w 0 31 24
  let d := meDims w
  let b := df w 4 24 16
  let r := (List.range b).foldl
    (fun (q : MeAcc) j =>
      let a0 := deckOf (dw w 6) + j * dw w 7
      let b0 := deckOf (dw w 8) + j * dw w 9
      let rs := matRanges a0 d.1.1 d.1.2 (df w 12 15 0) ++ (if op = 2 then [] else matRanges b0 d.2.1.1 d.2.1.2 (df w 12 31 16))
      let am := q.s.matAt a0 d.1.1 d.1.2 (df w 12 15 0)
      let bm := if op = 2 then [] else q.s.matAt b0 d.2.1.1 d.2.1.2 (df w 12 31 16)
      let rd := q.s.engReads e.x.unit rs
      let o := meItemOut w am bm
      let due := s.uptime + e.k * ((if op = 3 then 64 else 48) + (j + 1) * meItem w)
      let s := rd.2.landRows e due (deckOf (dw w 10) + j * dw w 11) (df w 13 15 0) 0 d.2.2.2 o.elems
      let s := if df w 4 10 10 = 1 then s.engLand e due (deckOf (dw w 2) + 64 + j) [o.exp % 256] else s
      ⟨q.items ++ [⟨due, if rd.1 then [2] else [], if o.cond then Ev.ENG_QUAL else 0, o.cond.toNat, 0, 1, decide (0 < o.sat), false⟩],
        q.cond ++ [o.cond], q.sat + o.sat, q.nan + o.nan, s⟩)
    ⟨[], [], 0, 0, s⟩
  let n := r.cond.countP id
  let mask := (r.cond.zipIdx).foldl (fun a c => if c.1 then a + 2 ^ c.2 else a) 0
  ⟨r.items, (if r.sat = 0 then 0 else 1) + (if n = 0 then 0 else 2),
    [r.sat, n, r.nan, 0] ++ (List.range 8).map (fun i => mask / 2 ^ (32 * i) % 2 ^ 32), r.s⟩

/-- APPLY, group by group (R220, R221). -/
def State.meApply (s : State) (e : EngIn) : EngOut :=
  let w := e.w
  let b := dw w 9
  let g := df w 13 31 16
  let m := df w 5 6 0
  let k := df w 5 22 16
  let r := (List.range (ceilDiv b g)).foldl
    (fun (q : MeAcc) j =>
      let lo := j * g
      let n := min ((j + 1) * g) b - lo
      let a0 := deckOf (dw w 6) + j * dw w 7
      let x0 := deckOf (dw w 8) + 4 * lo
      let rs := matRanges a0 m k (df w 12 15 0) ++ matRanges x0 k n (df w 12 31 16)
      let am := q.s.matAt a0 m k (df w 12 15 0)
      let xm := q.s.matAt x0 k n (df w 12 31 16)
      let rd := q.s.engReads e.x.unit rs
      let wg := (w.set 9 n).set 13 (df w 13 15 0)
      let o := meItemOut (wg.set 14 0) am xm
      let due := s.uptime + e.k * (32 + ceilDiv (min ((j + 1) * g) b * k * m) 512)
      let s := rd.2.landRows e due (deckOf (dw w 10)) (df w 13 15 0) lo n o.elems
      ⟨q.items ++ [⟨due, if rd.1 then [2] else [], 0, 0, 0, 1, decide (0 < o.sat), false⟩], q.cond, q.sat + o.sat, q.nan + o.nan, s⟩)
    ⟨[], [], 0, 0, s⟩
  ⟨r.items, if r.sat = 0 then 0 else 1, [r.sat, 0, r.nan, 0], r.s⟩

/-- Whether a descriptor's OP is `op`. -/
def isOp (op : Nat) (w : List Nat) : Bool := df w 0 31 24 = op

/-- GEMM (R220); descriptors with an OP that the family does not define are refused by this row too (R207). -/
def execEngGemm (by_ : IssueBy) (s : State) : Host.Outcome State Fault Refusal :=
  .next (s.engIssue by_ .me (fun w => !(isOp 2 w || isOp 3 w || isOp 4 w)) meOk fun e s => s.meBatch e)

/-- GRAM (R220). -/
def execEngGram (by_ : IssueBy) (s : State) : Host.Outcome State Fault Refusal :=
  .next (s.engIssue by_ .me (isOp 2) meOk fun e s => s.meBatch e)

/-- SOLVE (R220, R222). -/
def execEngSolve (by_ : IssueBy) (s : State) : Host.Outcome State Fault Refusal :=
  .next (s.engIssue by_ .me (isOp 3) meOk fun e s => s.meBatch e)

/-- APPLY (R220). -/
def execEngApply (by_ : IssueBy) (s : State) : Host.Outcome State Fault Refusal :=
  .next (s.engIssue by_ .me (isOp 4) meOk fun e s => s.meApply e)

/-- MATRIX_ITEM_COMPLETE (R208, R221, R223): item `i` of a unit completes; `upset` is 1 where its column checksum differs, 2 where
a buffer's parity does. -/
def execMatrixItemComplete (unit : Fin 65536) (i : Fin 65536) (upset : Fin 3) (s : State) : Host.Outcome State Fault Refusal :=
  .next (s.itemComplete .me unit.val i.val (if upset.val = 1 then Ev.ENG_CHECK else if upset.val = 2 then Ev.ENG_PARITY else 0))

/-! ## Access detectors -/

def adMode (w : List Nat) : Nat := df w 4 3 0

/-- The number of bits set among the low `n`. -/
def popcount (n v : Nat) : Nat := (List.range n).countP fun i => v.testBit i

/-- R231's candidate table is sound. -/
def candOk (s : State) (w : List Nat) : Bool :=
  (List.range (df w 4 30 24)).all fun c =>
    let a := deckOf (dw w 11) + 32 * c
    let e := s.words a 8
    let lags := if adMode w = 3 then 64 else df w 5 15 0
    rsvOk e [(0, 0xFFFCC0C0)] && zeros e [5, 6, 7] && decide (df e 0 5 0 < df w 4 22 16)
      && (List.range 4).all fun i =>
        if i ≤ df e 0 17 16 then inRange 1 lags (df e (i + 1) 31 16) && decide (df e (i + 1) 15 0 < lags) else dw e (i + 1) = 0

/-- R231, R291: the descriptor of an access detector. -/
def adOk (w : List Nat) (s : State) : Bool :=
  let mode := adMode w
  let a := df w 4 14 8
  let n := df w 4 30 24
  let sq := df w 4 22 16
  let l := df w 5 15 0
  df w 0 31 24 = 1 && rsvOk w [(4, 0x808080F0)] && inRange 1 64 a && inRange 1 64 n && bufOk (dw w 6) && dw w 7 % 64 = 0
    && (dw w 9 = 0 || tabOk (dw w 9)) && bufOk (dw w 12) && !((dw w 15).testBit 31) && dw w 15 ≠ 0 && bits (dw w 15) 30 23 ≠ 255
    && (if 1 ≤ mode ∧ mode ≤ 3 then
          inRange 1 64 sq && inRange 1 1024 (df w 5 31 16) && decide (l * df w 5 31 16 ≤ 32768) && dw w 8 % 64 = 0
            && tabOk (dw w 10) && tabOk (dw w 11) && candOk s w
            && (if mode = 1 then l = 139 || l = 571 || l = 839 || l = 1151 else if mode = 2 then l = 139 || l = 839
                else l = 48 || l = 144)
            && (s.words (deckOf (dw w 10)) sq).all (fun v => if mode = 3 then v &&& 0xFE00FF00 = 0 else decide (v < 2048))
        else if mode = 4 then
          inRange 1 64 sq && zeros w [8, 11] && l = 4096 && decide (df w 5 31 16 + 16 * sq ≤ 4096) && rsvOk w [(10, 0xE0000000)]
            && n = popcount 16 (dw w 10)
        else if mode = 5 then
          inRange 1 3 sq && zeros w [8, 11] && n = sq && decide (df w 5 31 16 ≤ 1023) && l % 8 = 0 && inRange 8 512 l && tabOk (dw w 10)
            && (s.words (deckOf (dw w 10)) sq).all (fun v => decide (v < 3))
        else false)

/-- R226, R291: the antennas that the erasure map excludes. -/
def State.adErased (s : State) (w : List Nat) : Nat :=
  let n := if adMode w ≤ 3 then df w 5 31 16 else 1
  if dw w 9 = 0 then 0
  else (List.range n).foldl (fun m r => m ||| s.load (deckOf (dw w 9) + 8 * r) 8) 0 % 2 ^ df w 4 14 8

/-- The preamble index, signature or sequence number that record `c` reports. -/
def State.adId (s : State) (w : List Nat) (c : Nat) : Nat :=
  if adMode w = 4 then (((List.range 16).filter fun g => (dw w 10).testBit g).getD c 0)
  else if adMode w = 5 then s.load (deckOf (dw w 10) + 4 * c) 4 % 4
  else bits (s.load (deckOf (dw w 11) + 32 * c) 4) 13 8

/-- The ranges that an occasion reads: the samples of each antenna. -/
def adRanges (w : List Nat) : List (Nat × Nat) :=
  (List.range (df w 4 14 8)).flatMap fun a =>
    if adMode w ≤ 3 then
      (List.range (df w 5 31 16)).map fun r => (deckOf (dw w 6) + a * dw w 7 + r * dw w 8, 4 * df w 5 15 0)
    else
      let n := if adMode w = 4 then df w 5 31 16 + 16 * df w 4 22 16 + 8192 else df w 5 31 16 + df w 5 15 0 + 88
      [(deckOf (dw w 6) + a * dw w 7, 4 * n)]

/-- R228–R232: one record: its four words, and whether it is detected and whether the qualifier rejected it. -/
def adRecord (w : List Nat) (noise id : Nat) (none_ : Bool) (st : Config.AdStat) : List Nat × Bool × Bool :=
  let pass := !none_ && decide (df w 13 15 0 * f32Nat noise < 256 * f32Nat st.peak)
  let det := pass && decide (f32Nat (dw w 14) ≤ f32Nat st.peak) && decide (df w 13 31 16 * f32Nat st.far ≤ 256 * f32Nat st.peak)
  let q := pass && !det
  let single := adMode w ≤ 3 && df w 5 31 16 = 1
  let afc := det && !single
  let pwr := if adMode w = 5 then st.power else st.peak
  ([det.toNat <<< 31 + q.toNat <<< 30 + afc.toNat <<< 29 + (if det then st.win % 4 else 0) <<< 24 + (id % 64) <<< 16
      + (if det then st.ta % 4096 else 0),
    if det then ofInt 8 st.taf else 0, if afc then ofInt 32 st.fofs else 0, if pass then pwr % 2 ^ 32 else 0], det, q)

/-- DETECT in every mode (R225–R233, R289–R291). -/
def State.adRun (s : State) (e : EngIn) : EngOut :=
  let w := e.w
  let er := s.adErased w
  let a := df w 4 14 8
  let used := a - popcount a er
  let n := df w 4 30 24
  let rs := ((adRanges w).zipIdx).filter fun r => !(er.testBit (r.2 / (if adMode w ≤ 3 then df w 5 31 16 else 1)))
  let x := rs.flatMap fun r => s.c16At r.1.1 (r.1.2 / 4)
  let tab := s.words (deckOf (dw w 10)) (if adMode w = 4 then 0 else df w 4 22 16)
    ++ (if adMode w ≤ 3 then s.words (deckOf (dw w 11)) (8 * n) else [])
  let rd := s.engReads e.x.unit (rs.map (·.1))
  let n0 := Config.adNoise w tab x
  let noise := if f32Nat n0 ≤ f32Nat (dw w 15) then dw w 15 else n0
  let recs := (List.range n).map fun c => adRecord w noise (s.adId w c) (used = 0) (Config.adStat w tab x c)
  let s := rd.2.engLand e (e.fin rd.2) (deckOf (dw w 12)) (recs.flatMap fun r => r.1.flatMap wordBytes)
  let det := recs.countP fun r => r.2.1
  let q := recs.countP fun r => r.2.2
  ⟨[e.one s (if rd.1 then [2] else []) (if used = 0 then Ev.ENG_QUAL else 0) q det (decide (0 < det))],
    (if det = 0 then 0 else 1) + (if used = 0 then 2 else 0), [noise, used + det <<< 8, er % 2 ^ 32, er / 2 ^ 32], s⟩

/-- DETECT in modes 1 and 2 (R227); descriptors of no defined mode are refused by this row too (R225). -/
def execEngDetectPrach (by_ : IssueBy) (s : State) : Host.Outcome State Fault Refusal :=
  .next (s.engIssue by_ .ad (fun w => !(inRange 3 5 (adMode w))) adOk fun e s => s.adRun e)

/-- DETECT in mode 3 (R227). -/
def execEngDetectNprach (by_ : IssueBy) (s : State) : Host.Outcome State Fault Refusal :=
  .next (s.engIssue by_ .ad (fun w => adMode w = 3) adOk fun e s => s.adRun e)

/-- DETECT in mode 4 (R289). -/
def execEngDetectUmtsRach (by_ : IssueBy) (s : State) : Host.Outcome State Fault Refusal :=
  .next (s.engIssue by_ .ad (fun w => adMode w = 4) adOk fun e s => s.adRun e)

/-- DETECT in mode 5 (R290). -/
def execEngDetectGsmAccess (by_ : IssueBy) (s : State) : Host.Outcome State Fault Refusal :=
  .next (s.engIssue by_ .ad (fun w => adMode w = 5) adOk fun e s => s.adRun e)

end Sys2Proof.Machine
end

