-- ==== Sys2Proof/Machine/EngCode.lean ====
section
/-! DEFINITION. The channel coding engines: LDPC, polar, turbo and trellis (R242–R264). -/
namespace Sys2Proof.Machine

/-! ## LDPC -/

/-- TS 38.212 Table 5.3.2-1: the set index of a lifting size a · 2^j. -/
def liftSet (zc : Nat) : Option Nat :=
  if zc < 2 ∨ 384 < zc then none
  else [2, 3, 5, 7, 9, 11, 13, 15].findIdx? fun a => (List.range 8).any fun j => a * 2 ^ j = zc

/-- K_cols of R248. -/
def kCols (bg : Nat) : Nat := if bg = 0 then 22 else 10

/-- R248: the edges of a row of the active columns: column and shift. -/
def rowEdges (bg zc rows row : Nat) : List (Nat × Nat) :=
  let set := (liftSet zc).getD 0
  (List.range (kCols bg + rows)).filterMap fun c => (Config.ldpcShift bg set row c).map fun v => (c, v % zc)

def sat10 (x : Int) : Int := max (-511) (min 511 x)

/-- The posteriors and messages of a block in decoding. -/
structure Ldpc where
  q : List Int
  r : List ((Nat × Nat) × Int)

def Ldpc.msg (d : Ldpc) (k : Nat × Nat) : Int :=
  match d.r.find? fun e => e.1 = k with
  | some e => e.2
  | none => 0

/-- R249: one check node. -/
def ldpcCheck (zc : Nat) (edges : List (Nat × Nat)) (row z : Nat) (fillLo fillHi : Nat) (d : Ldpc) : Ldpc :=
  let vs := edges.map fun e => e.1 * zc + (z + e.2) % zc
  let node := row * zc + z
  let t := vs.map fun v => sat10 (d.q.getD v 0 - d.msg (node, v))
  let mags := t.map Int.natAbs
  let m1 := mags.foldl min 1000
  let at1 := mags.idxOf m1
  let m2 := ((mags.zipIdx).filter fun e => e.2 ≠ at1).foldl (fun m e => min m e.1) 1000
  let neg := t.countP fun x => decide (x < 0)
  (vs.zipIdx).foldl
    (fun d e =>
      let tv := t.getD e.2 0
      let mag := min 511 (if e.2 = at1 then m2 else m1)
      let sg : Int := if (neg + (if tv < 0 then 1 else 0)) % 2 = 0 then 1 else -1
      let msg := sg * (((3 * mag + 2) / 4 : Nat) : Int)
      let q := if fillLo ≤ e.1 ∧ e.1 < fillHi then 511 else sat10 (tv + msg)
      ⟨d.q.set e.1 q, ((node, e.1), msg) :: d.r.filter fun x => x.1 ≠ (node, e.1)⟩)
    d

/-- R249: one iteration over the active rows. -/
def ldpcIter (bg zc rows fillLo fillHi : Nat) (d : Ldpc) : Ldpc :=
  (List.range rows).foldl
    (fun d row => let e := rowEdges bg zc rows row; (List.range zc).foldl (fun d z => ldpcCheck zc e row z fillLo fillHi d) d) d

/-- The checks of the active rows that hard decisions leave unsatisfied. -/
def ldpcUnsat (bg zc rows : Nat) (hard : List Bool) : Nat :=
  (List.range rows).foldl
    (fun n row =>
      let e := rowEdges bg zc rows row
      n + (List.range zc).countP fun z => (e.countP fun x => hard.getD (x.1 * zc + (z + x.2) % zc) false) % 2 = 1) 0

def hardOf (q : List Int) : List Bool := q.map fun x => decide (x < 0)

/-- A block of an LDPC decode. -/
structure LdBlock where
  bg : Nat
  zc : Nat
  rows : Nat
  kp : Nat
  ncb : Nat
  cbcrc : Nat
  crcStop : Bool

/-- R249: the initial posteriors. -/
def LdBlock.init (b : LdBlock) (soft : List Int) : List Int :=
  let k := kCols b.bg * b.zc
  (List.range ((kCols b.bg + b.rows) * b.zc)).map fun i =>
    if i < 2 * b.zc then 0 else if b.kp ≤ i ∧ i < k then 511 else if b.ncb ≤ i - 2 * b.zc then 0 else soft.getD (i - 2 * b.zc) 0

/-- R246: the block CRC passes, and no bit under it was decided from 0. -/
def LdBlock.crcOk (b : LdBlock) (q : List Int) : Bool :=
  crcPass b.cbcrc 0 ((hardOf q).take b.kp) && (q.take b.kp).all (· ≠ 0)

/-- R249: whether the block has converged. -/
def LdBlock.converged (b : LdBlock) (q : List Int) : Bool :=
  ldpcUnsat b.bg b.zc b.rows (hardOf q) = 0 && q.all (· ≠ 0) && (!b.crcStop || b.cbcrc = 0 || b.crcOk q)

/-- R249: up to `allow` iterations: the decoder, the iterations run, whether it converged. -/
def LdBlock.decode (b : LdBlock) : Nat → Ldpc → Nat × Bool × Ldpc
  | 0, d => (0, false, d)
  | n + 1, d =>
    let d := ldpcIter b.bg b.zc b.rows b.kp (kCols b.bg * b.zc) d
    if b.converged d.q then (1, true, d) else let r := b.decode n d; (r.1 + 1, r.2)

/-- R248, R252: the descriptor of an LDPC decode with its block table. -/
def ldOk (w : List Nat) (s : State) : Bool :=
  let bg := df w 4 9 9
  let zc := df w 4 8 0
  let b := df w 4 22 16
  let rows := df w 5 5 0
  let k := kCols bg * zc
  df w 0 31 24 = 1 && rsvOk w [(4, 0xC080F800), (5, 0xF000FFC0)] && zeros w [9, 10, 11, 12, 13, 14, 15]
    && inRange 1 32 (df w 4 29 24) && inRange 1 64 b && (liftSet zc).isSome && inRange 1 (32 * b) (df w 5 27 16)
    && inRange 4 (if bg = 0 then 46 else 42) rows && tabOk (dw w 6) && bufOk (dw w 7) && (dw w 8 = 0 || bufOk (dw w 8))
    && (List.range b).all fun j =>
        let e := s.words (deckOf (dw w 6) + 32 * j) 8
        let lcb := if df e 3 23 20 = 2 then 24 else 0
        rsvOk e [(3, 0xFF00FF00), (4, 0xFF000000)] && zeros e [5, 6, 7] && bufOk (dw e 0) && bufOk (dw e 1)
          && inRange 1 ((kCols bg + rows - 2) * zc) (df e 2 31 16) && inRange (lcb + 1) k (df e 2 15 0)
          && (df e 3 23 20 = 0 || df e 3 23 20 = 2) && decide (df e 3 19 16 ≤ 9)

/-- What the blocks of a batch have left so far. -/
structure LdAcc where
  used : Nat
  bad : List Bool
  crcBad : List Bool
  items : List EngItem
  s : State

/-- LDPC_DECODE (R249–R252). -/
def execEngLdpcDecode (by_ : IssueBy) (s : State) : Host.Outcome State Fault Refusal :=
  .next (s.engIssue by_ .ld (fun _ => true) ldOk fun e s0 =>
    let w := e.w
    let nb := df w 4 22 16
    let fin := e.fin s0
    let r := (List.range nb).foldl
      (fun (q : LdAcc) j =>
        let t := s0.words (deckOf (dw w 6) + 32 * j) 8
        let b : LdBlock := ⟨df w 4 9 9, df w 4 8 0, df w 5 5 0, df t 2 15 0, df t 2 31 16, df t 3 23 20, df w 4 10 10 = 1⟩
        let allow := min (df w 4 29 24) (df w 5 27 16 - q.used - (nb - 1 - j))
        let src := deckOf (dw t 0)
        let rd := q.s.engRead e.x.unit src b.ncb
        let d := b.decode allow ⟨b.init (s0.softAt src b.ncb), []⟩
        let post := d.2.2.q
        let lcb := (crcCode b.cbcrc).1
        let info := (hardOf post).take (b.kp - lcb)
        let cbV := b.cbcrc != 0
        let cbOk := cbV && b.crcOk post
        let tb := df t 3 19 16
        let part := if tb = 0 then 0 else crcPart tb info (df t 4 23 0)
        let unsat := ldpcUnsat b.bg b.zc b.rows (hardOf post)
        let minabs := ((post.take (b.kp - lcb)).map Int.natAbs).foldl min 511
        let rec_ := wordBytes (d.2.1.toNat <<< 31 + cbOk.toNat <<< 30 + cbV.toNat <<< 29 + allow <<< 8 + d.1) ++ wordBytes part
          ++ wordBytes (min unsat 65535) ++ wordBytes minabs
        let s := rd.2.engLand e fin (deckOf (dw t 1)) (packBits info)
        let s := s.engLand e fin (deckOf (dw w 7) + 16 * j) rec_
        let s := if dw w 8 ≠ 0 ∧ tb ≠ 0 then s.engLand e fin (deckOf (dw w 8) + 4 * df t 3 7 0) (wordBytes part) else s
        let it : EngItem := ⟨fin, if rd.1 then [2] else [], if d.2.1 then 0 else Ev.ENG_QUAL, (!d.2.1).toNat, d.2.1.toNat, 1, !d.2.1, false⟩
        ⟨q.used + d.1, q.bad ++ [!d.2.1], q.crcBad ++ [cbV && !cbOk], q.items ++ [it], s⟩)
      ⟨0, [], [], [], s0⟩
    ⟨r.items, if r.bad.any id then 1 else 0, maskWords r.bad ++ maskWords r.crcBad, r.s⟩)

/-- R253–R255: the descriptor of an LDPC encode. -/
def leOk (w : List Nat) (_ : State) : Bool :=
  let bg := df w 4 15 15
  let zc := df w 4 8 0
  let tb := df w 5 19 16
  let last := df w 9 31 31 = 1
  let lcb := if df w 5 23 20 = 2 then 24 else 0
  let ltb := if last then (crcCode tb).1 else 0
  df w 0 31 24 = 1 && rsvOk w [(5, 0xFF00FF00), (9, 0x7F000000)] && zeros w [10, 11, 12, 13, 14, 15] && (liftSet zc).isSome
    && inRange 4 (if bg = 0 then 46 else 42) (df w 4 14 9) && inRange (lcb + ltb + 1) (kCols bg * zc) (df w 4 31 16)
    && (df w 5 23 20 = 0 || df w 5 23 20 = 2) && decide (tb ≤ 9) && bufOk (dw w 6) && bufOk (dw w 7)
    && (if tb = 0 then dw w 8 = 0 || bufOk (dw w 8) else bufOk (dw w 8) || (last && df w 5 7 0 = 0 && dw w 8 = 0))
    && (!last || df w 9 23 0 = 0)

/-- LDPC_ENCODE (R253–R255). -/
def execEngLdpcEncode (by_ : IssueBy) (s : State) : Host.Outcome State Fault Refusal :=
  .next (s.engIssue by_ .le (fun _ => true) leOk fun e s =>
    let w := e.w
    let bg := df w 4 15 15
    let zc := df w 4 8 0
    let rows := df w 4 14 9
    let kp := df w 4 31 16
    let k := kCols bg * zc
    let tb := df w 5 19 16
    let last := df w 9 31 31 = 1
    let cb := df w 5 23 20
    let n := kp - (if cb = 2 then 24 else 0) - (if last then (crcCode tb).1 else 0)
    let src := deckOf (dw w 6)
    let rd := s.engRead e.x.unit src (ceilDiv n 8)
    let data := s.bitsAt src n
    let parts := (List.range (df w 5 7 0)).foldl (fun x i => x ^^^ s.load (deckOf (dw w 8) + 4 * i) 4) 0
    let tbc := if tb = 0 then 0 else if last then (parts % 2 ^ 24) ^^^ crcFrom (crcCode tb).1 (crcCode tb).2 0 data
      else crcPart tb data (df w 9 23 0)
    let a := if last then data ++ msbBits (crcCode tb).1 tbc else data
    let c := if cb = 2 then a ++ msbBits 24 (crcOf 2 0 a) else a
    let blk := c ++ List.replicate (k - kp) false
    let d := ((blk ++ Config.ldpcParity bg zc rows blk).drop (2 * zc)).take ((kCols bg + rows - 2) * zc)
    let s := rd.2.engLand e (e.fin s) (deckOf (dw w 7)) (packBits d)
    let s := if tb ≠ 0 ∧ last = false then s.engLand e (e.fin s) (deckOf (dw w 8) + 4 * df w 5 7 0) (wordBytes tbc) else s
    ⟨[e.one s (if rd.1 then [2] else []) 0 0 0 false], 0, [tbc % 2 ^ 24, (kCols bg + rows - 2) * zc], s⟩)

/-! ## Polar -/

/-- d = u · G_N over a list of 2^n bits. -/
def polarXform : Nat → List Bool → List Bool
  | 0, u => u
  | n + 1, u =>
    let a := polarXform n (u.take (2 ^ n))
    let b := polarXform n (u.drop (2 ^ n))
    List.zipWith xor a b ++ b

/-- The parity-check register of TS 38.212 clause 5.3.1.2, walked over the decided bits: its first stage at the end. -/
def pcReg (kind : Nat → Nat) (us : List Bool) : List Bool :=
  (us.zipIdx).foldl
    (fun y e =>
      let y := y.drop 1 ++ y.take 1
      if kind e.2 = 1 then (match y with
        | a :: l => (xor a e.1) :: l
        | [] => []) else y)
    (List.replicate 5 false)

/-- The parity-check bit of the next index. -/
def pcNext (kind : Nat → Nat) (us : List Bool) : Bool :=
  match (let y := pcReg kind us; y.drop 1 ++ y.take 1) with
  | a :: _ => a
  | [] => false

/-- R256: what an index is for. -/
def polarKindOf (w : List Nat) (i : Nat) : Nat :=
  Config.polarKind (df w 4 31 28) (df w 4 9 0) (df w 5 13 0) (if df w 4 23 22 = 1 then 3 else 0) (df w 4 21 21) i

/-- R256, R258: the descriptor of a polar operation. -/
def peOk (w : List Nat) (_ : State) : Bool :=
  let op := df w 0 31 24
  let n := df w 4 31 28
  let c := df w 4 19 16
  inRange 1 2 op && rsvOk w [(4, 0x0010FC00), (5, 0xC000)] && zeros w [8, 9, 10, 11, 12, 13, 14, 15] && inRange 5 10 n
    && (if op = 1 then df w 4 27 25 = 0 else decide (df w 4 27 25 ≤ 4)) && decide (df w 4 23 22 ≤ 1)
    && (c = 3 || c = 4 || c = 6 || c = 7) && (c = 4 || df w 5 31 16 = 0)
    && inRange 12 (2 ^ n - (if df w 4 23 22 = 1 then 3 else 0)) (df w 4 9 0) && decide ((crcCode c).1 < df w 4 9 0)
    && inRange 1 8192 (df w 5 13 0) && bufOk (dw w 6) && bufOk (dw w 7)

/-- R256: the interleaved order of the K bits. -/
def polarOrder (w : List Nat) (i : Nat) : Nat := if df w 4 24 24 = 1 then Config.polarIl (df w 4 9 0) i else i

/-- POLAR_ENCODE (R257); descriptors of no defined OP are refused by this row too. -/
def execEngPolarEncode (by_ : IssueBy) (s : State) : Host.Outcome State Fault Refusal :=
  .next (s.engIssue by_ .pe (fun w => !(isOp 2 w)) peOk fun e s =>
    let w := e.w
    let n := df w 4 31 28
    let c := df w 4 19 16
    let k := df w 4 9 0
    let a := k - (crcCode c).1
    let src := deckOf (dw w 6)
    let rd := s.engRead e.x.unit src (ceilDiv a 8)
    let pay := s.bitsAt src a
    let cw := pay ++ msbBits (crcCode c).1 (crcOf c (df w 5 31 16) pay)
    let il := (List.range k).map fun i => cw.getD (polarOrder w i) false
    let u := (List.range (2 ^ n)).foldl
      (fun (r : List Bool × List Bool) i =>
        let kd := polarKindOf w i
        if kd = 1 then (match r.2 with
          | b :: l => (r.1 ++ [b], l)
          | [] => (r.1 ++ [false], []))
        else if kd = 2 then (r.1 ++ [pcNext (polarKindOf w) r.1], r.2)
        else (r.1 ++ [false], r.2))
      ([], il)
    let s := rd.2.engLand e (e.fin s) (deckOf (dw w 7)) (packBits (polarXform n u.1))
    ⟨[e.one s (if rd.1 then [2] else []) 0 0 0 false], 0, [], s⟩)

def sgn (x : Int) : Int := if x < 0 then -1 else 1

/-- R258: f of the successive-cancellation decoder. -/
def polarF (a b : Int) : Int := sgn a * sgn b * (min a.natAbs b.natAbs : Nat)

/-- R258: the decision LLR of the next index of a path: from the LLRs of a subtree of 2^n and the bits decided in it. -/
def polarLlr : Nat → List Int → List Bool → Int
  | 0, l, _ => l.getD 0 0
  | n + 1, l, us =>
    let a := l.take (2 ^ n)
    let b := l.drop (2 ^ n)
    if us.length < 2 ^ n then polarLlr n (List.zipWith polarF a b) us
    else
      let x := polarXform n (us.take (2 ^ n))
      let ab := List.zip a b
      let g := List.zipWith (fun p (u : Bool) => sat10 (p.2 + (if u then -p.1 else p.1))) ab x
      polarLlr n g (us.drop (2 ^ n))

/-- A path of list decoding: its bits, its metric, whether an information bit was decided from 0, and for each
information bit whether it was. -/
structure PolarPath where
  us : List Bool
  pm : Nat
  weak : Bool

/-- R258: a path extended by one bit. -/
def PolarPath.push (p : PolarPath) (u : Bool) (x : Int) (info : Bool) : PolarPath :=
  ⟨p.us ++ [u], min 65535 (p.pm + (if u != decide (x < 0) then x.natAbs else 0)), p.weak || (info && x == 0)⟩

/-- Inserts by metric, behind paths of equal metric. -/
def insertPath (p : PolarPath) : List PolarPath → List PolarPath
  | [] => [p]
  | q :: l => if q.pm ≤ p.pm then q :: insertPath p l else p :: q :: l

def sortPaths (l : List PolarPath) : List PolarPath := l.foldl (fun a p => insertPath p a) []

/-- R258: the children that stay: the `m` of smallest metric, earlier ones at a tie, in parent order. -/
def keepPaths (m : Nat) (l : List PolarPath) : List PolarPath :=
  let tagged := (l.zipIdx).map fun e => (⟨e.1.us, e.1.pm, e.1.weak⟩, e.2)
  let ranked := (tagged : List (PolarPath × Nat)).foldl
    (fun (a : List (PolarPath × Nat)) e =>
      a.takeWhile (fun x => decide (x.1.pm ≤ e.1.pm)) ++ [e] ++ a.dropWhile fun x => decide (x.1.pm ≤ e.1.pm)) []
  let kept := (ranked.take m).map (·.2)
  ((l.zipIdx).filter fun e => kept.contains e.2).map (·.1)

/-- R258: one index of list decoding. -/
def polarStep (w : List Nat) (n lsz : Nat) (llr : List Int) (ps : List PolarPath) (i : Nat) : List PolarPath :=
  let kd := polarKindOf w i
  if kd = 1 then
    keepPaths lsz (ps.flatMap fun p => let x := polarLlr n llr p.us; [p.push false x true, p.push true x true])
  else if kd = 2 then ps.map fun p => let x := polarLlr n llr p.us; p.push (pcNext (polarKindOf w) p.us) x false
  else ps.map fun p => ⟨p.us ++ [false], p.pm, p.weak⟩

/-- POLAR_DECODE (R258). -/
def execEngPolarDecode (by_ : IssueBy) (s : State) : Host.Outcome State Fault Refusal :=
  .next (s.engIssue by_ .pe (isOp 2) peOk fun e s =>
    let w := e.w
    let n := df w 4 31 28
    let c := df w 4 19 16
    let k := df w 4 9 0
    let src := deckOf (dw w 6)
    let rd := s.engRead e.x.unit src (2 ^ n)
    let llr := s.softAt src (2 ^ n)
    let ps := sortPaths ((List.range (2 ^ n)).foldl (polarStep w n (2 ^ df w 4 27 25) llr) [⟨[], 0, false⟩])
    let bitsOf := fun (p : PolarPath) =>
      let il := ((p.us.zipIdx).filter fun b => polarKindOf w b.2 = 1).map (·.1)
      (List.range k).map fun i => (((List.range k).zip il).find? fun x => polarOrder w x.1 = i).elim false (·.2)
    let pass := fun (p : PolarPath) => !p.weak && crcPass c (df w 5 31 16) (bitsOf p)
    let good := ps.filter pass
    let sel := (good ++ ps).getD 0 ⟨[], 0, false⟩
    let ok := !good.isEmpty
    let s := rd.2.engLand e (e.fin s) (deckOf (dw w 7)) (packBits ((bitsOf sel).take (k - (crcCode c).1)))
    ⟨[e.one s (if rd.1 then [2] else []) (if ok then 0 else Ev.ENG_QUAL) (!ok).toNat ok.toNat (!ok)], (!ok).toNat,
      [ok.toNat <<< 31 + good.length <<< 16 + sel.pm], s⟩)

/-! ## Turbo -/

/-- R259–R261: the descriptor of a turbo decode. -/
def tdOk (w : List Nat) (_ : State) : Bool :=
  let k := df w 4 12 0
  let std := df w 4 28 28
  let c := df w 4 27 24
  let f := df w 6 31 16
  df w 0 31 24 = 1 && rsvOk w [(4, 0x80E0E000), (9, 0x0F000000), (10, 0xFFFFFF00)] && zeros w [11, 12, 13, 14, 15]
    && (if std = 0 then Config.turboSize k else inRange 40 5114 k) && inRange 2 16 (df w 4 20 16)
    && [0, 1, 2, 5, 8, 9].contains c && bufOk (dw w 5) && decide (f ≤ 63) && decide (f + (crcCode c).1 < k) && bufOk (dw w 7)
    && (if df w 4 29 29 = 1 then std = 0 && decide (1 ≤ df w 6 15 0) else df w 6 15 0 = 0) && (dw w 8 = 0 || bufOk (dw w 8))
    && decide (df w 9 31 28 ≤ 9)

/-- TS 36.212 clause 5.1.4.1.1: the column permutation of the subblock interleaver. -/
def ltePerm (i : Nat) : Nat := rev 5 i

/-- R265, TS 36.212 clause 5.1.4.1: the source (stream, index) of position `p` of the circular buffer of K, `none` a null. The
first `f` positions of streams 0 and 1 are filler nulls. -/
def lteSource (k f p : Nat) : Option (Nat × Nat) :=
  let d := k + 4
  let rows := ceilDiv d 32
  let kpi := 32 * rows
  let nd := kpi - d
  let pick := fun (st y : Nat) => if y < nd then none else
    let i := y - nd
    if st < 2 ∧ i < f then none else some (st, i)
  let col := fun (q : Nat) => 32 * (q % rows) + ltePerm (q / rows)
  if p < kpi then pick 0 (col p)
  else
    let q := (p - kpi) / 2
    if (p - kpi) % 2 = 0 then pick 1 (col q) else pick 2 ((ltePerm (q / rows) + 32 * (q % rows) + 1) % kpi)

/-- R259: the three streams of K + 4 soft values, one after another; from a circular buffer, positions at NCB or above and
nulls read as 0. -/
def State.turboIn (s : State) (w : List Nat) : List Int :=
  let k := df w 4 12 0
  let a := deckOf (dw w 5)
  if df w 4 29 29 = 0 then s.softAt a (3 * (k + 4))
  else
    let ncb := df w 6 15 0
    let buf := s.softAt a ncb
    let kpi := 32 * ceilDiv (k + 4) 32
    let src := (List.range (3 * kpi)).map fun p => lteSource k (df w 6 31 16) p
    (List.range (3 * (k + 4))).map fun x =>
      match src.findIdx? fun o => o = some (x / (k + 4), x % (k + 4)) with
      | some p => if p < ncb then buf.getD p 0 else 0
      | none => 0

/-- R260: the half-iteration after which the decoder stops, at most `h`. -/
def turboStop (crcStop : Bool) (pass : Nat → Bool) (h : Nat) : Nat :=
  ((List.range (h + 1)).find? fun i => decide (0 < i) && i % 2 = 0 && crcStop && pass i).getD h

/-- TURBO_DECODE (R259–R261). -/
def execEngTurboDecode (by_ : IssueBy) (s : State) : Host.Outcome State Fault Refusal :=
  .next (s.engIssue by_ .td (fun _ => true) tdOk fun e s =>
    let w := e.w
    let k := df w 4 12 0
    let c := df w 4 27 24
    let f := df w 6 31 16
    let rd := s.engRead e.x.unit (deckOf (dw w 5)) (if df w 4 29 29 = 1 then df w 6 15 0 else 3 * (k + 4))
    let y := s.turboIn w
    let app := fun h => Config.turboApp (df w 4 28 28) k y h
    let infoOf := fun h => (hardOf (app h)).drop f
    let pass := fun h => c ≠ 0 && crcPass c 0 (infoOf h) && ((app h).drop f).all (· ≠ 0)
    let used := turboStop (df w 4 30 30 = 1) pass (df w 4 20 16)
    let info := infoOf used
    let ok := pass used
    let undec := ((app used).drop f).countP (· = 0)
    let tb := df w 9 31 28
    let part := if tb = 0 then 0 else crcPart tb (info.take (info.length - (crcCode c).1)) (df w 9 23 0)
    let s := rd.2.engLand e (e.fin s) (deckOf (dw w 7)) (packBits info)
    let s := if dw w 8 ≠ 0 then s.engLand e (e.fin s) (deckOf (dw w 8) + 4 * df w 10 7 0) (wordBytes part) else s
    let fail := c ≠ 0 && !ok
    ⟨[e.one s (if rd.1 then [2] else []) (if fail then Ev.ENG_QUAL else 0) fail.toNat ok.toNat fail], fail.toNat,
      [ok.toNat <<< 31 + (if c = 0 then 0 else 1) <<< 30 + used <<< 16 + min undec 65535, part], s⟩)

/-! ## Trellis -/

/-- R262–R264: the descriptor of a trellis decode. -/
def vdOk (w : List Nat) (_ : State) : Bool :=
  let k := df w 4 31 28
  let ng := df w 4 26 24
  let c := df w 4 19 16
  let gen := fun i => if i < 3 then bits (dw w 5) (9 * i + 8) (9 * i) else bits (dw w 6) (9 * (i - 3) + 8) (9 * (i - 3))
  df w 0 31 24 = 1 && rsvOk w [(4, 0x0870C000), (5, 0xF8000000), (6, 0xF8000000), (7, 0xFE00), (10, 0x20000000)]
    && zeros w [11, 12, 13, 14, 15] && inRange 5 9 k && inRange 2 6 ng && [0, 5, 8, 9, 10, 15].contains c
    && inRange 8 16383 (df w 4 13 0) && (List.range 6).all (fun i => if i < ng then decide (gen i < 2 ^ k) else gen i = 0)
    && decide (df w 7 8 0 < 2 ^ (k - 1)) && (c = 10 || df w 7 31 16 = 0) && bufOk (dw w 8) && bufOk (dw w 9)
    && (if c = 15 then inRange 1 24 (df w 10 28 24) else dw w 10 = 0)

/-- R262: the code of a descriptor: constraint length, generators, feedback taps. -/
structure Conv where
  k : Nat
  gens : List Nat
  fb : Nat

def parity (n v : Nat) : Bool := popcount n v % 2 = 1

/-- R262: the register input for input bit u in a state (bits k − 2 … 0, the newest in bit k − 2). -/
def Conv.input (c : Conv) (st : Nat) (u : Bool) : Bool := if c.fb = 0 then u else xor u (parity (c.k - 1) (st &&& c.fb))

/-- The coded bits of a branch. -/
def Conv.outs (c : Conv) (st : Nat) (u : Bool) : List Bool :=
  let reg := st + (if c.input st u then 2 ^ (c.k - 1) else 0)
  c.gens.map fun g => if g = 0 then u else parity c.k (reg &&& g)

/-- The next state. -/
def Conv.next (c : Conv) (st : Nat) (u : Bool) : Nat := (st + (if c.input st u then 2 ^ (c.k - 1) else 0)) / 2

/-- R263: the metric of a branch. -/
def Conv.bm (c : Conv) (st : Nat) (u : Bool) (y : List Int) : Int :=
  (List.zipWith (fun (b : Bool) v => if b then -v else v) (c.outs st u) y).foldl (· + ·) 0

/-- R263: the survivor into a state: predecessor, input bit, metric, and whether it was chosen at a tie. On a tie the
predecessor whose oldest delay bit is 0 wins. -/
def Conv.acs (c : Conv) (pm : List Int) (y : List Int) (t : Nat) : Nat × Bool × Int × Bool :=
  let half := 2 ^ (c.k - 2)
  let top := decide (half ≤ t)
  let p0 := (t % half) * 2
  let p1 := p0 + 1
  let u := fun p => (if c.fb = 0 then top else xor top (parity (c.k - 1) (p &&& c.fb)))
  let m0 := pm.getD p0 0 + c.bm p0 (u p0) y
  let m1 := pm.getD p1 0 + c.bm p1 (u p1) y
  if m0 < m1 then (p1, u p1, m1, false) else (p0, u p0, m0, m0 == m1)

/-- R263: the steps of the trellis: survivors of each step, newest first, and the final metrics. -/
def Conv.run (c : Conv) : List (List Int) → List Int → List (List (Nat × Bool × Bool)) → List (List (Nat × Bool × Bool)) × List Int
  | [], pm, acc => (acc, pm)
  | y :: ys, pm, acc =>
    let r := (List.range (2 ^ (c.k - 1))).map fun t => c.acs pm y t
    let ms := r.map fun x => x.2.2.1
    let top := ms.foldl max (ms.getD 0 0)
    c.run ys (ms.map (· - top)) ((r.map fun x => (x.1, x.2.1, x.2.2.2)) :: acc)

/-- Traces back from a state: the decisions in step order, with whether each was taken at a tie. -/
def traceBack (st : Nat) : List (List (Nat × Bool × Bool)) → List (Bool × Bool) → List (Bool × Bool)
  | [], acc => acc
  | x :: l, acc => let r := x.getD st (0, false, false); traceBack r.1 l ((r.2.1, r.2.2) :: acc)

/-- R263: the decisions of a block with their ties, and the state before the first output step. -/
def Conv.decode (c : Conv) (tail : Bool) (n : Nat) (y : List (List Int)) : List (Bool × Bool) × Nat :=
  let ns := 2 ^ (c.k - 1)
  if tail then
    let seq := y.drop (n - 64) ++ y ++ y.take 64
    let r := c.run seq (List.replicate ns 0) []
    let best := r.2.foldl max (r.2.getD 0 0)
    let d := traceBack (r.2.idxOf best) r.1 []
    (((d.drop 64).take n), 0)
  else
    let r := c.run y ((List.range ns).map fun st => if st = 0 then 0 else -(2 ^ 20 : Nat)) []
    ((traceBack 0 r.1 []).take (n + 1 - c.k), 0)

/-- The coded bits of a decision sequence from a state. -/
def Conv.encode (c : Conv) : Nat → List Bool → List (List Bool)
  | _, [] => []
  | st, u :: l => c.outs st u :: c.encode (c.next st u) l

/-- R264: the start state of a re-encoding: 0, or of a tail-biting block the state that its last decisions leave. -/
def Conv.start (c : Conv) (tail : Bool) (l : List Bool) : Nat :=
  if tail then l.foldl (fun st u => c.next st u) 0 else 0

/-- R264: the CRC of a decision sequence. -/
def vdCrc (w : List Nat) (l : List Bool) : Bool :=
  let c := df w 4 19 16
  if c = 15 then
    let n := df w 10 28 24
    let ini := if df w 10 30 30 = 1 then 2 ^ n - 1 else 0
    let r := crcFrom n (df w 10 23 0 % 2 ^ n) ini (l.take (l.length - n))
    let got := ofMsb (l.drop (l.length - n))
    decide (n ≤ l.length) && r == (if df w 10 31 31 = 1 then 2 ^ n - 1 - got else got)
  else crcPass c (df w 7 31 16) l

/-- TRELLIS_DECODE (R262–R264). -/
def execEngTrellisDecode (by_ : IssueBy) (s : State) : Host.Outcome State Fault Refusal :=
  .next (s.engIssue by_ .vd (fun _ => true) vdOk fun e s =>
    let w := e.w
    let ng := df w 4 26 24
    let n := df w 4 13 0
    let c := df w 4 19 16
    let tail := df w 4 23 23 = 1
    let gen := fun i => if i < 3 then bits (dw w 5) (9 * i + 8) (9 * i) else bits (dw w 6) (9 * (i - 3) + 8) (9 * (i - 3))
    let code : Conv := ⟨df w 4 31 28, (List.range ng).map gen, df w 7 8 0⟩
    let src := deckOf (dw w 8)
    let rd := s.engRead e.x.unit src (n * ng)
    let y := (List.range n).map fun i => s.softAt (src + i * ng) ng
    let d := (code.decode tail n y).1
    let out := d.map (·.1)
    let re := code.encode (code.start tail out) out
    let reenc := (List.zipWith (fun (a : List Bool) (v : List Int) =>
      ((List.zip a v).countP fun p => p.2 ≠ 0 && (p.1 != decide (p.2 < 0)))) re y).foldl (· + ·) 0
    let ok := c ≠ 0 && vdCrc w out && !(d.any (·.2))
    let fail := c ≠ 0 && !ok
    let s := rd.2.engLand e (e.fin s) (deckOf (dw w 9)) (packBits out)
    ⟨[e.one s (if rd.1 then [2] else []) (if fail then Ev.ENG_QUAL else 0) fail.toNat ok.toNat fail], fail.toNat,
      [ok.toNat <<< 31 + (if c = 0 then 0 else 1) <<< 30 + min reenc 65535], s⟩)

end Sys2Proof.Machine
end

