-- ==== Sys2Proof/Machine/EngHarq.lean ====
section
/-! DEFINITION. The HARQ engines: soft buffers, combining, selection, storing, and the epoch table (R265–R272, R278). -/
namespace Sys2Proof.Machine

/-! ## Epochs -/

/-- The epoch of a context at present (R272). -/
def State.epoch (s : State) (c : Nat) : Nat := (s.en.base + Sparse.get (fun _ => 0) s.en.epochs c) % 65536

/-- A change of the epoch table takes effect. -/
def State.applyEpoch (s : State) (x : EpochChange) : State :=
  let put := fun (s : State) (c v : Nat) =>
    { s with en := { s.en with epochs := Sparse.set (fun _ => 0) s.en.epochs c ((v + 65536 - s.en.base % 65536) % 65536) } }
  match x.set with
  | some v => put s x.ctx v
  | none =>
    if x.ctx = 4096 then { s with en := { s.en with base := (s.en.base + 1) % 65536 } } else put s x.ctx (s.epoch x.ctx + 1)

/-- The changes that are due take effect, in order. -/
def State.epochTick (s : State) : State :=
  let due := s.en.changes.filter fun x => decide (x.due ≤ s.uptime)
  due.foldl State.applyEpoch { s with en := { s.en with changes := s.en.changes.filter fun x => decide (s.uptime < x.due) } }

/-- HQ_EPOCH shows the epoch of the selected context, changes served but not yet in effect included (R278). -/
def State.showEpoch (s : State) : State :=
  let t := s.en.changes.foldl State.applyEpoch s
  let p := page (.eng .hq) 0
  s.put p Rg.HQ_EPOCH (t.epoch (s.get p Rg.HQ_EPOCH_IDX))

/-- R272: a change served now applies to the COMBINEs that issue 2 c later. -/
def State.changeEpoch (s : State) (ctx : Nat) (set : Option Nat) : State :=
  (({ s with en := { s.en with changes := s.en.changes ++ [EpochChange.mk (s.uptime + 2 * s.deckK) ctx set] } }).satAdd (page (.eng .hq) 0)
    Rg.HQ_FLUSH_CNT).showEpoch

/-- HQ_FLUSH (R272). -/
def execHqFlush (w : Who) (value : Nat) (s : State) : Host.Outcome State Fault Refusal :=
  .next (s.access w (page (.eng .hq) 0) 0x148 true fun s =>
    s.changeEpoch (if bits value 31 31 = 1 then 4096 else value % 4096) none)

/-- A write of HQ_EPOCH (R278): the selected context's epoch is set; HQ_FLUSH_CNT counts flushes only. -/
def execHqEpochWrite (w : Who) (value : Nat) (s : State) : Host.Outcome State Fault Refusal :=
  let p := page (.eng .hq) 0
  .next (s.access w p 0x144 true fun s =>
    ({ s with en := { s.en with changes := s.en.changes ++ [EpochChange.mk (s.uptime + 2 * s.deckK) (s.get p Rg.HQ_EPOCH_IDX) (some (value % 65536))] } }).showEpoch)

/-! ## Buffers -/

/-- The bulk address of a buffer. -/
def hqSbuf (w : List Nat) : Nat := df w 11 15 0 * 2 ^ 32 + dw w 10

/-- R265: whether `n` units at the buffer's address lie in one pseudo-channel and in a shared-state region. -/
def sbufOk (s : State) (w : List Nat) (n : Nat) : Bool :=
  let a := hqSbuf w
  a % 64 = 0 && decide (a + 64 * n ≤ bulkEnd) && a / 0x30000000 = (a + 64 * n - 1) / 0x30000000
    && match s.plan with
      | some p => (p.foot ++ p.bulk).any fun r => r.kind = 1 && decide (r.base ≤ a) && decide (a + 64 * n ≤ r.base + 64 * r.len)
      | none => false

/-- CRC-32C of bytes (log entry 7), as Image.lean computes it. -/
def headerCrc (l : List Nat) : Nat := crc32c l

/-- R265: the header of a buffer. -/
def hqHeader (w : List Nat) (ctx epoch : Nat) (bitBuf : Bool) : List Nat :=
  let h := wordBytes ((ctx % 4096) <<< 20 + df w 12 19 0) ++ wordBytes (epoch <<< 16 + df w 5 31 16)
    ++ wordBytes (df w 4 31 30 <<< 30 + bitBuf.toNat <<< 29) ++ List.replicate 48 0
  h ++ wordBytes (headerCrc h)

/-- R266, R270: whether a fetched header names the operation's buffer. -/
def hqAccepts (w : List Nat) (ctx epoch : Nat) (bitBuf : Bool) (h : List Nat) : Bool :=
  let word := fun i => ofBytes ((h.drop (4 * i)).take 4)
  word 15 = headerCrc (h.take 60) && bits (word 0) 31 20 = ctx % 4096 && bits (word 0) 19 0 = df w 12 19 0
    && bits (word 1) 31 16 = epoch && bits (word 1) 15 0 = df w 5 31 16 && bits (word 2) 31 30 = df w 4 31 30
    && (bits (word 2) 29 29 = 1) == bitBuf

/-- R207, R265–R271: the descriptor of a HARQ operation. -/
def hqOk (w : List Nat) (s : State) : Bool :=
  let op := df w 0 31 24
  let mode := df w 4 31 30
  let qm := df w 4 25 22
  let zk := df w 4 12 0
  let ncb := df w 5 31 16
  let e := df w 6 17 0
  let bitBuf := if op = 1 then false else if op = 2 then true else df w 4 20 20 = 1
  let uses := op ≠ 2 || df w 4 21 21 = 1
  inRange 1 3 op && rsvOk w [(4, 0x000FE000), (6, 0xFFFC0000), (7, 0xFFFF0000), (11, 0xFFFF0000), (12, 0xFFF00000)]
    && inRange 1 2 mode && (op = 1 || df w 4 29 29 = 0) && (op = 2 || df w 4 21 21 = 0) && (op = 3 || df w 4 20 20 = 0)
    && inRange 1 25344 ncb
    && (if mode = 1 then
          (liftSet zk).isSome && decide (ncb ≤ (if df w 4 28 28 = 0 then 66 else 50) * zk)
            && inRange 1 (kCols (df w 4 28 28) * zk) (df w 5 15 0)
            && (op = 3 || ([1, 2, 4, 6, 8].contains qm && e % qm = 0))
        else df w 4 28 28 = 0 && qm = 0 && Config.turboSize zk && decide (df w 5 15 0 ≤ zk))
    && (op = 3 || inRange 1 262143 e)
    && (if op = 1 then df w 7 15 0 = 1 + max (ceilDiv ncb 64) (ceilDiv e 64)
        else if op = 2 then df w 7 15 0 = 1 + max (ceilDiv (hqNb w) 512) (ceilDiv e 512) else true)
    && bufOk (dw w 8) && (if op = 3 then dw w 9 = 0 else bufOk (dw w 9))
    && (!uses || sbufOk s w (hqUnits w bitBuf))
    && (if op = 3 then dw w 13 = 0 || bufOk (dw w 13) else zeros w [13, 14, 15]) && rsvOk w [(14, 0x0FFFFFFF)]

/-! ## Positions -/

/-- TS 38.212 Table 5.4.2.1-2 and TS 36.212 clause 5.1.4.1.2: k0. -/
def hqK0 (w : List Nat) : Nat :=
  let rv := df w 4 27 26
  let ncb := df w 5 31 16
  let zk := df w 4 12 0
  if df w 4 31 30 = 1 then
    if df w 4 28 28 = 0 then ([0, 17, 33, 56].getD rv 0) * ncb / (66 * zk) * zk
    else ([0, 13, 25, 43].getD rv 0) * ncb / (50 * zk) * zk
  else
    let r := ceilDiv (zk + 4) 32
    r * (2 * ceilDiv ncb (8 * r) * rv + 2)

/-- Whether a position of the circular buffer is a filler or a null. -/
def hqSkips (w : List Nat) (p : Nat) : Bool :=
  let zk := df w 4 12 0
  if df w 4 31 30 = 1 then
    let k := kCols (df w 4 28 28) * zk
    decide (df w 5 15 0 ≤ p + 2 * zk) && decide (p + 2 * zk < k)
  else (lteSource zk (zk - df w 5 15 0) p).isNone

/-- The first `e` positions from k0 on, cyclically, fillers and nulls skipped; none if nothing but fillers remains. -/
def hqPositions (w : List Nat) (e : Nat) : List Nat :=
  let ncb := df w 5 31 16
  let k0 := hqK0 w
  let live := ((List.range ncb).map fun i => (k0 + i) % ncb).filter fun p => !(hqSkips w p)
  if live.isEmpty then [] else (List.range e).map fun j => live.getD (j % live.length) 0

/-- TS 38.212 clause 5.4.2.2: the interleaved place of value m of e. -/
def hqIl (w : List Nat) (e m : Nat) : Nat :=
  if df w 4 31 30 = 1 then
    let q := df w 4 25 22
    m / (e / q) + m % (e / q) * q
  else m

def satSoft (x : Int) : Int := max (-127) (min 127 x)

/-! ## Operations -/

/-- R423: a fetch or a STORE whose region is not in one plan-refreshed pseudo-channel is suppressed. -/
def State.hqBulk (s : State) (e : EngIn) (n : Nat) : Bool × State :=
  let a := hqSbuf e.w
  if s.inPlanPc a (64 * n) then (true, s)
  else
    (false, (s.event (page .bm (a / 0x30000000 / 16)) Ev.NOT_PLAN_PC e.x.ctx a (a / 2 ^ 32)).deckEvent Ev.FOOTPRINT a 0 e.x.ctx)

/-- COMBINE (R266, R269); descriptors of no defined OP are refused by this row too. -/
def execEngCombine (by_ : IssueBy) (s : State) : Host.Outcome State Fault Refusal :=
  .next (s.engIssue by_ .hq (fun w => !(isOp 2 w || isOp 3 w)) hqOk fun e s =>
    let w := e.w
    let ncb := df w 5 31 16
    let el := df w 6 17 0
    let new := df w 4 29 29 = 1
    let sb := hqSbuf w
    let ep := s.epoch e.x.ctx
    let g := s.hqBulk e (hqUnits w false)
    let s := g.2
    let hd := if g.1 then s.engRead e.x.unit sb 64 else (true, s)
    let vs := if g.1 then hd.2.engRead e.x.unit (sb + 64) ncb else (false, s)
    let good := !new && !hd.1 && hqAccepts w e.x.ctx ep false (s.loadAll sb 1 64)
    let flushed := !new && !good
    let prior := if good then s.softAt (sb + 64) ncb else List.replicate ncb 0
    let rd := vs.2.engRead e.x.unit (deckOf (dw w 8)) el
    let f := s.softAt (deckOf (dw w 8)) el
    let sum := ((hqPositions w el).zipIdx).foldl
      (fun (b : List Int) (p : Nat × Nat) => b.set p.1 (satSoft (b.getD p.1 0 + f.getD (hqIl w el p.2) 0))) prior
    let out := hqHeader w e.x.ctx ep false ++ sum.map (ofInt 8)
    let s := rd.2.engLand e (e.fin s) (deckOf (dw w 9)) out
    ⟨[e.one s (if (vs.1 && good) || rd.1 then [2] else []) (if flushed then Ev.ENG_QUAL else 0) flushed.toNat 0 false],
      if flushed then 2 else 0, [], s⟩)

/-- SELECT (R270). -/
def execEngSelect (by_ : IssueBy) (s : State) : Host.Outcome State Fault Refusal :=
  .next (s.engIssue by_ .hq (isOp 2) hqOk fun e s =>
    let w := e.w
    let el := df w 6 17 0
    let nb := hqNb w
    let src1 := df w 4 21 21 = 1
    let sb := hqSbuf w
    let ep := s.epoch e.x.ctx
    let g := if src1 then s.hqBulk e (hqUnits w true) else (true, s)
    let s := g.2
    let hd := if src1 && g.1 then s.engRead e.x.unit sb 64 else (!g.1, s)
    let good := !src1 || (g.1 && !hd.1 && hqAccepts w e.x.ctx ep true (s.loadAll sb 1 64))
    let from_ := if src1 then sb + 64 else deckOf (dw w 8)
    let rd := hd.2.engRead e.x.unit from_ (ceilDiv nb 8)
    let d := s.bitsAt from_ nb
    let zk := df w 4 12 0
    let at_ := fun (p : Nat) =>
      if df w 4 31 30 = 1 then d.getD p false
      else match lteSource zk (zk - df w 5 15 0) p with
        | some (st, i) => d.getD (st * (zk + 4) + i) false
        | none => false
    let e0 := (hqPositions w el).map at_
    let sel := (List.range el).map fun m =>
      if df w 4 31 30 = 1 then
        let q := df w 4 25 22
        e0.getD (m % q * (el / q) + m / q) false
      else e0.getD m false
    let out := if good then sel else List.replicate el false
    let s := rd.2.engLand e (e.fin s) (deckOf (dw w 9)) (packBits out)
    ⟨[e.one s (if rd.1 then [2] else []) (if good then 0 else Ev.ENG_QUAL) (!good).toNat 0 false], if good then 0 else 2, [], s⟩)

/-- STORE (R271). -/
def execEngStore (by_ : IssueBy) (s : State) : Host.Outcome State Fault Refusal :=
  .next (s.engIssue by_ .hq (isOp 3) hqOk fun e s =>
    let w := e.w
    let bitBuf := df w 4 20 20 = 1
    let n := hqUnits w bitBuf
    let src := deckOf (dw w 8)
    let cond := if dw w 13 = 0 then (false, s) else s.engRead e.x.unit (deckOf (dw w 13)) 64
    let word := s.load (deckOf (dw w 13) + 4 * df w 14 31 28) 4
    let skip := dw w 13 ≠ 0 && (word &&& dw w 15) = dw w 15
    let len := if bitBuf then 64 * (n - 1) else 64 * n
    let rd := cond.2.engRead e.x.unit src len
    let data := rd.2.loadAll src 1 len
    let out := if bitBuf then hqHeader w e.x.ctx (s.epoch e.x.ctx) true ++ data else data
    let g := rd.2.hqBulk e n
    let s := if g.1 && !skip then g.2.engLand e (e.fin s) (hqSbuf w) out else g.2
    ⟨[e.one s (if rd.1 || cond.1 then [2] else []) 0 0 skip.toNat skip], 0, [], s⟩)

end Sys2Proof.Machine
end

