-- ==== Sys2Proof/Machine/Hub.lean ====
section
/-! DEFINITION. The event hub and the messages of the PCIe endpoint (R464–R468, R477, R478). -/
namespace Sys2Proof.Machine

def nat0 : Nat → Nat := fun _ => 0

/-- MSI-X table words after a reset of the function: every vector is masked (log entry 21). -/
def msix0 : Nat → Nat := fun k => if k % 4 = 3 then 1 else 0

def State.setHub (s : State) (h : Hub) : State := { s with ab := { s.ab with hub := h } }

def State.setPcie (s : State) (p : Pcie) : State := { s with ab := { s.ab with pcie := p } }

/-! ## Messages to the host -/

/-- The link carries traffic. -/
def State.linkUp (s : State) : Bool := s.domOn 5 && !s.ab.pcie.perst && s.flag pgPcie Rg.PCIE_STAT_LINK_UP

/-- A memory write of the physical or a virtual function to the host. -/
def State.hostWrite (s : State) (addr : Nat) (data : List Nat) : State :=
  (s.setPcie { s.ab.pcie with sent := some (addr, data) }).bump pgPcie 0xF1 data.length

/-- R468: the MSI-X message of vector `v` of function `fn`; a masked vector sets its pending bit. -/
def State.msixSend (s : State) (fn v : Nat) : State :=
  let k := 2048 * fn + v
  let p := s.ab.pcie
  if !s.linkUp || Sparse.get nat0 p.bme fn = 0 || (fn ≠ 0 && (!p.sriov || decide (64 ≤ v))) then s.event pgHub Ev.MSIX_DROP
  else if (Sparse.get msix0 p.msix (4 * k + 3)).testBit 0 then
    s.setPcie { p with pba := Sparse.set nat0 p.pba k 1 }
  else
    let a := Sparse.get msix0 p.msix (4 * k) + 2 ^ 32 * Sparse.get msix0 p.msix (4 * k + 1)
    ((s.setPcie { p with pba := Sparse.set nat0 p.pba k 0 }).hostWrite a
      (bytesOf 4 (Sparse.get msix0 p.msix (4 * k + 2)))).bump pgPcie 4

/-! ## Sources and contexts -/

/-- The route entry of a source (R466). -/
def State.route (s : State) (src : Nat) : Nat := Sparse.get nat0 s.ab.hub.routes src

def routeEn (r : Nat) : Bool := bits r 31 31 = 1 && bits r 30 28 ≠ 0
def routePrio (r : Nat) : Nat := bits r 30 28
def routeKind (r : Nat) : Nat := bits r 27 26

def State.hubPend (s : State) (src : Nat) : Bool := Sparse.get nat0 s.ab.hub.pend src ≠ 0
def State.hubBusy (s : State) (src : Nat) : Bool := Sparse.get nat0 s.ab.hub.insvc src ≠ 0

/-- R467: the source that context `k` would claim: the highest PRIO, then the lowest number. -/
def State.hubBest (s : State) (k : Nat) : Option Nat :=
  (s.ab.hub.pend.map (·.1)).foldl (fun best src =>
    let r := s.route src
    if routeEn r && routeKind r = 0 && bits r 10 0 = k && !s.hubBusy src && decide (s.get pgHub Rg.EH_THR k < routePrio r) then
      match best with
      | none => some src
      | some b => if routePrio (s.route b) < routePrio r then some src else best
    else best) none

def hart0 : Nat → Hart := fun _ => Hart.zero

def State.hart (s : State) (h : Nat) : Hart := Sparse.get hart0 s.ab.harts h

def State.setHart (s : State) (h : Nat) (x : Hart) : State :=
  { s with ab := { s.ab with harts := Sparse.set hart0 s.ab.harts h x } }

/-- R466, R467: the external interrupt lines of the harts, and EH_SRC_STAT, follow the hub. -/
def State.hubShow (s : State) : State :=
  let s := (List.range 16).foldl (fun s h =>
    s.setHart h { s.hart h with mei := (s.hubBest (2 * h)).isSome, sei := (s.hubBest (2 * h + 1)).isSome }) s
  let src := s.get pgHub Rg.EH_IDX
  (s.put pgHub Rg.EH_SRC_STAT_PEND (s.hubPend src).toNat).put pgHub Rg.EH_SRC_STAT_INSVC (s.hubBusy src).toNat

/-- A source's pending state becomes `v`. A change from 0 to 1 of a source routed to the host sends its message (R468);
an edge source is then no longer pending (log entry 22). -/
def State.hubSet (s : State) (src : Nat) (v : Bool) : State :=
  let was := s.hubPend src
  let s := s.setHub { s.ab.hub with pend := Sparse.set nat0 s.ab.hub.pend src v.toNat }
  let r := s.route src
  let s :=
    if v && !was && routeEn r && (routeKind r = 1 || routeKind r = 2) then
      let s := s.msixSend (if routeKind r = 1 then 0 else bits r 25 20) (bits r 10 0)
      if 4096 ≤ src then s.setHub { s.ab.hub with pend := Sparse.set nat0 s.ab.hub.pend src 0 } else s
    else s
  s.hubShow

/-- R464, R494, R500: doorbell `d`. -/
def State.doorbell (s : State) (d : Nat) : State := if s.domOn 3 then s.hubSet (4352 + d % 64) true else s

/-- R28: the interrupt line of a page. -/
def State.irqLine (s : State) (p : Nat) : Bool :=
  match pageOf p with
  | some (k, i) => s.domOn (pageDomain k i) && (s.irqNow p &&& s.reg p 0x014) != 0
  | none => false

/-! ## The commands -/

/-- EVENT_MESSAGE (R465): the EVENT packet of a change of a page's interrupt line reaches the hub. -/
def execEventMessage (src : Fin 4096) (s : State) : Host.Outcome State Fault Refusal :=
  .next (
    if s.domOn 2 && s.domOn 3 && s.irqLine src.val != s.hubPend src.val then s.hubSet src.val (s.irqLine src.val) else s)

/-- EH_DOORBELL (R464). -/
def execEhDoorbell (w : Who) (value : Nat) (s : State) : Host.Outcome State Fault Refusal :=
  .next (s.access w pgHub 0x10C true fun s => s.doorbell (bits value 5 0))

/-- What a read of EH_CLAIMk does (R467). -/
def State.hubClaim (s : State) (k : Nat) : State :=
  match s.hubBest k with
  | none => (s.setReg pgHub (0x204 + 8 * k) 0).answer 0 0
  | some src =>
    let h := s.ab.hub
    let s := s.setHub { h with
      insvc := Sparse.set nat0 h.insvc src 1
      pend := if 4096 ≤ src then Sparse.set nat0 h.pend src 0 else h.pend }
    let v := 2 ^ 31 + src
    ((s.hubShow).setReg pgHub (0x204 + 8 * k) (BitVec.ofNat 32 v)).answer 0 v

/-- EH_CLAIM (R467). -/
def execEhClaim (w : Who) (k : Fin 32) (s : State) : Host.Outcome State Fault Refusal :=
  .next (s.access w pgHub (0x204 + 8 * k.val) false fun s => s.hubClaim k.val)

/-- What a write of EH_CLAIMk does (R467, R474). -/
def State.hubComplete (s : State) (k src : Nat) : State :=
  let r := s.route src
  if s.hubBusy src && routeKind r = 0 && bits r 10 0 = k then
    (s.setHub { s.ab.hub with insvc := Sparse.set nat0 s.ab.hub.insvc src 0 }).hubShow
  else s.event pgHub Ev.BAD_COMPLETE

/-- EH_COMPLETE (R467). -/
def execEhComplete (w : Who) (k : Fin 32) (value : Nat) (s : State) : Host.Outcome State Fault Refusal :=
  .next (s.access w pgHub (0x204 + 8 * k.val) true fun s => s.hubComplete k.val (bits value 12 0))

/-- What a write of EH_IDX does (R477). -/
def State.hubIdx (s : State) : State :=
  (s.setReg pgHub 0x104 (BitVec.ofNat 32 (s.route (s.get pgHub Rg.EH_IDX)))).hubShow

/-- EH_IDX_WRITE (R477). -/
def execEhIdxWrite (w : Who) (value : Nat) (s : State) : Host.Outcome State Fault Refusal :=
  .next (s.command w pgHub 0x100 value fun s => s.hubIdx)

/-- What a write of EH_ROUTE does (R477). -/
def State.hubRoute (s : State) : State :=
  let src := s.get pgHub Rg.EH_IDX
  if src < 4416 then
    (s.setHub { s.ab.hub with routes := Sparse.set nat0 s.ab.hub.routes src (s.reg pgHub 0x104).toNat }).hubShow
  else s

/-- EH_ROUTE_WRITE (R477). -/
def execEhRouteWrite (w : Who) (value : Nat) (s : State) : Host.Outcome State Fault Refusal :=
  .next (s.command w pgHub 0x104 value fun s => s.hubRoute)

/-! ## The PCIe page -/

/-- What a write of PCIE_VF_IDX does (R478). -/
def State.vfIdx (s : State) : State :=
  let f := s.get pgPcie Rg.PCIE_VF_IDX
  let s := s.put pgPcie Rg.PCIE_VF_CTX (Sparse.get nat0 s.ab.pcie.ctx f)
  (List.range 4).foldl (fun s i =>
    s.setReg pgPcie (0x128 + 4 * i) (BitVec.ofNat 32 (Sparse.get nat0 s.ab.pcie.wins (4 * f + i)))) s

/-- PCIE_VF_IDX_WRITE (R478). -/
def execPcieVfIdxWrite (w : Who) (value : Nat) (s : State) : Host.Outcome State Fault Refusal :=
  .next (s.command w pgPcie 0x120 value fun s => s.vfIdx)

/-- What a write of PCIE_VF_CMD with WRITE = 1 does (R478). -/
def State.vfApply (s : State) : State :=
  let f := s.get pgPcie Rg.PCIE_VF_IDX
  if f = 0 then s
  else
    let p := s.ab.pcie
    s.setPcie { p with
      ctx := Sparse.set nat0 p.ctx f (s.get pgPcie Rg.PCIE_VF_CTX)
      wins := (List.range 4).foldl (fun l i => Sparse.set nat0 l (4 * f + i) (s.reg pgPcie (0x128 + 4 * i)).toNat) p.wins }

/-- PCIE_VF_WRITE (R478). -/
def execPcieVfWrite (w : Who) (s : State) : Host.Outcome State Fault Refusal :=
  .next (s.access w pgPcie 0x138 true fun s => s.vfApply)

/-- R475: a PCIe event, with the function in DETAIL[23:16]. -/
def State.pcieEvent (s : State) (code fn : Nat) : State := s.event pgPcie code 0 0 (fn <<< 16)

/-- PCIE_LINK_CHANGE (R469, R472): the link reaches L0 at a width and speed (1–5), or is lost. -/
def execPcieLinkChange (up : Bool) (width speed : Nat) (s : State) : Host.Outcome State Fault Refusal :=
  .next (
    if s.domOn 5 && !s.ab.pcie.perst && s.flag pgPcie Rg.PCIE_STAT_LINK_UP != up then
      if up then
        (((s.put pgPcie Rg.PCIE_STAT_LINK_UP 1).put pgPcie Rg.PCIE_STAT_WIDTH width).put pgPcie Rg.PCIE_STAT_SPEED speed).pcieEvent
          Ev.LINK_UP_59 0
      else
        ((((s.put pgPcie Rg.PCIE_STAT_LINK_UP 0).put pgPcie Rg.PCIE_STAT_WIDTH 0).put pgPcie Rg.PCIE_STAT_SPEED 0).setPcie
          { s.ab.pcie with reads := [] }).pcieEvent Ev.LINK_DOWN 0
    else s)

/-- PCIE_PERST (R666): a low on PE_PERST_N holds the endpoint in reset: no link, no function state. -/
def execPciePerst (s : State) : Host.Outcome State Fault Refusal :=
  let up := s.flag pgPcie Rg.PCIE_STAT_LINK_UP
  let p := s.ab.pcie
  let s := s.setPcie { Pcie.zero with ctx := p.ctx, wins := p.wins, perst := true, sent := p.sent }
  let s := s.setReg pgPcie 0x100 0
  .next (if up then s.pcieEvent Ev.LINK_DOWN 0 else s)

/-- PE_PERST_RELEASE (R666): PE_PERST_N returns high: the link can train. -/
def execPePerstRelease (s : State) : Host.Outcome State Fault Refusal :=
  .next (s.setPcie { s.ab.pcie with perst := false })

/-- R472: an outbound access while the link is down. -/
def State.outboundDown (s : State) (write : Bool) : State := s.answer (if write then 0 else stTimeout) 0

/-- R472: the host address of an outbound address. -/
def State.hostAddr (s : State) (a : Nat) : Nat := (s.get64 pgPcie Rg.PCIE_OB_XLAT_LO + (a - outboundBase)) % 2 ^ 64

/-- OUTBOUND_REQUEST (R472): an access of `len` bytes to outbound address `a` by initiator `source`. `cpl` tells a read's
completion: a status of R386 (0: success; 1 Unsupported Request or Completer Abort; 8 poisoned) and its data; `none`: it
has not arrived. -/
def execOutboundRequest (source : Nat) (a : Nat) (data : Option (List Nat)) (len : Nat) (cpl : Option (Nat × Nat)) (s : State) :
    Host.Outcome State Fault Refusal :=
  .next (
    match place a with
    | .outbound _ =>
      if s.asleep 5 then s.answer stAsleep 0
      else if !s.linkUp then s.outboundDown data.isSome
      else
        let s := s.bump pgPcie 2
        match data with
        | some d => (s.hostWrite (s.hostAddr a) d).answer 0 0
        | none =>
          match cpl with
          | some (st, v) => s.answer (if st = 0 then 0 else if st = stPoison then stPoison else stUnmapped) v
          | none => s.setPcie { s.ab.pcie with reads := s.ab.pcie.reads ++ [⟨source, a, len⟩] }
    | _ => s)

/-- CPL_TIMEOUT (R472): the oldest outstanding outbound read gets no completion. -/
def execCplTimeout (s : State) : Host.Outcome State Fault Refusal :=
  .next (
    match s.ab.pcie.reads with
    | [] => s
    | _ :: l =>
      (((s.setPcie { s.ab.pcie with reads := l }).satAdd pgPcie Rg.PCIE_ERRCNT_CTO).pcieEvent Ev.CPL_TIMEOUT 0).answer stTimeout 0)

end Sys2Proof.Machine
end

