-- ==== Sys2Proof/Machine/Hart.lean ====
section
/-! DEFINITION. The harts: registers and CSRs, traps, physical memory protection, address translation, and the coherent
caches (R442–R456). What the RISC-V architecture says beyond the spec is PRESUMED (log entry 23). -/
namespace Sys2Proof.Machine

def pgCluster (c : Nat) : Nat := page .cluster c

/-! ## Registers -/

/-- x[r]; x0 reads 0. -/
def Hart.reg (x : Hart) (r : Nat) : Nat := if r = 0 then 0 else Sparse.get nat0 x.x r

/-- Writes x[r] (64 bits); a write of x0 is discarded. -/
def Hart.setReg (x : Hart) (r v : Nat) : Hart := if r = 0 then x else { x with x := Sparse.set nat0 x.x r (v % 2 ^ 64) }

/-- q[r] (R455). -/
def Hart.vec (x : Hart) (r : Nat) : Nat := Sparse.get nat0 x.q r % 2 ^ 128

def Hart.setVec (x : Hart) (r v : Nat) : Hart := { x with q := Sparse.set nat0 x.q r (v % 2 ^ 128) }

def csrSstatus : Nat := 0x100
def csrStvec : Nat := 0x105
def csrSenvcfg : Nat := 0x10A
def csrSepc : Nat := 0x141
def csrScause : Nat := 0x142
def csrStval : Nat := 0x143
def csrSatp : Nat := 0x180
def csrMstatus : Nat := 0x300
def csrMedeleg : Nat := 0x302
def csrMideleg : Nat := 0x303
def csrMie : Nat := 0x304
def csrMtvec : Nat := 0x305
def csrMenvcfg : Nat := 0x30A
def csrMepc : Nat := 0x341
def csrMcause : Nat := 0x342
def csrMtval : Nat := 0x343
def csrPmpcfg0 : Nat := 0x3A0
def csrPmpaddr0 : Nat := 0x3B0
def csrMxctx : Nat := 0x7C0
def csrXsvstart : Nat := 0x800
def csrXsvsat : Nat := 0x801
def csrInstret : Nat := 0xB02

/-- The CSRs at a hart's reset: mstatus with UXL = SXL = 2 and FS = Initial (log entry 24); the others 0. -/
def csrReset : Nat → Nat := fun n => if n = csrMstatus then 0xA00002000 else 0

def Hart.get (x : Hart) (n : Nat) : Nat := Sparse.get csrReset x.csr n

def Hart.set (x : Hart) (n v : Nat) : Hart := { x with csr := Sparse.set csrReset x.csr n (v % 2 ^ 64) }

/-- Replaces bits `hi:lo` of a number. -/
def putBits (v hi lo n : Nat) : Nat := v - bits v hi lo <<< lo + (n % 2 ^ (hi + 1 - lo)) <<< lo

/-- mstatus.FS (R455). -/
def Hart.fs (x : Hart) : Nat := bits (x.get csrMstatus) 14 13

def Hart.dirty (x : Hart) : Hart := x.set csrMstatus (putBits (x.get csrMstatus) 14 13 3)

/-! ## Traps -/

/-- The hart takes a trap: an exception `cause` (`irq`: an interrupt), delegated to S-mode by medeleg or mideleg. -/
def Hart.trap (x : Hart) (irq : Bool) (cause tval : Nat) : Hart :=
  let st := x.get csrMstatus
  let deleg := x.priv ≠ 3 && (x.get (if irq then csrMideleg else csrMedeleg)).testBit cause
  let code := (if irq then 2 ^ 63 else 0) + cause
  let base := fun tv => tv / 4 * 4 + (if irq && tv % 4 = 1 then 4 * cause else 0)
  if deleg then
    let st := putBits (putBits (putBits st 5 5 (bits st 1 1)) 1 1 0) 8 8 x.priv
    { (((x.set csrSepc x.pc).set csrScause code).set csrStval tval).set csrMstatus st with
      pc := base (x.get csrStvec), priv := 1, wfi := false }
  else
    let st := putBits (putBits (putBits st 7 7 (bits st 3 3)) 3 3 0) 12 11 x.priv
    { (((x.set csrMepc x.pc).set csrMcause code).set csrMtval tval).set csrMstatus st with
      pc := base (x.get csrMtvec), priv := 3, wfi := false }

/-- An illegal-instruction exception. -/
def Hart.illegal (x : Hart) : Hart := x.trap false 2 0

/-- The hart's instruction completes: the next one follows. -/
def Hart.next (x : Hart) : Hart := { x with pc := (x.pc + 4) % 2 ^ 64 }.set csrInstret (x.get csrInstret + 1)

/-- mip of hart `h`: MSIP, MTIP, SEIP, MEIP. -/
def State.mip (s : State) (h : Nat) : Nat :=
  let x := s.hart h
  ((s.get (pgCluster (h / 4)) Rg.CL_MSIP).testBit (h % 4)).toNat <<< 3 + x.mti.toNat <<< 7 + x.sei.toNat <<< 9 + x.mei.toNat <<< 11

/-- The interrupts that the hart would take now, the first by the priority MEI, MSI, MTI, SEI. -/
def State.hartIrq (s : State) (h : Nat) : Option Nat :=
  let x := s.hart h
  let st := x.get csrMstatus
  let ready := s.mip h &&& x.get csrMie
  [11, 3, 7, 9].find? fun c => ready.testBit c &&
    (if (x.get csrMideleg).testBit c then x.priv = 0 || (x.priv = 1 && st.testBit 1)
      else x.priv ≠ 3 || st.testBit 3)

/-- The cluster page shows which cores run and which wait (R476). -/
def State.showCluster (s : State) (c : Nat) : State :=
  let f := fun p => (List.range 4).foldl (fun a i => a + (p (s.hart (4 * c + i)) : Bool).toNat * 2 ^ i) 0
  (s.put (pgCluster c) Rg.CL_STAT_RUN (f fun x => x.running)).put (pgCluster c) Rg.CL_STAT_WFI (f fun x => x.wfi)

/-- R592: a waiting hart resumes when an interrupt is pending for it; a running hart takes the interrupts that are enabled,
between instructions. Called at every cy. -/
def State.hartTick (s : State) : State :=
  (s.ab.harts.map (·.1)).foldl (fun s h =>
    let x := s.hart h
    if x.running && s.domOn (8 + h / 4) then
      let s := if x.wfi && (s.mip h &&& x.get csrMie) ≠ 0 then (s.setHart h { x with wfi := false }).showCluster (h / 4) else s
      match s.hartIrq h with
      | some c => s.setHart h ((s.hart h).trap true c 0)
      | none => s
    else s) s

/-- A hart's instruction, while the hart runs. -/
def State.instr (s : State) (h : Nat) (f : Hart → State → State) : State :=
  let x := s.hart h
  if x.running && !x.wfi && s.domOn (8 + h / 4) then ((f x s).bump (pgCluster (h / 4)) 1).touch (8 + h / 4) else s

/-! ## Initiator, protection and translation -/

/-- The privilege of a hart's loads and stores (mstatus.MPRV). -/
def Hart.dataPriv (x : Hart) : Nat :=
  let st := x.get csrMstatus
  if x.priv = 3 && st.testBit 17 then bits st 12 11 else x.priv

/-- R447: who a hart's access is made by. -/
def Hart.who (x : Hart) (h : Nat) : Who :=
  let c := x.get csrMxctx
  ⟨216 + h, x.dataPriv, if x.dataPriv = 3 then bits c 11 0 else bits c 27 16, 0⟩

/-- pmpcfg of entry `i` (16 entries, R442). -/
def Hart.pmpcfg (x : Hart) (i : Nat) : Nat := bits (x.get (csrPmpcfg0 + i / 8 * 2)) (8 * (i % 8) + 7) (8 * (i % 8))

/-- The bytes that PMP entry `i` covers, from the first to below the second. -/
def Hart.pmpRange (x : Hart) (i : Nat) : Nat × Nat :=
  let a := x.get (csrPmpaddr0 + i)
  let m := bits (x.pmpcfg i) 4 3
  if m = 1 then (if i = 0 then 0 else 4 * x.get (csrPmpaddr0 + i - 1), 4 * a)
  else if m = 2 then (4 * a, 4 * a + 4)
  else if m = 3 then
    let t := (List.range 54).takeWhile (fun j => a.testBit j) |>.length
    (4 * (a >>> (t + 1)) <<< (t + 1), 4 * ((a >>> (t + 1)) <<< (t + 1)) + 2 ^ (t + 3))
  else (0, 0)

/-- PMP: whether `n` bytes from `a` on may be read (0) or written (1) at privilege `priv`. -/
def Hart.pmpOk (x : Hart) (priv a n kind : Nat) : Bool :=
  match (List.range 16).find? fun i =>
    let r := x.pmpRange i
    decide (a < r.2) && decide (r.1 < a + n) with
  | none => priv = 3
  | some i =>
    let r := x.pmpRange i
    let c := x.pmpcfg i
    decide (r.1 ≤ a) && decide (a + n ≤ r.2) && ((priv = 3 && !c.testBit 7) || c.testBit kind)

/-- The cached line that holds an address. -/
def State.cached (s : State) (a : Nat) : Option CacheLine := s.ab.cache.find? fun l => l.line = a / 64

/-- What a coherent reader finds at `n` bytes within one line of bulk memory. -/
def State.peek (s : State) (a n : Nat) : Nat :=
  match s.cached a with
  | some l => (l.data >>> (8 * (a % 64))) % 2 ^ (8 * n)
  | none => s.load a n

/-- One level of a page-table walk (Sv39, Sv48): the physical address, or the cause of the exception. -/
def State.walk (s : State) (x : Hart) (va kind : Nat) : Nat → Nat → Except Nat Nat
  | 0, _ => .error (12 + (if kind = 0 then 1 else 3))
  | i + 1, base =>
    let pf := if kind = 0 then 13 else 15
    let af := if kind = 0 then 5 else 7
    let at_ := base + bits va (20 + 9 * i) (12 + 9 * i) * 8
    if bulkEnd < at_ + 8 || !(x.pmpOk 1 at_ 8 0) then .error af
    else
      let e := s.peek at_ 8
      let st := x.get csrMstatus
      if !e.testBit 0 || (!e.testBit 1 && e.testBit 2) || bits e 63 54 ≠ 0 then .error pf
      else if !e.testBit 1 && !e.testBit 3 then s.walk x va kind i (bits e 53 10 * 4096)
      else
        let user := e.testBit 4
        let p := x.dataPriv
        let modeOk := if p = 0 then user else !user || st.testBit 18
        let right := if kind = 0 then e.testBit 1 || (st.testBit 19 && e.testBit 3) else e.testBit 2
        let low := bits e 53 10 % 2 ^ (9 * i)
        if !modeOk || !right || low ≠ 0 || !e.testBit 6 || (kind ≠ 0 && !e.testBit 7) then .error pf
        else .ok (bits e 53 10 * 4096 + va % 2 ^ (12 + 9 * i))

/-- The physical address of a virtual one for a load (0) or a store (1), or the cause of the exception (R442). -/
def State.translate (s : State) (x : Hart) (va n kind : Nat) : Except Nat Nat :=
  let satp := x.get csrSatp
  let m := satp / 2 ^ 60
  let levels := if m = 8 then 3 else 4
  let top := 12 + 9 * levels
  let pa : Except Nat Nat :=
    if x.dataPriv = 3 || (m ≠ 8 && m ≠ 9) then .ok va
    else if va / 2 ^ (top - 1) ≠ 0 && va / 2 ^ (top - 1) ≠ 2 ^ (65 - top) - 1 then .error (if kind = 0 then 13 else 15)
    else s.walk x va kind levels (bits satp 43 0 * 4096)
  match pa with
  | .error c => .error c
  | .ok a => if x.pmpOk x.dataPriv a n kind then .ok a else .error (if kind = 0 then 5 else 7)

/-! ## The coherent caches (R444–R446) -/

def State.setCache (s : State) (c : List CacheLine) : State := { s with ab := { s.ab with cache := c } }

/-- Writes a dirty line back to memory; it stays cached, clean. -/
def State.clean (s : State) (line : Nat) : State :=
  match s.cached (64 * line) with
  | some l =>
    if l.dirty then
      let s := (s.dynWrite ⟨216 + l.core, 3, 0, 0⟩ (64 * line) (bytesOf 64 l.data)).2
      s.setCache (s.ab.cache.map fun m => if m.line = line then { m with dirty := false } else m)
    else s
  | none => s

/-- Drops a line. -/
def State.inval (s : State) (line : Nat) : State := s.setCache (s.ab.cache.filter fun m => m.line != line)

/-- Brings a line of bulk memory into the caches; `none`: the refill was refused. -/
def State.refill (s : State) (w : Who) (a : Nat) : Option CacheLine × State :=
  match s.cached a with
  | some l => (some l, s)
  | none =>
    let c := (w.source - 216) / 4
    let s := (s.bump (pgCluster c) 2).bump (pgCluster (a / 256 % 4)) 3
    let r := s.dynRead w (a / 64 * 64) 64
    match r.1 with
    | some v =>
      let l : CacheLine := ⟨a / 64, v, false, w.source - 216⟩
      (some l, r.2.setCache (l :: r.2.ab.cache))
    | none => (none, r.2)

/-- A cacheable load of `n` bytes within one line. -/
def State.cacheRead (s : State) (w : Who) (a n : Nat) : Option Nat × State :=
  let r := s.refill w a
  (r.1.map fun l => (l.data >>> (8 * (a % 64))) % 2 ^ (8 * n), r.2)

/-- A cacheable store of `n` bytes within one line; it ends the reservations of others (R449). -/
def State.cacheWrite (s : State) (w : Who) (a n v : Nat) : Bool × State :=
  let r := s.refill w a
  match r.1 with
  | none => (false, r.2)
  | some l =>
    let d := putBits l.data (8 * (a % 64) + 8 * n - 1) (8 * (a % 64)) v
    let s := r.2.setCache (r.2.ab.cache.map fun m =>
      if m.line = l.line then { m with data := d, dirty := true, core := w.source - 216 } else m)
    (true, { s with mu := { s.mu with resv := s.mu.resv.filter fun e => e.1 = w.source || e.2 != l.line } })

/-- A coherent write from outside the caches (R445, R474): the lines that it touches are written back and dropped first. -/
def State.snoop (s : State) (a n : Nat) : State :=
  (s.ab.cache.filter fun l => decide (64 * l.line < a + n) && decide (a < 64 * l.line + 64)).foldl
    (fun s l => (s.clean l.line).inval l.line) s

end Sys2Proof.Machine
end

