-- ==== Sys2Proof/Machine/Ports.lean ====
section
/-! DEFINITION. Lanes and ports as each sees the other: what a lane runs, which port binds it, faults and CPRI defects that a
change of a lane brings about (R310, R311, R338, R339, R344, R369, R372). -/
namespace Sys2Proof.Machine

def pgLane (n : Nat) : Nat := page .lane n

def State.lane (s : State) (n : Nat) : Lane := Sparse.get (fun _ => Lane.zero) s.lanes n

def State.setLane (s : State) (n : Nat) (x : Lane) : State :=
  { s with lanes := Sparse.set (fun _ => Lane.zero) s.lanes n x }

def State.pers (s : State) (n : Nat) : Nat := s.get (pgLane n) Rg.LN_CFG_PERS

/-- R310: a lane runs when it is enabled with a personality and its domain is ON. -/
def State.laneOn (s : State) (n : Nat) : Bool :=
  s.enabled (pgLane n) && decide (1 ≤ s.pers n) && decide (s.pers n ≤ 7) && s.domOn (72 + n / 16)

/-- R315, R318: the personality takes block lock (NRZ), not marker lock. -/
def State.nrz (s : State) (n : Nat) : Bool := s.pers n != 3

/-- R310: the lane's PLL is the quad's CPRI PLL. -/
def usesCpri (pers : Nat) : Bool := decide (4 ≤ pers)

/-- R334: a lane event, with the personality in DETAIL[19:16]. -/
def State.laneEvent (s : State) (n code : Nat) : State := s.event (pgLane n) code 0 0 (s.pers n <<< 16)

/-! ## Binding -/

/-- The page of an Ethernet port: 0–63 the EM ports, 64–79 the pool links (R546). -/
def pgEm (p : Nat) : Nat := if p < 64 then page .em p else page .lk (p - 64)
def pgCp (p : Nat) : Nat := page .cp p
def pgLk (p : Nat) : Nat := page .lk p

/-- The lanes of a pool link (R545). -/
def State.lkLanes (s : State) (p : Nat) : Nat × Nat := (s.get (pgLk p) Rg.LK_CFG_LANE, 2 ^ s.get (pgLk p) Rg.LK_CFG_WIDTH)

/-- The lanes of an Ethernet port: the first and the width (R311). -/
def State.emLanes (s : State) (p : Nat) : Nat × Nat :=
  if p < 64 then (s.get (pgEm p) Rg.EM_CFG_LANE, 2 ^ s.get (pgEm p) Rg.EM_CFG2) else s.lkLanes (p - 64)

/-- The status fields of an Ethernet port. -/
def fldLink (p : Nat) : Fld := if p < 64 then Rg.EM_STAT_LINK_UP else Rg.LK_STAT_LINK_UP
def fldLocal (p : Nat) : Fld := if p < 64 then Rg.EM_STAT_LOCAL_FAULT else Rg.LK_STAT_LOCAL_FAULT
def fldRemote (p : Nat) : Fld := if p < 64 then Rg.EM_STAT_REMOTE_FAULT else Rg.LK_STAT_REMOTE_FAULT

/-- The lane of a CP port. -/
def State.cpLane (s : State) (p : Nat) : Nat := s.get (pgCp p) Rg.CP_CFG

def inLanes (l : Nat × Nat) (n : Nat) : Bool := decide (l.1 ≤ n) && decide (n < l.1 + l.2)

/-- The enabled EM port, CP port and pool link that bind a lane. -/
def State.emOf (s : State) (n : Nat) : Option Nat :=
  (List.range 64).find? fun p => s.enabled (pgEm p) && inLanes (s.emLanes p) n
def State.cpOf (s : State) (n : Nat) : Option Nat := (List.range 32).find? fun p => s.enabled (pgCp p) && s.cpLane p = n
def State.lkOf (s : State) (n : Nat) : Option Nat :=
  (List.range 16).find? fun p => s.enabled (pgLk p) && inLanes (s.lkLanes p) n

/-! ## EM ports -/

def em0 : Nat → EmPort := fun _ => EmPort.zero
def State.em (s : State) (p : Nat) : EmPort := Sparse.get em0 s.fh.em p
def State.setEm (s : State) (p : Nat) (x : EmPort) : State := { s with fh := { s.fh with em := Sparse.set em0 s.fh.em p x } }

/-- R344: a bound lane lacks lock or shows HI_BER, or HI_SER when SER_LF = 1. A sleeping receiver is idle, not faulted
(R327). -/
def State.emFaulted (s : State) (p : Nat) : Bool :=
  let l := s.emLanes p
  (List.range l.2).any fun i =>
    let g := pgLane (l.1 + i)
    s.get g Rg.LN_STAT_RX_STATE < 2 &&
      (!s.flag g (if s.nrz (l.1 + i) then Rg.LN_STAT_BLOCK_LOCK else Rg.LN_STAT_AM_LOCK) || s.flag g Rg.LN_STAT_HI_BER
        || (decide (p < 64) && s.flag (pgEm p) Rg.EM_CFG_SER_LF && s.flag (pgLane l.1) Rg.LN_STAT_HI_SER))

/-- LINK_UP changes; PG_IRQ bit 1 tells it (R376). -/
def State.emLink (s : State) (p v : Nat) : State :=
  if s.get (pgEm p) (fldLink p) = v then s
  else
    let s := (s.put (pgEm p) (fldLink p) v).irq (pgEm p) 1
    if v = 1 then s.event (pgEm p) (if p < 64 then Ev.LINK_UP_49 else Ev.LINK_UP_4B) else s

/-- R344: LOCAL_FAULT follows the lanes of an enabled port. -/
def State.emFollow (s : State) (p : Nat) : State :=
  let g := pgEm p
  let f := s.emFaulted p
  if s.flag g (fldLocal p) = f then s
  else if f then
    ((s.put g (fldLocal p) 1).event g (if p < 64 then Ev.LOCAL_FAULT_49 else Ev.LOCAL_FAULT_4B)).emLink p 0
  else (s.put g (fldLocal p) 0).setEm p { s.em p with clean := s.uptime }

/-- The port that binds lane `n` follows a change of the lane. -/
def State.portFollow (s : State) (n : Nat) : State :=
  match s.emOf n with
  | some p => s.emFollow p
  | none =>
    match s.lkOf n with
    | some p => s.emFollow (64 + p)
    | none => s

/-! ## CP ports -/

def cp0 : Nat → CpPort := fun _ => CpPort.zero
def State.cp (s : State) (p : Nat) : CpPort := Sparse.get cp0 s.fh.cp p
def State.setCp (s : State) (p : Nat) (x : CpPort) : State := { s with fh := { s.fh with cp := Sparse.set cp0 s.fh.cp p x } }

/-- A CPRI state of R369 (0 A to 5 F); leaving F clears GO_F (R378); PG_IRQ bit 1 tells a change (R376). -/
def State.cpState (s : State) (p v : Nat) : State :=
  let g := pgCp p
  let old := s.get g Rg.CP_STAT_STATE
  if old = v then s
  else
    let s := (s.put g Rg.CP_STAT_STATE v).irq g 1
    let s := if old = 5 then s.put g Rg.CP_CTRL_GO_F 0 else s
    if v = 5 then s.setCp p { s.cp p with lost := false } else s

/-- Defects that substitute (R372): LOS, LOF, and DEG when DEG_ACT = 1. -/
def State.cpDefect (s : State) (p : Nat) : Bool :=
  let d := s.get (pgCp p) Rg.CP_STAT_DEF
  d.testBit 0 || d.testBit 1 || (d.testBit 2 && s.flag (pgCp p) Rg.CP_CTRL_DEG_ACT)

/-- A defect of R372 is declared or cleared (0 LOS, 1 LOF, 2 DEG, 3 RAI received): CP_STAT.DEF, the substitution, the RAI that
is sent, and how long LOS or LOF persists (R374). -/
def State.setDefect (s : State) (p i : Nat) (v : Bool) (code : Nat) : State :=
  let g := pgCp p
  let was := s.cpDefect p
  let d := s.get g Rg.CP_STAT_DEF
  if d.testBit i = v then s
  else
    let s := s.put g Rg.CP_STAT_DEF (if v then d + 2 ^ i else d - 2 ^ i)
    let s := if v then s.event g code else s
    let d := s.get g Rg.CP_STAT_DEF
    let bad := d.testBit 0 || d.testBit 1
    let x := s.cp p
    let x := { x with rai := bad, fault := if bad then (if x.fault.isNone then some s.uptime else x.fault) else none }
    s.setCp p (if s.cpDefect p then { x with subst := true } else if was then { x with clear := s.now } else x)

/-- R369: LOS or LOF returns the framer from any later state to B. -/
def State.cpBack (s : State) (p : Nat) : State := if 1 < s.get (pgCp p) Rg.CP_STAT_STATE then s.cpState p 1 else s

/-- R372: the lane's SD falls. -/
def State.cpLos (s : State) (n : Nat) : State :=
  match s.cpOf n with
  | some p => (s.setDefect p 0 true Ev.CP_LOS).cpBack p
  | none => s

/-- R372: the lane loses block lock. -/
def State.cpLof (s : State) (n : Nat) : State :=
  match s.cpOf n with
  | some p => (s.setDefect p 1 true Ev.CP_LOF).cpBack p
  | none => s

/-- The lane's SD rises: LOS clears. -/
def State.cpSignal (s : State) (n : Nat) : State :=
  match s.cpOf n with
  | some p => s.setDefect p 0 false Ev.CP_LOS
  | none => s

/-! ## ENABLE -/

/-- R339, R551: the lanes that a port would bind. -/
def State.bindFree (s : State) (l : Nat × Nat) (kind : PageKind) (p : Nat) : Bool :=
  (List.range l.2).all fun i =>
    let n := l.1 + i
    (s.emOf n = none || (kind = .em && s.emOf n = some p)) && (s.cpOf n = none || (kind = .cp && s.cpOf n = some p))
      && (s.lkOf n = none || (kind = .lk && s.lkOf n = some p)) && decide (n < 128) && s.enabled (pgLane n)

/-- R339: the width and the personalities fit an Ethernet port. -/
def State.etherFits (s : State) (l : Nat × Nat) : Bool :=
  l.1 % l.2 = 0 && (List.range l.2).all fun i =>
    s.pers (l.1 + i) = 3 || (l.2 = 1 && decide (1 ≤ s.pers l.1) && decide (s.pers l.1 ≤ 2))

/-- R339, R545: an EM port, CP port or pool link may be enabled. -/
def State.bindOk (s : State) (kind : PageKind) (p : Nat) : Bool :=
  match kind with
  | .em =>
    let l := s.emLanes p
    s.bindFree l .em p && s.etherFits l
  | .lk => s.bindFree (s.lkLanes p) .lk p && decide (s.get (pgLk p) Rg.LK_CFG_WIDTH ≤ 2) && s.etherFits (s.lkLanes p)
  | .cp => s.bindFree (s.cpLane p, 1) .cp p && decide (4 ≤ s.pers (s.cpLane p)) && decide (s.pers (s.cpLane p) ≤ 7)
  | _ => true

end Sys2Proof.Machine
end

