-- ==== Sys2Proof/Machine/Lanes.lean ====
section
/-! DEFINITION. The serial lanes (spec chapter 10). -/
namespace Sys2Proof.Machine

/-! ## PLLs -/

/-- R328: the lanes of a quad that use the PLL are all disabled, or asleep in both directions. -/
def State.pllIdle (s : State) (q : Nat) (cpri : Bool) : Bool :=
  (List.range 4).all fun i =>
    let n := 4 * q + i
    let st := s.get (pgLane n) Rg.LN_STAT_TX_STATE
    let rx := s.get (pgLane n) Rg.LN_STAT_RX_STATE
    !(s.laneOn n && usesCpri (s.pers n) == cpri) ||
      ((st = 2 || st = 0) && (rx = 3 || rx = 0) && !(s.lane n).txWake && !(s.lane n).rxWake)

/-- The lock bits of a PLL: on the anchor lane, and QPLL_LOCK of the lanes that use it (R336). -/
def State.setPll (s : State) (q : Nat) (cpri lock : Bool) : State :=
  let s := s.put (pgLane (4 * q)) (if cpri then Rg.LN_QPLL_CPRI_LOCK else Rg.LN_QPLL_ETH_LOCK) lock.toNat
  (List.range 4).foldl (fun s i =>
    let n := 4 * q + i
    if s.laneOn n && usesCpri (s.pers n) == cpri then s.put (pgLane n) Rg.LN_STAT_QPLL_LOCK lock.toNat else s) s

def State.pllLocked (s : State) (q : Nat) (cpri : Bool) : Bool :=
  s.flag (pgLane (4 * q)) (if cpri then Rg.LN_QPLL_CPRI_LOCK else Rg.LN_QPLL_ETH_LOCK)

def State.setPllOff (s : State) (q : Nat) (cpri off : Bool) : State :=
  let x := s.lane (4 * q)
  s.setLane (4 * q) (if cpri then { x with cpriOff := off } else { x with ethOff := off })

/-- R312, R328: what a change of the lanes' states or of LN_QPLL does to a quad's PLLs: one that OFF_OK lets rest stops, a
stopped one whose lanes leave rest runs again (it locks when a command says so), and a reference change takes effect
while no lane of the PLL is enabled. -/
def State.pllFollow (s : State) (q : Nat) : State :=
  let one := fun (s : State) (cpri : Bool) =>
    let x := s.lane (4 * q)
    let off := if cpri then x.cpriOff else x.ethOff
    let idle := s.flag (pgLane (4 * q)) Rg.LN_QPLL_OFF_OK && s.pllIdle q cpri
    let s := if idle && !off then (s.setPll q cpri false).setPllOff q cpri true
      else if !idle && off then s.setPllOff q cpri false
      else s
    let used := (List.range 4).any fun i => s.laneOn (4 * q + i) && usesCpri (s.pers (4 * q + i)) == cpri
    if used then s
    else
      let x := s.lane (4 * q)
      s.setLane (4 * q) (if cpri then { x with cpriSrc := s.get (pgLane (4 * q)) Rg.LN_QPLL_CPRI_SRC }
        else { x with ethSrc := s.get (pgLane (4 * q)) Rg.LN_QPLL_ETH_SRC })
  one (one s false) true

/-! ## The eye scan -/

/-- R324, R325: an eye-scan point ends with its result and counts. -/
def State.scanEnd (s : State) (n result samples errs : Nat) : State :=
  let p := pgLane n
  let v := samples % 2 ^ 48
  let s := (s.put p Rg.LN_ES_SAMP_LO v).put p Rg.LN_ES_SAMP_HI (v / 2 ^ 32)
  let s := s.put p Rg.LN_ES_ERR (min errs (2 ^ 32 - 1))
  let s := (s.put p Rg.LN_ES_STAT_RESULT result).put p Rg.LN_ES_STAT_DONE 1
  ((s.put p Rg.LN_ES_STAT_BUSY 0).irq p 4).bump p 8 errs

/-- R325, R333: a running point ends when lock is lost; what it has counted is the sampler's (a free value). -/
def State.scanLost (s : State) (n : Nat) : State :=
  if s.flag (pgLane n) Rg.LN_ES_STAT_BUSY then
    let a := s.fresh
    let b := a.2.fresh
    b.2.scanEnd n 2 a.1 b.1
  else s

/-- A write of LN_ES_CMD: ABORT ends a running point (R325), START begins one while none runs (R324). -/
def State.scanCmd (s : State) (n value samples errs : Nat) : State :=
  let p := pgLane n
  let s := if bits value 1 1 = 1 && s.flag p Rg.LN_ES_STAT_BUSY then s.scanEnd n 1 samples errs else s
  if bits value 0 0 = 1 && !s.flag p Rg.LN_ES_STAT_BUSY && s.laneOn n then
    if s.flag p Rg.LN_STAT_CDR_LOCK then
      (s.setLane n { s.lane n with scan := s.uptime }).put p Rg.LN_ES_STAT_BUSY 1
    else s.scanEnd n 2 0 0
  else s

/-! ## Locks -/

/-- The receiver decodes: it is ON, in LIGHT, or returning from DEEP, and its PLL is locked (R326, R333). -/
def State.rxRuns (s : State) (n : Nat) : Bool :=
  let rx := s.get (pgLane n) Rg.LN_STAT_RX_STATE
  s.laneOn n && (rx = 1 || rx = 2 || (rx = 3 && (s.lane n).rxWake)) && s.flag (pgLane n) Rg.LN_STAT_QPLL_LOCK

/-- BLOCK_LOCK or AM_LOCK changes; PG_IRQ bit 0 tells it (R335). -/
def State.setLock (s : State) (n : Nat) (v : Nat) : State :=
  let f := if s.nrz n then Rg.LN_STAT_BLOCK_LOCK else Rg.LN_STAT_AM_LOCK
  if s.get (pgLane n) f = v then s
  else
    let s := ((s.put (pgLane n) f v).irq (pgLane n) 0).portFollow n
    if v = 0 then s.cpLof n else s

/-- R315, R316, R321: the receiver gains lock and measures the position at which it settled. -/
def State.gainLock (s : State) (n var : Nat) : State :=
  ((s.setLock n 1).put (pgLane n) Rg.LN_RX_VAR var).setLane n { s.lane n with win := s.uptime }

/-- R315, R318: a loss of lock. -/
def State.loseLock (s : State) (n : Nat) : State :=
  ((s.setLock n 0).satAdd (pgLane n) Rg.LN_LOCKEV_LOCKLOSS).laneEvent n Ev.LOCK_LOSS

/-- `bad` invalid headers seen in LOCKED (R315). -/
def State.badHeaders (s : State) (n bad : Nat) : State := (s.satAdd (pgLane n) Rg.LN_BADHDR bad).bump (pgLane n) 2 bad

/-- R327, R333: the receiver drops CDR and block or marker lock. -/
def State.dropLocks (s : State) (n : Nat) : State :=
  let s := s.scanLost n
  ((s.put (pgLane n) Rg.LN_STAT_CDR_LOCK 0).setLock n 0).put (pgLane n) Rg.LN_STAT_PRBS_LOCK 0

/-- R320: CDR_LOCK clears. -/
def State.loseCdr (s : State) (n : Nat) : State :=
  if s.flag (pgLane n) Rg.LN_STAT_CDR_LOCK then
    ((s.scanLost n).put (pgLane n) Rg.LN_STAT_CDR_LOCK 0).laneEvent n Ev.CDR_UNLOCK
  else s

/-! ## Sleep -/

/-- LN_SLEEP_STAT.BUSY: a return to ON is in progress. -/
def State.showSleep (s : State) (n : Nat) : State :=
  let x := s.lane n
  s.put (pgLane n) Rg.LN_SLEEP_STAT_BUSY (x.txWake || x.rxWake).toNat

/-- R326–R329: the directions follow the request fields of LN_SLEEP. -/
def State.sleepFollow (s : State) (n : Nat) : State :=
  if s.laneOn n then
    let p := pgLane n
    let tx := s.get p Rg.LN_STAT_TX_STATE
    let s :=
      if s.get p Rg.LN_SLEEP_TX_REQ = 1 then
        if tx = 2 then s
        else if s.uptime < (s.lane n).burst then s.setLane n { s.lane n with txSleep := true }
        else (s.setLane n { s.lane n with txWake := false }).put p Rg.LN_STAT_TX_STATE 2
      else if tx = 2 then (s.setLane n { s.lane n with txWake := true }).put p Rg.LN_STAT_TX_STATE 3
      else s.setLane n { s.lane n with txSleep := false }
    let rx := s.get p Rg.LN_STAT_RX_STATE
    let req := s.get p Rg.LN_SLEEP_RX_REQ
    let s :=
      if req = 1 then (s.setLane n { s.lane n with rxWake := false }).put p Rg.LN_STAT_RX_STATE 2
      else if req = 2 then
        ((s.dropLocks n).setLane n { (s.dropLocks n).lane n with rxWake := false }).put p Rg.LN_STAT_RX_STATE 3
      else if req = 0 && decide (2 ≤ rx) then s.setLane n { s.lane n with rxWake := true }
      else s
    (s.showSleep n).pllFollow (n / 4)
  else s

/-- R329, R602: a wake event. -/
def State.wakeEvent (s : State) (n code last : Nat) : State :=
  let p := pgLane n
  let s := ((s.laneEvent n code).put p Rg.LN_SLEEP_STAT_LAST_WAKE last).irq p 3
  let s := if (s.get pgPwr Rg.PWR_WAKE_EDGE).testBit (n / 16) then s.wakeSource 1 n else s
  if s.flag p Rg.LN_SLEEP_WAKE_AUTO then
    ((s.put p Rg.LN_SLEEP_TX_REQ 0).put p Rg.LN_SLEEP_RX_REQ 0).sleepFollow n
  else s

/-- The kilobits of the 66-bit stream in a second, by personality (R310, R330). -/
def streamRate (pers : Nat) : Nat :=
  [0, 10312500, 25781250, 51562500, 8110080, 10137600, 12165120, 24330240].getD pers 0

/-- R330: the cy that a burst of `rep` blocks lasts. -/
def burstCy (pers rep : Nat) : Nat :=
  let r := streamRate pers
  if r = 0 then 0 else (rep * 66 * 1966080 + r - 1) / r

/-- R331, R332: the errors injected in `t` cy from the write of LN_INJ on: into every (RATE + 1)-th block, or N symbols into every
(RATE + 1)-th codeword of the port (80 blocks). -/
def State.injected (s : State) (n t : Nat) : Nat :=
  let p := pgLane n
  let blocks := t * streamRate (s.pers n) / (66 * 1966080)
  let every := s.get p Rg.LN_INJ_RATE + 1
  if s.get p Rg.LN_INJ_KIND = 3 then
    let w := match s.emOf n with
      | some q => (s.emLanes q).2
      | none => match s.lkOf n with
        | some q => (s.lkLanes q).2
        | none => 1
    if s.pers n = 3 then w * blocks / 80 / every * s.get p Rg.LN_INJ_N else 0
  else blocks / every

/-- LN_INJ_CNT counts the errors injected in the last cy. -/
def State.injectTick (s : State) (n : Nat) : State :=
  let p := pgLane n
  let x := s.lane n
  if s.laneOn n && s.mode = modeDiag && s.flag p Rg.LN_INJ_KIND && s.get p Rg.LN_STAT_TX_STATE = 1 && decide (x.inj < s.uptime) then
    let d := s.injected n (s.uptime - x.inj) - s.injected n (s.uptime - 1 - x.inj)
    if d = 0 then s else s.satAdd p Rg.LN_INJ_CNT d
  else s

/-- R333: a transmitter told to sleep during a burst sleeps after it. Called at every cy. -/
def State.laneTick (s : State) : State :=
  (s.lanes.map (·.1)).foldl (fun s n =>
    let s := s.injectTick n
    if (s.lane n).txSleep && decide ((s.lane n).burst ≤ s.uptime) then
      ((s.setLane n { s.lane n with txSleep := false, txWake := false }).put (pgLane n) Rg.LN_STAT_TX_STATE 2).pllFollow (n / 4)
    else s) s

/-! ## ENABLE -/

/-- R310, R320, R333: ENABLE rises. The transmitter stays in electrical idle until the lane's PLL is locked. -/
def State.laneEnable (s : State) (n : Nat) : State :=
  let p := pgLane n
  if s.pers n = 0 then s
  else if 8 ≤ s.pers n then s.laneEvent n Ev.LN_PERS
  else
    let s := s.setLane n { Lane.zero with
      cold := s.uptime, ethOff := (s.lane n).ethOff, cpriOff := (s.lane n).cpriOff,
      ethSrc := (s.lane n).ethSrc, cpriSrc := (s.lane n).cpriSrc }
    let cpri := usesCpri (s.pers n)
    let lock := s.pllLocked (n / 4) cpri
    let s := (s.put p Rg.LN_STAT_TX_STATE lock.toNat).put p Rg.LN_STAT_RX_STATE 1
    let s := (s.put p Rg.LN_STAT_QPLL_LOCK lock.toNat).setPllOff (n / 4) cpri false
    s.sleepFollow n

/-- R26: ENABLE falls: the lane idles. -/
def State.laneDisable (s : State) (n : Nat) : State :=
  let s := (s.scanLost n).dropLocks n
  let s := (s.setReg (pgLane n) 0x104 0).setReg (pgLane n) 0x00C 0
  let x := s.lane n
  let s := s.setLane n { Lane.zero with ethOff := x.ethOff, cpriOff := x.cpriOff, ethSrc := x.ethSrc, cpriSrc := x.cpriSrc }
  (s.showSleep n).pllFollow (n / 4)

/-! ## The commands -/

/-- BLOCK_LOCK_ACQUIRED (R315, R321): after `slips` bit slips in HUNT. -/
def execBlockLockAcquired (lane : Fin 128) (slips : Nat) (var : BitVec 16) (s : State) : Host.Outcome State Fault Refusal :=
  let n := lane.val
  .next (
    if s.rxRuns n && s.nrz n && !s.flag (pgLane n) Rg.LN_STAT_BLOCK_LOCK then
      (s.bump (pgLane n) 7 slips).gainLock n var.toNat
    else s)

/-- LOCK_LOSS (R315): `bad` invalid headers, of which 16 fell within one window. -/
def execLockLoss (lane : Fin 128) (bad : Nat) (s : State) : Host.Outcome State Fault Refusal :=
  let n := lane.val
  .next (
    if s.laneOn n && s.nrz n && s.flag (pgLane n) Rg.LN_STAT_BLOCK_LOCK then (s.badHeaders n (max bad 16)).loseLock n
    else s)

/-- R316: the threshold and the window in cy. -/
def State.hber (s : State) (n : Nat) : Nat × Nat :=
  let th := s.get (pgLane n) Rg.LN_HBER_TH
  let win := s.get (pgLane n) Rg.LN_HBER_WIN
  let e25 := s.pers n = 2
  (if th = 0 then (if e25 then 97 else 16) else th, 24576 * (if win = 0 then (if e25 then 160 else 10) else win))

/-- HI_BER (R316): a monitoring window ends with `bad` invalid headers. -/
def execHiBer (lane : Fin 128) (bad : Nat) (s : State) : Host.Outcome State Fault Refusal :=
  let n := lane.val
  let p := pgLane n
  let h := s.hber n
  .next (
    if s.laneOn n && s.nrz n && s.flag p Rg.LN_STAT_BLOCK_LOCK && decide ((s.lane n).win + h.2 ≤ s.uptime) then
      let s := (s.badHeaders n bad).setLane n { s.lane n with win := (s.lane n).win + h.2 }
      if h.1 ≤ bad then
        if s.flag p Rg.LN_STAT_HI_BER then s else ((s.put p Rg.LN_STAT_HI_BER 1).laneEvent n Ev.HI_BER).portFollow n
      else (s.put p Rg.LN_STAT_HI_BER 0).portFollow n
    else s)

/-- AM_LOCK_CHANGE (R318). -/
def execAmLockChange (lane : Fin 128) (gained : Bool) (var : BitVec 16) (s : State) : Host.Outcome State Fault Refusal :=
  let n := lane.val
  .next (
    if s.laneOn n && s.pers n = 3 then
      if gained then
        if s.rxRuns n && !s.flag (pgLane n) Rg.LN_STAT_AM_LOCK then s.gainLock n var.toNat else s
      else if s.flag (pgLane n) Rg.LN_STAT_AM_LOCK then s.loseLock n
      else s
    else s)

/-- FEC_CODEWORD_DECODE (R319): a codeword of the port whose first lane is `lane`, with the symbol errors in each of its
lanes' symbols. HI_SER is judged at the end of each window (log entry 107, DEDUCED). -/
def execFecCodewordDecode (lane : Fin 128) (errs : List Nat) (s : State) : Host.Outcome State Fault Refusal :=
  let n := lane.val
  let p := pgLane n
  .next (
    if s.laneOn n && s.pers n = 3 && s.flag p Rg.LN_STAT_AM_LOCK then
      let errs := errs.take 8
      let total := errs.foldl (· + ·) 0
      let s :=
        if total ≤ 15 then
          let s := errs.zipIdx.foldl (fun s e =>
            if e.1 = 0 then s
            else (s.satAdd (pgLane (n + e.2)) Rg.LN_FEC_SYM e.1).bump (pgLane (n + e.2)) 3) s
          if total = 0 then s else s.put64 p Rg.LN_FEC_CORR_LO (s.get64 p Rg.LN_FEC_CORR_LO + 1)
        else ((s.satAdd p Rg.LN_FEC_UNC).laneEvent n Ev.FEC_UNCORR).bump p 4
      let th := s.get p Rg.LN_HSER_TH
      let win := s.get p Rg.LN_HSER_WIN
      let x := s.lane n
      let sum := x.serErr + total
      let many := decide ((if th = 0 then 417 else th) < sum)
      let s :=
        if many && !s.flag p Rg.LN_STAT_HI_SER then ((s.put p Rg.LN_STAT_HI_SER 1).laneEvent n Ev.HI_SER).portFollow n else s
      if (if win = 0 then 8192 else win) ≤ x.serCw + 1 then
        let s := s.setLane n { s.lane n with serErr := 0, serCw := 0 }
        if many then s else (s.put p Rg.LN_STAT_HI_SER 0).portFollow n
      else s.setLane n { s.lane n with serErr := sum, serCw := x.serCw + 1 }
    else s)

/-- SIGNAL_DETECT_CHANGE (R320, R329). -/
def execSignalDetectChange (lane : Fin 128) (rises : Bool) (s : State) : Host.Outcome State Fault Refusal :=
  let n := lane.val
  let p := pgLane n
  .next (
    if s.laneOn n && s.flag p Rg.LN_STAT_SD != rises then
      if rises then
        let s := (s.put p Rg.LN_STAT_SD 1).cpSignal n
        if s.flag p Rg.LN_SLEEP_WAKE_ACT_EN && s.get p Rg.LN_STAT_RX_STATE = 3 then s.wakeEvent n Ev.WAKE_ACT 0 else s
      else ((((s.put p Rg.LN_STAT_SD 0).satAdd p Rg.LN_LOCKEV_LOS).laneEvent n Ev.LOS).loseCdr n).cpLos n
    else s)

/-- CDR_LOCK_ACQUIRED (R320). -/
def execCdrLockAcquired (lane : Fin 128) (s : State) : Host.Outcome State Fault Refusal :=
  let n := lane.val
  .next (if s.rxRuns n && s.flag (pgLane n) Rg.LN_STAT_SD then s.put (pgLane n) Rg.LN_STAT_CDR_LOCK 1 else s)

/-- CDR_UNLOCK (R320): the recovered frequency leaves ±300 ppm. -/
def execCdrUnlock (lane : Fin 128) (s : State) : Host.Outcome State Fault Refusal :=
  .next (if s.laneOn lane.val then s.loseCdr lane.val else s)

/-- ADAPT_DONE (R320). -/
def execAdaptDone (lane : Fin 128) (s : State) : Host.Outcome State Fault Refusal :=
  let n := lane.val
  .next (if s.rxRuns n then s.put (pgLane n) Rg.LN_STAT_ADAPT_DONE 1 else s)

/-- ADAPT_TIMEOUT (R320, R329): the cold-start time has passed without ADAPT_DONE. -/
def execAdaptTimeout (lane : Fin 128) (s : State) : Host.Outcome State Fault Refusal :=
  let n := lane.val
  let x := s.lane n
  let lim := if s.nrz n then 98304000 else 196608000
  .next (
    if s.laneOn n && !s.flag (pgLane n) Rg.LN_STAT_ADAPT_DONE && !x.timedOut && decide (x.cold + lim ≤ s.uptime) then
      (s.setLane n { x with timedOut := true }).laneEvent n Ev.ADAPT_TIMEOUT
    else s)

/-- What a write of LN_RXEQ with RESTART = 1 does (R320). -/
def State.adaptRestart (s : State) (n : Nat) : State :=
  (s.put (pgLane n) Rg.LN_STAT_ADAPT_DONE 0).setLane n { s.lane n with cold := s.uptime, timedOut := false }

/-- ADAPT_RESTART (R320): a write of LN_RXEQ with RESTART = 1; `value` gives the other fields. -/
def execAdaptRestart (w : Who) (lane : Fin 128) (value : Nat) (s : State) : Host.Outcome State Fault Refusal :=
  .next (s.command w (pgLane lane.val) 0x144 value fun s => s.adaptRestart lane.val)

/-- EYE_SCAN_START (R324, R325): a write of LN_ES_CMD with START = 1. -/
def execEyeScanStart (w : Who) (lane : Fin 128) (s : State) : Host.Outcome State Fault Refusal :=
  .next (s.access w (pgLane lane.val) 0x188 true fun s => s.scanCmd lane.val 1 0 0)

/-- EYE_SCAN_DONE (R324): the dwell ends with the sampler's counts. -/
def execEyeScanDone (lane : Fin 128) (samples errs : Nat) (s : State) : Host.Outcome State Fault Refusal :=
  let n := lane.val
  let p := pgLane n
  .next (
    if s.flag p Rg.LN_ES_STAT_BUSY && decide ((s.lane n).scan + 2048 + s.get p Rg.LN_ES_DWELL * 1024 ≤ s.uptime) then
      s.scanEnd n 0 samples errs
    else s)

/-- EYE_SCAN_ABORT (R325): a write of LN_ES_CMD with ABORT = 1; the counts cover what was counted. -/
def execEyeScanAbort (w : Who) (lane : Fin 128) (samples errs : Nat) (s : State) : Host.Outcome State Fault Refusal :=
  .next (s.access w (pgLane lane.val) 0x188 true fun s => s.scanCmd lane.val 2 samples errs)

/-- LANE_SLEEP_REQUEST (R326–R328): a write of LN_SLEEP. -/
def execLaneSleepRequest (w : Who) (lane : Fin 128) (value : Nat) (s : State) : Host.Outcome State Fault Refusal :=
  .next (s.command w (pgLane lane.val) 0x150 value fun s => s.sleepFollow lane.val)

/-- WAKE_OS (R329): the receiver in LIGHT decodes four wake ordered sets. -/
def execWakeOs (lane : Fin 128) (s : State) : Host.Outcome State Fault Refusal :=
  let n := lane.val
  .next (
    if s.laneOn n && s.flag (pgLane n) Rg.LN_SLEEP_WAKE_OS_EN && s.get (pgLane n) Rg.LN_STAT_RX_STATE = 2 then
      s.wakeEvent n Ev.WAKE_OS 1
    else s)

/-- LANE_WAKE_COMPLETE (R329): the transmitter or the receiver completes its return to ON; from DEEP with CDR and block or
marker lock. -/
def execLaneWakeComplete (lane : Fin 128) (tx : Bool) (s : State) : Host.Outcome State Fault Refusal :=
  let n := lane.val
  let p := pgLane n
  let cpri := usesCpri (s.pers n)
  .next (
    if s.laneOn n then
      if tx then
        if (s.lane n).txWake && s.pllLocked (n / 4) cpri then
          ((s.put p Rg.LN_STAT_TX_STATE 1).setLane n { s.lane n with txWake := false }).showSleep n
        else s
      else
        let locked := s.flag p Rg.LN_STAT_CDR_LOCK && s.flag p (if s.nrz n then Rg.LN_STAT_BLOCK_LOCK else Rg.LN_STAT_AM_LOCK)
        if (s.lane n).rxWake && (s.get p Rg.LN_STAT_RX_STATE = 2 || locked) then
          ((s.put p Rg.LN_STAT_RX_STATE 1).setLane n { s.lane n with rxWake := false }).showSleep n
        else s
    else s)

/-- What a write of LN_WAKE_OS with SEND = 1 does (R330). -/
def State.wakeSend (s : State) (n : Nat) : State :=
  let p := pgLane n
  if s.laneOn n && s.get p Rg.LN_STAT_TX_STATE = 1 then
    (s.satAdd p Rg.LN_WAKE_OS_SENT).setLane n
      { s.lane n with burst := max s.uptime (s.lane n).burst + burstCy (s.pers n) (s.get p Rg.LN_WAKE_OS_REP) }
  else s

/-- WAKE_OS_SEND (R330): a write of LN_WAKE_OS with SEND = 1; `value` gives REP. -/
def execWakeOsSend (w : Who) (lane : Fin 128) (value : Nat) (s : State) : Host.Outcome State Fault Refusal :=
  .next (s.command w (pgLane lane.val) 0x158 value fun s => s.wakeSend lane.val)

/-- The lanes of a quad that run and use a PLL. -/
def State.pllLanes (s : State) (q : Nat) (cpri : Bool) : List Nat :=
  (List.range 4).map (4 * q + ·) |>.filter fun n => s.laneOn n && usesCpri (s.pers n) == cpri

/-- PLL_UNLOCK (R333): a quad's PLL loses lock. -/
def execPllUnlock (quad : Fin 32) (cpri : Bool) (s : State) : Host.Outcome State Fault Refusal :=
  let q := quad.val
  .next (
    if s.pllLocked q cpri then
      (s.pllLanes q cpri).foldl (fun s n =>
        ((s.dropLocks n).put (pgLane n) Rg.LN_STAT_TX_STATE 0).laneEvent n Ev.PLL_UNLOCK) (s.setPll q cpri false)
    else s)

/-- QPLL_LOCK (R328, R333, R335): a quad's PLL locks, or locks again: its lanes leave electrical idle, and their receivers run again. -/
def execQpllLock (quad : Fin 32) (cpri : Bool) (s : State) : Host.Outcome State Fault Refusal :=
  let q := quad.val
  let off := if cpri then (s.lane (4 * q)).cpriOff else (s.lane (4 * q)).ethOff
  .next (
    if off || s.pllLocked q cpri || !(s.domOn (72 + q / 4)) then s
    else
      (s.pllLanes q cpri).foldl (fun s n =>
        if s.get (pgLane n) Rg.LN_STAT_TX_STATE = 0 then
          s.put (pgLane n) Rg.LN_STAT_TX_STATE (if s.flag (pgLane n) Rg.LN_SLEEP_TX_REQ then 2 else 1)
        else s) (s.setPll q cpri true))

/-- ENABLED (R335): the lane has taken up ENABLE = 1: PG_STAT.ENABLED sets, once its PLL is locked. -/
def execEnabled (lane : Fin 128) (s : State) : Host.Outcome State Fault Refusal :=
  let n := lane.val
  .next (
    if s.laneOn n && s.flag (pgLane n) Rg.LN_STAT_QPLL_LOCK then s.setReg (pgLane n) 0x00C 1
    else s)

/-- PRBS_LOCK_ACQUIRED (R331): 64 error-free bits; `errs` bit errors were counted since the last such command. -/
def execPrbsLockAcquired (lane : Fin 128) (errs : Nat) (s : State) : Host.Outcome State Fault Refusal :=
  let n := lane.val
  let p := pgLane n
  let pat := s.get p Rg.LN_PRBS_RX_PAT
  .next (
    if s.rxRuns n && decide (1 ≤ pat) && decide (pat ≤ 8) then
      (s.satAdd p Rg.LN_PRBS_ERR errs).put p Rg.LN_STAT_PRBS_LOCK 1
    else s)

/-- What a write of LN_CNT_CLR with CLR = 1 does (R336). -/
def State.laneClear (s : State) (n : Nat) : State :=
  [0x110, 0x114, 0x118, 0x120, 0x124, 0x128, 0x1C4, 0x1CC].foldl (fun s o => s.setReg (pgLane n) o 0) s

/-- LN_CNT_CLEAR (R336): a write of LN_CNT_CLR with CLR = 1. -/
def execLnCntClear (w : Who) (lane : Fin 128) (s : State) : Host.Outcome State Fault Refusal :=
  .next (s.access w (pgLane lane.val) 0x11C true fun s => s.laneClear lane.val)

end Sys2Proof.Machine
end

