-- ==== Sys2Proof/Machine/Trestle.lean ====
section
/-! DEFINITION. The Trestle: tokens, queues, the matching store, tasks, flows, cores, lent engines, host rings and the buffer
ledger (spec chapter 15), and the completion of an engine operation (R206). -/
namespace Sys2Proof.Machine

def queue0 : Nat → Queue := fun _ => Queue.zero
def temp0 : Nat → Template := fun _ => Template.zero
def host0 : Nat → HostRing := fun _ => HostRing.zero
def pool0 : Nat → BufPool := fun _ => BufPool.zero
def vf0 : Nat → VfWin := fun _ => VfWin.zero

def State.setTr (s : State) (t : Trestle) : State := { s with tr := t }

def State.queue (s : State) (n : Nat) : Queue := Sparse.get queue0 s.tr.queues n
def State.temp (s : State) (n : Nat) : Template := Sparse.get temp0 s.tr.temps n
def State.hostRing (s : State) (n : Nat) : HostRing := Sparse.get host0 s.tr.hosts n
def State.pool (s : State) (n : Nat) : BufPool := Sparse.get pool0 s.tr.pools n
def State.vfWin (s : State) (n : Nat) : VfWin := Sparse.get vf0 s.tr.vfs n
def State.setQueue (s : State) (n : Nat) (q : Queue) : State := s.setTr { s.tr with queues := Sparse.set queue0 s.tr.queues n q }
def State.setTemp (s : State) (n : Nat) (t : Template) : State := s.setTr { s.tr with temps := Sparse.set temp0 s.tr.temps n t }
def State.setHost (s : State) (n : Nat) (h : HostRing) : State := s.setTr { s.tr with hosts := Sparse.set host0 s.tr.hosts n h }
def State.setPool (s : State) (n : Nat) (p : BufPool) : State := s.setTr { s.tr with pools := Sparse.set pool0 s.tr.pools n p }
def State.setVf (s : State) (n : Nat) (v : VfWin) : State := s.setTr { s.tr with vfs := Sparse.set vf0 s.tr.vfs n v }

/-- R507: a Trestle event, with the queue, ring, template, core or pool in DETAIL[27:16]. -/
def State.trEvent (s : State) (pg code item : Nat) (cap2 : Nat := 0) (ctx : Nat := 0) : State :=
  s.event pg code ctx cap2 ((item % 4096) <<< 16)

/-! ## Templates (R487, R510) -/

def Template.valid (t : Template) : Bool := bits t.cfg 31 31 = 1
def Template.partial_ (t : Template) : Bool := bits t.cfg 30 30 = 1
def Template.dest (t : Template) : Nat := bits t.cfg 29 28
def Template.flowSrc (t : Template) : Nat := bits t.cfg 27 26
/-- The operand count, 1 to 4. -/
def Template.nops (t : Template) : Nat := bits t.cfg 25 24 + 1
def Template.tmo (t : Template) : Nat := bits t.cfg 23 16
def Template.tgt (t : Template) : Nat := bits t.cfg 15 0
def Template.doneEn (t : Template) : Bool := bits t.doneq 31 31 = 1

/-- The entries that a template holds, and its ready tasks. -/
def State.entriesOf (s : State) (tt : Nat) : Nat := (s.tr.entries.filter fun e => e.tt = tt).length
def State.readyOf (s : State) (tt : Nat) : Nat := (s.tr.ready.filter fun e => e.tt = tt).length

/-- TR_MS_STAT, and the staged TR_T_STAT of the selected template (R510). -/
def State.showStore (s : State) : State :=
  let n := s.tr.entries.length
  let s := (s.put pgTr1 Rg.TR_MS_STAT_USED n).put pgTr1 Rg.TR_MS_STAT_HWM (max n (s.get pgTr1 Rg.TR_MS_STAT_HWM))
  let tt := s.get pgTr1 Rg.TR_T_IDX
  (s.put pgTr1 Rg.TR_T_STAT_ENTRIES (s.entriesOf tt)).put pgTr1 Rg.TR_T_STAT_READY (s.readyOf tt)

/-! ## Flows (R492) -/

/-- The tasks in service: at cores, at engines, in host rings. -/
def State.inService (s : State) : List Task :=
  s.tr.held.map (·.task) ++ s.tr.jobs.map (·.task) ++ s.tr.hosts.flatMap fun h => h.2.items.map (·.2)

/-- A task of flow `f` is in service, or the completion token that ends its service is not yet admitted. -/
def State.flowBusy (s : State) (f : Nat) : Bool :=
  s.inService.any (fun t => t.flow = some f) || s.tr.internal.any fun t => t.frees = some f

/-- R487: the flow of a task. -/
def Template.flowOf (t : Template) (key op0 : Nat) : Option Nat :=
  if t.flowSrc = 0 then none
  else if t.flowSrc = 1 then some (bits t.flow 11 0)
  else if t.flowSrc = 2 then some (bits op0 11 0)
  else some (bits key 11 0)

/-- R488, R490: a ready task from its operands; a missing operand is the empty list. -/
def State.makeReady (s : State) (tt key ctx : Nat) (ops : List (List Nat)) : State :=
  let t := s.temp tt
  let miss := ops.zipIdx.foldl (fun m o => if o.1 = [] then m + 2 ^ o.2 else m) 0
  let task : Task := ⟨tt, key, ctx, miss, t.flowOf key ((ops.getD 0 []).getD 0 0), ops, s.now⟩
  ((s.setTr { s.tr with ready := s.tr.ready ++ [task] }).bump pgTr1 2).showStore

/-! ## Admission (R482, R483, R488–R491) -/

/-- R482: the template and operand of a token. -/
def tokenSel (q : Queue) (w : List Nat) : Nat × Nat :=
  if bits q.cfg 29 29 = 1 then (bits (w.getD 0 0) 31 24, bits (w.getD 0 0) 23 22) else (bits q.cfg 23 16, bits q.cfg 25 24)

/-- The checks of R482: 0 admitted, else the event. -/
def State.tokenCheck (s : State) (t : Token) : Nat :=
  let q := s.queue t.queue
  let sel := tokenSel q t.words
  let tm := s.temp sel.1
  if bits q.cfg 31 31 = 0 then Ev.Q_INVALID
  else if !(t.ctx = 0 || t.ctx = bits q.cfg 11 0 || bits q.cfg 30 30 = 1) then Ev.Q_CONTEXT
  else if !tm.valid || decide (tm.nops ≤ sel.2) then Ev.BAD_TOKEN
  else 0

/-- The entry of the matching store that a token joins. -/
def State.matchOf (s : State) (tt key ctx : Nat) : Option MatchEntry :=
  s.tr.entries.find? fun e => e.tt = tt && e.key = key && e.ctx = ctx

/-- R491: the token is held at the head of its source. -/
def State.tokenHeld (s : State) (t : Token) : Bool :=
  let sel := tokenSel (s.queue t.queue) t.words
  let tm := s.temp sel.1
  let max_ := bits tm.max 15 0
  s.tokenCheck t = 0 && tm.nops ≠ 1 && (s.matchOf sel.1 (t.words.getD 1 0) t.ctx).isNone
    && (decide (32768 ≤ s.tr.entries.length) || (max_ ≠ 0 && decide (max_ ≤ s.entriesOf sel.1)))

/-- R480, R482: the words of an admitted token. -/
def State.stamp (s : State) (w : List Nat) : List Nat :=
  let w0 := w.getD 0 0
  [w0 - bits w0 21 12 <<< 12, w.getD 1 0, s.now % 2 ^ 32, s.now / 2 ^ 32 % 2 ^ 32] ++ (w.drop 4)

/-- A token taken from its source is checked and joined (R482, R488, R489), unless perturbation drops it (R654). -/
def State.joinToken (s : State) (t : Token) : State :=
  let hit := s.ptTake pgTr0 [3]
  let s := hit.2
  let c := s.tokenCheck t
  if hit.1.isSome then s
  else if c ≠ 0 then s.trEvent pgTr0 c t.queue 0 t.ctx
  else
    let q := s.queue t.queue
    let sel := tokenSel q t.words
    let s := (s.setQueue t.queue { q with count := min (2 ^ 32 - 1) (q.count + 1) }).bump pgTr0 1
    let w := s.stamp t.words
    let key := w.getD 1 0
    let n := (s.temp sel.1).nops
    match s.matchOf sel.1 key t.ctx with
    | some e =>
      if e.ops.getD sel.2 [] ≠ [] then s.trEvent pgTr1 Ev.DUP_OPERAND sel.1 0 t.ctx
      else
        let ops := e.ops.set sel.2 w
        if ops.all (· ≠ []) then
          (s.setTr { s.tr with entries := s.tr.entries.filter (· ≠ e) }).makeReady sel.1 key t.ctx ops
        else (s.setTr { s.tr with entries := s.tr.entries.map fun x => if x = e then { e with ops := ops } else x }).showStore
    | none =>
      if n = 1 then s.makeReady sel.1 key t.ctx [w]
      else
        let e : MatchEntry := ⟨sel.1, key, t.ctx, (List.replicate n []).set sel.2 w, s.now⟩
        (s.setTr { s.tr with entries := s.tr.entries ++ [e] }).showStore

/-- The head token of a handoff ring. -/
def State.ringHead (s : State) (n : Nat) : Option Token :=
  let r := Sparse.get ring0 s.tr.rings n
  match r.items with
  | [] => none
  | (c, w) :: _ => some ⟨r.queue, c, w, 238, none⟩

/-- R483: the ring to be served: round-robin after the ring last served, passing over a head that R491 holds. -/
def State.ringTurn (s : State) : Option Nat :=
  ((List.range 256).map fun i => (s.tr.lastRing + 1 + i) % 256).find? fun n =>
    match s.ringHead n with
    | some t => !s.tokenHeld t
    | none => false

/-- Takes the head of a handoff ring. -/
def State.takeRing (s : State) (n : Nat) : State :=
  match s.ringHead n with
  | none => s
  | some t =>
    let r := Sparse.get ring0 s.tr.rings n
    let s := s.setRing n { r with items := r.items.drop 1 }
    (s.setTr { s.tr with lastRing := n, ringSide := true }).joinToken t

/-- Takes the oldest Truss or staging token. -/
def State.takeFifo (s : State) : State :=
  match s.tr.fifo with
  | [] => s
  | t :: l => (s.setTr { s.tr with fifo := l, ringSide := false }).joinToken t

/-- Whether a source holds its head under R491. -/
def State.anyHeld (s : State) : Bool :=
  (s.tr.internal.head?.toList ++ s.tr.fifo.head?.toList ++ s.tr.rings.filterMap fun r => s.ringHead r.1).any s.tokenHeld

/-- TOKEN_ADMIT (R482, R483): at most one token in every 2 cy. -/
def execTokenAdmit (s : State) : Host.Outcome State Fault Refusal :=
  .next (
    if !s.domOn 3 || decide (s.uptime + 1 < s.tr.lastAdmit + 2) then s
    else
      let s := if s.anyHeld then s.bump pgTr0 5 else s
      let done := fun (s : State) => s.setTr { s.tr with lastAdmit := s.uptime + 1 }
      match s.tr.internal with
      | t :: l =>
        if !s.tokenHeld t then done ((s.setTr { s.tr with internal := l }).joinToken t)
        else
          match s.ringTurn with
          | some n => done (s.takeRing n)
          | none => s
      | [] =>
        let f := match s.tr.fifo with
          | t :: _ => !s.tokenHeld t
          | [] => false
        match s.ringTurn with
        | some n => if f && s.tr.ringSide then done s.takeFifo else done (s.takeRing n)
        | none => if f then done s.takeFifo else s)

/-- The places of the internal buffer that are taken or reserved (R481). -/
def State.internalUsed (s : State) : Nat :=
  s.tr.internal.length + (s.tr.jobs.filter fun j => (s.temp j.task.tt).doneEn).length

/-- R65, R481: the token of a trigger entry. Its words are not given: free values. -/
def State.trigToken (s : State) (arg : Nat) : State :=
  if !s.domOn 3 then s
  else if 64 ≤ s.internalUsed then (s.satAdd pgTr0 Rg.TR_TRIG_DROP).trEvent pgTr0 Ev.TRIG_DROP (bits arg 11 0)
  else
    let r := (List.range 16).foldl (fun r _ => let f := r.2.fresh; (r.1 ++ [f.1 % 2 ^ 32], f.2)) (([] : List Nat), s)
    r.2.setTr { r.2.tr with internal := r.2.tr.internal ++ [⟨bits arg 11 0, 0, r.1, 237, none⟩] }

/-- A token that a Truss packet or a staging area brings (R481). -/
def State.submit (s : State) (source queue ctx : Nat) (words : List Nat) : State :=
  s.setTr { s.tr with fifo := s.tr.fifo ++ [⟨queue % 4096, ctx, words, source, none⟩] }

/-- What a write of TR_SEND does (R481). -/
def State.trSend (s : State) (w : Who) (value : Nat) : State :=
  if 216 ≤ w.source ∧ w.source ≤ 233 then
    s.submit w.source (bits value 11 0) w.ctx
      ((List.range 16).map fun i => (s.reg pgTr0 (0x400 + 0x40 * (w.source - 216) + 4 * i)).toNat)
  else s.trEvent pgTr0 Ev.BAD_TOKEN (bits value 11 0) 0 w.ctx

/-- TR_SEND (R481). -/
def execTrSend (w : Who) (value : Nat) (s : State) : Host.Outcome State Fault Refusal :=
  .next (s.access w pgTr0 0x140 true fun s => s.trSend w value)

/-- MATCH_EXPIRY (R490): at an air count that is a multiple of a span. -/
def execMatchExpiry (s : State) : Host.Outcome State Fault Refusal :=
  .next (
    if !s.domOn 3 || s.now % spanCy ≠ 0 then s
    else
      let old := s.tr.entries.filter fun e =>
        let t := (s.temp e.tt).tmo
        t ≠ 0 && decide (e.first + t * spanCy ≤ s.now)
      let s := s.setTr { s.tr with entries := s.tr.entries.filter fun e => !(old.contains e) }
      (old.foldl (fun s e =>
        if (s.temp e.tt).partial_ then s.makeReady e.tt e.key e.ctx e.ops
        else s.trEvent pgTr1 Ev.EXPIRED e.tt 0 e.ctx) s).showStore)

/-! ## Placing tasks (R492–R500) -/

/-- The tasks that core `n` holds, and those not popped. -/
def State.heldBy (s : State) (n : Nat) : List Held := s.tr.held.filter fun h => h.core = n
def State.listOf (s : State) (n : Nat) : List Held := s.tr.held.filter fun h => h.core = n && !h.popped

/-- TR_Cn_STAT (R511). -/
def State.showCore (s : State) (n : Nat) : State :=
  (s.put pgTr2 Rg.TR_C_STAT_HELD (s.heldBy n).length n).put pgTr2 Rg.TR_C_STAT_LIST (s.listOf n).length n

/-- R493: the task record. -/
def State.taskRecord (s : State) (t : Task) (handle : Nat) : List Nat :=
  let tm := s.temp t.tt
  let w0 := t.tt <<< 24 + (tm.nops - 1) <<< 22 + (t.miss % 16) <<< 18 + t.flow.isSome.toNat <<< 17 + t.flow.getD 0
  let words := [w0, t.key, (t.ctx % 4096) <<< 20 + handle, tm.h, t.air % 2 ^ 32, t.air / 2 ^ 32, s.now % 2 ^ 32, s.now / 2 ^ 32]
    ++ List.replicate 8 0
  (words ++ t.ops.flatMap fun o => (List.range 16).map fun i => o.getD i 0).flatMap (bytesOf 4)

/-- R493: the core that a task goes to. -/
def State.coreFor (s : State) (mask : Nat) : Option Nat :=
  (List.range 16).foldl (fun best n =>
    if mask.testBit n && s.flag pgTr2 Rg.TR_C_CFG_EN n && decide ((s.heldBy n).length < 64) then
      match best with
      | none => some n
      | some b => if (s.heldBy n).length < (s.heldBy b).length then some n else best
    else best) none

/-- The lowest free slot of a core. -/
def State.freeSlot (s : State) (n : Nat) : Nat :=
  ((List.range 64).find? fun k => !((s.heldBy n).any fun h => h.slot = k)).getD 0

/-- R493, R494: the task goes to core `n`. -/
def State.placeCore (s : State) (t : Task) (n : Nat) : State :=
  let slot := s.freeSlot n
  let a := s.get64 pgTr2 Rg.TR_C_AREA_LO n / 512 * 512 + 512 * slot
  let r := s.dynWrite ⟨234, 0, t.ctx, 0⟩ a (s.taskRecord t (n <<< 6 + slot))
  let s := r.2.bump pgTr2 3
  if r.1 then
    let empty := (s.listOf n).isEmpty
    let s := (s.setTr { s.tr with held := s.tr.held ++ [⟨n, slot, false, s.uptime, t⟩] }).showCore n
    if empty && s.flag pgTr2 Rg.TR_C_CFG_DB_EN n then s.doorbell (s.get pgTr2 Rg.TR_C_CFG_DB n) else s
  else s.trEvent pgTr2 Ev.WRITE_ERR n a t.ctx

/-- R497: the descriptor address of an engine job. -/
def Task.desc (t : Task) : Nat := (t.ops.getD 0 []).getD 4 0

/-- R497: the engine for a job, with its completion: the lowest instance that meets every condition. -/
def State.engineFor (s : State) (t : Task) : Option (Nat × Nat) :=
  let tm := s.temp t.tt
  let c := tm.tgt % 256
  match classEng c with
  | none => none
  | some k =>
    let fin := s.uptime + (engTiming k (s.descWords (deckOf t.desc)) s.deckK).1
    ((List.range (engCount k)).find? fun n =>
      let u := 256 * c + n
      tm.emask.testBit n && s.domOn (unitDomain u) && !(s.failedUnits.contains u)
        && !(s.tr.jobs.any fun j => j.unit = u) && !(s.en.runs.any fun r => r.job.unit = u && r.dyn)
        && s.dk.lent.any fun l => l.1 = u && decide (l.2.1 ≤ s.uptime) && decide (s.uptime < l.2.2) && decide (fin ≤ l.2.2)).map
      fun n => (256 * c + n, fin)

/-- R500: the entries that a host ring holds. -/
def HostRing.used (h : HostRing) : Nat := (h.pidx + 65536 - h.cidx) % 65536

/-- A write of the Trestle to the PCIe outbound range (R472); while the link is down it is discarded. -/
def State.outWrite (s : State) (a : Nat) (data : List Nat) : State :=
  match place a with
  | .outbound _ => if s.linkUp then (s.hostWrite (s.hostAddr a) data).bump pgPcie 2 else s
  | _ => s

/-- R500: the task goes to host ring `o`. -/
def State.placeHost (s : State) (t : Task) (o : Nat) : State :=
  let h := s.hostRing o
  let s := s.bump pgTr2 3
  let s := s.outWrite (h.base + 512 * (h.pidx % 2 ^ bits h.cfg 3 0)) (s.taskRecord t 0)
  let p := (h.pidx + 1) % 65536
  let s := s.setHost o { h with pidx := p, items := h.items ++ [(h.pidx, t)] }
  let s := s.outWrite h.pidxAt (bytesOf 4 p)
  if bits h.cfg 30 30 = 1 then s.doorbell (bits h.cfg 29 24) else s

/-- Where a ready task can be placed now: a core, an engine with its completion, a host ring. -/
inductive TaskTo where
  | core (n : Nat)
  | eng (unit fin : Nat)
  | host (o : Nat)
deriving DecidableEq, Repr

def State.taskTo (s : State) (t : Task) : Option TaskTo :=
  let tm := s.temp t.tt
  if tm.dest = 0 then (s.coreFor tm.tgt).map .core
  else if tm.dest = 1 then
    if tm.doneEn && decide (64 ≤ s.internalUsed) then none else (s.engineFor t).map fun e => .eng e.1 e.2
  else if tm.dest = 2 then
    let o := tm.tgt % 128
    let h := s.hostRing o
    if bits h.cfg 31 31 = 1 && decide (h.used < 2 ^ bits h.cfg 3 0) then some (.host o) else none
  else none

/-- R492: the first ready task that can be placed, after the tasks of the same flow that precede it. -/
def State.nextTask (s : State) : List Task → List Nat → Option (Task × TaskTo)
  | [], _ => none
  | t :: l, seen =>
    let held := match t.flow with
      | some f => seen.contains f || s.flowBusy f
      | none => false
    match (if held then none else s.taskTo t) with
    | some d => some (t, d)
    | none => s.nextTask l (t.flow.toList ++ seen)

/-- TASK_PLACE (R492). -/
def execTaskPlace (s : State) : Host.Outcome State Fault Refusal :=
  .next (
    if !s.domOn 3 then s
    else
      match s.nextTask s.tr.ready [] with
      | none => s
      | some (t, d) =>
        let s := (s.setTr { s.tr with ready := s.tr.ready.erase t }).showStore
        match d with
        | .core n => s.placeCore t n
        | .eng u fin => (s.setTr { s.tr with jobs := s.tr.jobs ++ [⟨u, fin, t⟩] }).bump pgTr2 3
        | .host o => s.placeHost t o)

/-- What a read of TR_Cn_POP does (R495). -/
def State.trPop (s : State) (n : Nat) : State :=
  match s.listOf n with
  | [] => (s.setReg pgTr2 (0x10C + 0x10 * n) 0).answer 0 0
  | h :: l =>
    let s := s.setTr { s.tr with held := s.tr.held.map fun x => if x = h then { h with popped := true } else x }
    let s := s.put pgTr2 Rg.TR_C_WAIT (max (s.get pgTr2 Rg.TR_C_WAIT n) (min (2 ^ 32 - 1) (s.uptime - h.placed))) n
    let v := 2 ^ 31 + l.length <<< 16 + n <<< 6 + h.slot
    ((s.showCore n).setReg pgTr2 (0x10C + 0x10 * n) (BitVec.ofNat 32 v)).answer 0 v

/-- TASK_POP (R495). -/
def execTaskPop (w : Who) (n : Fin 16) (s : State) : Host.Outcome State Fault Refusal :=
  .next (s.access w pgTr2 (0x10C + 0x10 * n.val) false fun s => s.trPop n.val)

/-- What a write of TR_DONE does (R495). -/
def State.trDone (s : State) (w : Who) (value : Nat) : State :=
  let n := bits value 9 6
  match s.tr.held.find? fun h => h.core = n && h.slot = bits value 5 0 with
  | none => s.trEvent pgTr2 Ev.BAD_DONE n (bits value 9 0) w.ctx
  | some h =>
    if w.ctx = 0 || w.ctx = h.task.ctx then
      let s := (s.setTr { s.tr with held := s.tr.held.filter (· ≠ h) }).showCore n
      (s.satAdd pgTr2 Rg.TR_C_DONE 1 n).bump pgTr2 4
    else s.trEvent pgTr2 Ev.BAD_DONE n (bits value 9 0) w.ctx

/-- TR_DONE (R495). -/
def execTrDone (w : Who) (value : Nat) (s : State) : Host.Outcome State Fault Refusal :=
  .next (s.access w pgTr2 0x200 true fun s => s.trDone w value)

/-- What a write of TR_C_FLUSH does (R496). -/
def State.trFlush (s : State) (mask : Nat) : State :=
  (List.range 16).foldl (fun s n =>
    if mask.testBit n then
      let back := (s.listOf n).map (·.task)
      let gone := (s.heldBy n).filter (·.popped)
      let s := s.setTr { s.tr with held := s.tr.held.filter (fun h => h.core ≠ n), ready := back ++ s.tr.ready }
      ((gone.foldl (fun s h => s.trEvent pgTr2 Ev.TASK_DROP n 0 h.task.ctx) s).showCore n).showStore
    else s) s

/-- TR_C_FLUSH (R496). -/
def execTrCFlush (w : Who) (value : Nat) (s : State) : Host.Outcome State Fault Refusal :=
  .next (s.access w pgTr2 0x204 true fun s => s.trFlush (bits value 15 0))

/-! ## Host functions (R499–R501) -/

/-- R499: a discarded write of a virtual function. -/
def State.vfDrop (s : State) (f : Nat) : State :=
  let v := s.vfWin f
  (s.setVf f { v with drop := min (2 ^ 32 - 1) (v.drop + 1) }).trEvent pgTr3 Ev.VF_DROP f

def VfWin.q (v : VfWin) (j : Nat) : Nat := if j = 0 then v.q0 else if j = 1 then v.q1 else if j = 2 then v.q2 else v.q3

/-- R499: a write of bytes to offset `off` of the token windows of virtual function `f`. -/
def State.vfToken (s : State) (f off : Nat) (data : List Nat) : State :=
  let v := s.vfWin f
  let q := v.q (off / 4096)
  if data.length = 64 && off % 4096 = 0 && bits q 31 31 = 1 then
    s.submit 233 (bits q 11 0) (Sparse.get nat0 s.ab.pcie.ctx f) ((List.range 16).map fun i => ofBytes ((data.drop (4 * i)).take 4))
  else s.vfDrop f

/-- The function's requests reach the Trestle. -/
def State.vfLive (s : State) (f : Nat) : Bool := s.linkUp && s.ab.pcie.sriov && f ≠ 0 && s.domOn 2 && s.domOn 3

/-- VF_TOKEN_WRITE (R499): a host write to token window `j`, at offset `off` within it. -/
def execVfTokenWrite (f : Fin 64) (j : Fin 4) (off : Fin 4096) (data : List Nat) (s : State) : Host.Outcome State Fault Refusal :=
  .next (if s.vfLive f.val then s.vfToken f.val (4096 * j.val + off.val) data else s)

/-- R500: CIDX of a host ring moves; the entries that it passes leave service. -/
def State.hostCidx (s : State) (o c : Nat) : State :=
  let h := s.hostRing o
  let h' := { h with cidx := c % 65536 }
  let keep := h.items.filter fun i => decide ((i.1 + 65536 - h'.cidx) % 65536 < h'.used)
  let s := s.setHost o { h' with items := keep }
  if keep.length < h.items.length then s.bump pgTr2 4 (h.items.length - keep.length) else s

/-- R499: a write to offset `off` of the consumer indices: 0x8000 and 0x9000. -/
def State.vfCidx (s : State) (f off : Nat) (data : List Nat) : State :=
  if data.length = 4 && off % 4096 = 0 then s.hostCidx (2 * f + off / 4096 % 2) (ofBytes data) else s.vfDrop f

/-- VF_CIDX_WRITE (R499): a host write of the consumer index of output ring 2f or 2f + 1. -/
def execVfCidxWrite (f : Fin 64) (second : Bool) (data : List Nat) (s : State) : Host.Outcome State Fault Refusal :=
  .next (if s.vfLive f.val then s.vfCidx f.val (0x8000 + second.toNat * 4096) data else s)

/-- R501: an FLR drops a host ring's records and the ready tasks that name it. -/
def State.dropRing (s : State) (o : Nat) : State :=
  let h := s.hostRing o
  let mine := fun (t : Task) => (s.temp t.tt).dest = 2 && (s.temp t.tt).tgt % 128 = o
  let gone := h.items.map (·.2) ++ s.tr.ready.filter mine
  let s := s.setHost o { h with cfg := bits h.cfg 30 0, cidx := 0, pidx := 0, items := [] }
  let s := s.setTr { s.tr with ready := s.tr.ready.filter fun t => !mine t }
  (gone.foldl (fun s t => s.trEvent pgTr2 Ev.TASK_DROP o 0 t.ctx) s).showStore

/-- R501: the Trestle's part of an FLR of virtual function `f`. -/
def State.trFlr (s : State) (f : Nat) : State :=
  let v := s.vfWin f
  let s := s.setVf f { v with q0 := bits v.q0 30 0, q1 := bits v.q1 30 0, q2 := bits v.q2 30 0, q3 := bits v.q3 30 0 }
  (s.dropRing (2 * f)).dropRing (2 * f + 1)

/-- FLR (R473, R501). -/
def execFlr (f : Fin 64) (s : State) : Host.Outcome State Fault Refusal :=
  let n := f.val
  .next (
    if !s.linkUp then s
    else
      let p := s.ab.pcie
      let mine := fun k => n = 0 || k = n
      let s := s.setPcie { p with
        bme := Sparse.drop mine p.bme
        msix := Sparse.drop (fun k => mine (k / 8192)) p.msix
        pba := Sparse.drop (fun k => mine (k / 2048)) p.pba
        sriov := p.sriov && n ≠ 0
        reads := if n = 0 then [] else p.reads }
      let s := if n = 0 then (((List.range 64).drop 1).foldl State.trFlr s).dropRing 0 |>.dropRing 1 else s.trFlr n
      let s := if n = 0 && !p.reads.isEmpty then s.answer stTimeout 0 else s
      s.pcieEvent Ev.FLR n)

/-! ## The buffer ledger (R502–R505) -/

def BufPool.valid (p : BufPool) : Bool := bits p.cfg 31 31 = 1
def BufPool.count (p : BufPool) : Nat := bits p.cfg 15 0
/-- The bytes of a buffer. -/
def BufPool.size (p : BufPool) : Nat := 64 * 2 ^ bits p.cfg 27 24
def BufPool.free (p : BufPool) : Nat := p.count - p.owner.length

/-- TR_Pp_STAT (R512). -/
def State.showPool (s : State) (n : Nat) : State :=
  let p := s.pool n
  let p := { p with low := min p.low p.free }
  let s := s.setPool n p
  let v := p.valid
  (s.put pgTr3 Rg.TR_P_STAT_FREE (if v then p.free else 0) n).put pgTr3 Rg.TR_P_STAT_LOW (if v then p.low else 0) n

/-- The lowest index below `count` that no buffer in a rising list of owned ones has. -/
def lowestFree : List (Nat × Nat) → Nat → Nat
  | [], i => i
  | (k, _) :: l, i => if k = i then lowestFree l (i + 1) else i

/-- R503: takes the lowest-numbered FREE buffer of pool `n` for context `ctx`. -/
def State.alloc (s : State) (n ctx : Nat) : Option Nat × State :=
  let p := s.pool n
  if p.valid && decide (0 < p.free) then
    let i := lowestFree p.owner 0
    let s := (s.setPool n { p with owner := Sparse.set nat0 p.owner i (ctx + 1) }).showPool n
    (some (n * 65536 + i), s.bump pgTr3 9)
  else (none, s.trEvent pgTr3 Ev.POOL_EMPTY n 0 ctx)

/-- R502: the address of a buffer. -/
def State.bufAddr (s : State) (handle : Nat) : Nat :=
  s.get64 pgTr3 Rg.TR_P_BASE_LO (handle / 65536) / 64 * 64 + handle % 65536 * (s.pool (handle / 65536)).size

/-- What a read of TR_ALLOCp does (R503). -/
def State.trAlloc (s : State) (w : Who) (n : Nat) : State :=
  let r := s.alloc n w.ctx
  let v := match r.1 with
    | some h => 2 ^ 31 + h
    | none => 0
  (r.2.setReg pgTr3 (0x200 + 4 * n) (BitVec.ofNat 32 v)).answer 0 v

/-- BUFFER_ALLOC (R503). -/
def execBufferAlloc (w : Who) (p : Fin 16) (s : State) : Host.Outcome State Fault Refusal :=
  .next (s.access w pgTr3 (0x200 + 4 * p.val) false fun s => s.trAlloc w p.val)

/-- R504: the checks on a handle; then its owner becomes `new` (CTX + 1; 0: FREE). -/
def State.ledger (s : State) (w : Who) (handle new : Nat) : State :=
  let n := handle / 65536
  let p := s.pool n
  let i := handle % 65536
  let o := Sparse.get nat0 p.owner i
  if 16 ≤ n || !p.valid || decide (p.count ≤ i) then s.trEvent pgTr3 Ev.BAD_HANDLE n handle w.ctx
  else if o = 0 then s.trEvent pgTr3 Ev.DOUBLE_FREE n handle w.ctx
  else if w.ctx ≠ 0 && w.ctx + 1 ≠ o then s.trEvent pgTr3 Ev.FOREIGN_FREE n handle w.ctx
  else
    let s := (s.setPool n { p with owner := Sparse.set nat0 p.owner i new }).showPool n
    if new = 0 then s.bump pgTr3 0x0A else s

/-- BUFFER_FREE (R504): a write of TR_FREE. -/
def execBufferFree (w : Who) (value : Nat) (s : State) : Host.Outcome State Fault Refusal :=
  .next (s.access w pgTr3 0x240 true fun s => s.ledger w (bits value 19 0) 0)

/-- BUFFER_GIVE (R504): a write of TR_GIVE. -/
def execBufferGive (w : Who) (value : Nat) (s : State) : Host.Outcome State Fault Refusal :=
  .next (s.access w pgTr3 0x244 true fun s => s.ledger w (bits value 19 0) (bits value 31 20 + 1))

/-- What a write of TR_Pp_CFG does (R502): it takes effect only while every buffer of the pool is FREE. -/
def State.poolCfg (s : State) (n : Nat) : State :=
  let p := s.pool n
  if p.owner.isEmpty then
    let q : BufPool := { p with cfg := (s.reg pgTr3 (0x108 + 0x10 * n)).toNat }
    (s.setPool n { q with low := q.count }).showPool n
  else s.setReg pgTr3 (0x108 + 0x10 * n) (BitVec.ofNat 32 p.cfg)

/-- TR_POOL_CFG_WRITE (R502). -/
def execTrPoolCfgWrite (w : Who) (p : Fin 16) (value : Nat) (s : State) : Host.Outcome State Fault Refusal :=
  .next (s.command w pgTr3 (0x108 + 0x10 * p.val) value fun s => s.poolCfg p.val)

/-! ## Staging registers (R508–R512) -/

/-- What a write of TR_Q_IDX does. -/
def State.trQIdx (s : State) : State :=
  let q := s.queue (s.get pgTr0 Rg.TR_Q_IDX)
  (s.setReg pgTr0 0x104 (BitVec.ofNat 32 q.cfg)).setReg pgTr0 0x10C (BitVec.ofNat 32 q.count)

/-- TR_Q_IDX_WRITE (R508). -/
def execTrQIdxWrite (w : Who) (value : Nat) (s : State) : Host.Outcome State Fault Refusal :=
  .next (s.command w pgTr0 0x100 value fun s => s.trQIdx)

/-- What TR_Q_CMD.WRITE does. -/
def State.trQApply (s : State) : State :=
  let n := s.get pgTr0 Rg.TR_Q_IDX
  s.setQueue n { s.queue n with cfg := (s.reg pgTr0 0x104).toNat }

/-- TR_Q_WRITE (R509). -/
def execTrQWrite (w : Who) (s : State) : Host.Outcome State Fault Refusal :=
  .next (s.access w pgTr0 0x108 true fun s => s.trQApply)

/-- What a write of TR_R_IDX does. -/
def State.trRIdx (s : State) : State :=
  let r := Sparse.get ring0 s.tr.rings (s.get pgTr0 Rg.TR_R_IDX)
  let s := (s.put pgTr0 Rg.TR_R_CFG_SIZE r.size).put pgTr0 Rg.TR_R_CFG_BASE r.base
  let s := s.put pgTr0 Rg.TR_R_Q r.queue
  (s.put pgTr0 Rg.TR_R_STAT_FILL r.items.length).put pgTr0 Rg.TR_R_STAT_OVF r.ovf

/-- TR_R_IDX_WRITE (R508). -/
def execTrRIdxWrite (w : Who) (value : Nat) (s : State) : Host.Outcome State Fault Refusal :=
  .next (s.command w pgTr0 0x110 value fun s => s.trRIdx)

/-- R486: the rings that an armed or running plan names. -/
def State.planRings (s : State) : List Nat :=
  let of := fun (p : Option Plan) => match p with
    | some p => p.rings.map (·.1)
    | none => []
  of s.plan ++ of (s.dk.armed.bind fun a => s.dk.slot a.slot)

/-- What TR_R_CMD.WRITE does (R485, R486). A ring that would pass the ring memory counts as one that overlaps (log entry 85, DEDUCED). -/
def State.trRApply (s : State) : State :=
  let n := s.get pgTr0 Rg.TR_R_IDX
  let size := s.get pgTr0 Rg.TR_R_CFG_SIZE
  let base := s.get pgTr0 Rg.TR_R_CFG_BASE
  let clash := size ≠ 0 && (decide (65536 < base + size) || s.tr.rings.any fun r =>
    r.1 ≠ n && r.2.size ≠ 0 && decide (base < r.2.base + r.2.size) && decide (r.2.base < base + size))
  if clash || s.planRings.contains n then s.trEvent pgTr0 Ev.RING_CFG n
  else s.setRing n { Sparse.get ring0 s.tr.rings n with base := base, size := size, queue := s.get pgTr0 Rg.TR_R_Q }

/-- TR_R_WRITE (R485). -/
def execTrRWrite (w : Who) (s : State) : Host.Outcome State Fault Refusal :=
  .next (s.access w pgTr0 0x11C true fun s => s.trRApply)

/-- What a write of TR_T_IDX does. -/
def State.trTIdx (s : State) : State :=
  let t := s.temp (s.get pgTr1 Rg.TR_T_IDX)
  let s := [(0x104, t.cfg), (0x108, t.flow), (0x10C, t.emask), (0x110, t.doneq), (0x114, t.h), (0x118, t.max)].foldl
    (fun s e => s.setReg pgTr1 e.1 (BitVec.ofNat 32 e.2)) s
  s.showStore

/-- TR_T_IDX_WRITE (R508). -/
def execTrTIdxWrite (w : Who) (value : Nat) (s : State) : Host.Outcome State Fault Refusal :=
  .next (s.command w pgTr1 0x100 value fun s => s.trTIdx)

/-- What TR_T_CMD.WRITE does (R506, R510). -/
def State.trTApply (s : State) : State :=
  let n := s.get pgTr1 Rg.TR_T_IDX
  if s.entriesOf n ≠ 0 || s.readyOf n ≠ 0 then s.trEvent pgTr1 Ev.TT_BUSY n
  else
    let r := fun o => (s.reg pgTr1 o).toNat
    s.setTemp n ⟨r 0x104, r 0x108, r 0x10C, r 0x110, r 0x114, r 0x118⟩

/-- TR_T_WRITE (R510). -/
def execTrTWrite (w : Who) (s : State) : Host.Outcome State Fault Refusal :=
  .next (s.access w pgTr1 0x11C true fun s => s.trTApply)

/-- What a write of TR_F_IDX does (R511). -/
def State.trFIdx (s : State) : State :=
  let f := s.get pgTr2 Rg.TR_F_IDX
  let s := s.put pgTr2 Rg.TR_F_STAT_BUSY (s.flowBusy f).toNat
  s.put pgTr2 Rg.TR_F_STAT_WAIT (min 65535 (if s.flowBusy f then (s.tr.ready.filter fun t => t.flow = some f).length else
    (s.tr.ready.filter fun t => t.flow = some f).length - 1))

/-- TR_F_IDX_WRITE (R511). -/
def execTrFIdxWrite (w : Who) (value : Nat) (s : State) : Host.Outcome State Fault Refusal :=
  .next (s.command w pgTr2 0x300 value fun s => s.trFIdx)

/-- TR_WAIT_READ (R511): a read of TR_Cn_WAIT clears it. -/
def execTrWaitRead (w : Who) (n : Fin 16) (s : State) : Host.Outcome State Fault Refusal :=
  .next (s.access w pgTr2 (0x280 + 4 * n.val) false fun s =>
    (s.put pgTr2 Rg.TR_C_WAIT 0 n.val).answer 0 (s.get pgTr2 Rg.TR_C_WAIT n.val))

/-- What a write of TR_L_IDX does (R512). -/
def State.trLIdx (s : State) : State :=
  let h := s.get pgTr3 Rg.TR_L_IDX
  let o := Sparse.get nat0 (s.pool (h / 65536)).owner (h % 65536)
  (s.put pgTr3 Rg.TR_L_STAT_OWNED (decide (o ≠ 0)).toNat).put pgTr3 Rg.TR_L_STAT_CTX (o - 1)

/-- TR_L_IDX_WRITE (R512). -/
def execTrLIdxWrite (w : Who) (value : Nat) (s : State) : Host.Outcome State Fault Refusal :=
  .next (s.command w pgTr3 0x248 value fun s => s.trLIdx)

/-- What a write of TR_H_IDX does. -/
def State.trHIdx (s : State) : State :=
  let h := s.hostRing (s.get pgTr3 Rg.TR_H_IDX)
  let s := (s.put64 pgTr3 Rg.TR_H_BASE_LO h.base).put64 pgTr3 Rg.TR_H_PIDX_LO h.pidxAt
  let s := s.setReg pgTr3 0x314 (BitVec.ofNat 32 h.cfg)
  (s.put pgTr3 Rg.TR_H_IDXS_CIDX h.cidx).put pgTr3 Rg.TR_H_IDXS_PIDX h.pidx

/-- TR_H_IDX_WRITE (R508). -/
def execTrHIdxWrite (w : Who) (value : Nat) (s : State) : Host.Outcome State Fault Refusal :=
  .next (s.command w pgTr3 0x300 value fun s => s.trHIdx)

/-- What TR_H_CMD.WRITE does (R512). -/
def State.trHApply (s : State) : State :=
  let n := s.get pgTr3 Rg.TR_H_IDX
  s.setHost n { s.hostRing n with
    base := s.get64 pgTr3 Rg.TR_H_BASE_LO / 512 * 512, pidxAt := s.get64 pgTr3 Rg.TR_H_PIDX_LO / 4 * 4,
    cfg := (s.reg pgTr3 0x314).toNat }

/-- TR_H_WRITE (R512). -/
def execTrHWrite (w : Who) (s : State) : Host.Outcome State Fault Refusal :=
  .next (s.access w pgTr3 0x318 true fun s => s.trHApply)

/-- What a write of TR_V_IDX does. -/
def State.trVIdx (s : State) : State :=
  let v := s.vfWin (s.get pgTr3 Rg.TR_V_IDX)
  let s := (List.range 4).foldl (fun s j => s.setReg pgTr3 (0x344 + 4 * j) (BitVec.ofNat 32 (v.q j))) s
  s.put pgTr3 Rg.TR_V_DROP v.drop

/-- TR_V_IDX_WRITE (R508). -/
def execTrVIdxWrite (w : Who) (value : Nat) (s : State) : Host.Outcome State Fault Refusal :=
  .next (s.command w pgTr3 0x340 value fun s => s.trVIdx)

/-- What TR_V_CMD.WRITE does (R512). -/
def State.trVApply (s : State) : State :=
  let f := s.get pgTr3 Rg.TR_V_IDX
  let r := fun j => (s.reg pgTr3 (0x344 + 4 * j)).toNat
  if f = 0 then s else s.setVf f { s.vfWin f with q0 := r 0, q1 := r 1, q2 := r 2, q3 := r 3 }

/-- TR_V_WRITE (R512). -/
def execTrVWrite (w : Who) (s : State) : Host.Outcome State Fault Refusal :=
  .next (s.access w pgTr3 0x354 true fun s => s.trVApply)

/-! ## The completion of an engine operation (R206, R492, R498) -/

/-- The fault that the hardware may meet at the end of an operation: bit 2 a parity mismatch (all families), bit 0 a failed
check (all but FE and ME, whose items tell it), both as the families list them; the low byte of its event. -/
def completionUpset (k : EngKind) (upset : Nat) : Nat :=
  if upset = 4 then Ev.ENG_PARITY
  else if upset = 1 && k ≠ .fe && k ≠ .me then Ev.ENG_CHECK
  else if upset = 5 && k = .xc then Ev.ENG_CODEGEN
  else 0

/-- ENGINE_OP_COMPLETE (R206): the oldest operation of a unit reaches its latency. `upset` is the low byte of a fault event
that the hardware meets (0: none). Word 0 of a completion token is not given: a free value. -/
def execEngineOpComplete (unit : Fin 65536) (upset : Fin 8) (s : State) : Host.Outcome State Fault Refusal :=
  let u := unit.val
  .next (
    match s.en.runs.find? fun r => r.job.unit = u && decide (r.job.fin ≤ s.uptime), classEng (u / 256) with
    | some r, some k =>
      let q := s.judgeAll r
      let up := completionUpset k upset.val
      let q := if up = 0 then q else q.2.engFault q.1 up 0
      let r' := q.1
      let s := q.2
      let state := if r'.code = u / 256 * 256 + Ev.ENG_DESC_INVALID then 4 else if r'.code = 0 then 1 else 3
      let rec_ := statusBytes state r'.tag r'.user r'.qual r'.code (s.ofsAt r'.job.fin) r'.words
      let s := if tabOk (r'.status - pierBase) then s.writeBytes (unitSource u) r'.status rec_ else s
      let s := s.put (engPage u) Rg.ENG_STAT_LAST_STATE state
      let s := ({ s with en := { s.en with runs := s.en.runs.erase r } }).showEng u
      if r'.dyn then
        match s.tr.jobs.find? fun j => j.unit = u with
        | none => s
        | some j =>
          let tm := s.temp j.task.tt
          let s := (s.setTr { s.tr with jobs := s.tr.jobs.filter (· ≠ j) }).bump pgTr2 4
          if tm.doneEn then
            let f := s.fresh
            let words := [f.1 % 2 ^ 32, j.task.key, 0, 0] ++ (List.range 12).map fun i => ofBytes ((rec_.drop (4 * i)).take 4)
            f.2.setTr { f.2.tr with
              internal := f.2.tr.internal ++ [⟨bits tm.doneq 11 0, j.task.ctx, words, 234, j.task.flow⟩] }
          else s
      else s
    | _, _ => s)

end Sys2Proof.Machine
end

