-- ==== Sys2Proof/Machine/Fronthaul.lean ====
section
/-! DEFINITION. The fronthaul: Ethernet frames in and out, eCPRI and O-RAN U-plane placement, reception buffers, compression,
timestamps, MACsec, radio partners (spec chapter 11). -/
namespace Sys2Proof.Machine

def pgAu (n : Nat) : Nat := page .au n
def auUnit (n : Nat) : Nat := 0x4000 + n
def auSource (n : Nat) : Nat := 204 + n

def flow0 : Nat → Flow := fun _ => Flow.zero
def partner0 : Nat → Partner := fun _ => Partner.zero

def State.flow (s : State) (au i : Nat) : Flow := Sparse.get flow0 s.fh.flows (512 * au + i)
def State.setFlow (s : State) (au i : Nat) (f : Flow) : State :=
  { s with fh := { s.fh with flows := Sparse.set flow0 s.fh.flows (512 * au + i) f } }
def State.partner (s : State) (au i : Nat) : Partner := Sparse.get partner0 s.fh.partners (32 * au + i)
def State.setPartner (s : State) (au i : Nat) (x : Partner) : State :=
  { s with fh := { s.fh with partners := Sparse.set partner0 s.fh.partners (32 * au + i) x } }

/-- R376: adds to counter `j` of a flow; it saturates. -/
def State.flowCount (s : State) (au i j : Nat) (v : Nat := 1) : State :=
  let f := s.flow au i
  s.setFlow au i { f with cnt := f.cnt.set j (min (f.cnt.getD j 0 + v) (2 ^ 32 - 1)) }

def Flow.valid (f : Flow) : Bool := bits f.w0 31 31 = 1
def Flow.meth (f : Flow) : Nat := bits f.w3 3 0
/-- R357: the static width; 0 means 16. -/
def Flow.width (f : Flow) : Nat := if bits f.w4 3 0 = 0 then 16 else bits f.w4 3 0
def Flow.dyn (f : Flow) : Bool := bits f.w3 7 7 = 1
def Flow.nrb (f : Flow) : Nat := bits f.w3 24 16
def Flow.param (f : Flow) : Nat := bits f.w3 15 8

/-- An event of an approach unit, with the flow or stream in DETAIL[24:16] (R375). -/
def State.auEvent (s : State) (n code ctx flow : Nat) : State := s.event (pgAu n) code ctx 0 ((flow % 512) <<< 16)

/-! ## Bytes and bits -/

/-- A number from its bytes, most significant first. -/
def beN (l : List Nat) : Nat := l.foldl (fun a b => 256 * a + b) 0

/-- The low `n` bytes of a number, most significant first. -/
def beBytes (n v : Nat) : List Nat := (bytesOf n v).reverse

/-- Bits of bytes, most significant first. -/
def bitsOf (l : List Nat) : List Bool := l.flatMap (msbBits 8)

/-- Bytes of bits, most significant first, zero to the end of the last byte. -/
def byteRow (l : List Bool) : List Nat := (List.range (ceilDiv l.length 8)).map fun i => packByte ((l.drop (8 * i)).take 8)

/-- Replaces the bytes from position `i` on. -/
def patch (l : List Nat) (i : Nat) (b : List Nat) : List Nat := l.take i ++ b ++ l.drop (i + b.length)

/-- The quotient of an integer by a positive number, to the nearest integer, ties to even. -/
def rneDiv (x : Int) (d : Nat) : Int :=
  let q := x / d
  let r := x % d
  if 2 * r < d then q else if (d : Int) < 2 * r then q + 1 else q + q % 2

/-! ## Port parameters -/

/-- R339: the MAC rate in b/s. -/
def State.emRate (s : State) (p : Nat) : Nat :=
  let l := s.emLanes p
  let g := if s.pers l.1 = 1 then 10 else if s.pers l.1 = 2 then 25 else 50 * l.2
  g * 1000000000

/-- R346: D_TX and D_RX of an EM port; MACsec adds 64 cy. -/
def State.emLatency (s : State) (p : Nat) : Nat × Nat :=
  let l := s.emLanes p
  let d := if s.pers l.1 = 1 then (176, 240) else if s.pers l.1 = 2 then (104, 152) else if l.2 = 1 then (392, 616)
    else (424, 680)
  if p < 64 && s.flag (pgEm p) Rg.EM_SEC_CTL then (d.1 + 64, d.2 + 64) else d

/-- R347, R361: the cy that `n` bytes last at rate `r`. -/
def byteCy (n r : Nat) : Nat := ceilDiv (n * 15728640000) r

/-- R341: MAXLEN, held in its range (log entry 25). -/
def State.maxLen (s : State) (p : Nat) : Nat := max 1518 (min 9216 (s.get (pgEm p) Rg.EM_CFG_MAXLEN))

/-- R598, R620: the mode lets approach units send under the plan, and the watchdog timer has not expired. -/
def State.planTx (s : State) : Bool :=
  (s.mode = modeService || s.mode = modeDrain || (s.mode = modeDiag && s.flag pgPwr Rg.PWR_MODE))
    && !(s.flag pgParapet Rg.KW_STAT_WDT_EXPIRED)

/-- R26, R595: a port page drives its output. -/
def State.portDrives (s : State) (pg dom : Nat) : Bool :=
  s.enabled pg && s.outEn pg && s.domOn dom && !(s.flag (page .domain dom) Rg.D_STAT_LATCHED) && s.mode ≠ modeInert

def State.emFault (s : State) (p : Nat) : Bool :=
  s.flag (pgEm p) (fldLocal p) || s.flag (pgEm p) (fldRemote p)

/-- Adds 1 to a 64-bit counter (R11). -/
def State.inc64 (s : State) (p : Nat) (f : Fld) : State := s.put64 p f (min (s.get64 p f + 1) (2 ^ 64 - 1))

/-! ## Ethernet frames: bytes from the destination address on, without FCS -/

/-- The position of the EtherType: after a VLAN tag, if there is one. -/
def typeAt (b : List Nat) : Nat := if beN ((b.drop 12).take 2) = 0x8100 then 16 else 12

def etherType (b : List Nat) : Nat := beN ((b.drop (typeAt b)).take 2)

/-- The bytes behind the EtherType. -/
def payload (b : List Nat) : List Nat := b.drop (typeAt b + 2)

/-- The position of a UDP header, and whether it is IPv6; `none`: no UDP. -/
def udpAt (b : List Nat) : Option (Nat × Bool) :=
  let t := typeAt b + 2
  if etherType b = 0x0800 then
    (if b.getD (t + 9) 0 = 17 then some (t + b.getD t 0 % 16 * 4, false) else none)
  else if etherType b = 0x86DD then (if b.getD (t + 6) 0 = 17 then some (t + 40, true) else none)
  else none

/-- R349: PTP. -/
def isPtp (b : List Nat) : Bool :=
  etherType b = 0x88F7 || match udpAt b with
    | some (u, _) => [319, 320].contains (beN ((b.drop (u + 2)).take 2))
    | none => false

/-- The position of the PTP message, and whether it travels over UDP/IPv6. -/
def ptpAt (b : List Nat) : Nat × Bool :=
  match udpAt b with
  | some (u, v6) => (u + 8, v6)
  | none => (typeAt b + 2, false)

/-! ## MACsec (R365, R366, R629) -/

def sa0 : Nat → Sa := fun _ => Sa.zero

/-- Security association `k` of a port: 16 × DIR + 4 × SC + AN. -/
def State.sa (s : State) (p k : Nat) : Sa := Sparse.get sa0 s.sec.sas (32 * p + k)
def State.setSa (s : State) (p k : Nat) (x : Sa) : State :=
  { s with sec := { s.sec with sas := Sparse.set sa0 s.sec.sas (32 * p + k) x } }

/-- The key of a valid handle. -/
def State.keyOf (s : State) (h : Nat) : Option KeyHandle := Sparse.get (fun _ => none) s.sec.handles h

/-- R365: an EtherType that passes unprotected. -/
def State.bypass (s : State) (p ty : Nat) : Bool :=
  ty ≠ 0 && (List.range 2).any fun n =>
    let v := s.get (pgEm p) Rg.EM_SEC_BYPASS n
    v % 65536 = ty || v / 65536 = ty

/-- The bytes of a frame before its secure data: both addresses and the SecTAG. -/
def secTag (b : List Nat) (an pn sci n : Nat) : List Nat :=
  b.take 12 ++ [0x88, 0xE5, 0x2C + an, if n < 48 then n else 0] ++ beBytes 4 pn ++ beBytes 8 sci

/-- What protection makes of a frame to be sent: its bytes, or a drop. -/
def State.protect (s : State) (p : Nat) (b : List Nat) : Option (List Nat) × State :=
  let g := pgEm p
  if !(s.flag g Rg.EM_SEC_CTL) || s.bypass p (etherType b) then (some b, s)
  else
    let active := fun (k : Nat) => bits (s.sa p k).cfg 31 31 = 1 && bits (s.sa p k).cfg 30 30 = 1
    let drop := fun (s : State) => ((none : Option (List Nat)), (s.satAdd g Rg.EM_TX_DROP).bump g 5)
    match (List.range 4).find? fun an => active (16 + an) with
    | none => drop s
    | some an =>
      let a := s.sa p (16 + an)
      match s.keyOf (bits a.cfg 9 0) with
      | none => drop (s.event pgParapet Ev.KEY_HANDLE)
      | some k =>
        if 2 ^ 32 ≤ a.pn then drop s
        else
          let s := s.setSa p (16 + an) { a with pn := a.pn + 1 }
          let s := if a.pn = s.get g Rg.EM_SEC_PNTH then s.event g Ev.PN_LOW else s
          let s := if a.pn + 1 = 2 ^ 32 then s.event g Ev.PN_EXHAUSTED else s
          let data := b.drop 12
          let h := secTag b an a.pn a.sci data.length
          (some (h ++ Config.gcmSeal k.key a.sci a.pn h data), s)

/-- What a port that protects takes from a received frame: its bytes, or a drop (EM_SEC_DROP). -/
def State.unprotect (s : State) (p : Nat) (b : List Nat) : Option (List Nat) × State :=
  let g := pgEm p
  let drop := fun (s : State) => ((none : Option (List Nat)), ((s.satAdd g Rg.EM_SEC_DROP).bump g 5).bump g 3)
  if !(s.flag g Rg.EM_SEC_CTL) || s.bypass p (etherType b) then (some b, s)
  else if beN ((b.drop 12).take 2) ≠ 0x88E5 ∨ b.length < 44 then drop s
  else
    let an := b.getD 14 0 % 4
    let pn := beN ((b.drop 16).take 4)
    let sci := beN ((b.drop 20).take 8)
    let mine := fun (k : Nat) => bits (s.sa p k).cfg 31 31 = 1 && (s.sa p k).sci = sci
    match ((List.range 4).map fun c => 4 * c + an).find? mine with
    | none => drop s
    | some k =>
      let a := s.sa p k
      match s.keyOf (bits a.cfg 9 0) with
      | none => drop (s.event pgParapet Ev.KEY_HANDLE)
      | some h =>
        if pn < a.pn then drop s
        else
          match Config.gcmOpen h.key sci pn (b.take 28) (b.drop 28) with
          | none => drop s
          | some l => (some (b.take 12 ++ l), s.setSa p k { a with pn := max a.pn (pn + 1 - s.get g Rg.EM_SEC_RPW) })

/-! ## Partners (R373) -/

/-- An eCPRI frame from source address `mac` has arrived at port `p`. -/
def State.hear (s : State) (n p mac : Nat) : State :=
  let st := fun (i : Nat) => bits (s.partner n i).ctl 31 30
  match (List.range 32).find? fun i => st i ≠ 0 && (s.partner n i).mac = mac with
  | some i =>
    let x := s.partner n i
    let s := s.setPartner n i { x with last := s.uptime }
    if st i = 3 then
      (s.setPartner n i { x with last := s.uptime, ctl := x.ctl - 2 ^ 30 }).auEvent n Ev.PARTNER_BACK 0 0
    else s
  | none =>
    if !(s.flag (pgAu n) Rg.AU_PCFG_LEARN) then s
    else
      match (List.range 32).find? fun i => st i = 0 with
      | some i => (s.setPartner n i ⟨mac, 2 ^ 30 + p, s.uptime⟩).auEvent n Ev.PARTNER_NEW 0 0
      | none => s

/-- PARTNER_LOST (R373): an ACTIVE partner has been silent for LOSS spans. -/
def execPartnerLost (au : Fin 8) (i : Fin 32) (s : State) : Host.Outcome State Fault Refusal :=
  let x := s.partner au.val i.val
  .next (
    if bits x.ctl 31 30 = 2 ∧ x.last + s.get (pgAu au.val) Rg.AU_PCFG_LOSS * spanCy ≤ s.uptime then
      (s.setPartner au.val i.val { x with ctl := x.ctl + 2 ^ 30 }).auEvent au.val Ev.PARTNER_LOST 0 0
    else s)

/-! ## The firmware queue (R349, R505) -/

/-- A frame that goes to firmware, with its ingress timestamp. -/
def State.toFirmware (s : State) (n p tin : Nat) (b : List Nat) : State :=
  let q := s.get (pgAu n) Rg.AU_FWQ
  let ctx := bits (s.queue q).cfg 11 0
  let pool := s.get pgTr0 Rg.TR_AU_POOL
  let waiting := (s.tr.fifo.filter fun t => t.source = auSource n).length
  let fail := fun (s : State) => s.auEvent n Ev.FWQ_FULL ctx 0
  if 16 ≤ waiting ∨ (s.pool pool).size < b.length then fail s
  else
    match s.alloc pool ctx with
    | (none, s) => fail s
    | (some h, s) =>
      let s := (s.dynWrite ⟨auSource n, 2, ctx, 0⟩ (s.bufAddr h) b).2
      let r := (List.range 16).foldl (fun r _ => let f := r.2.fresh; (r.1 ++ [f.1 % 2 ^ 32], f.2)) (([] : List Nat), s)
      let w := ((r.1.set 1 p).set 4 h).set 5 (r.1.getD 5 0 / 2 ^ 14 * 2 ^ 14 + b.length % 2 ^ 14)
      let w := (w.set 8 (tin % 2 ^ 32)).set 9 (tin / 2 ^ 32)
      (r.2.submit (auSource n) q ctx w).bump (pgAu n) 5

/-! ## Reception of frames -/

/-- R343: the address filter. -/
def State.daOk (s : State) (p da : Nat) : Bool :=
  let g := pgEm p
  [0xFFFFFFFFFFFF, 0x011B19000000, 0x0180C200000E, 0x0180C2000002].contains da
    || da = s.get64 g Rg.EM_MAC_LO % 2 ^ 48
    || (List.range 8).any fun n =>
      let v := s.get64 g Rg.EM_MCAST_LO n
      bits v 63 63 = 1 && v % 2 ^ 48 = da

/-- The receive U-plane flow of a port with an eAxC ID (R349). -/
def State.rxFlow (s : State) (n p eaxc : Nat) : Option Nat :=
  (List.range 512).find? fun i =>
    let w := (s.flow n i).w0
    bits w 31 29 = 4 && bits w 21 16 = p && bits w 15 0 = eaxc

/-- The bytes that wait in the ingress buffer of an approach unit. -/
def State.ingressUsed (s : State) (n : Nat) : Nat :=
  ((s.fh.ingress.filter fun i => i.au = n).map fun i => i.bytes.length + 4).sum

/-- R349: classification of a frame that passed R341 to R343. -/
def State.classify (s : State) (n p tin tEnd : Nat) (b : List Nat) : State :=
  let pay := payload b
  let s := if etherType b = 0xAEFE then s.hear n p (beN ((b.drop 6).take 6)) else s
  if etherType b = 0xAEFE ∧ pay.getD 1 0 = 0 then
    match s.rxFlow n p (beN ((pay.drop 4).take 2)) with
    | none => s.auEvent n Ev.UNKNOWN_EAXC 0 0
    | some i =>
      if 262144 < s.ingressUsed n + b.length + 4 then s.auEvent n Ev.RX_OVF_40 0 i
      else { s with fh := { s.fh with ingress := s.fh.ingress ++ [⟨n, p, i, b, tEnd⟩] } }
  else if etherType b = 0xAEFE ∨ isPtp b ∨ etherType b = 0x8809 ∨ s.flag (pgEm p) Rg.EM_CFG_FWD_OTHER then
    s.toFirmware n p tin b
  else (s.satAdd (pgEm p) Rg.EM_DA_DROP).bump (pgEm p) 3

/-- R345: the receivers return from LIGHT at the first block that is not LPI. -/
def State.rxLpiEnd (s : State) (p : Nat) : State :=
  if (s.em p).rxLpi then
    let l := s.emLanes p
    (List.range l.2).foldl (fun s i => (s.put (pgLane (l.1 + i)) Rg.LN_SLEEP_RX_REQ 0).sleepFollow (l.1 + i))
      (s.setEm p { s.em p with rxLpi := false })
  else s

/-- What perturbation does to a received frame before classification (R654, R655): DROP, DELAY, a bad FCS. `none`: the frame goes no further. -/
def State.ptFrame (s : State) (g port : Nat) (b : List Nat) (bad : Bool) : Option Bool × State :=
  if s.ts.hits.isEmpty then (some bad, s)
  else
    let dr := s.ptTake g [3]
    if dr.1.isSome then (none, dr.2.bump g 3)
    else
      let er := dr.2.ptTake g [5]
      let bad := bad || er.1.isSome
      let de := er.2.ptTake g [1]
      match de.1 with
      | some h =>
        (none, { de.2 with ts := { de.2.ts with held := de.2.ts.held ++ [⟨g, port, de.2.uptime + h.param % 2 ^ 24, b, bad⟩] } })
      | none => (some bad, de.2)

/-- A frame as the port receives it (R341–R349). -/
def State.frameIn (s : State) (p : Nat) (b : List Nat) (bad : Bool) : State :=
  let g := pgEm p
  let n := b.length + 4
  let drop := fun (s : State) (f : Fld) => (s.satAdd g f).bump g 3
    if !(s.enabled g) || !(s.domOn (72 + p / 8)) then s
    else
      let s := (s.rxLpiEnd p).bump g 0xF0 n
      if s.flag g Rg.EM_STAT_LOCAL_FAULT then s
      else if n ≤ 63 then drop s Rg.EM_RUNT
      else if s.maxLen p < n then drop s Rg.EM_LONG
      else if bad then drop s Rg.EM_FCS
      else if etherType b = 0x8808 then drop s Rg.EM_MACCTL
      else if !(s.daOk p (beN (b.take 6))) then drop s Rg.EM_DA_DROP
      else
        match s.unprotect p b with
        | (none, s) => s
        | (some c, s) =>
          let var := s.get (pgLane (s.emLanes p).1) Rg.LN_RX_VAR
          let tin := s.now - (s.emLatency p).2 - var / 256
          let s := (s.inc64 g Rg.EM_RX_OK_LO).bump g 1
          s.classify (p / 8) p tin (tin + byteCy n (s.emRate p)) c

/-- A frame that the channels of the port's page have let pass meets those of its approach unit. -/
def State.toUnit (s : State) (p : Nat) (b : List Nat) (bad : Bool) : State :=
  match s.ptFrame (pgAu (p / 8)) p b bad with
  | (none, s) => s
  | (some bad, s) => s.frameIn p b bad

/-- FRAME_RECEIVE (R341–R349, R363): a frame's start is captured now; `bytes` is the frame without FCS, `bad` a bad FCS or an
error control block inside. -/
def execFrameReceive (port : Fin 64) (bytes : List (Fin 256)) (bad : Bool) (s : State) : Host.Outcome State Fault Refusal :=
  let b := bytes.map (·.val)
  .next (
    match s.ptFrame (pgEm port.val) port.val b bad with
    | (none, s) => s
    | (some bad, s) => s.toUnit port.val b bad)

/-! ## U-plane sections -/

/-- A section of a U-plane message: its PRBs with the bytes of each. -/
structure USec where
  rb : Bool
  start : Nat
  num : Nat
  meth : Nat
  width : Nat
  prbs : List (List Nat)

/-- R357: methods 0 to 3 with a width of the method's range. -/
def methOk (meth width : Nat) : Bool := decide (meth ≤ 3) && (meth ≠ 1 || decide (6 ≤ width))

/-- The bytes of a compressed PRB: udCompParam but for method 0, and 24 halves. -/
def prbBytes (meth width : Nat) : Nat := ceilDiv (24 * width) 8 + (if meth = 0 then 0 else 1)

/-- The sections of a message; `none`: a section does not lie within the frame (R350), or has symInc = 1. A section of an
unsupported method takes the rest, its length not being known (log entry 26). -/
def sections (f : Flow) : Nat → List Nat → Option (List USec)
  | 0, _ => some []
  | fuel + 1, l =>
    if l = [] then some []
    else if l.length < 6 then none
    else
      let h := beN (l.take 4)
      let c := l.getD 4 0
      let meth := if f.dyn then c % 16 else f.meth
      let wd := if f.dyn then (if c / 16 = 0 then 16 else c / 16) else f.width
      let num := if bits h 7 0 = 0 then f.nrb else bits h 7 0
      let x : USec := ⟨bits h 19 19 = 1, bits h 17 8, num, meth, wd, []⟩
      if bits h 18 18 = 1 then none
      else if 4 ≤ meth then some [x]
      else
        let k := prbBytes meth wd
        let d := l.drop 6
        if d.length < num * k then none
        else (sections f fuel (d.drop (num * k))).map fun r =>
          { x with prbs := (List.range num).map fun i => (d.drop (i * k)).take k } :: r

/-- R357: a half decompressed, before it is clipped. -/
def decompress (meth w param : Nat) (m : Int) : Int :=
  if meth = 0 then m * 2 ^ (16 - w)
  else if meth = 1 then m * 2 ^ (param % 16)
  else if meth = 2 then rnd 2 (m * param * 2 ^ (16 - w)) 7
  else Config.muExpand w (param % 16) m

/-- The 24 halves of a compressed PRB. -/
def halves (meth w : Nat) (l : List Nat) : List Int :=
  let param := if meth = 0 then 0 else l.getD 0 0
  let b := bitsOf (if meth = 0 then l else l.drop 1)
  (List.range 24).map fun i => decompress meth w param (toInt w (ofMsb ((b.drop (w * i)).take w)))

/-- The fields of the key of a U-plane message (R351). -/
def uKey (pay : List Nat) : Nat :=
  pay.getD 9 0 <<< 24 + beN ((pay.drop 10).take 2) / 4096 <<< 20 + beN ((pay.drop 10).take 2) / 64 % 64 <<< 14
    + beN ((pay.drop 10).take 2) % 64 <<< 8

/-- R350: the checks of a U-plane message; its sections. -/
def uCheck (f : Flow) (b : List Nat) : Option (List USec) :=
  let pay := payload b
  let size := beN ((pay.drop 2).take 2)
  if pay.getD 0 0 / 16 ≠ 1 ∨ pay.getD 0 0 % 2 = 1 ∨ size < 8 ∨ pay.length < size + 4 ∨ (pay.length ≠ size + 4 ∧ b.length ≠ 60)
      ∨ pay.getD 7 0 ≠ 0x80 ∨ 128 ≤ pay.getD 8 0 ∨ pay.getD 8 0 / 16 % 8 ≠ 1 then none
  else sections f size ((pay.take (size + 4)).drop 12)

def RxBuf.holds (x : RxBuf) (au port flow key : Nat) : Bool :=
  x.kind = 1 && x.au = au && x.port = port && x.flow = flow && x.key = key

/-- The same buffer: its unit, kind, port, flow and key. -/
def RxBuf.same (x y : RxBuf) : Bool :=
  x.au = y.au && x.kind = y.kind && x.port = y.port && x.flow = y.flow && x.key = y.key

def State.setRx (s : State) (x : RxBuf) : State :=
  { s with fh := { s.fh with rx := s.fh.rx.map fun y => if y.same x then x else y } }

/-- R354: one PRB of a section. -/
def State.placePrb (s : State) (x : RxBuf) (sec : USec) (prb : Nat) (l : List Nat) : RxBuf × State :=
  if prb < x.prb0 ∨ x.prb0 + x.count ≤ prb then ({ x with out := x.out + 1 }, s)
  else
    let i := prb - x.prb0
    let h := halves sec.meth sec.width l
    let sat := (h.filter fun v => clips 16 v).length
    let s := if sat = 0 then s else s.flowCount x.au x.flow 8 sat
    let data := h.flatMap fun v => bytesOf 2 (ofInt 16 (satN 16 v))
    let s := s.detLand s.uptime (auUnit x.au) (auSource x.au) 0 0 (deckOf x.base + 48 * i) data
    if x.arrived.contains i then ({ x with dup := x.dup + 1 }, s.flowCount x.au x.flow 4)
    else ({ x with arrived := x.arrived ++ [i] }, s)

/-- R354: one section of an on-time frame. -/
def State.placeSec (s : State) (x : RxBuf) (sec : USec) : RxBuf × State :=
  if !(methOk sec.meth sec.width) then (x, s.flowCount x.au x.flow 7)
  else
    let r := (sec.prbs.zipIdx).foldl
      (fun r e => r.2.placePrb r.1 sec (sec.start + (if sec.rb then 2 else 1) * e.2) e.1) (x, s)
    ({ r.1 with sections := r.1.sections + 1 }, r.2.bump (pgAu x.au) 1)

/-- Places a frame's sections into its buffer. -/
def State.placeFrame (s : State) (x : RxBuf) (l : List USec) : State :=
  let r := l.foldl (fun r sec => r.2.placeSec r.1 sec) (x, s.flowCount x.au x.flow 0)
  r.2.setRx r.1

/-- R350: counts of the flow for a frame: CORRUPT, or SEQ_ERR and the seqId. -/
def State.noteSeq (s : State) (i : Ingress) : State :=
  let f := s.flow i.au i.flow
  let q := (payload i.bytes).getD 6 0
  let s := match f.seqRx with
    | some p => if q = (p + 1) % 256 then s else s.flowCount i.au i.flow 5
    | none => s
  s.setFlow i.au i.flow { s.flow i.au i.flow with seqRx := some q }

/-- R353: a frame that no buffer takes: LATE when a buffer with its key closed within the last 16 spans, else EARLY. -/
def State.lateFrame (s : State) (i : Ingress) (key : Nat) : State :=
  let late := s.fh.closed.any fun c => c.au = i.au && c.port = i.port && c.flow = i.flow && c.key = key
    && decide (s.uptime ≤ c.up + 16 * spanCy)
  (s.flowCount i.au i.flow (if late then 2 else 1)).bump (pgAu i.au) 3

/-- Judges and places one frame. -/
def State.judgeFrame (s : State) (i : Ingress) : State :=
  match uCheck (s.flow i.au i.flow) i.bytes with
  | none => s.flowCount i.au i.flow 6
  | some l =>
    let s := s.noteSeq i
    let key := uKey (payload i.bytes)
    match s.fh.rx.find? fun x => x.holds i.au i.port i.flow key && decide (x.openAir ≤ i.tEnd) with
    | some x => s.placeFrame x l
    | none => s.lateFrame i key

/-- UPLANE_PLACE (R350, R353, R354): the oldest waiting frame of the approach unit, at t_end + 2,048 cy (log entry 27). -/
def execUplanePlace (au : Fin 8) (s : State) : Host.Outcome State Fault Refusal :=
  .next (
    match s.fh.ingress.find? fun i => i.au = au.val with
    | none => s
    | some i =>
      if s.now < i.tEnd + 2048 then s
      else ({ s with fh := { s.fh with ingress := s.fh.ingress.erase i } }).judgeFrame i)

/-! ## Reception buffers -/

/-- SPB and W of a stream (R371): the receive or transmit table. -/
def State.cpStream (s : State) (p : Nat) (tx : Bool) (st : Nat) : Nat := (s.reg (pgCp p) ((if tx then 0x400 else 0x200) + 4 * st)).toNat

/-- R351: the buffer descriptor is sound for approach unit `n`. -/
def rxDescOk (n a : Nat) (w : List Nat) : Bool :=
  let kind := df w 0 31 24
  let port := df w 1 29 24
  descAddrOk a && rsvOk w [(0, 0x00FFFFFF), (1, 0xC0FFFE00), (4, 0xFC00FC00), (7, 0x7FFFFE00)]
    && zeros w [9, 10, 11, 12, 13, 14, 15] && inRange 1 512 (df w 4 9 0) && bufOk (dw w 3) && bufOk (dw w 5) && bufOk (dw w 6)
    && (df w 7 31 31 = 0 || bufOk (dw w 8))
    && (if kind = 1 then port / 8 = n && df w 2 7 0 = 0
      else kind = 2 && port / 4 = n && decide (df w 1 8 0 ≤ 127) && df w 2 31 16 = 0 && decide (df w 2 15 0 < 38400)
        && df w 4 25 16 = 0)

/-- The buffer that a descriptor describes. -/
def rxOf (n openAir : Nat) (w : List Nat) : RxBuf :=
  { au := n, kind := df w 0 31 24, port := df w 1 29 24, flow := df w 1 8 0,
    key := if df w 0 31 24 = 1 then df w 2 31 8 * 256 else df w 2 15 0, base := dw w 3, prb0 := df w 4 25 16,
    count := df w 4 9 0, openAir := openAir, arrived := [], sections := 0, late := 0, dup := 0, out := 0, next := 0, pend := [] }

/-- The bytes of a buffer's sample area (R352, R371). -/
def State.rxArea (s : State) (w : List Nat) : Nat :=
  if df w 0 31 24 = 1 then 48 * df w 4 9 0 else 4 * df w 4 9 0 * (s.cpStream (df w 1 29 24) false (df w 1 8 0) % 32)

/-- The erasure bit of a descriptor is written at `due`. -/
def State.eraseBit (s : State) (n due ctx : Nat) (w : List Nat) (v : Bool) : State :=
  let a := deckOf (dw w 8) + df w 7 8 0 / 8
  if df w 7 31 31 = 0 then s
  else if s.inFoot a 1 then s.schedule due (auUnit n) (auSource n) 0 (.bit a (df w 7 2 0) v)
  else s.deckEvent Ev.FOOTPRINT a 0 ctx

/-- An issue of an AU operation with a sound descriptor; a bad one records DESC_INVALID. -/
def State.auIssue (s : State) (x : Issue) (ok : Nat → List Nat → Bool) (f : Nat → List Nat → State → State) : State :=
  let n := x.unit % 256
  if x.fenced || x.unit / 256 ≠ 0x40 || decide (8 ≤ n) then s
  else
    let w := s.descWords x.arg
    let s := (s.readMem (auSource n) false x.arg 64).2
    if ok n w then f n w s else s.auEvent n Ev.DESC_INVALID x.ctx (df w 1 8 0)

/-- AU_RX_OPEN (R352): zeros, every PRB substituted, the erasure bit clear; open from its completion on. A buffer open under
the same key is replaced. -/
def execSlotAuRxOpen (r i : Nat) (s : State) : Host.Outcome State Fault Refusal :=
  .next (s.issueSlot 3 r i fun x s => s.auIssue x (fun n w => rxDescOk n x.arg w) fun n w s =>
    let k := s.deckK
    let area := s.rxArea w
    let lat := k * (8 + ceilDiv (ceilDiv area 64) 8)
    let due := s.uptime + lat
    let s := s.addJob x 3 lat lat
    let b := rxOf n (s.now + lat) w
    let s := { s with fh := { s.fh with rx := (s.fh.rx.filter fun (y : RxBuf) => !(y.same b)) ++ [b] } }
    let s := s.detLand due (auUnit n) (auSource n) 0 x.ctx (deckOf (dw w 3)) (List.replicate area 0)
    s.eraseBit n due x.ctx w false)

/-- R353: at the CLOSE, the waiting frames of its key that end 2,048 cy before it are placed; the others are late. -/
def State.closeFrames (s : State) (b : RxBuf) : State :=
  let mine := s.fh.ingress.filter fun i =>
    i.au = b.au && i.port = b.port && i.flow = b.flow && uKey (payload i.bytes) = b.key && decide (i.tEnd ≤ s.now)
  let s := { s with fh := { s.fh with ingress := s.fh.ingress.filter fun i => !(mine.contains i) } }
  mine.foldl
    (fun s i =>
      if i.tEnd + 2048 ≤ s.now then s.judgeFrame i
      else
        match uCheck (s.flow i.au i.flow) i.bytes with
        | none => s.flowCount i.au i.flow 6
        | some l =>
          let s := ((s.noteSeq i).flowCount i.au i.flow 2).bump (pgAu i.au) 3
          match s.fh.rx.find? fun y => y.same b with
          | some y => s.setRx { y with late := y.late + l.length }
          | none => s)
    s

/-- R355: the words of the record: span tag, sections, placed, substituted, late, DUP, OUT_RANGE. -/
def recordBytes (tag sec placed subst late dup out : Nat) : List Nat :=
  ([(tag % 65536) <<< 16 + min 65535 sec, placed, subst, late, dup, out] ++ List.replicate 10 0).flatMap (bytesOf 4)

/-- AU_RX_CLOSE (R355, R356): the map, the record and the erasure bit. -/
def execSlotAuRxClose (r i : Nat) (s : State) : Host.Outcome State Fault Refusal :=
  .next (s.issueSlot 4 r i fun x s => s.auIssue x (fun n w => rxDescOk n x.arg w) fun n w s =>
    let k := s.deckK
    let due := s.uptime + 8 * k
    let s := s.addJob x 4 (8 * k) (8 * k)
    let z := rxOf n 0 w
    let s := if z.kind = 1 then s.closeFrames z else s
    let opened := match s.fh.rx.find? fun y => y.same z with
      | some y => if y.openAir ≤ s.now then y else z
      | none => z
    let b := { opened with count := z.count }
    let s := { s with fh := { s.fh with
      rx := s.fh.rx.filter fun y => !(y.same z)
      closed := (s.fh.closed.filter fun (c : ClosedKey) => decide (s.uptime ≤ c.up + 16 * spanCy))
        ++ [ClosedKey.mk n z.port z.flow z.key s.uptime] } }
    let sub := (List.range b.count).filter fun j => !(b.arrived.contains j)
    let map := sub.foldl (fun m j => m + 2 ^ j) 0
    let src := auSource n
    let s := s.detLand due (auUnit n) src 0 x.ctx (deckOf (dw w 5)) (bytesOf 64 map)
    let s := s.detLand due (auUnit n) src 0 x.ctx (deckOf (dw w 6))
      (recordBytes s.spanTag b.sections (b.count - sub.length) sub.length b.late b.dup b.out)
    let s := if z.kind = 1 then s.flowCount n z.flow 3 sub.length else s
    let s := s.bump (pgAu n) 2 sub.length
    if sub.isEmpty then s else s.eraseBit n due x.ctx w true)

/-! ## Transmission -/

/-- R358: the udCompParam and the 24 mantissas of a PRB. -/
def compress (meth w param : Nat) (x : List Int) : Nat × List Int :=
  if meth = 0 then (0, x.map fun v => satN w (rnd 2 v (16 - w)))
  else if meth = 1 then
    let e := ((List.range 16).find? fun e => x.all fun v => !(clips w (rnd 2 v e))).getD 15
    (e, x.map fun v => satN w (rnd 2 v e))
  else if meth = 2 then
    (param, x.map fun v => satN w (if param = 0 then Config.scaleZero w v else rneDiv (v * 2 ^ w) (256 * param)))
  else (param % 16, x.map fun v => satN w (Config.muCompress w (param % 16) v))

/-- A compressed PRB in the frame. -/
def prbRow (meth w param : Nat) (x : List Int) : List Nat :=
  let c := compress meth w param x
  (if meth = 0 then [] else [c.1]) ++ byteRow (c.2.flatMap fun m => msbBits w (ofInt w m))

/-- The Ethernet header of a flow's frame (R360). -/
def State.flowHead (s : State) (p : Nat) (f : Flow) : List Nat :=
  beBytes 2 (f.w2 % 65536) ++ beBytes 4 f.w1 ++ beBytes 6 (s.get64 (pgEm p) Rg.EM_MAC_LO % 2 ^ 48)
    ++ (if bits f.w2 31 31 = 1 then [0x81, 0x00] ++ beBytes 2 (bits f.w2 30 28 <<< 13 + bits f.w2 27 16) else []) ++ [0xAE, 0xFE]

/-- The eCPRI header: message type, eAxC ID, and a seqId that the departure fills in. -/
def ecpriHead (ty size eaxc : Nat) : List Nat := [0x10, ty] ++ beBytes 2 size ++ beBytes 2 eaxc ++ [0, 0x80]

/-- R360: the U-plane frame of a descriptor, without FCS. -/
def State.uFrame (s : State) (p : Nat) (f : Flow) (w : List Nat) : List Nat :=
  let nprb := df w 5 9 0
  let k := dw w 4
  let head := [0x90 + bits k 7 4, bits k 31 24] ++ beBytes 2 (bits k 23 20 <<< 12 + bits k 19 14 <<< 6 + bits k 13 8)
  let sec := beBytes 4 (df w 5 31 20 <<< 20 + df w 5 19 10 <<< 8 + (if 255 < nprb then 0 else nprb))
    ++ [(f.width % 16) * 16 + f.meth, 0]
  let row := fun (j : Nat) => prbRow f.meth f.width f.param ((s.loadAll (deckOf (dw w 3) + 48 * j) 2 24).map (toInt 16))
  let body := head ++ sec ++ (List.range nprb).flatMap row
  s.flowHead p f ++ ecpriHead 0 (body.length + 4) (f.w0 % 65536) ++ body

/-- R359: the transmit descriptor is sound for approach unit `n`. -/
def State.txDescOk (s : State) (a n : Nat) (w : List Nat) : Bool :=
  let kind := df w 0 31 24
  let port := df w 2 29 24
  let f := s.flow n (df w 2 8 0)
  let flowOk := fun (plane : Nat) => f.valid && bits f.w0 30 29 = 2 + plane && bits f.w0 21 16 = port
  descAddrOk a && rsvOk w [(0, 0x00FFFFFE), (2, 0xC0FFFE00)] && (if dw w 0 % 2 = 1 then tabOk (dw w 1) else dw w 1 = 0)
    && zeros w [7, 8, 9, 10, 11, 12, 13, 14, 15] && bufOk (dw w 3)
    && (dw w 6 = 0 || (dw w 6 % 8 = 0 && decide (0x02000000 ≤ dw w 6) && decide (dw w 6 < 0x0D000000)))
    && (if kind = 1 then port / 8 = n && flowOk 0 && df w 4 3 0 = 0 && inRange 1 512 (df w 5 9 0)
          && (decide (df w 5 9 0 ≤ 255) || df w 5 9 0 = f.nrb) && methOk f.meth f.width
      else if kind = 2 then port / 8 = n && flowOk 1 && dw w 4 = 0 && df w 5 31 14 = 0
      else if kind = 3 then port / 8 = n && df w 2 8 0 = 0 && dw w 4 = 0 && df w 5 31 14 = 0
      else kind = 4 && port / 4 = n && decide (df w 2 8 0 ≤ 127) && df w 4 31 16 = 0 && decide (df w 4 15 0 < 38400)
        && inRange 1 512 (df w 5 9 0) && df w 5 31 10 = 0)

/-- The bytes of a descriptor's source. -/
def State.txSource (s : State) (w : List Nat) : Nat :=
  let kind := df w 0 31 24
  if kind = 1 then 48 * df w 5 9 0
  else if kind = 4 then 4 * df w 5 9 0 * (s.cpStream (df w 2 29 24) true (df w 2 8 0) % 32)
  else df w 5 13 0

/-- The frame of a descriptor of KIND 1 to 3, at least 60 bytes without FCS (R341, R360). -/
def State.txFrame (s : State) (n : Nat) (w : List Nat) : List Nat :=
  let kind := df w 0 31 24
  let port := df w 2 29 24
  let f := s.flow n (df w 2 8 0)
  let body := s.loadAll (deckOf (dw w 3)) 1 (df w 5 13 0)
  let b := if kind = 1 then s.uFrame port f w
    else if kind = 2 then s.flowHead port f ++ ecpriHead 2 (body.length + 4) (f.w0 % 65536) ++ body
    else body
  b ++ List.replicate (60 - b.length) 0

/-- R368: the grid instant of the first transmit basic frame with index `bf` in its radio frame at or after air count `a`. -/
def gridAfter (org bf a : Nat) : Nat :=
  let g := org + 512 * bf
  let f := 19660800
  if a ≤ g then g - (g - a) / f * f else g + ceilDiv (a - g) f * f

/-- The data of a KIND 4 descriptor (R371), which stand in the framer's buffer at air count `stands`. Data for basic frames
more than 32,768 cy ahead are dropped and counted in TX_UNDERRUN. -/
def State.txCpri (s : State) (w : List Nat) (stands : Nat) : State :=
  let p := df w 2 29 24
  let st := df w 2 8 0
  let spb := s.cpStream p true st % 32
  let g0 := gridAfter (s.get64 (pgCp p) Rg.CP_ORG_LO) (df w 4 15 0) stands
  (List.range (df w 5 9 0)).foldl
    (fun s b =>
      let g := g0 + 512 * b
      if stands + 32768 < g then (s.satAdd (pgCp p) Rg.CP_CNT 1 3).bump (pgCp p) 3
      else
        let d : CpData := ⟨st, g, s.loadAll (deckOf (dw w 3) + 4 * b * spb) 4 spb, stands⟩
        s.setCp p { s.cp p with data := (s.cp p).data ++ [d] })
    s

/-- Runs a transmit descriptor (R99, R347, R359, R360, R371). -/
def State.txRun (s : State) (x : Issue) : State :=
  s.auIssue x (fun n w => s.txDescOk x.arg n w) fun n w s =>
    let k := s.deckK
    let p := df w 2 29 24
    let kind := df w 0 31 24
    let s := (s.readMem (auSource n) false (deckOf (dw w 3)) (s.txSource w)).2
    let b := s.txFrame n w
    let len := if kind = 4 then s.txSource w else b.length + 4
    let occ := k * ceilDiv (ceilDiv len 64) 8
    let lat := 96 * k + (if kind = 4 then 0 else (s.emLatency p).1)
    let s := s.addJob x 5 occ lat
    let j : Job := ⟨x.unit, 5, x.step, x.repl, x.replay, x.arg, x.ctx, s.uptime, s.uptime + occ, s.uptime + lat⟩
    let s := if dw w 0 % 2 = 1 then
        { s with fh := { s.fh with chains := s.fh.chains ++ [⟨x.unit, s.uptime + occ, deckOf (dw w 1), j⟩] } }
      else s
    if kind = 4 then (if s.fh.fenced.contains x.ctx then s else s.txCpri w (s.now + lat))
    else
      let f : TxFrame := ⟨s.uptime + lat, if kind = 3 then none else some (df w 2 8 0), b, dw w 6, x.ctx⟩
      s.setEm p { s.em p with det := (s.em p).det ++ [f] }

/-- AU_TX_SEND (R359, R360): by a slot-table entry or by the CHAIN of the unit's last one. -/
def execSlotAuTxSend (b : IssueBy) (s : State) : Host.Outcome State Fault Refusal :=
  .next (
    match b with
    | .table r i => s.issueSlot 5 r i fun x s => s.txRun x
    | .chain u =>
      match s.fh.chains.find? fun c => c.unit = u && c.due = s.uptime with
      | none => s
      | some c =>
        let s := { s with fh := { s.fh with chains := s.fh.chains.erase c } }
        let x : Issue := ⟨u, c.desc, c.job.ctx, c.job.step, c.job.repl, c.job.replay, s.fenced u⟩
        if s.dk.run.isNone then s
        else if s.occupied u then s.deckEvent Ev.COLL_UNIT s.spanOfs u c.job.ctx
        else if !(s.domOn (unitDomain u)) then s.deckEvent Ev.POWER_UNREADY 0 u c.job.ctx
        else s.txRun x
    | .lent _ _ _ => s)

/-! ## Departure -/

/-- R345: the departures of a port that a descriptor and its chain bring when it is issued at span offset `ofs`. -/
def State.chainDeps (s : State) (p k : Nat) : Nat → Nat → Nat → List Nat
  | 0, _, _ => []
  | fuel + 1, a, ofs =>
    let w := s.descWords a
    let kind := df w 0 31 24
    let n := if kind = 1 then 48 else 64
    let occ := k * ceilDiv (ceilDiv (max n (s.txSource w)) 64) 8
    (if kind ≠ 4 ∧ df w 2 29 24 = p then [ofs + 96 * k + (s.emLatency p).1] else [])
      ++ (if dw w 0 % 2 = 1 then s.chainDeps p k fuel (deckOf (dw w 1)) (ofs + occ) else [])

/-- The air counts of deterministic departures of a port that the slot tables in force will bring. -/
def State.futureDeps (s : State) (p : Nat) : List Nat :=
  match s.plan with
  | none => []
  | some pl =>
    let tab := fun (v : InForce) (base : Nat) =>
      ((pl.tableOf v).1.filter fun e => e.op = 5 && e.unit = auUnit (p / 8)).flatMap fun e =>
        s.chainDeps p s.deckK 64 e.arg (base + e.ofs)
    tab s.dk.cur s.spanStart ++ tab s.dk.next (s.spanStart + spanCy)

/-- R345, R361: a deterministic frame of the port departs within the next `n` cy. -/
def State.detWithin (s : State) (p n : Nat) : Bool :=
  ((s.em p).det.any fun f => decide (f.due < s.uptime + n))
    || (s.futureDeps p).any fun a => decide (s.now ≤ a) && decide (a < s.now + n)

/-- Sends bytes on the line at uptime `at_`. -/
def State.sendOut (s : State) (p at_ : Nat) (b : List Nat) : State :=
  let s := s.setEm p { s.em p with free := at_ + byteCy (b.length + 24) (s.emRate p), sent := at_, line := b }
  ((s.inc64 (pgEm p) Rg.EM_TX_OK_LO).bump (pgEm p) 2).bump (pgEm p) 0xF1 (b.length + 4)

/-- R344, R362, R373, R559: a deterministic frame is not sent. -/
def State.txBlocked (s : State) (p : Nat) (f : TxFrame) : Bool :=
  let n := p / 8
  let held := match f.flow with
    | some i =>
      let c := (s.partner n (bits (s.flow n i).w3 29 25)).ctl
      bits c 29 29 = 1 && bits c 31 30 = 3
    | none => false
  s.emFault p || !(s.planTx) || !(s.portDrives (pgEm p) (72 + n)) || !(s.leaseHolds) || s.fh.fenced.contains f.ctx || held

/-- R341, R365: the bytes that leave for a frame: none when it is too long or protection holds it. -/
def State.outgoing (s : State) (p : Nat) (b : List Nat) : Option (List Nat) × State :=
  let sec := s.flag (pgEm p) Rg.EM_SEC_CTL && !(s.bypass p (etherType b))
  if s.maxLen p < b.length + 4 + (if sec then 32 else 0) then (none, s.satAdd (pgEm p) Rg.TX_OVERSIZE)
  else s.protect p b

/-- The departure of a deterministic frame (R347, R361, R362). -/
def State.departDet (s : State) (p : Nat) (f : TxFrame) (rest : List TxFrame) : State :=
  let x := s.em p
  if f.due < x.free then
    (s.setEm p { x with det := { f with due := x.free } :: rest }).auEvent (p / 8) Ev.TX_OVERLAP f.ctx (f.flow.getD 0)
  else
    let s := s.setEm p { x with det := rest, lpi := false }
    if s.txBlocked p f then s.satAdd (pgEm p) Rg.EM_TX_DROP
    else
      let n := p / 8
      let b := match f.flow with
        | some i => patch f.bytes (typeAt f.bytes + 8) [(s.flow n i).seqTx]
        | none => f.bytes
      match s.outgoing p b with
      | (none, s) => s
      | (some c, s) =>
        let s := s.sendOut p f.due c
        let s := match f.flow with
          | some i => (s.flowCount n i 0).setFlow n i { (s.flowCount n i 0).flow n i with seqTx := ((s.flow n i).seqTx + 1) % 256 }
          | none => s
        if f.tsrec = 0 then s
        else s.detLand s.uptime (auUnit n) (auSource n) 0 f.ctx (deckOf f.tsrec) (bytesOf 8 (s.now - (s.uptime - f.due)))

/-- R363: a Sync message that a port can stamp in one step. -/
def oneStep (b : List Nat) (sec : Bool) : Bool :=
  isPtp b && !sec && !(ptpAt b).2 && b.getD (ptpAt b).1 0 % 16 = 0

/-- R363: the PTP time of departure in originTimestamp, the sub-nanosecond part in correctionField, no UDP checksum. -/
def stampSync (b : List Nat) (air : Nat) : List Nat :=
  let m := (ptpAt b).1
  let ns := ptpNs32 air
  let b := patch b (m + 34) (beBytes 6 (ptpSec air) ++ beBytes 4 (ns / 2 ^ 32))
  let b := patch b (m + 8) (beBytes 8 (beN ((b.drop (m + 8)).take 8) + ns % 2 ^ 32 / 65536))
  match udpAt b with
  | some (u, _) => patch b (u + 6) [0, 0]
  | none => b

/-- R363: a two-step timestamp. -/
def State.pushTs (s : State) (p tag : Nat) : State :=
  let x := s.em p
  if 16 ≤ x.ts.length then s.event (pgEm p) Ev.TS_OVF else s.setEm p { x with ts := x.ts ++ [(s.now, tag % 65536)] }

/-- The departure of a dynamic frame. -/
def State.departDyn (s : State) (p : Nat) (d : DynFrame) (rest : List DynFrame) : State :=
  let s := s.setEm p { s.em p with dyn := rest }
  if s.emFault p ∨ ¬ s.portDrives (pgEm p) (72 + p / 8) then s.satAdd (pgEm p) Rg.EM_TX_DROP
  else
    let b := d.bytes ++ List.replicate (60 - d.bytes.length) 0
    let one := d.mark = 2 && oneStep b (s.flag (pgEm p) Rg.EM_SEC_CTL && !(s.bypass p (etherType b)))
    match s.outgoing p (if one then stampSync b s.now else b) with
    | (none, s) => s
    | (some c, s) =>
      let s := s.sendOut p s.uptime c
      if d.mark = 0 || one then s else s.pushTs p d.tag

/-- FRAME_DEPART (R347, R361–R363): the next frame of a port leaves: a deterministic one that is due, else a dynamic one that
ends before the next deterministic departure. -/
def execFrameDepart (port : Fin 64) (s : State) : Host.Outcome State Fault Refusal :=
  let p := port.val
  .next (
    match (s.em p).det with
    | f :: rest =>
      if f.due ≤ s.uptime then s.departDet p f rest
      else
        match (s.em p).dyn with
        | d :: l =>
          if (s.em p).lpi || decide (s.uptime < (s.em p).free)
              || s.detWithin p (byteCy (max 60 d.bytes.length + 56) (s.emRate p)) then s
          else s.departDyn p d l
        | [] => s
    | [] =>
      match (s.em p).dyn with
      | d :: l =>
        if (s.em p).lpi || decide (s.uptime < (s.em p).free)
            || s.detWithin p (byteCy (max 60 d.bytes.length + 56) (s.emRate p)) then s
        else s.departDyn p d l
      | [] => s)

/-- DYNAMIC_FRAME_SEND (R363): firmware submits a frame (without FCS), marked 0 not at all, 1 two-step, 2 one-step. -/
def execDynamicFrameSend (port : Fin 64) (bytes : List (Fin 256)) (mark : Fin 3) (tag : BitVec 16) (s : State) :
    Host.Outcome State Fault Refusal :=
  .next (
    if s.enabled (pgEm port.val) then
      s.setEm port.val { s.em port.val with dyn := (s.em port.val).dyn ++ [⟨bytes.map (·.val), mark.val, tag.toNat⟩] }
    else s)

/-- TS_POP (R363, R377): a read of EM_TS_INFO. -/
def State.tsPop (s : State) (p : Nat) : State :=
  let g := pgEm p
  match (s.em p).ts with
  | [] => (s.setReg g 0x170 0).answer 0 0
  | (a, t) :: l =>
    let s := (s.setEm p { s.em p with ts := l }).put64 g Rg.EM_TS_LO a
    (s.setReg g 0x170 (BitVec.ofNat 32 (2 ^ 31 + t))).answer 0 (2 ^ 31 + t)

def execTsPop (w : Who) (port : Fin 64) (s : State) : Host.Outcome State Fault Refusal :=
  .next (s.access w (pgEm port.val) 0x170 false fun s => s.tsPop port.val)

/-! ## Faults and low-power idle -/

/-- REMOTE_FAULT (R344, R546): the partner's remote fault begins or ends, at an EM port (0–63) or a pool link (64–79). -/
def execRemoteFault (port : Fin 80) (received : Bool) (s : State) : Host.Outcome State Fault Refusal :=
  let p := port.val
  let g := pgEm p
  .next (
    if !(s.enabled g) || s.flag g (fldRemote p) = received then s
    else if received then
      let s := s.put g (fldRemote p) 1
      (if p < 64 then s.event g Ev.REMOTE_FAULT else s).emLink p 0
    else (s.put g (fldRemote p) 0).setEm p { s.em p with clean := s.uptime })

/-- LINK_UP (R344, R546): neither fault has been seen for 1,966,080 cy, at an EM port (0–63) or a pool link (64–79). -/
def execLinkUp (port : Fin 80) (s : State) : Host.Outcome State Fault Refusal :=
  let p := port.val
  .next (
    if s.enabled (pgEm p) ∧ ¬ s.emFault p ∧ (s.em p).clean + 1966080 ≤ s.uptime then s.emLink p 1 else s)

/-- The transmitters of a port go to sleep (1) or wake (0). -/
def State.txLanes (s : State) (p v : Nat) : State :=
  let l := s.emLanes p
  (List.range l.2).foldl (fun s i => (s.put (pgLane (l.1 + i)) Rg.LN_SLEEP_TX_REQ v).sleepFollow (l.1 + i)) s

/-- LPI_ENTER (R345). -/
def execLpiEnter (port : Fin 64) (s : State) : Host.Outcome State Fault Refusal :=
  let p := port.val
  let x := s.em p
  .next (
    if s.enabled (pgEm p) && s.flag (pgEm p) Rg.EM_EEE_EN && !x.lpi && x.dyn.isEmpty
        && decide (max x.sent x.free + s.get (pgEm p) Rg.EM_EEE_IDLE * 1024 ≤ s.uptime) && !(s.detWithin p 4096) then
      (s.setEm p { x with lpi := true }).txLanes p 1
    else s)

/-- LPI_EXIT (R345): 2,048 cy before a deterministic departure, or for a dynamic frame that waits. -/
def execLpiExit (port : Fin 64) (s : State) : Host.Outcome State Fault Refusal :=
  let p := port.val
  let x := s.em p
  .next (
    if x.lpi && (!x.dyn.isEmpty || s.detWithin p 2049 || !(s.flag (pgEm p) Rg.EM_EEE_EN)) then
      (s.setEm p { x with lpi := false }).txLanes p 0
    else s)

/-- LPI_RECEIVED (R345): LPI begins to arrive, or (`on` = false) the first block that is not LPI. -/
def execLpiReceived (port : Fin 64) (on : Bool) (s : State) : Host.Outcome State Fault Refusal :=
  let p := port.val
  let l := s.emLanes p
  .next (
    if !(s.enabled (pgEm p)) then s
    else if on then
      (if (s.em p).rxLpi || !(s.flag (pgEm p) Rg.EM_EEE_EN) then s
       else (List.range l.2).foldl
         (fun s i => (s.put (pgLane (l.1 + i)) Rg.LN_SLEEP_RX_REQ 1).sleepFollow (l.1 + i))
         (s.setEm p { s.em p with rxLpi := true }))
    else s.rxLpiEnd p)

/-! ## Staging registers (R376) -/

/-- What a write of AU_FLOW_IDX does. -/
def State.flowLoad (s : State) (n : Nat) : State :=
  let g := pgAu n
  let f := s.flow n (s.get g Rg.AU_FLOW_IDX)
  let s := ([f.w0, f.w1, f.w2, f.w3, f.w4].zipIdx).foldl (fun s e => s.setReg g (0x114 + 4 * e.2) (BitVec.ofNat 32 e.1)) s
  (f.cnt.zipIdx).foldl (fun s e => s.setReg g (0x130 + 4 * e.2) (BitVec.ofNat 32 e.1)) s

/-- What a write of AU_FLOW_CMD does. -/
def State.flowApply (s : State) (n value : Nat) : State :=
  let g := pgAu n
  let i := s.get g Rg.AU_FLOW_IDX
  let w := fun (k : Nat) => (s.reg g (0x114 + 4 * k)).toNat
  if value % 2 = 1 then s.setFlow n i { s.flow n i with w0 := w 0, w1 := w 1, w2 := w 2, w3 := w 3, w4 := w 4 } else s

/-- AU_FLOW_IDX_WRITE (R376). -/
def execAuFlowIdxWrite (w : Who) (au : Fin 8) (value : Nat) (s : State) : Host.Outcome State Fault Refusal :=
  .next (s.command w (pgAu au.val) 0x110 value fun s => s.flowLoad au.val)

/-- AU_FLOW_WRITE (R376). -/
def execAuFlowWrite (w : Who) (au : Fin 8) (value : Nat) (s : State) : Host.Outcome State Fault Refusal :=
  .next (s.command w (pgAu au.val) 0x128 value fun s => s.flowApply au.val value)

/-- What a write of AU_PT_IDX does. -/
def State.ptLoad (s : State) (n : Nat) : State :=
  let g := pgAu n
  let x := s.partner n (s.get g Rg.AU_PT_IDX)
  (s.put64 g Rg.AU_PT_MAC_LO x.mac).setReg g 0x16C (BitVec.ofNat 32 x.ctl)

/-- What a write of AU_PT_CMD does: STATE = 2 registers the partner (R373). -/
def State.ptApply (s : State) (n value : Nat) : State :=
  let g := pgAu n
  let i := s.get g Rg.AU_PT_IDX
  if value % 2 = 1 then
    s.setPartner n i ⟨s.get64 g Rg.AU_PT_MAC_LO % 2 ^ 48, (s.reg g 0x16C).toNat, s.uptime⟩
  else s

/-- AU_PT_IDX_WRITE (R376). -/
def execAuPtIdxWrite (w : Who) (au : Fin 8) (value : Nat) (s : State) : Host.Outcome State Fault Refusal :=
  .next (s.command w (pgAu au.val) 0x160 value fun s => s.ptLoad au.val)

/-- AU_PT_WRITE (R373, R376). -/
def execAuPtWrite (w : Who) (au : Fin 8) (value : Nat) (s : State) : Host.Outcome State Fault Refusal :=
  .next (s.command w (pgAu au.val) 0x170 value fun s => s.ptApply au.val value)

end Sys2Proof.Machine
end

