-- ==== Sys2Proof/Machine/Pool.lean ====
section
/-! DEFINITION. The POOL block: pool links and Ronris frames, discovery, views, heartbeats, fences, checkpoints and takeovers
(spec chapter 17, R545–R559 and R566–R578). -/
namespace Sys2Proof.Machine

/-! ## The block and its tables -/

def peer0 : Nat → Peer := fun _ => Peer.zero
def guard0 : Nat → Guard := fun _ => Guard.zero
def opSlot0 : Nat → OpSlot := fun _ => OpSlot.zero

def State.setPl (s : State) (p : Pool) : State := { s with pl := p }

def State.peer (s : State) (m : Nat) : Peer := Sparse.get peer0 s.pl.peers m
def State.setPeer (s : State) (m : Nat) (x : Peer) : State := s.setPl { s.pl with peers := Sparse.set peer0 s.pl.peers m x }

/-- R553: the pool states. -/
def plOff : Nat := 0
def plSeeking : Nat := 1
def plAlone : Nat := 2
def plMember : Nat := 3
def plConflict : Nat := 4

def State.plState (s : State) : Nat := s.get pgPool Rg.POOL_STAT_STATE
def State.chipId (s : State) : Nat := s.get pgPool Rg.POOL_CFG_CHIP_ID
def State.poolId (s : State) : Nat := s.get pgPool Rg.POOL_CFG_POOL_ID

/-- The block is enabled and powered. -/
def State.poolOn (s : State) : Bool := s.enabled pgPool && s.domOn 4

/-- R555: the block acts only while the air count is valid. -/
def State.poolActs (s : State) : Bool := s.poolOn && s.airValid && s.plState != plOff

/-- R555: the pool span of the air count. -/
def State.poolSpan (s : State) : Nat := s.now / spanCy

/-- R575: an event with a chip ID or a guard index in DETAIL. -/
def State.plEvent (s : State) (code : Nat) (item : Nat := 0) (ctx : Nat := 0) : State := s.event pgPool code ctx 0 (item <<< 16)

/-- Values of FAIL_N below 2 act as 2 (R577). -/
def State.failN (s : State) : Nat := max 2 (s.get pgPool Rg.POOL_CFG3_FAIL_N)

/-- The discovery table holds no entry. -/
def State.discEmpty (s : State) : Bool := s.pl.peers.all fun p => p.2.disc = 0

/-- R553: the chip's pool state changes. -/
def State.setPlState (s : State) (st : Nat) : State :=
  let s := if s.plState = st then s else (s.put pgPool Rg.POOL_STAT_STATE st).plEvent Ev.STATE_CHANGE
  if st = plMember ∨ st = plConflict then s
  else
    let s := (s.put pgPool Rg.POOL_VIEW 0).put pgPool Rg.POOL_STAT_N 0
    if st = plSeeking then s.setPl { s.pl with seekAt := s.uptime } else s

/-- A member leaves the view: it is no longer tracked (R554). -/
def Peer.untrack (x : Peer) : Peer :=
  { x with last := 0, miss := 0, suspect := false, failed := false, failedAt := 0, back := false, lists := [] }

/-- The chip has no view any more. -/
def State.noView (s : State) : State :=
  let s := (s.pl.peers.map (·.1)).foldl (fun s m => s.setPeer m (s.peer m).untrack) s
  (s.setPl { s.pl with active := none, prev := none, loaded := none }).put pgPool Rg.POOL_STAT_OWN_MISS 0

/-- R553, R555: the block is enabled. -/
def State.poolEnable (s : State) : State := s.setPlState plSeeking

/-- R553: ENABLE = 0: the block idles. Guards and op slots stay. -/
def State.poolDisable (s : State) : State :=
  (({ s with pl := { Pool.zero with guards := s.pl.guards, slots := s.pl.slots } } : State).put pgPool Rg.POOL_STAT_OWN_MISS 0).setPlState
    plOff

/-! ## Sending frames (R547, R548) -/

/-- SEQ of the next frame of a TYPE. -/
def State.nextSeq (s : State) (type : Nat) : Nat × State :=
  let n := Sparse.get (fun _ => 0) s.pl.seq type
  (n, s.setPl { s.pl with seq := Sparse.set (fun _ => 0) s.pl.seq type ((n + 1) % 2 ^ 32) })

/-- R546: the pool group address. -/
def State.groupMac (s : State) : Nat := 0x035852000000 + s.poolId

/-- Ethernet header of a frame from link `n` to address `da` with an EtherType. -/
def State.ethHead (s : State) (n da etype : Nat) : List Nat :=
  let g := pgLk n
  let tag := if s.flag g Rg.LK_VLAN_EN then
    beBytes 2 0x8100 ++ beBytes 2 (s.get g Rg.LK_VLAN_PCP <<< 13 + s.get g Rg.LK_VLAN_VID) else []
  beBytes 6 da ++ beBytes 6 (s.get64 g Rg.LK_MAC_LO) ++ tag ++ beBytes 2 etype

/-- Sends one frame on link `n`: it leaves the reference plane after D_TX, and after the frames before it. -/
def State.lkSend (s : State) (n da type dst seq : Nat) (body : List Nat) (stamp : Option Nat := none) : State :=
  let p := 64 + n
  let x := s.em p
  let eth := s.ethHead n da (s.get pgPool Rg.POOL_CFG2_ETYPE)
  let due := max (s.uptime + (s.emLatency p).1) x.free
  let len := max 60 (eth.length + 32 + body.length)
  let s := s.setEm p { x with free := due + byteCy (len + 24) (s.emRate p) }
  s.setPl { s.pl with out := s.pl.out ++ [⟨due, n, eth, type, dst, s.get pgPool Rg.POOL_VIEW, seq, body.map (· % 256), stamp⟩] }

/-- A frame to every member: on every enabled link with MC = 1. -/
def State.groupSend (s : State) (type : Nat) (body : List Nat) : State :=
  let r := s.nextSeq type
  (List.range 16).foldl (fun s n =>
    if s.enabled (pgLk n) && s.flag (pgLk n) Rg.LK_CFG_MC then s.lkSend n s.groupMac type 0x8000 r.1 body else s) r.2

/-- A frame to one chip, on the link of its last HELLO or HEARTBEAT; to a chip never heard none can be sent. -/
def State.chipSend (s : State) (type m : Nat) (body : List Nat) : State :=
  if s.plState = plConflict then s
  else
    let x := s.peer m
    if x = Peer.zero then s
    else
      let r := s.nextSeq type
      r.2.lkSend x.link x.mac type m r.1 body

/-- The 32-byte Ronris header (R548). -/
def State.ronrisHead (s : State) (f : PoolTx) (body : List Nat) (air : Nat) : List Nat :=
  [1, f.type] ++ beBytes 2 s.poolId ++ beBytes 2 s.chipId ++ beBytes 2 f.dst ++ beBytes 4 f.view ++ beBytes 4 f.seq ++ beBytes 8 air
    ++ beBytes 2 body.length ++ [0, 0] ++ beBytes 4 (crc32c body)

/-- A frame whose instant has come leaves, or is dropped on a faulted or silent link (R344, R26). -/
def State.lkDepart (s : State) (f : PoolTx) : State :=
  let p := 64 + f.link
  let g := pgLk f.link
  if s.emFault p ∨ ¬ s.portDrives g 4 then s.satAdd g Rg.LK_TX_DROP
  else
    let air := s.now - (s.uptime - f.due)
    let body := match f.stamp with
      | some k => patch f.body k (beBytes 8 air)
      | none => f.body
    let b := f.eth ++ s.ronrisHead f body air ++ body
    let b := b ++ List.replicate (60 - b.length) 0
    let s := s.setEm p { s.em p with sent := f.due, line := b }
    let s := if f.type = 6 then
      s.setPl { s.pl with time := s.pl.time.map fun t => if t.link = f.link && t.t1 = 0 then { t with t1 := air } else t } else s
    let s := if f.type = 8 then s.bump pgPool 2 else s
    ((s.inc64 g Rg.LK_TX_OK_LO).bump g 2).bump g 0xF1 (b.length + 4)

/-! ## Reception (R546–R549) -/

/-- R546: the address filter of a pool link. -/
def State.lkDaOk (s : State) (n da : Nat) : Bool :=
  [0xFFFFFFFFFFFF, 0x011B19000000, 0x0180C200000E, s.groupMac].contains da || da = s.get64 (pgLk n) Rg.LK_MAC_LO % 2 ^ 48

/-- R546: a frame that goes to the queue POOL_Q.FWQ, as an approach unit passes frames (R505). -/
def State.lkFirmware (s : State) (n tin : Nat) (b : List Nat) : State :=
  let q := s.get pgPool Rg.POOL_Q_FWQ
  let ctx := bits (s.queue q).cfg 11 0
  let pool := s.get pgTr0 Rg.TR_AU_POOL
  if 16 ≤ (s.tr.fifo.filter fun t => t.source = 236).length ∨ (s.pool pool).size < b.length then s
  else
    match s.alloc pool ctx with
    | (none, s) => s
    | (some h, s) =>
      let s := (s.dynWrite ⟨236, 2, ctx, 0⟩ (s.bufAddr h) b).2
      let r := (List.range 16).foldl (fun r _ => let f := r.2.fresh; (r.1 ++ [f.1 % 2 ^ 32], f.2)) (([] : List Nat), s)
      let w := ((r.1.set 1 n).set 4 h).set 5 (r.1.getD 5 0 / 2 ^ 14 * 2 ^ 14 + b.length % 2 ^ 14)
      let w := (w.set 8 (tin % 2 ^ 32)).set 9 (tin / 2 ^ 32)
      r.2.submit 236 q ctx w

/-- A field of `n` bytes at offset `o`, most significant first. -/
def beAt (b : List Nat) (o n : Nat) : Nat := beN ((b.drop o).take n)

/-- R549: the types that firmware receives. -/
def fwType (t : Nat) : Bool := t = 0x10 || t = 0x11 || decide (0x80 ≤ t)

/-- R549: a reserved field of the header or of the body is not zero. -/
def ronrisRsv (h body : List Nat) : Bool :=
  let t := h.getD 1 0
  beAt h 4 2 / 2048 ≠ 0 || beAt h 6 2 / 2048 % 16 ≠ 0 || beAt h 26 2 ≠ 0
    || (t = 1 && beAt body 9 3 ≠ 0) || (t = 2 && beAt body 6 2 / 2 ≠ 0) || (t = 8 && beAt body 12 4 ≠ 0)
    || (t = 9 && beAt body 6 2 / 4 ≠ 0) || (t = 0xA && beAt body 6 2 / 2 ≠ 0)

/-- R549: a Ronris frame with an error. -/
def State.badRonris (s : State) (h rest : List Nat) : Bool :=
  let body := rest.take (beAt h 24 2)
  h.getD 0 0 ≠ 1 || beAt h 2 2 ≠ s.poolId || body.length ≠ beAt h 24 2 || crc32c body ≠ beAt h 28 4 || ronrisRsv h body
    || !(fwType (h.getD 1 0) || (decide (1 ≤ h.getD 1 0) && decide (h.getD 1 0 ≤ 0xA)))

/-- R547: the frames seen, the last 64 of a sender and TYPE. -/
def noteSeen (l : List (Nat × Nat × Nat)) (k : Nat × Nat × Nat) : List (Nat × Nat × Nat) :=
  let same := fun (x : Nat × Nat × Nat) => x.1 = k.1 && x.2.1 = k.2.1
  k :: (((l.filter same).take 63) ++ l.filter fun x => !(same x))

/-- R547–R549: a frame with the EtherType of the pool. -/
def State.ronrisIn (s : State) (n tin : Nat) (b : List Nat) : State :=
  let g := pgLk n
  let pay := payload b
  let h := pay.take 32
  let rest := pay.drop 32
  if h.length < 32 || s.badRonris h rest then (s.satAdd g Rg.LK_BAD_RONRIS).bump g 3
  else
    let r : Ronris := ⟨n, s.uptime, tin, beAt b 6 6, h.getD 1 0, beAt h 4 2, beAt h 6 2, beAt h 8 4, beAt h 12 4, beAt h 16 8,
      rest.take (beAt h 24 2)⟩
    if s.pl.seen.contains (r.src, r.type, r.seq) then ((s.satAdd g Rg.LK_DUP).bump g 3).bump g 4
    else
      let s := s.setPl { s.pl with seen := noteSeen s.pl.seen (r.src, r.type, r.seq) }
      if fwType r.type then s.lkFirmware n tin b
      else if r.dst < 0x8000 && r.dst ≠ s.chipId then s
      else s.setPl { s.pl with inbox := s.pl.inbox ++ [r] }

/-- A frame as the link receives it (R546–R549). -/
def State.linkIn (s : State) (n : Nat) (b : List Nat) (bad : Bool) : State :=
  let g := pgLk n
    if !(s.enabled g) || !(s.domOn 4) || s.flag g Rg.LK_STAT_LOCAL_FAULT then s
    else
    let s := s.bump g 0xF0 (b.length + 4)
    if b.length + 4 ≤ 63 then s.satAdd g Rg.LK_RUNT
    else if 9216 < b.length + 4 then s.satAdd g Rg.LK_LONG
    else if bad then s.satAdd g Rg.LK_FCS
    else if etherType b = 0x8808 then s
    else if !(s.lkDaOk n (beN (b.take 6))) then s.satAdd g Rg.LK_DA_DROP
    else
      let p := 64 + n
      let tin := s.now - (s.emLatency p).2 - s.get (pgLane (s.emLanes p).1) Rg.LN_RX_VAR / 256
      let s := (s.inc64 g Rg.LK_RX_OK_LO).bump g 1
      if !(s.poolOn) then s
      else if etherType b = s.get pgPool Rg.POOL_CFG2_ETYPE then s.ronrisIn n tin b
      else s.lkFirmware n tin b

/-- RONRIS_RECEIVE (R546–R549): a pool link receives a frame (without FCS) now; `bad`: a bad FCS or an error control block. -/
def execRonrisReceive (link : Fin 16) (bytes : List (Fin 256)) (bad : Bool) (s : State) : Host.Outcome State Fault Refusal :=
  let b := bytes.map (·.val)
  .next (
    match s.ptFrame (pgLk link.val) link.val b bad with
    | (none, s) => s
    | (some bad, s) => s.linkIn link.val b bad)

/-- Takes the oldest received frame of a TYPE. -/
def State.takeFrame (s : State) (type : Nat) (f : Ronris → State → State) : State :=
  match s.pl.inbox.find? fun r => r.type = type with
  | some r => if s.poolOn then f r (s.setPl { s.pl with inbox := s.pl.inbox.erase r }) else s
  | none => s

/-! ## Discovery (R550–R553) -/

/-- HELLO_SEND (R549, R552): a write of POOL_HELLO. -/
def execHelloSend (w : Who) (value : Nat) (s : State) : Host.Outcome State Fault Refusal :=
  .next (s.command w pgPool 0x120 value fun s =>
    if value % 2 = 1 && s.poolActs then
      s.groupSend 1 (beBytes 8 (s.get64 pgSys Rg.SYS_UID_LO) ++ [s.plState, 0, 0, 0] ++ beBytes 4 (s.get pgPool Rg.POOL_VIEW))
    else s)

/-- HELLO (R551, R552): a received HELLO enters or refreshes its sender's entry; one with this chip's ID and another UID is a conflict. -/
def execHello (s : State) : Host.Outcome State Fault Refusal :=
  .next (s.takeFrame 1 fun r s =>
    let uid := beAt r.body 0 8
    let own := s.get64 pgSys Rg.SYS_UID_LO
    if r.src = s.chipId then
      if uid = own then s
      else
        let s := s.plEvent Ev.ID_CONFLICT r.src
        if uid < own ∧ s.poolActs then s.setPlState plConflict else s
    else s.setPeer r.src { s.peer r.src with mac := r.mac, link := r.link, disc := s.uptime + 1, uid := uid })

/-- DISCOVERY_EXPIRY (R552). -/
def execDiscoveryExpiry (chip : Fin 2048) (s : State) : Host.Outcome State Fault Refusal :=
  let x := s.peer chip.val
  .next (
    if s.poolOn && x.disc ≠ 0 && decide (x.disc + 128 * spanCy ≤ s.uptime + 1) then
      let s := s.setPeer chip.val { x with disc := 0 }
      if s.discEmpty then s.setPl { s.pl with seekAt := s.uptime } else s
    else s)

/-- SEEK_TIMEOUT (R553). -/
def execSeekTimeout (s : State) : Host.Outcome State Fault Refusal :=
  .next (
    if s.poolActs && s.plState = plSeeking && s.discEmpty
        && decide (s.pl.seekAt + s.get pgPool Rg.POOL_CFG3_SEEK * spanCy ≤ s.uptime) then
      (s.setPl { s.pl with active := some ⟨0, [s.chipId]⟩ }).setPlState plAlone
    else s)

/-- POOL_SEND (R550). -/
def execPoolSend (w : Who) (value : Nat) (s : State) : Host.Outcome State Fault Refusal :=
  .next (s.command w pgPool 0x124 value fun s =>
    let type := bits value 31 24
    let dst := bits value 15 0
    let n := s.get pgPool Rg.POOL_SEND_LEN
    if !(fwType type) || decide (9130 < n) then s.plEvent Ev.SEND_BAD
    else if !s.poolActs || s.plState = plConflict then s
    else
      match s.dynRead ⟨236, 2, 0, 0⟩ (s.get64 pgPool Rg.POOL_SEND_ADDR_LO) n with
      | (none, s) => s
      | (some v, s) =>
        if 0x8000 ≤ dst then s.groupSend type (bytesOf n v) else s.chipSend type (dst % 2048) (bytesOf n v))

/-! ## Guards and fences (R559, R570, R573) -/

def State.guard (s : State) (i : Nat) : Guard := Sparse.get guard0 s.pl.guards i

def Guard.valid (g : Guard) : Bool := bits g.cfg 31 31 = 1
def Guard.standby (g : Guard) : Bool := bits g.cfg 30 30 = 1
def Guard.partner (g : Guard) : Nat := bits g.cfg 26 16
def Guard.ctx (g : Guard) : Nat := bits g.cfg 11 0

/-- POOL_G_STAT and POOL_G_EPOCH of an entry (R577). -/
def State.showGuard (s : State) (g : Guard) : State :=
  let v := g.fenced.toNat <<< 31 + g.needFull.toNat <<< 30 + g.final.isSome.toNat <<< 29 + g.taken.toNat <<< 28
    + (g.fcause % 16) <<< 24 + (g.fcond % 16) <<< 20
  (s.setReg pgPool 0x194 (BitVec.ofNat 32 v)).setReg pgPool 0x198
    (BitVec.ofNat 32 (if g.standby then g.committed.getD 0 else g.acked))

/-- Changes a guard entry; the contexts that the pool fences follow (R559). -/
def State.setGuard (s : State) (i : Nat) (g : Guard) : State :=
  let l := Sparse.set guard0 s.pl.guards i g
  let s := s.setPl { s.pl with guards := l }
  let s := { s with fh := { s.fh with fenced := (l.filter fun e => e.2.valid && e.2.fenced).map fun e => e.2.ctx } }
  if s.get pgPool Rg.POOL_G_IDX = i then s.showGuard g else s

/-- The view that the block evaluates: the one installed, also while all its other members are FAILED (log entry 41). -/
def State.others (s : State) : List Nat := match s.pl.active with
  | some v => v.members.filter fun m => m ≠ s.chipId
  | none => []

/-- R559: M without the partner; its size and how many of it have MISS = 0. -/
def State.quorum (s : State) (g : Guard) : Nat × Nat :=
  let m := s.others.filter fun m => m ≠ g.partner
  (m.length, (m.filter fun m => (s.peer m).miss = 0).length)

/-- R559: the first fence condition of an ACTIVE entry that holds (1 a, 2 b, 3 c); 0: none. -/
def State.fenceCond (s : State) (g : Guard) : Nat :=
  let q := s.quorum g
  let p := !g.alone && s.others.contains g.partner
  if s.failN - 1 ≤ s.get pgPool Rg.POOL_STAT_OWN_MISS then 1
  else if p && decide (s.failN - 1 ≤ (s.peer g.partner).miss) && decide (2 * q.2 ≤ q.1) then 2
  else if p && (s.peer g.partner).lists.contains s.chipId then 3
  else 0

/-- An entry's context becomes fenced. -/
def State.fence (s : State) (i cond : Nat) : State :=
  let g := s.guard i
  (s.setGuard i { g with fenced := true, fcond := cond }).plEvent Ev.FENCED i g.ctx

/-- Applies the conditions to every ACTIVE entry that is not fenced; `only`: condition (c) of one partner, on receipt of its heartbeat. -/
def State.fenceAll (s : State) (only : Option Nat) : State :=
  (s.pl.guards.map (·.1)).foldl (fun s i =>
    let g := s.guard i
    let c := s.fenceCond g
    let hit := match only with
      | none => c ≠ 0
      | some m => !g.alone && g.partner = m && s.others.contains m && (s.peer m).lists.contains s.chipId
    if g.valid && !g.standby && !g.fenced && hit then s.fence i (if only.isSome then 3 else c) else s) s

/-- R570, R571, R559: a refused TAKE or UNFENCE. -/
def State.takeRefused (s : State) (i cause : Nat) : State :=
  let g := s.guard i
  (s.setGuard i { g with fcause := cause, take := none, takeWait := false }).plEvent Ev.TAKE_REFUSED i g.ctx

/-- R570: a running plan breaks R555. -/
def State.offGrid (s : State) : Bool := match s.plan with
  | some _ => s.get64 pgDeck Rg.DK_ORG_LO % spanCy ≠ 0
  | none => false

/-- R570: TAKE is decided. -/
def State.takeGo (s : State) (i : Nat) : State :=
  let g := s.guard i
  let x := s.peer g.partner
  if !x.failed && g.final.isNone then s.takeRefused i 1
  else if g.committed.isNone then s.takeRefused i 2
  else if s.offGrid then s.takeRefused i 3
  else
    let t := match x.failed, g.final with
      | false, some h => (h, true)
      | _, _ => (ceilDiv (max (x.failedAt + 1966080) s.now) spanCy * spanCy, false)
    s.setGuard i { g with take := some t, takeWait := false, fenced := true, fcause := 0 }

/-- R571, R573: the standby's fence is lifted and it becomes ACTIVE with no partner. -/
def State.taken (s : State) (i : Nat) : State :=
  let g := s.guard i
  let cfg := g.cfg - bits g.cfg 30 30 <<< 30 - g.partner <<< 16
  (s.setGuard i { g with cfg := cfg, alone := true, fenced := false, fcond := 0, taken := true, take := none }).plEvent Ev.TAKEN i g.ctx

/-- POOL_G_WRITE (R577): POOL_G_CMD = 1 applies the staged words. Other words than before begin a new entry (log entry 43). -/
def execPoolGWrite (w : Who) (s : State) : Host.Outcome State Fault Refusal :=
  .next (s.access w pgPool 0x19C true fun s =>
    let i := s.get pgPool Rg.POOL_G_IDX
    let g := s.guard i
    let cfg := (s.reg pgPool 0x174).toNat
    let base : Guard := if cfg = g.cfg ∧ ¬ g.alone then g
      else
        let keep := decide (bits cfg 11 0 = g.ctx) && !g.standby && bits cfg 30 30 = 0
        { Guard.zero with fenced := g.fenced && keep, fcond := if keep then g.fcond else 0 }
    s.setGuard i { base with
      cfg := cfg
      mir := s.get64 pgPool Rg.POOL_G_MIR_LO / 64 * 64
      stg := s.get64 pgPool Rg.POOL_G_STG_LO / 64 * 64
      size := s.get pgPool Rg.POOL_G_SIZE
      h := s.get64 pgPool Rg.POOL_G_H_LO })

/-- TAKE (R570): POOL_G_CMD = 2 on a STANDBY entry; it waits for a copy into the mirror to end (R569). -/
def execTake (w : Who) (s : State) : Host.Outcome State Fault Refusal :=
  .next (s.access w pgPool 0x19C true fun s =>
    let i := s.get pgPool Rg.POOL_G_IDX
    let g := s.guard i
    if !s.poolActs || !g.valid || !g.standby || g.take.isSome then s
    else if g.copy.isSome then s.setGuard i { g with takeWait := true }
    else s.takeGo i)

/-- UNFENCE (R559): POOL_G_CMD = 3. -/
def execUnfence (w : Who) (s : State) : Host.Outcome State Fault Refusal :=
  .next (s.access w pgPool 0x19C true fun s =>
    let i := s.get pgPool Rg.POOL_G_IDX
    let g := s.guard i
    if !g.fenced then s
    else if g.take.isSome || (!g.standby && s.fenceCond g ≠ 0) then s.plEvent Ev.TAKE_REFUSED i g.ctx
    else s.setGuard i { g with fenced := false, fcond := 0 })

/-- HANDOVER (R573): POOL_G_CMD = 4 on an ACTIVE entry: it moves at H. -/
def execHandover (w : Who) (s : State) : Host.Outcome State Fault Refusal :=
  .next (s.access w pgPool 0x19C true fun s =>
    let i := s.get pgPool Rg.POOL_G_IDX
    let g := s.guard i
    if s.poolActs && g.valid && !g.standby then s.setGuard i { g with move := some g.h } else s)

/-- HANDOVER_LATE (R573): the FINAL epoch has not been acknowledged by H − 983,040. -/
def execHandoverLate (i : Fin 256) (s : State) : Host.Outcome State Fault Refusal :=
  let g := s.guard i.val
  .next (
    match g.move with
    | some h =>
      if s.poolActs && !g.finalAcked && decide (h ≤ s.now + spanCy) then
        (s.setGuard i.val { g with move := none }).plEvent Ev.HANDOVER_LATE i.val g.ctx
      else s
    | none => s)

/-- HANDOVER_EFFECT (R573): at H the active's context is fenced; the standby's fence is lifted. -/
def execHandoverEffect (i : Fin 256) (s : State) : Host.Outcome State Fault Refusal :=
  let g := s.guard i.val
  .next (
    if !s.poolActs then s
    else
      match g.move, g.take with
      | some h, _ =>
        if g.finalAcked && decide (h ≤ s.now) then
          let s := s.setGuard i.val { g with move := none }
          if g.fenced then s else s.fence i.val 4
        else s
      | none, some (t, true) => if t ≤ s.now then s.taken i.val else s
      | none, _ => s)

/-- TAKEOVER_EFFECT (R571, R574): the quorum at the effect instant of a failure takeover. -/
def execTakeoverEffect (i : Fin 256) (s : State) : Host.Outcome State Fault Refusal :=
  let g := s.guard i.val
  .next (
    match g.take with
    | some (t, false) =>
      if !s.poolActs || decide (s.now < t) then s
      else if !(s.peer g.partner).failed then s.takeRefused i.val 1
      else
        let q := s.quorum g
        let sus := (s.others.filter fun m => m ≠ g.partner && (s.peer m).miss = 0 && (s.peer m).lists.contains g.partner).length
        if decide (q.1 ≤ 2 * q.2) && decide (q.2 ≤ 2 * sus) then s.taken i.val else s.takeRefused i.val 4
    | _ => s)

/-! ## Views (R554) -/

/-- A list is in strictly rising order. -/
def rising : List Nat → Bool
  | a :: b :: l => decide (a < b) && rising (b :: l)
  | _ => true

/-- R554: a view is loaded, or withdrawn from; refused with VIEW_BAD. -/
def State.viewLoad (s : State) (withdraw : Bool) : State :=
  let n := s.get pgPool Rg.POOL_VS_CNT + 1
  let num := s.get pgPool Rg.POOL_VS_NUM
  let at_ := s.get64 pgPool Rg.POOL_VS_AIR_LO
  if !s.poolActs then s
  else
    match s.dynRead ⟨236, 2, 0, 0⟩ (s.get64 pgPool Rg.POOL_VS_ADDR_LO) (2 * n) with
    | (none, s) => s.plEvent Ev.VIEW_BAD
    | (some v, s) =>
      let l := (List.range n).map fun i => v / 2 ^ (16 * i) % 65536
      let late := at_ % spanCy ≠ 0 || decide (at_ < s.now + spanCy)
      let old := s.pl.active.isSome && decide (num ≤ s.get pgPool Rg.POOL_VIEW)
      if !(rising l) || (l.any fun m => decide (2048 ≤ m)) || l.contains s.chipId = withdraw || late || old then s.plEvent Ev.VIEW_BAD
      else s.setPl { s.pl with loaded := some ⟨at_, ⟨num, l⟩, withdraw⟩ }

/-- VIEW_LOAD (R554): a write of POOL_VS_CMD with LOAD. -/
def execViewLoad (w : Who) (s : State) : Host.Outcome State Fault Refusal :=
  .next (s.access w pgPool 0x150 true fun s => s.viewLoad false)

/-- VIEW_WITHDRAW (R554): a write of POOL_VS_CMD with WITHDRAW. -/
def execViewWithdraw (w : Who) (s : State) : Host.Outcome State Fault Refusal :=
  .next (s.access w pgPool 0x150 true fun s => s.viewLoad true)

/-- R554: a view activates. -/
def State.activate (s : State) (v : View) : State :=
  let old := s.others
  let k := s.poolSpan
  let s := old.foldl (fun s m => if v.members.contains m then s else s.setPeer m (s.peer m).untrack) s
  let s := v.members.foldl (fun s m =>
    if m = s.chipId ∨ old.contains m then s
    else s.setPeer m { (s.peer m).untrack with last := max (s.peer m).last k }) s
  let s := s.setPl { s.pl with prev := s.pl.active, active := some v, loaded := none }
  let s := if v.members.length = 1 then s.setPlState plAlone
    else ((s.setPlState plMember).put pgPool Rg.POOL_VIEW v.num).put pgPool Rg.POOL_STAT_N (v.members.length - 1)
  s.plEvent Ev.VIEW_ACTIVE

/-- VIEW_ACTIVE (R554): the loaded view's instant has come. -/
def execViewActive (s : State) : Host.Outcome State Fault Refusal :=
  .next (
    match s.pl.loaded with
    | some n =>
      if !s.poolActs || decide (s.now < n.at_) then s
      else if n.withdraw then
        let s := ((s.pl.peers.map (·.1)).foldl (fun s m => s.setPeer m (s.peer m).untrack) s).put pgPool Rg.POOL_STAT_OWN_MISS 0
        (s.setPl { s.pl with prev := s.pl.active, active := none, loaded := none }).setPlState plSeeking
      else s.activate n.view
    | none => s)

/-! ## Heartbeats (R556–R558) -/

/-- The SUSPECT list of the HEARTBEAT body (R557): members whose MISS was at least FAIL_N − 1 at the last boundary. -/
def State.suspects (s : State) : List Nat := s.others.filter fun m => decide (s.failN - 1 ≤ (s.peer m).miss)

/-- R557: the HEARTBEAT body. -/
def State.beatBody (s : State) : List Nat :=
  let l := s.suspects
  beBytes 4 s.poolSpan ++ [s.plState, min 32 l.length] ++ beBytes 2 (decide (32 < l.length)).toNat
    ++ (l.take 32).flatMap fun m => beBytes 2 m

/-- BEAT (R556): a write of POOL_HB. -/
def execBeat (w : Who) (value : Nat) (s : State) : Host.Outcome State Fault Refusal :=
  .next (s.command w pgPool 0x11C value fun s =>
    if value % 2 = 0 || !s.poolActs || !(s.plState = plAlone || s.plState = plMember) then s
    else if s.pl.beat = s.poolSpan + 1 then s.plEvent Ev.BEAT_EXTRA
    else (s.setPl { s.pl with beat := s.poolSpan + 1 }).groupSend 2 s.beatBody)

/-- The boundary of this cycle has not been evaluated yet. -/
def State.evalDue (s : State) : Bool :=
  s.poolActs && (s.plState = plAlone || s.plState = plMember) && s.now % spanCy = 0 && s.pl.evalAt != s.poolSpan + 1

/-- The span whose low 32 bits a heartbeat carries, nearest to the current one. -/
def State.fullSpan (s : State) (low : Nat) : Nat :=
  let d := toInt 32 ((low + 2 ^ 32 - s.poolSpan % 2 ^ 32) % 2 ^ 32)
  ((s.poolSpan : Int) + d).toNat

/-- HEARTBEAT (R557–R559): a received heartbeat; one that arrives in the cycle of an evaluation counts from the next one (R574). -/
def execHeartbeat (s : State) : Host.Outcome State Fault Refusal :=
  .next (
    if s.evalDue && (s.pl.inbox.find? fun r => r.type = 2).any fun r => r.up = s.uptime then s
    else s.takeFrame 2 fun r s =>
      let s := s.bump pgPool 1
      if r.src = s.chipId then s
      else
        let x := { s.peer r.src with mac := r.mac, link := r.link }
        if !(s.others.contains r.src) then s.setPeer r.src x
        else
          let n := r.body.getD 5 0
          let l := (List.range n).map fun i => beAt r.body (8 + 2 * i) 2
          let s := s.setPeer r.src { x with
            last := max x.last (s.fullSpan (beAt r.body 0 4) + 1)
            lists := l
            back := x.back || x.failed }
          if s.poolActs then s.fenceAll (some r.src) else s)

/-- R558: one member at boundary B_k. -/
def State.evalPeer (s : State) (m : Nat) : State :=
  let k := s.poolSpan
  let x := s.peer m
  let miss := if k < x.last + 2 then 0 else min 255 (k - 1 - x.last)
  let x := { x with miss := miss }
  if x.failed && x.back then
    (s.setPeer m { x with failed := false, suspect := decide (s.failN - 1 ≤ miss), back := false }).plEvent Ev.PEER_BACK m
  else if x.failed then s.setPeer m x
  else if s.failN ≤ miss then
    (s.setPeer m { x with failed := true, suspect := true, back := false, failedAt := s.now }).plEvent Ev.PEER_FAILED m
  else s.setPeer m { x with suspect := decide (s.failN - 1 ≤ miss) }

/-- PEER_EVALUATION (R558, R559, R553): at a span boundary. -/
def execPeerEvaluation (s : State) : Host.Outcome State Fault Refusal :=
  .next (
    if !s.evalDue then s
    else
      let k := s.poolSpan
      let s := s.setPl { s.pl with evalAt := k + 1 }
      let s := s.others.foldl (fun s m => s.evalPeer m) s
      let own := if s.pl.beat = k then 0 else min 15 (s.get pgPool Rg.POOL_STAT_OWN_MISS + 1)
      let s := (s.put pgPool Rg.POOL_STAT_OWN_MISS own).fenceAll none
      if s.plState = plMember && s.others.all fun m => (s.peer m).failed then s.setPlState plAlone else s)

/-! ## Checkpoints of the active (R566, R567) -/

/-- R566: DELTA frames: pieces of at most 8,192 data bytes of the list's entries: offset and data, or `none` where a read fails. -/
def State.ckPieces (s : State) : List (Nat × Nat × Nat) → Option (List (Nat × List Nat)) × State
  | [] => (some [], s)
  | (src, ofs, len) :: l =>
    match s.dynRead ⟨236, 2, 0, 0⟩ src len with
    | (none, s) => (none, s)
    | (some v, s) =>
      let b := bytesOf len v
      let cut := (List.range (ceilDiv len 8192)).map fun i => (ofs + 8192 * i, (b.drop (8192 * i)).take 8192)
      match s.ckPieces l with
      | (some r, s) => (some (cut ++ r), s)
      | (none, s) => (none, s)

/-- The list of POOL_CK_LIST: SRC, OFS, LEN of each entry. -/
def State.ckList (s : State) : Option (List (Nat × Nat × Nat)) × State :=
  let n := s.get pgPool Rg.POOL_CK_CNT
  match s.dynRead ⟨236, 2, 0, 0⟩ (s.get64 pgPool Rg.POOL_CK_LIST_LO) (16 * n) with
  | (none, s) => (none, s)
  | (some v, s) => (some ((List.range n).map fun i =>
      let e := v / 2 ^ (128 * i)
      (e % 2 ^ 48, e / 2 ^ 64 % 2 ^ 32, e / 2 ^ 96 % 2 ^ 32)), s)

/-- R567: the bodies of the DELTA frames of an epoch. -/
def deltaBodies (e ctx : Nat) (l : List (Nat × List Nat)) : List (List Nat) :=
  l.zipIdx.map fun x => beBytes 4 e ++ beBytes 2 ctx ++ beBytes 2 x.2 ++ beBytes 4 x.1.1 ++ [0, 0, 0, 0] ++ x.1.2

/-- CK_GO (R566, R567, R569): a write of POOL_CK_GO. A list or data that cannot be read leaves the epoch without COMMIT (log entry 44). -/
def execCkGo (w : Who) (value : Nat) (s : State) : Host.Outcome State Fault Refusal :=
  .next (s.command w pgPool 0x1AC value fun s =>
    let i := bits value 7 0
    let full := decide (bits value 8 8 = 1)
    let final := decide (bits value 9 9 = 1)
    let g := s.guard i
    if !s.poolActs || !g.valid || g.standby then s
    else if s.plState ≠ plMember || g.alone || !(s.others.contains g.partner) then s.plEvent Ev.NO_STANDBY i g.ctx
    else if s.uptime < g.sendEnd then s.plEvent Ev.CK_BUSY i g.ctx
    else if g.needFull && !full then s.plEvent Ev.CK_NEED_FULL i g.ctx
    else
      let e := (g.sent + 1) % 2 ^ 32
      let s := s.setGuard i { g with sent := e, sentFinal := final, finalAcked := false, needFull := g.needFull && !full }
      let read := match s.ckList with
        | (some l, s) => s.ckPieces l
        | (none, s) => (none, s)
      match read with
      | (none, s) => s
      | (some l, s) =>
        let bodies := deltaBodies e g.ctx l
        let s := bodies.foldl (fun s b => s.chipSend 8 g.partner b) s
        let commit := beBytes 4 e ++ beBytes 2 g.ctx ++ beBytes 2 (full.toNat + 2 * final.toNat) ++ beBytes 4 bodies.length
          ++ beBytes 4 (crc32c bodies.flatten) ++ beBytes 8 (if final then g.h else 0)
        let s := s.chipSend 9 g.partner commit
        s.setGuard i { s.guard i with sendEnd := (s.em (64 + (s.peer g.partner).link)).free })

/-- ACK (R568): the active's guard follows an ACK or NACK. -/
def execAck (s : State) : Host.Outcome State Fault Refusal :=
  .next (s.takeFrame 0xA fun r s =>
    let e := beAt r.body 0 4
    let ctx := beAt r.body 4 2
    match s.pl.guards.find? fun x => x.2.valid && !x.2.standby && !x.2.alone && x.2.ctx = ctx && x.2.partner = r.src with
    | some (i, g) =>
      if beAt r.body 6 2 % 2 = 1 then s.setGuard i { g with needFull := true }
      else s.setGuard i { g with acked := e, finalAcked := g.finalAcked || (g.sentFinal && e = g.sent) }
    | none => s)

/-! ## Checkpoints of the standby (R568) -/

/-- The STANDBY entry for a context. -/
def State.standbyOf (s : State) (ctx : Nat) : Option (Nat × Guard) :=
  s.pl.guards.find? fun x => x.2.valid && x.2.standby && x.2.ctx = ctx

/-- Sends ACK, or NACK. -/
def State.ackSend (s : State) (g : Guard) (e : Nat) (nack : Bool) : State :=
  s.chipSend 0xA g.partner (beBytes 4 e ++ beBytes 2 g.ctx ++ beBytes 2 nack.toNat)

/-- An epoch fails: CK_BAD, NACK, the mirror stays. -/
def State.ckFail (s : State) (i : Nat) : State :=
  let g := s.guard i
  let e := g.rx.getD 0
  let s := s.setGuard i { g with rx := none, deltas := [], bad := false, commit := none, deadline := 0 }
  (s.plEvent Ev.CK_BAD i g.ctx).ackSend g e true

/-- The frame that arrives begins the reception of epoch `e`, if it is not the one in reception; an unfinished one before it fails. -/
def State.ckEpoch (s : State) (i e : Nat) : State :=
  let g := s.guard i
  if g.rx = some e then s
  else
    let s := if g.rx.isSome then s.ckFail i else s
    s.setGuard i { s.guard i with rx := some e, deltas := [], bad := false, commit := none }

/-- The second boundary from now on. -/
def State.ckDeadline (s : State) : Nat := (s.poolSpan + 2) * spanCy

/-- R568: the epoch in reception is complete, or fails its checks. -/
def State.ckCheck (s : State) (i : Nat) : State :=
  let g := s.guard i
  match g.rx, g.commit with
  | some e, some (flags, count, ecrc, h) =>
    let ds := (List.range count).map fun k => g.deltas.find? fun d => d.1 = k
    if ds.any Option.isNone then s
    else
      let ds := ds.filterMap id
      let inSeq := flags % 2 = 1 || g.committed = some (e - 1) && decide (1 ≤ e)
      if g.bad || crc32c (ds.flatMap (·.2.2)) ≠ ecrc || !inSeq then s.setGuard i { g with bad := true }
      else
        let ranges := ds.map fun d => (d.2.1, d.2.2.length - 16)
        let n := ((ranges.map fun r => ceilDiv r.2 64)).sum
        s.setGuard i { g with
          rx := none
          deltas := []
          commit := none
          copy := some ⟨s.uptime + n + 4096, e, if flags / 2 % 2 = 1 then some h else none, ranges⟩ }
  | _, _ => s

/-- DELTA (R568): staged at its offset. -/
def execDelta (s : State) : Host.Outcome State Fault Refusal :=
  .next (s.takeFrame 8 fun r s =>
    let s := s.bump pgPool 2
    match s.standbyOf (beAt r.body 4 2 % 4096) with
    | none => s
    | some (i, g) =>
      let e := beAt r.body 0 4
      let ofs := beAt r.body 8 4
      let data := r.body.drop 16
      if g.rx = none && g.committed = some e then s
      else
        let s := s.ckEpoch i e
        let s := s.setGuard i { s.guard i with deadline := s.ckDeadline }
        if r.src ≠ g.partner || decide (g.size * 64 < ofs + data.length) then s.setGuard i { s.guard i with bad := true }
        else
          let w := s.dynWrite ⟨236, 2, 0, 0⟩ (g.stg + ofs) data
          let g := w.2.guard i
          (w.2.setGuard i { g with deltas := g.deltas ++ [(beAt r.body 6 2, ofs, r.body)], bad := g.bad || !w.1 }).ckCheck i)

/-- COMMIT (R568). -/
def execCommit (s : State) : Host.Outcome State Fault Refusal :=
  .next (s.takeFrame 9 fun r s =>
    match s.standbyOf (beAt r.body 4 2 % 4096) with
    | none => s
    | some (i, g) =>
      if r.src ≠ g.partner then s
      else
        let s := s.ckEpoch i (beAt r.body 0 4)
        (s.setGuard i { s.guard i with
          commit := some (beAt r.body 6 2, beAt r.body 8 4, beAt r.body 12 4, beAt r.body 16 8)
          deadline := s.ckDeadline }).ckCheck i)

/-- The staged ranges go into the mirror. -/
def State.ckCopy (s : State) (g : Guard) : List (Nat × Nat) → Bool × State
  | [] => (true, s)
  | (ofs, n) :: l =>
    match s.dynRead ⟨236, 2, 0, 0⟩ (g.stg + ofs) n with
    | (none, s) => (false, s)
    | (some v, s) =>
      let w := s.dynWrite ⟨236, 2, 0, 0⟩ (g.mir + ofs) (bytesOf n v)
      if w.1 then w.2.ckCopy g l else (false, w.2)

/-- CHECKPOINT_COPY_DONE (R568, R569): the epoch becomes the committed one; ACK is sent; a TAKE that waited is decided. -/
def execCheckpointCopyDone (i : Fin 256) (s : State) : Host.Outcome State Fault Refusal :=
  let n := i.val
  let g := s.guard n
  .next (
    match g.copy with
    | some c =>
      if !s.poolOn || decide (s.uptime < c.due) then s
      else
        let r := s.ckCopy g c.ranges
        let s := r.2
        let g := s.guard n
        let s := if r.1 then
            (s.setGuard n { g with copy := none, committed := some c.epoch, final := c.final.or g.final }).ackSend g c.epoch false
          else ((s.setGuard n { g with copy := none }).plEvent Ev.CK_BAD n g.ctx).ackSend g c.epoch true
        if (s.guard n).takeWait then s.takeGo n else s
    | none => s)

/-- CK_BAD (R568): a failed epoch, or one not complete by its deadline. -/
def execCkBad (i : Fin 256) (s : State) : Host.Outcome State Fault Refusal :=
  let g := s.guard i.val
  .next (
    if s.poolActs && g.rx.isSome && ((g.bad && g.commit.isSome) || decide (g.deadline ≤ s.now)) then s.ckFail i.val else s)

/-! ## The staging registers (R577) -/

/-- POOL_M_IDX_WRITE: loads the chip's status. -/
def execPoolMIdxWrite (w : Who) (value : Nat) (s : State) : Host.Outcome State Fault Refusal :=
  .next (s.command w pgPool 0x160 value fun s =>
    let m := value % 2048
    let x := s.peer m
    let inView := match s.pl.active with
      | some v => v.members.contains m
      | none => false
    s.setReg pgPool 0x164 (BitVec.ofNat 32 (inView.toNat <<< 31 + x.failed.toNat <<< 30 + x.suspect.toNat <<< 29
      + (decide (x.disc ≠ 0)).toNat <<< 28 + (x.link % 16) <<< 24 + (x.miss % 256) <<< 16 + (x.last - 1) % 65536)))

/-- POOL_G_IDX_WRITE: loads the guard's words and status. -/
def execPoolGIdxWrite (w : Who) (value : Nat) (s : State) : Host.Outcome State Fault Refusal :=
  .next (s.command w pgPool 0x170 value fun s =>
    let g := s.guard (value % 256)
    let s := (s.setReg pgPool 0x174 (BitVec.ofNat 32 g.cfg)).put pgPool Rg.POOL_G_SIZE g.size
    let s := ((s.put64 pgPool Rg.POOL_G_MIR_LO g.mir).put64 pgPool Rg.POOL_G_STG_LO g.stg).put64 pgPool Rg.POOL_G_H_LO g.h
    s.showGuard g)

end Sys2Proof.Machine
end

