-- ==== Sys2Proof/Machine/Cores.lean ====
section
/-! DEFINITION. Cores and clusters: reset and release, fences, cache-block operations, waiting, timers and performance levels
(R444–R454, R592). -/
namespace Sys2Proof.Machine

/-- R444, R474: a core that HOLD takes into reset; the lines that it made dirty are written back first. -/
def State.holdCore (s : State) (h : Nat) : State :=
  let s := (s.ab.cache.filter fun l => l.dirty && l.core = h).foldl (fun s l => s.clean l.line) s
  let x := s.hart h
  let s := { s with mu := { s.mu with resv := s.mu.resv.filter fun r => r.1 != 216 + h } }
  (s.setHart h { Hart.zero with mei := x.mei, sei := x.sei, mti := x.mti }).showCluster (h / 4)

/-- R444: a core leaves reset at CL_BOOT, in M-mode. -/
def State.startCore (s : State) (h : Nat) : State :=
  let x := s.hart h
  (s.setHart h { Hart.zero with
    mei := x.mei, sei := x.sei, mti := x.mti, running := true, pc := s.get64 (pgCluster (h / 4)) Rg.CL_BOOT_LO / 4 * 4 }).showCluster
      (h / 4)

/-- The cores of a cluster follow CL_RST.HOLD (R444). -/
def State.holdFollow (s : State) (c : Nat) : State :=
  (List.range 4).foldl (fun s i =>
    let h := 4 * c + i
    let hold := (s.get (pgCluster c) Rg.CL_RST).testBit i
    if hold && (s.hart h).running then s.holdCore h
    else if !hold && !(s.hart h).running && s.domOn (8 + c) then s.startCore h
    else s) s

/-- CORE_HOLD (R444): a write of CL_RST that sets the HOLD bit of core `h`. -/
def execCoreHold (w : Who) (h : Fin 16) (s : State) : Host.Outcome State Fault Refusal :=
  let c := h.val / 4
  .next (s.command w (pgCluster c) 0x104 (s.get (pgCluster c) Rg.CL_RST ||| 2 ^ (h.val % 4)) fun s => s.holdFollow c)

/-- CORE_RELEASE (R444): a write of CL_RST that clears the HOLD bit of core `h`. -/
def execCoreRelease (w : Who) (h : Fin 16) (s : State) : Host.Outcome State Fault Refusal :=
  let c := h.val / 4
  let v := s.get (pgCluster c) Rg.CL_RST
  .next (s.command w (pgCluster c) 0x104 (if v.testBit (h.val % 4) then v - 2 ^ (h.val % 4) else v) fun s => s.holdFollow c)

/-- CBO (R446): CBO.INVAL (0), CBO.CLEAN (1) or CBO.FLUSH (2) of the line at x[rs1]. menvcfg and senvcfg may forbid it below
M-mode, and may make an INVAL flush. -/
def execCbo (h : Fin 16) (op : Fin 3) (rs1 : Fin 32) (s : State) : Host.Outcome State Fault Refusal :=
  .next (s.instr h.val fun x s =>
    let m := x.get csrMenvcfg
    let e := x.get csrSenvcfg
    let cbie := if x.priv = 3 then 3 else if x.priv = 1 then bits m 5 4
      else if bits m 5 4 = 0 || bits e 5 4 = 0 then 0 else if bits m 5 4 = 1 || bits e 5 4 = 1 then 1 else 3
    let cbcfe := x.priv = 3 || (m.testBit 6 && (x.priv = 1 || e.testBit 6))
    if (op.val = 0 && cbie = 0) || (op.val ≠ 0 && !cbcfe) then s.setHart h.val x.illegal
    else
      let va := x.reg rs1.val / 64 * 64
      let pa := match s.translate x va 64 0 with
        | .ok a => Except.ok a
        | .error _ => s.translate x va 64 1
      match pa with
      | .error c => s.setHart h.val (x.trap false c va)
      | .ok a =>
        let s :=
          if bulkEnd ≤ a then s
          else if op.val = 1 then s.clean (a / 64)
          else if op.val = 2 || cbie = 1 then (s.clean (a / 64)).inval (a / 64)
          else s.inval (a / 64)
        s.setHart h.val x.next)

/-- FENCE (R448). Every earlier store of the hart has been performed when its command ended: the fence completes at once. -/
def execFence (h : Fin 16) (s : State) : Host.Outcome State Fault Refusal :=
  .next (s.instr h.val fun x s => s.setHart h.val x.next)

/-- WFI (R592): the hart's clock stops until an interrupt is pending for it. In U-mode, and in S-mode with mstatus.TW, it is
illegal. -/
def execWfi (h : Fin 16) (s : State) : Host.Outcome State Fault Refusal :=
  .next (s.instr h.val fun x s =>
    let pending := (s.mip h.val &&& x.get csrMie) ≠ 0
    if !pending && (x.priv = 0 || (x.priv = 1 && (x.get csrMstatus).testBit 21)) then s.setHart h.val x.illegal
    else (s.setHart h.val { x.next with wfi := !pending }).showCluster (h.val / 4))

/-- R452: the timer line of hart `h` follows the air count and its compare register. -/
def State.timer (s : State) (h : Nat) : State :=
  s.setHart h { s.hart h with mti := decide (s.get64 (pgCluster (h / 4)) Rg.CL_MTIMECMP_LO (h % 4) ≤ s.now) }

/-- MTIMECMP_MATCH (R452): the comparison of a hart's compare register with the air count takes effect. -/
def execMtimecmpMatch (h : Fin 16) (s : State) : Host.Outcome State Fault Refusal :=
  .next (if s.domOn (8 + h.val / 4) then s.timer h.val else s)

/-- R454: a change of level begins when REQ differs from the current level and none is in progress. -/
def State.levelStart (s : State) (c : Nat) : State :=
  let p := pgCluster c
  if !s.flag p Rg.CL_PLEVEL_BUSY && s.get p Rg.CL_PLEVEL_REQ ≠ s.get p Rg.CL_PLEVEL_CUR then
    { (s.put p Rg.CL_PLEVEL_BUSY 1) with
      ab := { s.ab with target := Sparse.set nat0 s.ab.target c (s.get p Rg.CL_PLEVEL_REQ) } }
  else s

/-- CLUSTER_PLEVEL_REQUEST (R454): a write of CL_PLEVEL. -/
def execClusterPlevelRequest (w : Who) (c : Fin 4) (value : Nat) (s : State) : Host.Outcome State Fault Refusal :=
  .next (s.command w (pgCluster c.val) 0x110 value fun s => s.levelStart c.val)

/-- PLEVEL_DONE (R454): the PLL relocks and the cores return to it; a request written meanwhile begins. -/
def execPlevelDone (c : Fin 4) (s : State) : Host.Outcome State Fault Refusal :=
  let p := pgCluster c.val
  .next (
    if s.domOn (8 + c.val) && s.flag p Rg.CL_PLEVEL_BUSY then
      let s := (s.put p Rg.CL_PLEVEL_CUR (Sparse.get nat0 s.ab.target c.val)).put p Rg.CL_PLEVEL_BUSY 0
      (s.event p Ev.PLEVEL_DONE_58).levelStart c.val
    else s)

end Sys2Proof.Machine
end

