-- ==== Sys2Proof/Machine/Cpri.lean ====
section
/-! DEFINITION. CPRI (R367–R372, R374): start-up, release and transmission of basic frames, the time-slot interchange, defects. -/
namespace Sys2Proof.Machine

/-- The signed distance of now from the transmit grid's origin. -/
def State.gridPos (s : State) (p : Nat) : Int := (s.now : Int) - (s.get64 (pgCp p) Rg.CP_ORG_LO : Nat)

/-- R368: the IQ bits of a basic frame. -/
def State.iqBits (s : State) (p : Nat) : Nat := [1920, 2400, 2880, 5760].getD (s.pers (s.cpLane p) - 4) 0

/-- A stream attribute word: EN, W, SPB. -/
def stEn (v : Nat) : Bool := bits v 31 31 = 1
def stW (v : Nat) : Nat := bits v 20 16
def stSpb (v : Nat) : Nat := bits v 4 0

/-- Entry `e` of a connection page. -/
def State.cpEntry (s : State) (p : Nat) (tx : Bool) (pg e : Nat) : Nat :=
  (s.reg (pgCp p) ((if tx then 0xA00 else 0x600) + 0x200 * pg + 4 * e)).toNat

/-- The valid containers of a page: stream, first bit, length in bits. -/
def State.containers (s : State) (p : Nat) (tx : Bool) (pg : Nat) : List (Nat × Nat × Nat) :=
  (List.range 128).filterMap fun e =>
    let v := s.cpEntry p tx pg e
    let a := s.cpStream p tx (bits v 30 24)
    if bits v 31 31 = 1 then some (bits v 30 24, bits v 12 0, stSpb a * 2 * stW a) else none

/-- R371: no container of the page overlaps another or passes the IQ block. -/
def State.pageOk (s : State) (p : Nat) (tx : Bool) (pg : Nat) : Bool :=
  let l := s.containers p tx pg
  let disjoint := fun (a b : Nat × Nat × Nat) => decide (a.2.1 + a.2.2 ≤ b.2.1) || decide (b.2.1 + b.2.2 ≤ a.2.1)
  (l.all fun c => decide (c.2.1 + c.2.2 ≤ s.iqBits p))
    && (l.zipIdx).all fun a => (l.zipIdx).all fun b => a.2 = b.2 || disjoint a.1 b.1

/-! ## Start-up (R369) -/

/-- CPRI_HF_SYNC (R369, R370): hyperframe synchronisation, with the measured offset. -/
def execCpriHfSync (port : Fin 32) (ofs : BitVec 32) (s : State) : Host.Outcome State Fault Refusal :=
  let p := port.val
  .next (
    if s.get (pgCp p) Rg.CP_STAT_STATE = 1 then
      ((s.put (pgCp p) Rg.CP_RXOFS ofs.toNat).setDefect p 1 false Ev.CP_LOF).cpState p 2
    else s)

/-- CPRI_HF_SYNC_LOSS (R369, R372). -/
def execCpriHfSyncLoss (port : Fin 32) (s : State) : Host.Outcome State Fault Refusal :=
  let p := port.val
  .next (
    if 1 < s.get (pgCp p) Rg.CP_STAT_STATE then (s.setDefect p 1 true Ev.CP_LOF).cpBack p else s)

/-- CPRI_PROTOCOL_SETUP (R369). -/
def execCpriProtocolSetup (port : Fin 32) (s : State) : Host.Outcome State Fault Refusal :=
  .next (if s.get (pgCp port.val) Rg.CP_STAT_STATE = 2 then s.cpState port.val 3 else s)

/-- CPRI_CM_SETUP (R369): the partner's pointer, which must echo CP_CM. -/
def execCpriCmSetup (port : Fin 32) (ptr : Fin 64) (s : State) : Host.Outcome State Fault Refusal :=
  let p := port.val
  .next (
    if s.get (pgCp p) Rg.CP_STAT_STATE = 3 ∧ ptr.val = s.get (pgCp p) Rg.CP_CM then s.cpState p 4 else s)

/-- What a write of CP_CTRL does. -/
def State.cpGo (s : State) (p value : Nat) : State :=
  if value % 2 = 1 ∧ s.get (pgCp p) Rg.CP_STAT_STATE = 4 then s.cpState p 5 else s

/-- CPRI_GO_F (R369, R378). -/
def execCpriGoF (w : Who) (port : Fin 32) (value : Nat) (s : State) : Host.Outcome State Fault Refusal :=
  .next (s.command w (pgCp port.val) 0x104 value fun s => s.cpGo port.val value)

/-! ## Reception -/

/-- The bytes of a container's samples in C16 (R371): received, or substituted (R372). -/
def containerBytes (attr ofs iq : Nat) (good : Bool) : List Nat :=
  let w := stW attr
  (List.range (2 * stSpb attr)).flatMap fun h =>
    let m : Int := if good then toInt w (ofMsb ((List.range w).map fun i => iq.testBit (ofs + w * h + i))) else -1
    bytesOf 2 (ofInt 16 (m * 2 ^ (16 - w)))

/-- The next basic frame for one buffer; it is placed 256 cy after its release. -/
def State.feedBuffer (s : State) (x : RxBuf) (good : Bool) (iq : Nat) : RxBuf :=
  let attr := s.cpStream x.port false x.flow
  let c := (s.containers x.port false (s.cp x.port).rxPage).find? fun c => c.1 = x.flow
  let here := good && stEn attr && c.isSome
  let ofs := match c with
    | some c => c.2.1
    | none => 0
  let d := containerBytes attr ofs iq here
  { x with next := x.next + 1, pend := x.pend ++ [(s.uptime + 256, if here then x.next else 2 ^ 16 + x.next, d)] }

/-- The receive side follows a page switch at the released hyperframe of the same number (R371). -/
def State.rxFollow (s : State) (p : Nat) : State :=
  let x := s.cp p
  match x.rxSwitch with
  | some a => if a + s.get (pgCp p) Rg.CP_RXDLY ≤ s.now then s.setCp p { x with rxPage := 1 - x.rxPage, rxSwitch := none } else s
  | none => s

/-- CPRI_BASIC_FRAME_RELEASE (R370, R372): at G_n + CP_RXDLY. `lead` is how long before its release the frame arrived
(`none`: it has not), `iq` its IQ block, bit i at position i. -/
def execCpriBasicFrameRelease (port : Fin 32) (lead : Option Nat) (iq : Nat) (s : State) : Host.Outcome State Fault Refusal :=
  let p := port.val
  let g := pgCp p
  let pos := s.gridPos p - (s.get g Rg.CP_RXDLY : Nat)
  .next (
    if !(s.enabled g) || !(s.domOn (72 + p / 4)) || pos % 512 ≠ 0 then s
    else
      let s := if pos % 131072 = 0 then s.rxFollow p else s
      let hit := s.ptTake g [3]
      let lead := if hit.1.isSome then none else lead
      let s := hit.2.bump g 0xF0 (s.iqBits p * 2 / 15)
      let state := s.get g Rg.CP_STAT_STATE
      let early := match lead with
        | some l => decide (32768 < l)
        | none => false
      let s := if state < 2 then s
        else if lead.isNone then (s.satAdd g Rg.CP_CNT 1 1).event g Ev.RX_LATE
        else if early then (s.satAdd g Rg.CP_CNT 1 2).event g Ev.RX_EARLY
        else s
      let good := lead.isSome && !early && decide (state = 5) && !(s.cp p).subst
      let s := s.bump g 1
      let s := if good then s else (s.satAdd g Rg.CP_CNT 1 0).bump g 2
      { s with fh := { s.fh with
        rx := s.fh.rx.map fun x =>
          if x.kind = 2 && x.port = p && decide (x.openAir ≤ s.now) && decide (x.next < x.count) then s.feedBuffer x good iq
          else x } })

/-- The basic frames of one buffer that are due are placed. -/
def State.placeCpri (s : State) (x : RxBuf) : State :=
  let due := x.pend.filter fun e => decide (e.1 ≤ s.uptime)
  let spb := stSpb (s.cpStream x.port false x.flow)
  let s := due.foldl
    (fun s e => s.detLand s.uptime (auUnit x.au) (auSource x.au) 0 0 (deckOf x.base + 4 * (e.2.1 % 2 ^ 16) * spb) e.2.2) s
  s.setRx { x with
    pend := x.pend.filter fun e => decide (s.uptime < e.1)
    arrived := x.arrived ++ ((due.map fun e => e.2.1).filter fun b => decide (b < 2 ^ 16)) }

/-- R371: placement of released basic frames. Called at every cy. -/
def State.cpTick (s : State) : State :=
  (s.fh.rx.filter fun x => x.pend.any fun e => decide (e.1 ≤ s.uptime)).foldl State.placeCpri s

/-! ## Transmission -/

/-- The halves of a transmitted container in their bit positions. -/
def containerBits (w ofs : Nat) (samples : List Nat) : Nat :=
  let hs := samples.flatMap fun v => [toInt 16 v, toInt 16 (v / 2 ^ 16)]
  let bs := hs.flatMap fun x => msbBits w (ofInt w (Config.cpriHalf w x))
  (bs.zipIdx).foldl (fun a e => if e.1 then a + 2 ^ (ofs + e.2) else a) 0

/-- One container of the transmit page in the basic frame at grid instant `now`. -/
def State.sendContainer (s : State) (p : Nat) (c : Nat × Nat × Nat) : Nat × State :=
  let attr := s.cpStream p true c.1
  if !(stEn attr) then (0, s)
  else
    match (s.cp p).data.find? fun d => d.stream = c.1 && d.grid = s.now && decide (d.stands + 1024 ≤ s.now) with
    | some d => (containerBits (stW attr) c.2.1 d.samples, s)
    | none =>
      (0, ((s.satAdd (pgCp p) Rg.CP_CNT 1 3).bump (pgCp p) 3).event (pgCp p) Ev.TX_UNDERRUN 0 0 (c.1 <<< 16))

/-- CPRI_BASIC_FRAME_SEND (R368, R371, R372): at G_n. Zero in every container outside state F, while the lease has lapsed or no
plan runs (which sets SDI), and where the mode forbids transmission (R598). -/
def execCpriBasicFrameSend (port : Fin 32) (s : State) : Host.Outcome State Fault Refusal :=
  let p := port.val
  let g := pgCp p
  .next (
    if !(s.enabled g) || !(s.domOn (72 + p / 4)) || s.gridPos p % 512 ≠ 0 then s
    else
      let live := decide (s.get g Rg.CP_STAT_STATE = 5) && s.leaseHolds && s.planTx && s.portDrives g (72 + p / 4)
      let r := if live then
          (s.containers p true (s.get g Rg.CP_STAT_ACT_PAGE)).foldl
            (fun r c => let q := r.2.sendContainer p c; (r.1 ||| q.1, q.2)) (0, s)
        else (0, s)
      let x := r.2.cp p
      (r.2.bump g 0xF1 (s.iqBits p * 2 / 15)).setCp p { x with line := r.1, sdi := !(s.leaseHolds), data := x.data.filter fun d => decide (s.now < d.grid) })

/-! ## Connection pages -/

/-- What a write of CP_TSI does. -/
def State.tsiRequest (s : State) (p value : Nat) : State :=
  if value % 2 = 1 then s.setCp p { s.cp p with tsi := some s.now } else s

/-- CPRI_TSI_SWITCH_REQUEST (R371). -/
def execCpriTsiSwitchRequest (w : Who) (port : Fin 32) (value : Nat) (s : State) : Host.Outcome State Fault Refusal :=
  .next (s.command w (pgCp port.val) 0x124 value fun s => s.tsiRequest port.val value)

/-- PAGE_SWITCHED (R371): at the first transmit hyperframe boundary at least 1,024 cy after the request. -/
def execPageSwitched (port : Fin 32) (s : State) : Host.Outcome State Fault Refusal :=
  let p := port.val
  let g := pgCp p
  .next (
    match (s.cp p).tsi with
    | none => s
    | some t =>
      if s.now < t + 1024 ∨ s.gridPos p % 131072 ≠ 0 then s
      else
        let act := s.get g Rg.CP_STAT_ACT_PAGE
        let ok := s.pageOk p false (1 - act) && s.pageOk p true (1 - act)
        let x := s.cp p
        if ok then
          let s := s.setCp p { x with tsi := none, rxSwitch := some s.now }
          ((s.put g Rg.CP_STAT_ACT_PAGE (1 - act)).put64 g Rg.CP_TSI_AIR_LO s.now).event g Ev.PAGE_SWITCHED
        else (s.setCp p { x with tsi := none }).event g Ev.PAGE_BAD)

/-! ## Defects -/

/-- R372: the invalid headers that a degradation window tolerates; a radio frame lasts 10 ms. -/
def State.degLimit (s : State) (p : Nat) : Nat :=
  streamRate (s.pers (s.cpLane p)) * 10 / 66 * s.get (pgCp p) Rg.CP_DEG_WIN / 10 ^ max 3 (min 9 (s.get (pgCp p) Rg.CP_DEG_EXP))

/-- CP_DEG (R372): a degradation window ends, with its count of invalid headers. -/
def execCpDeg (port : Fin 32) (bad : Nat) (s : State) : Host.Outcome State Fault Refusal :=
  let p := port.val
  let x := s.cp p
  .next (
    if !(s.enabled (pgCp p)) || decide (s.now < x.deg + s.get (pgCp p) Rg.CP_DEG_WIN * 19660800) then s
    else
      let s := s.setCp p { x with deg := s.now }
      (s.bump (pgCp p) 5 bad).setDefect p 2 (decide (s.degLimit p < bad)) Ev.CP_DEG)

/-- CPRI_CONTROL_WORD_RECEIVE (R372, R378): RAI and SDI of the partner, and its vendor-specific word. -/
def execCpriControlWordReceive (port : Fin 32) (rai sdi : Bool) (data : BitVec 32) (s : State) :
    Host.Outcome State Fault Refusal :=
  let p := port.val
  let g := pgCp p
  .next (
    if s.get g Rg.CP_STAT_STATE < 2 then s
    else
      let s := (s.put g Rg.CP_CW_RX data.toNat).setDefect p 3 rai Ev.CP_RAI
      let s := if sdi && !(s.cp p).sdiIn then s.event g Ev.CP_SDI else s
      s.setCp p { s.cp p with sdiIn := sdi })

/-- CPRI_SUBST_END (R372): the first hyperframe released at least CP_HOLD hyperframes after the defect clears. -/
def execCpriSubstEnd (port : Fin 32) (s : State) : Host.Outcome State Fault Refusal :=
  let p := port.val
  let g := pgCp p
  let x := s.cp p
  .next (
    if x.subst && !(s.cpDefect p) && decide (x.clear + s.get g Rg.CP_DEG_HOLD * 131072 ≤ s.now)
        && decide ((s.gridPos p - (s.get g Rg.CP_RXDLY : Nat)) % 131072 = 0) then
      s.setCp p { x with subst := false }
    else s)

/-- CP_PARTNER_LOST (R374). -/
def execCpPartnerLost (port : Fin 32) (s : State) : Host.Outcome State Fault Refusal :=
  let p := port.val
  let x := s.cp p
  .next (
    match x.fault with
    | some t =>
      if !x.lost && decide (t + s.get (pgCp p) Rg.CP_LOSTMS * 1966080 ≤ s.uptime) then
        (s.setCp p { x with lost := true }).event (pgCp p) Ev.CP_PARTNER_LOST
      else s
    | none => s)

end Sys2Proof.Machine
end

