-- ==== Sys2Proof/Machine/Keystone.lean ====
section
/-! DEFINITION. The Keystone: the array, segments, records, the scan, live records and epochs, compaction, the mailbox (spec
chapter 16). -/
namespace Sys2Proof.Machine

def erased : Nat := 2 ^ 64 - 1
def ksWord0 : Nat → Nat := fun _ => erased
def ksSeg0 : Nat → KsSeg := fun _ => KsSeg.unknown

def State.setKs (s : State) (k : Ks) : State := { s with ks := k }

/-- The index of word 0 of the array among all 8-byte words. -/
def ksEcc0 : Nat := keystoneBase / 8

/-- Word `i` of the array as it lies there. -/
def State.ksRaw (s : State) (i : Nat) : Nat := Sparse.get ksWord0 s.ks.words i

def State.ksKind (s : State) (i : Nat) : Nat := (Sparse.get ecc0 s.mu.ecc (ksEcc0 + i)).kind

/-- Word `i` as the engine reads it: `none` when it is uncorrectable. -/
def State.ksWord (s : State) (i : Nat) : Option Nat := if 2 ≤ s.ksKind i then none else some (s.ksRaw i)

/-- All 72 bits are 1. -/
def State.ksErased (s : State) (i : Nat) : Bool := s.ksKind i = 0 && s.ksRaw i = erased

def State.seg (s : State) (n : Nat) : KsSeg := Sparse.get ksSeg0 s.ks.segs n
def State.setSeg (s : State) (n : Nat) (x : KsSeg) : State := s.setKs { s.ks with segs := Sparse.set ksSeg0 s.ks.segs n x }

/-- R542: a Keystone event: an offset of the read window, the partition in DETAIL[31:24], the OP in DETAIL[23:16]. -/
def State.ksEvent (s : State) (code : Nat) (ofs part op : Nat := 0) : State :=
  s.event pgKeystone code 0 ofs ((part % 256) <<< 24 + (op % 256) <<< 16)

/-! ## Words, check pairs, programs -/

/-- R517: a check pair. -/
def checkPair (v : Nat) : Nat := v <<< 32 + (v ^^^ 0xFFFFFFFF)

/-- CRC-32C over the little-endian bytes of words (R517). -/
def wordsCrc (l : List Nat) : Nat := crc32c (l.flatMap (bytesOf 8))

/-- R517: a check word passes. -/
def pairOk (w : Option Nat) : Bool :=
  match w with
  | some v => checkPair (v / 2 ^ 32) = v
  | none => false

/-- R515: a word whose program is interrupted: still erased, at its target, or between them. -/
def State.tearWord (s : State) (i v : Nat) : State :=
  let f := s.fresh
  let s := f.2
  let part := v ||| (f.1 / 4 % 2 ^ 64)
  if f.1 % 4 = 0 then s
  else if f.1 % 4 = 1 then s.setKs { s.ks with words := Sparse.set ksWord0 s.ks.words i v }
  else
    let s := s.setKs { s.ks with words := Sparse.set ksWord0 s.ks.words i part }
    if f.1 % 4 = 2 then s.setEcc (ksEcc0 + i) ⟨2, 0⟩ else s

/-- R515: one word program. After a tear nothing is programmed. -/
def State.ksProgram (s : State) (i v : Nat) : State :=
  if s.ks.torn then s
  else
    let s := s.bump pgKeystone 1
    match s.ks.tear with
    | some 0 => (s.tearWord i v).setKs { (s.tearWord i v).ks with torn := true, tear := none }
    | t =>
      let s := s.setEcc (ksEcc0 + i) Ecc.clean
      s.setKs { s.ks with words := Sparse.set ksWord0 s.ks.words i v, tear := t.map (· - 1) }

/-- Programs words in address order. -/
def State.ksProgramAll (s : State) (i : Nat) : List Nat → State
  | [] => s
  | v :: l => (s.ksProgram i v).ksProgramAll (i + 1) l

/-! ## Records -/

/-- R519: the words of a record that the commit word covers. -/
def recordWords (part cls inst epoch schema len seq : Nat) (adopt copy tomb : Bool) (data : List Nat) : List Nat :=
  let h := [0x4B52 <<< 48 + part <<< 44 + adopt.toNat <<< 42 + copy.toNat <<< 41 + tomb.toNat <<< 40 + schema <<< 16 + len,
    cls <<< 32 + inst, epoch <<< 32, seq]
  h ++ [checkPair (wordsCrc h)] ++ data

/-- The words of a payload: bytes beyond LENGTH are 0. -/
def payloadWords (b : List Nat) : List Nat :=
  (List.range (ceilDiv b.length 8)).map fun i => ofBytes ((b.drop (8 * i)).take 8)

/-- R524: the live bytes of a record. -/
def KsRec.size (r : KsRec) : Nat := 48 + 8 * ceilDiv r.len 8

/-- R524: the key of a record: in CRASH its SEQ. -/
def KsRec.sameKey (a b : KsRec) : Bool :=
  a.part = b.part && (if a.part = 4 then a.seq = b.seq
    else a.cls = b.cls && (a.part = 6 || (a.inst = b.inst && (a.part ≠ 0 || a.epoch = b.epoch))))

/-- The payload words of a record. -/
def State.ksData (s : State) (r : KsRec) : List Nat := (List.range (ceilDiv r.len 8)).map fun i => s.ksRaw (r.at_ + 5 + i)

/-! ## Epochs (R531–R533) -/

/-- The newest intact record of a key. -/
def State.ksNewest (s : State) (part cls inst epoch : Nat) : Option KsRec :=
  (s.ks.recs.filter fun r => !r.corrupt && r.part = part && r.cls = cls && r.inst = inst && (part ≠ 0 || r.epoch = epoch)).foldl
    (fun o r => match o with
      | some q => if q.seq < r.seq then some r else o
      | none => some r) none

/-- The open record and the commit record of an epoch. -/
def State.epochOpen (s : State) (e : Nat) : Option KsRec :=
  match s.ksNewest 0 0xFFFFFFFE e e with
  | some r => if r.tomb || s.ks.gone.contains e then none else some r
  | none => none

def State.epochCommit (s : State) (e : Nat) : Option KsRec := s.ksNewest 0 0xFFFFFFFF e e

def State.epochBase (s : State) (e : Nat) : Nat :=
  match s.epochOpen e with
  | some r => s.ksRaw (r.at_ + 5) % 2 ^ 32
  | none => 0

/-- The members of an epoch: the newest record of each of its keys, in SEQ order. -/
def State.members (s : State) (e : Nat) : List KsRec :=
  let l := s.ks.recs.filter fun r => r.part = 0 && r.epoch = e && decide (r.cls < 0xFFFFFF00) && !r.corrupt
  sortBy (fun a b => decide (a.seq ≤ b.seq)) (l.filter fun r => !(l.any fun q => q.sameKey r && decide (r.seq < q.seq)))

/-- R531: COUNT and MCRC. -/
def State.memberSum (s : State) (e : Nat) : Nat × Nat :=
  let m := s.members e
  (m.length, crc32c (m.flatMap fun r => bytesOf 4 r.rcrc))

/-- R532: 0 unknown, 1 open, 2 committed, 3 incomplete. -/
def State.epochState (s : State) (e : Nat) : Nat :=
  if (s.epochOpen e).isNone then 0
  else
    match s.epochCommit e with
    | none => 1
    | some c => let w := s.ksRaw (c.at_ + 5); if (w % 2 ^ 32, w / 2 ^ 32) = s.memberSum e then 2 else 3

/-- R533: an epoch, its base, and so on. -/
def State.chain (s : State) : Nat → Nat → List Nat
  | 0, _ => []
  | n + 1, e => if e = 0 then [] else e :: s.chain n (s.epochBase e)

/-- The epochs that have an open record. -/
def State.epochs (s : State) : List Nat :=
  (s.ks.recs.filter fun r => r.part = 0 && r.cls = 0xFFFFFFFE && !r.corrupt && (s.epochOpen r.inst).isSome).map (·.inst)

/-- An epoch opened during the trial in progress. -/
def State.inTrial (s : State) (e : Nat) : Bool :=
  s.ks.boot.state = 1 && match s.epochOpen e with
    | some r => decide (s.ks.boot.trialSeq < r.seq)
    | none => false

/-- R533: the retained epochs. -/
def State.retained (s : State) : List Nat :=
  let b := s.ks.boot
  let roots := (s.epochs.filter fun e => (s.epochCommit e).isNone || s.inTrial e) ++ [b.confEpoch]
    ++ (if b.prevV then [b.prevEpoch] else []) ++ (if b.state = 1 then [b.trialBase] else [])
  (roots.flatMap fun e => s.chain 9 e).eraseDups

/-- R525: the live records. -/
def State.liveRecs (s : State) : List KsRec :=
  let kept := s.retained
  s.ks.recs.filter fun r => !r.corrupt && !r.retired && (r.part ≠ 0 || kept.contains r.epoch)
    && !(s.ks.recs.any fun q => !q.corrupt && q.sameKey r && decide (r.seq < q.seq))

/-- The live bytes of a partition, and of a segment. -/
def State.liveBytes (s : State) (part : Nat) : Nat := ((s.liveRecs.filter fun r => r.part = part).map KsRec.size).sum
def State.segLive (s : State) (n : Nat) : Nat := ((s.liveRecs.filter fun r => r.at_ / 8192 = n).map KsRec.size).sum

/-- R524: the quotas. -/
def quota (part : Nat) : Nat := [4194304, 4194304, 262144, 1048576, 4194304, 1048576, 65536].getD part 0

/-! ## The scan (R521, R522) -/

/-- A header's fields, when it is valid (R520). -/
def State.ksHeader (s : State) (n p : Nat) : Option KsRec :=
  let w := fun (j : Nat) => s.ksWord (8192 * n + p + j)
  match w 0, w 1, w 2, w 3 with
  | some h0, some h1, some h2, some h3 =>
    let len := h0 % 65536
    let ok := h0 / 2 ^ 48 = 0x4B52 && bits h0 47 44 = (s.seg n).part && bits h0 43 43 = 0 && bits h0 39 32 = 0
      && decide (len ≤ 16384) && h2 % 2 ^ 32 = 0 && h3 / 2 ^ 48 = 0 && w 4 = some (checkPair (wordsCrc [h0, h1, h2, h3]))
      && decide (p + 6 + ceilDiv len 8 ≤ 8192)
    if ok then
      some ⟨bits h0 47 44, h1 / 2 ^ 32, h1 % 2 ^ 32, h2 / 2 ^ 32, bits h0 31 16, len, h3, 8192 * n + p, 0, bits h0 40 40 = 1,
        bits h0 42 42 = 1, false, false⟩
    else none
  | _, _, _, _ => none

/-- The words of a record as they lie, with COPY as 0 for the RCRC (log entry 28). -/
def State.ksRcrc (s : State) (at_ len : Nat) : Nat :=
  let h := (List.range 4).map fun j => s.ksRaw (at_ + j)
  let h0 := h.getD 0 0
  let h := h.set 0 (if bits h0 41 41 = 1 then h0 - 2 ^ 41 else h0)
  wordsCrc (h ++ [checkPair (wordsCrc h)] ++ (List.range (ceilDiv len 8)).map fun j => s.ksRaw (at_ + 5 + j))

/-- Puts a committed record into the index; of copies that share a SEQ one stays. -/
def State.ksIndex (s : State) (r : KsRec) : State :=
  let s := s.setKs { s.ks with seq := max s.ks.seq (r.seq + 1), epoch := max s.ks.epoch r.epoch }
  if s.ks.recs.any fun q => q.seq = r.seq && q.part = r.part && !q.corrupt then s
  else s.setKs { s.ks with recs := (s.ks.recs.filter fun q => !(q.seq = r.seq && q.part = r.part)) ++ [r] }

/-- The records of a segment from word `p` on: torn and corrupt records found so far. -/
def State.scanRecs (s : State) (n : Nat) : Nat → Nat → Nat × Nat → (Nat × Nat) × State
  | 0, _, c => (c, s)
  | fuel + 1, p, c =>
    let close := fun (s : State) => s.setSeg n { s.seg n with state := 4, next := 8192 }
    let torn := (((c.1 + 1, c.2) : Nat × Nat), (close s).ksEvent Ev.TORN_RECORD (8 * (8192 * n + p)) (s.seg n).part)
    if 8192 ≤ p then (c, close s)
    else if s.ksErased (8192 * n + p) then (c, s.setSeg n { s.seg n with next := p })
    else
      match s.ksHeader n p with
      | none => torn
      | some r =>
        let k := ceilDiv r.len 8
        let last := 8192 * n + p + 5 + k
        let body := (List.range (5 + k)).map fun j => s.ksWord (8192 * n + p + j)
        if s.ksErased last || !(pairOk (s.ksWord last)) then torn
        else if body.all (·.isSome) && s.ksWord last = some (checkPair (wordsCrc (body.map (·.getD 0)))) then
          (s.ksIndex { r with rcrc := s.ksRcrc r.at_ r.len }).scanRecs n fuel (p + 6 + k) c
        else
          let s := s.ksEvent Ev.CORRUPT_RECORD (8 * (8192 * n + p)) (s.seg n).part
          let s := s.setKs { s.ks with
            recs := s.ks.recs ++ [{ r with corrupt := true }], seq := max s.ks.seq (r.seq + 1), epoch := max s.ks.epoch r.epoch }
          s.scanRecs n fuel (p + 6 + k) (c.1, c.2 + 1)

/-- One segment of the scan. -/
def State.scanSeg (s : State) (n : Nat) (c : Nat × Nat) : (Nat × Nat) × State :=
  let w := fun (j : Nat) => s.ksWord (8192 * n + j)
  let v := fun (j : Nat) => s.ksRaw (8192 * n + j)
  if !(w 3 = some (checkPair (wordsCrc [v 0, v 1, v 2])) && (w 0).isSome && (w 1).isSome && (w 2).isSome) then
    (c, s.setSeg n KsSeg.unknown)
  else
    let s := s.setKs { s.ks with seq := max s.ks.seq (v 1 % 2 ^ 48 + 1), epoch := max s.ks.epoch (v 2 / 2 ^ 32) }
    let x : KsSeg := ⟨1, 0, 8, v 0 % 2 ^ 32, false⟩
    if s.ksErased (8192 * n + 7) then (c, s.setSeg n x)
    else if !(pairOk (w 7)) then (c, s.setSeg n { x with state := 2 })
    else (s.setSeg n { x with state := 3, part := bits (v 4) 47 44 }).scanRecs n 8192 8 c

/-- The boot state in the 32 bytes of a record (R534). -/
def bootOf (w : List Nat) : KsBoot :=
  let b := w.flatMap (bytesOf 8)
  let g := fun (i : Nat) => b.getD i 0
  let n := fun (i k : Nat) => ofBytes ((b.drop i).take k)
  ⟨g 0, g 1, 128 ≤ g 2, g 2 % 2, g 3, g 4, g 5, n 8 4, n 12 4, n 16 4, n 20 6⟩

def bootBytes (b : KsBoot) : List Nat :=
  [b.state, b.confSlot, b.prevV.toNat * 128 + b.prevSlot, b.trialSlot, b.left, b.cause, 0, 0] ++ bytesOf 4 b.confEpoch
    ++ bytesOf 4 b.prevEpoch ++ bytesOf 4 b.trialBase ++ bytesOf 6 b.trialSeq ++ List.replicate 6 0

/-- R534: the boot state that the records give; a fallback has retired the epochs opened in its trial. -/
def State.loadBoot (s : State) : State :=
  let r := s.ksNewest 6 1 0 0
  let b := match r with
    | some r => bootOf (s.ksData r)
    | none => KsBoot.zero
  let seq := match r with
    | some r => r.seq
    | none => 0
  let adopt := (s.ks.recs.filter fun q => q.part = 0 && q.cls = 0xFFFFFFFF && q.adopt && !q.corrupt && decide (seq < q.seq)).foldl
    (fun (o : Option KsRec) q => match o with
      | some p => if p.seq < q.seq then some q else o
      | none => some q) none
  let b := match adopt with
    | some q => { b with confEpoch := q.inst }
    | none => b
  let gone := if b.state = 0 && b.trialSeq ≠ 0 then
      (s.ks.recs.filter fun (q : KsRec) => q.part = 0 && q.cls = 0xFFFFFFFE && decide (b.trialSeq < q.seq) && decide (q.seq < seq)).map (·.inst)
    else []
  s.setKs { s.ks with boot := b, gone := gone }

/-- KS_BOOT0–2, and the counts of KS_STAT, KS_WEAR and KS_SEQ (R543). -/
def State.showKs (s : State) : State :=
  let g := pgKeystone
  let b := s.ks.boot
  let segs := (List.range 512).map s.seg
  let er := segs.map (·.erases)
  let hi := er.foldl max 0
  let lo := er.foldl min hi
  let s := s.put g Rg.KS_STAT_FREE (segs.filter fun x => x.state = 1).length
  let s := ((s.put g Rg.KS_BOOT0_CAUSE b.cause).put g Rg.KS_BOOT0_TRIAL_LEFT b.left).put g Rg.KS_BOOT0_TRIAL_SLOT b.trialSlot
  let s := ((s.put g Rg.KS_BOOT0_PREV_SLOT b.prevSlot).put g Rg.KS_BOOT0_PREV_V b.prevV.toNat).put g Rg.KS_BOOT0_CONF_SLOT b.confSlot
  let s := ((s.put g Rg.KS_BOOT0_STATE b.state).put g Rg.KS_BOOT1 b.confEpoch).put g Rg.KS_BOOT2 b.prevEpoch
  let mille := hi * 1000 / 40000000
  let s := ((s.put g Rg.KS_WEAR mille).put g Rg.KS_WEAR_MAX hi).put g Rg.KS_WEAR_MIN lo
  let s := s.put64 g Rg.KS_SEQ_LO s.ks.seq
  if 800 ≤ mille ∧ ¬ s.ks.warned then (s.setKs { s.ks with warned := true }).ksEvent Ev.WEAR_WARN else s

/-- R524, R541: the oldest CRASH records retire until `n` more bytes fit. -/
def State.retireCrash (s : State) : Nat → Nat → State
  | 0, _ => s
  | fuel + 1, n =>
    let l := s.liveRecs.filter fun r => r.part = 4
    if (l.map KsRec.size).sum + n ≤ quota 4 then s
    else
      match l.foldl (fun (o : Option KsRec) r => match o with
          | some q => if r.seq < q.seq then some r else o
          | none => some r) none with
      | none => s
      | some r => (s.setKs { s.ks with recs := s.ks.recs.map fun q => if q = r then { q with retired := true } else q }).retireCrash fuel n

/-- R521, R522, R532: the scan of the whole array. -/
def State.ksScan (s : State) : State :=
  let s := s.setKs { s.ks with segs := [], recs := [], gone := [], tear := none, torn := false }
  let r := (List.range 512).foldl (fun r n => r.2.scanSeg n r.1) ((0, 0), s)
  let s := r.2
  let top := ((List.range 512).map fun n => (s.seg n).erases).foldl max 0
  let unk := (List.range 512).filter fun n => (s.seg n).state = 0
  let s := unk.foldl (fun s n => s.setSeg n { s.seg n with erases := top + 1 }) s
  let s := if unk.isEmpty then s else s.ksEvent Ev.WEAR_ESTIMATED
  let s := (s.loadBoot).retireCrash 65536 0
  let s := (s.epochs.filter fun e => s.epochState e = 3).foldl (fun s _ => s.ksEvent Ev.EPOCH_INCOMPLETE) s
  let s := (s.put pgKeystone Rg.KS_SCAN0_TORN (min 65535 r.1.1)).put pgKeystone Rg.KS_SCAN0_CORRUPT (min 65535 r.1.2)
  (s.put pgKeystone Rg.KS_SCAN1 s.liveRecs.length).showKs

/-- R581: the rail table of the Keystone, whose words hold the registers in address order (log entry 33). -/
def State.readRails (s : State) : State :=
  match s.ksNewest 1 0x100 0 0 with
  | none => s
  | some r =>
    if r.tomb then s
    else
      let ws := s.ksData r
      (List.range 16).foldl (fun s n =>
        let w := if n < ws.length then ws.getD n 0 else 0xFF <<< 16
        (s.setReg pgPwr (0x140 + 8 * n) (BitVec.ofNat 32 w &&& 0x83FF007F)).setReg pgPwr (0x144 + 8 * n) (BitVec.ofNat 32 (w / 2 ^ 32))) s

/-- R626: the Keeper loads the tamper configuration at each start, as it reads the rail table (log entry 33). -/
def State.readTamper (s : State) : State :=
  match s.ksNewest 1 0x101 0 0 with
  | none => s
  | some r =>
    if r.tomb || s.locked pgParapet then s
    else
      let ws := s.ksData r
      (List.range 4).foldl (fun s n =>
        let w := ws.getD (n / 2) 0 / 2 ^ (32 * (n % 2))
        s.setReg pgParapet (0x110 + 4 * n) (BitVec.ofNat 32 w &&& 0xE3FFFF00)) s

/-! ## Segments: erase, open, append -/

def State.freeSegs (s : State) : List Nat := (List.range 512).filter fun n => (s.seg n).state = 1

/-- R515, R517, R518: a segment is erased and gets its erase header. -/
def State.eraseSeg (s : State) (n : Nat) : State :=
  if s.ks.torn then s
  else
    let e := (s.seg n).erases + 1
    let lo := 8192 * n
    let s := { s with mu := { s.mu with
      ecc := Sparse.drop (fun w => decide (ksEcc0 + lo ≤ w) && decide (w < ksEcc0 + lo + 8192)) s.mu.ecc } }
    let s := s.setKs { s.ks with
      words := Sparse.drop (fun w => decide (lo ≤ w) && decide (w < lo + 8192)) s.ks.words
      recs := s.ks.recs.filter fun r => r.at_ / 8192 ≠ n }
    let h := [0x4B45 <<< 48 + e % 2 ^ 32, s.ks.seq - 1, s.ks.epoch <<< 32]
    let s := (s.bump pgKeystone 2).ksProgramAll lo (h ++ [checkPair (wordsCrc h)])
    s.setSeg n ⟨1, 0, 8, e, false⟩

/-- R518, R527: opens the free segment with the fewest erases for a partition. -/
def State.openSeg (s : State) (part : Nat) : Option Nat × State :=
  match s.freeSegs.foldl (fun (o : Option Nat) n => match o with
      | some m => if (s.seg n).erases < (s.seg m).erases then some n else o
      | none => some n) none with
  | none => (none, s)
  | some n =>
    let h := [0x4B4F <<< 48 + part <<< 44, s.ks.seq, 0]
    let s := s.ksProgramAll (8192 * n + 4) (h ++ [checkPair (wordsCrc h)])
    (some n, s.setSeg n { s.seg n with state := 3, part := part, next := 8 })

/-- The open segment of a partition with room for `n` words; one that is too full is closed. -/
def State.roomFor (s : State) (part n : Nat) : Option Nat × State :=
  match (List.range 512).find? fun g => (s.seg g).state = 3 && (s.seg g).part = part with
  | some g => if (s.seg g).next + n ≤ 8192 then (some g, s) else (none, s.setSeg g { s.seg g with state := 4 })
  | none => (none, s)

/-- Programs a record's words and its commit word in segment `g`, then indexes it. -/
def State.appendIn (s : State) (g : Nat) (r : KsRec) (l : List Nat) : State :=
  let p := (s.seg g).next
  let s := s.ksProgramAll (8192 * g + p) (l ++ [checkPair (wordsCrc l)])
  let s := s.setSeg g { s.seg g with next := p + l.length + 1 }
  if s.ks.torn then s
  else
    let s := s.setKs { s.ks with wrote := s.ks.wrote + 1 }
    s.ksIndex { r with at_ := 8192 * g + p, rcrc := s.ksRcrc (8192 * g + p) r.len }

/-! ## Compaction (R527) -/

/-- What compaction copies from a segment: its live records, and tombstones that an older record still needs. -/
def State.toCopy (s : State) (n : Nat) : List KsRec :=
  let live := s.liveRecs
  s.ks.recs.filter fun r => r.at_ / 8192 = n && live.contains r
    && (!r.tomb || s.ks.recs.any fun q => q.sameKey r && decide (q.seq < r.seq))

/-- Compacts one segment: `false` when no free segment takes a copy. -/
def State.compactSeg (s : State) (n : Nat) : Bool × State :=
  let r := (s.toCopy n).foldl
    (fun (acc : Bool × State) q =>
      if !acc.1 then acc
      else
        let s := acc.2
        let l := recordWords q.part q.cls q.inst q.epoch q.schema q.len q.seq q.adopt true q.tomb (s.ksData q)
        let put := fun (g : Nat) (s : State) => (true, (s.setKs { s.ks with recs := s.ks.recs.erase q }).appendIn g q l)
        match s.roomFor q.part (l.length + 1) with
        | (some g, s) => put g s
        | (none, s) =>
          match s.openSeg q.part with
          | (some g, s) => put g s
          | (none, s) => (false, s))
    (true, s.bump pgKeystone 4)
  if r.1 then (true, r.2.eraseSeg n) else r

/-- R527, R528: the segment to compact: one that the patrol marks, else the closed one with the fewest live bytes. -/
def State.victim (s : State) (ok : Nat → Bool) : Option Nat :=
  let l := (List.range 512).filter fun n => (s.seg n).state = 4 && ok n
  let key := fun (n : Nat) => (if (s.seg n).mark then 0 else 1, s.segLive n, (s.seg n).erases)
  let less := fun (a b : Nat × Nat × Nat) => decide (a.1 < b.1) || (a.1 = b.1 && (decide (a.2.1 < b.2.1)
    || (a.2.1 = b.2.1 && decide (a.2.2 < b.2.2))))
  l.foldl (fun (o : Option Nat) n => match o with
    | some m => if less (key n) (key m) then some n else o
    | none => some n) none

/-- Frees one segment: erases one that is unknown or spent, or compacts one. -/
def State.freeOne (s : State) : Bool × State :=
  match (List.range 512).find? fun n => (s.seg n).state = 0 || (s.seg n).state = 2 with
  | some n => (true, s.eraseSeg n)
  | none =>
    match s.victim fun _ => true with
    | some n => if 65472 ≤ s.segLive n then (false, s) else s.compactSeg n
    | none => (false, s)

/-- R527: before a command opens a segment more than 8 must be free. -/
def State.makeRoom (s : State) : Nat → Bool × State
  | 0 => (decide (8 < s.freeSegs.length), s)
  | fuel + 1 =>
    if 8 < s.freeSegs.length then (true, s)
    else
      match s.freeOne with
      | (true, s) => if s.ks.torn then (true, s) else s.makeRoom fuel
      | (false, s) => (false, s)

/-- Appends a new record: its SEQ, or `none` when the store is full (R527). -/
def State.ksAppend (s : State) (part cls inst epoch schema : Nat) (adopt tomb : Bool) (data : List Nat) : Option Nat × State :=
  let seq := s.ks.seq
  let r : KsRec := ⟨part, cls, inst, epoch, schema, data.length, seq, 0, 0, tomb, adopt, false, false⟩
  let l := recordWords part cls inst epoch schema data.length seq adopt false tomb (payloadWords data)
  let put := fun (g : Nat) (s : State) => (some seq, (s.setKs { s.ks with seq := seq + 1 }).appendIn g r l)
  match s.roomFor part (l.length + 1) with
  | (some g, s) => put g s
  | (none, s) =>
    match s.makeRoom 512 with
    | (false, s) => (none, s)
    | (true, s) =>
      match s.openSeg part with
      | (some g, s) => put g s
      | (none, s) => (none, s)

/-- R626, R638: the CRASH records of tampers, once the Keeper runs and the scan is done: PP_TAMP_STAT and the capture. -/
def State.flushCrash (s : State) : State :=
  if s.pw.down || !(s.flag pgKeystone Rg.KS_STAT_READY) then s
  else
    let l := s.sec.crash
    l.foldl (fun s x => ((s.retireCrash 65536 64).ksAppend 4 0x90001 0 0 0 false false (bytesOf 4 x.1 ++ bytesOf 4 0 ++ bytesOf 8 x.2)).2)
      { s with sec := { s.sec with crash := [] } }

/-- KEYSTONE_SCAN (R521): the scan that a start of the Keeper began ends, and the Keeper reads the rail table and the tamper configuration. -/
def execKeystoneScan (s : State) : Host.Outcome State Fault Refusal :=
  .next (
    if !s.ks.scan then s
    else
      let s := ((s.setKs { s.ks with scan := false }).ksScan).readRails.readTamper
      let s := s.put pgKeystone Rg.KS_STAT_READY 1
      ((s.put pgKeystone Rg.KS_SCAN_CY (min (2 ^ 32 - 1) (s.uptime - s.ks.scanAt))).ksEvent Ev.SCAN_DONE).flushCrash)

/-- R534, R535: one boot-state record. -/
def State.writeBoot (s : State) (b : KsBoot) : State :=
  let b := if b.state = 1 && s.ks.boot.state = 0 then { b with trialSeq := s.ks.seq } else b
  let r := s.ksAppend 6 1 0 0 0 false false (bootBytes b)
  if r.2.ks.torn then r.2 else (r.2.setKs { r.2.ks with boot := b }).showKs

/-- R535: a fallback: STABLE with its cause; the epochs opened since TRIAL_SEQ retire. -/
def State.fallback (s : State) (cause : Nat) : State :=
  let out := s.epochs.filter s.inTrial
  let s := s.writeBoot { s.ks.boot with state := 0, cause := cause, left := 0 }
  ((s.setKs { s.ks with gone := s.ks.gone ++ out }).showKs).ksEvent Ev.FALLBACK 0 6

/-! ## The token bucket (R530) -/

def State.ksTokens (s : State) : Nat := min (16777216 * 196608) (s.ks.tokens + 100 * (s.uptime - s.ks.tokAt))

/-- KS_RATE.LEVEL. -/
def State.ksRate (s : State) : Nat := s.ksTokens / 196608

def State.ksDraw (s : State) (n : Nat) : State :=
  let s := s.setKs { s.ks with tokens := s.ksTokens - n * 196608, tokAt := s.uptime }
  s.put pgKeystone Rg.KS_RATE s.ksRate

/-! ## Commands (R540) -/

/-- What a command answers: the refusal event (0: none), KS_RES0–7, and the flags CORRUPT, OLDER, OPEN as bits 0–2. -/
structure KsAns where
  ev : Nat
  res : List (Nat × Nat)
  flags : Nat

def ksOk (res : List (Nat × Nat)) : KsAns := ⟨0, res, 0⟩
def ksNo (ev : Nat) : KsAns := ⟨ev, [], 0⟩

def State.ksArg (s : State) (n : Nat) : Nat := s.get pgKeystone Rg.KS_ARG n

/-- An address and SEQ for RES0–3. -/
def resAt (at_ seq : Nat) : List (Nat × Nat) :=
  let a := keystoneBase + 8 * at_
  [(0, a % 2 ^ 32), (1, a / 2 ^ 32), (2, seq % 2 ^ 32), (3, seq / 2 ^ 32)]

/-- R524, R531: whether firmware may write a key of a partition. -/
def State.mayWrite (s : State) (part cls epoch : Nat) : Bool :=
  decide (part ≤ 5) && decide (cls < 0xFFFFFF00) && (part ≠ 1 || s.flag pgKeystone Rg.KS_CTL_CALIB_WE)
    && (part ≠ 0 || s.epochState epoch = 1)

/-- A WRITE or DELETE: the refusals of R524, R525, R527, R529, R530 in the order of R540's table, then the record. -/
def State.ksStore (s : State) (part cls inst epoch schema : Nat) (tomb : Bool) (data : List Nat) : KsAns × State :=
  let size := 48 + 8 * ceilDiv data.length 8
  let live := s.liveRecs
  let r0 : KsRec := ⟨part, cls, inst, epoch, schema, data.length, s.ks.seq, 0, 0, tomb, false, false, false⟩
  let old := live.filter fun r => r.sameKey r0
  let used := ((live.filter fun r => r.part = part).map KsRec.size).sum - (old.map KsRec.size).sum
  let worn := (List.range 512).any fun n => decide (40000000 ≤ (s.seg n).erases)
  if part ≠ 4 ∧ quota part < used + size then (ksNo Ev.QUOTA, s)
  else if worn then (ksNo Ev.FULL, s)
  else if old.isEmpty ∧ 65536 ≤ live.length then (ksNo Ev.INDEX_FULL, s)
  else if s.ksTokens < size * 196608 then (ksNo Ev.RATE_LIMIT, s)
  else
    let s := if part = 4 then s.retireCrash 65536 size else s
    match s.ksAppend part cls inst epoch schema false tomb data with
    | (none, s) => (ksNo Ev.FULL, s)
    | (some seq, s) =>
      let at_ := match s.ks.recs.find? fun r => r.seq = seq && r.part = part with
        | some r => r.at_
        | none => 0
      (ksOk (resAt at_ seq), s.ksDraw size)

/-- WRITE (R539, R540). -/
def State.ksWrite (s : State) (part : Nat) : KsAns × State :=
  let len := s.ksArg 2 % 65536
  let a := s.ksArg 4 + s.ksArg 5 * 2 ^ 32
  let epoch := if part = 0 then s.ksArg 3 else 0
  if !(s.mayWrite part (s.ksArg 0) epoch) || decide (16384 < len) || a % 8 ≠ 0 || decide (bulkEnd < a + len) then (ksNo Ev.BAD_CMD_08, s)
  else
    let r := if len = 0 then (some 0, s) else s.dynRead ⟨239, 3, 0, 0⟩ a len
    match r.1 with
    | none => (ksNo Ev.BAD_CMD_08, r.2)
    | some v => r.2.ksStore part (s.ksArg 0) (s.ksArg 1) epoch (s.ksArg 2 / 65536) false (bytesOf len v)

/-- DELETE (R540): a tombstone. A CRASH record has no key that a command could name. -/
def State.ksDelete (s : State) (part : Nat) : KsAns × State :=
  let epoch := if part = 0 then s.ksArg 3 else 0
  if !(s.mayWrite part (s.ksArg 0) epoch) || part = 4 then (ksNo Ev.BAD_CMD_08, s)
  else
    let r := s.ksStore part (s.ksArg 0) (s.ksArg 1) epoch 0 true []
    (if r.1.ev = 0 then { r.1 with res := r.1.res.drop 2 } else r.1, r.2)

/-- The epoch that a LOOKUP or NEXT searches (R535): EFF when ARG3 is 0. -/
def State.searched (s : State) : Nat := if s.ksArg 3 = 0 then s.get pgKeystone Rg.KS_BOOT3 else s.ksArg 3

/-- The records of a key in one epoch, newest first. -/
def State.keyRecs (s : State) (part cls inst epoch : Nat) : List KsRec :=
  sortBy (fun a b => decide (b.seq ≤ a.seq))
    (s.ks.recs.filter fun r => !r.retired && r.part = part && r.cls = cls && (part = 6 || r.inst = inst)
      && (part ≠ 0 || r.epoch = epoch))

/-- The record that a LOOKUP in a chain of epochs finds, with its flags. -/
def State.findKey (s : State) (part cls inst : Nat) : List Nat → Option KsRec × Nat
  | [] => (none, 0)
  | e :: l =>
    match s.keyRecs part cls inst e with
    | [] => s.findKey part cls inst l
    | r :: rest =>
      if r.corrupt then
        match rest.find? fun q => !q.corrupt with
        | some q => (if q.tomb then none else some q, 3)
        | none => (none, 1)
      else (if r.tomb then none else some r, 0)

/-- The results that name a record. -/
def recRes (r : KsRec) : List (Nat × Nat) :=
  resAt r.at_ r.seq ++ [(4, r.schema * 65536 + r.len), (5, r.epoch)]

/-- The refusal of an epoch to be searched: an unknown one, an incomplete one (R532). -/
def State.searchRefusal (s : State) (part e : Nat) : Nat :=
  if part = 7 then Ev.BAD_CMD_08
  else if part ≠ 0 ∨ e = 0 then 0
  else if !(s.retained.contains e) ∨ s.epochState e = 0 then Ev.BAD_CMD_08
  else if s.epochState e = 3 then Ev.EPOCH_INCOMPLETE
  else 0

/-- The epochs to be searched in their order. -/
def State.searchList (s : State) (part e : Nat) : List Nat := if part = 0 then s.chain 8 e else [0]

/-- LOOKUP (R528, R533, R540). -/
def State.ksLookup (s : State) (part : Nat) : KsAns × State :=
  let e := s.searched
  let bad := s.searchRefusal part e
  if bad ≠ 0 then (ksNo bad, s)
  else
    let f := s.findKey part (s.ksArg 0) (s.ksArg 1) (s.searchList part e)
    let open_ := if part = 0 ∧ s.epochState e = 1 then 4 else 0
    (⟨0, match f.1 with
      | some r => recRes r
      | none => [(0, 0), (1, 0)], f.2 + open_⟩, s)

/-- NEXT (R540): the next live key after the cursor. -/
def State.ksNext (s : State) (part : Nat) : KsAns × State :=
  let e := s.searched
  let bad := s.searchRefusal part e
  if bad ≠ 0 then (ksNo bad, s)
  else
    let cur := if part = 4 then s.ksArg 0 + s.ksArg 1 * 2 ^ 32 else s.ksArg 0 * 2 ^ 32 + s.ksArg 1
    let key := fun (r : KsRec) => if part = 4 then r.seq else r.cls * 2 ^ 32 + r.inst
    let epochs := s.searchList part e
    let seen := s.liveRecs.filter fun r => r.part = part && (part ≠ 0 || epochs.contains r.epoch) && decide (cur < key r)
      && (part = 4 || (s.findKey part r.cls r.inst epochs).1 = some r) && !r.tomb
    match seen.foldl (fun (o : Option KsRec) r => match o with
        | some q => if key r < key q then some r else o
        | none => some r) none with
    | some r => (ksOk (recRes r ++ [(6, r.cls), (7, r.inst)]), s)
    | none => (ksOk [(0, 0), (1, 0)], s)

/-- The records visible in an epoch, without the engine's own and without tombstones. -/
def State.visible (s : State) (e : Nat) : List KsRec :=
  let ch := s.chain 8 e
  s.liveRecs.filter fun r => r.part = 0 && ch.contains r.epoch && decide (r.cls < 0xFFFFFF00) && !r.tomb
    && (s.findKey 0 r.cls r.inst ch).1 = some r

/-- EPOCH_OPEN (R531, R533): the open record, and with FLAT a copy of every record visible in the base. -/
def State.ksEpochOpen (s : State) (flat : Bool) : KsAns × State :=
  let base := s.ksArg 3
  let ok := base = 0 || (s.retained.contains base && s.epochState base = 2 && (flat || decide ((s.chain 9 base).length < 8)))
  let vis := if flat then s.visible base else []
  let size := 64 + (vis.map KsRec.size).sum
  if !ok then (ksNo Ev.BAD_CMD_08, s)
  else if quota 0 < s.liveBytes 0 + size then (ksNo Ev.QUOTA, s)
  else if s.ksTokens < size * 196608 then (ksNo Ev.RATE_LIMIT, s)
  else
    let e := s.ks.epoch + 1
    let own := if flat then 0 else base
    let s := s.setKs { s.ks with epoch := e }
    let r := s.ksAppend 0 0xFFFFFFFE e e 0 false false (bytesOf 8 (own + flat.toNat * 2 ^ 32) ++ List.replicate 8 0)
    let s := vis.foldl (fun s q =>
      (s.ksAppend 0 q.cls q.inst e q.schema false false (((s.ksData q).flatMap (bytesOf 8)).take q.len)).2) r.2
    (ksOk [(5, e)], s.ksDraw size)

/-- EPOCH_COMMIT (R531): the commit record; in STABLE it adopts. -/
def State.ksEpochCommit (s : State) : KsAns × State :=
  let e := s.ksArg 3
  if s.epochState e ≠ 1 then (ksNo Ev.BAD_CMD_08, s)
  else if s.ksTokens < 64 * 196608 then (ksNo Ev.RATE_LIMIT, s)
  else
    let adopt := s.ks.boot.state = 0
    let m := s.memberSum e
    let r := s.ksAppend 0 0xFFFFFFFF e e 0 adopt false (bytesOf 4 m.1 ++ bytesOf 4 m.2 ++ List.replicate 8 0)
    match r.1 with
    | none => (ksNo Ev.FULL, r.2)
    | some seq =>
      let s := r.2.ksDraw 64
      let s := if adopt && !s.ks.torn then s.setKs { s.ks with boot := { s.ks.boot with confEpoch := e } } else s
      (ksOk [(2, seq % 2 ^ 32), (3, seq / 2 ^ 32)], s)

/-- EPOCH_DISCARD (R540): the open record gets a tombstone (log entry 28). -/
def State.ksDiscard (s : State) : KsAns × State :=
  let e := s.ksArg 3
  if s.epochState e ≠ 1 then (ksNo Ev.BAD_CMD_08, s)
  else
    let r := s.ksAppend 0 0xFFFFFFFE e e 0 false true []
    (if r.1.isNone then ksNo Ev.FULL else ksOk [], r.2)

/-- TRIAL_BEGIN (R535). -/
def State.ksTrialBegin (s : State) : KsAns × State :=
  let y := s.ksArg 6
  let b := s.ks.boot
  if b.state ≠ 0 ∨ 1 < y ∨ y = b.confSlot then (ksNo Ev.BAD_CMD_08, s)
  else (ksOk [], s.writeBoot { b with state := 1, trialSlot := y, left := 3, trialBase := b.confEpoch })

/-- CONFIRM (R535, R541): only while the trial image runs as a trial, before the deadline. -/
def State.ksConfirm (s : State) : KsAns × State :=
  let e := s.ksArg 3
  let b := s.ks.boot
  let dl := s.get64 pgKeystone Rg.KS_DEADLINE_LO
  let ok := b.state = 1 && s.flag pgKeystone Rg.KS_BOOT0_AS_TRIAL && (dl = 0 || decide (s.now < dl))
    && (e = b.trialBase || (s.inTrial e && s.epochState e = 2))
  if !ok then (ksNo Ev.BAD_CMD_08, s)
  else
    let s := s.writeBoot { b with
      state := 0, prevV := true, prevSlot := b.confSlot, prevEpoch := b.confEpoch, confSlot := b.trialSlot, confEpoch := e,
      left := 0, trialSeq := 0 }
    (ksOk [], if s.ks.torn then s else (s.put pgKeystone Rg.KS_BOOT0_AS_TRIAL 0).put64 pgKeystone Rg.KS_DEADLINE_LO 0)

/-- ABANDON (R535). -/
def State.ksAbandon (s : State) : KsAns × State :=
  if s.ks.boot.state ≠ 1 then (ksNo Ev.BAD_CMD_08, s) else (ksOk [], s.fallback 4)

/-- ROLLBACK (R535). -/
def State.ksRollback (s : State) : KsAns × State :=
  let b := s.ks.boot
  if b.state ≠ 0 ∨ b.prevV = false then (ksNo Ev.BAD_CMD_08, s)
  else
    (ksOk [], s.writeBoot { b with
      confSlot := b.prevSlot, confEpoch := b.prevEpoch, prevSlot := b.confSlot, prevEpoch := b.confEpoch, trialSeq := 0 })

/-- COMPACT (R527, R540): the closed segments of a partition, or of all, that hold anything but live records. -/
def State.ksCompact (s : State) : KsAns × State :=
  let part := s.ksArg 6
  let l := (List.range 512).filter fun n =>
    (s.seg n).state = 4 && (part = 7 || (s.seg n).part = part) && decide (s.segLive n + 64 < 8 * (s.seg n).next)
  let r := l.foldl (fun (a : Nat × State) n => let q := a.2.compactSeg n; (if q.1 then a.1 + 1 else a.1, q.2)) (0, s)
  if 7 < part then (ksNo Ev.BAD_CMD_08, s) else (ksOk [(0, r.1)], r.2)

/-- Runs a command. -/
def State.ksRun (s : State) (value : Nat) : KsAns × State :=
  let op := value % 256
  let part := bits value 10 8
  if op = 1 then s.ksWrite part else if op = 2 then s.ksDelete part else if op = 3 then s.ksLookup part
  else if op = 4 then s.ksNext part else if op = 5 then s.ksEpochOpen (bits value 15 15 = 1) else if op = 6 then s.ksEpochCommit
  else if op = 7 then s.ksDiscard else if op = 8 then s.ksTrialBegin else if op = 9 then s.ksConfirm
  else if op = 10 then s.ksAbandon else if op = 11 then s.ksRollback else s.ksCompact

/-- R538: a write of KS_CMD. Other OP values, and a write while BUSY = 1 or READY = 0, have no effect and record BAD_CMD. -/
def State.ksStart (s : State) (value : Nat) : State :=
  let g := pgKeystone
  let op := value % 256
  if op = 0 ∨ 12 < op ∨ s.flag g Rg.KS_STAT_BUSY ∨ ¬ s.flag g Rg.KS_STAT_READY then s.ksEvent Ev.BAD_CMD_08 0 (bits value 10 8) op
  else
    let s := (s.put g Rg.KS_STAT_BUSY 1).setReg g 0x130 0
    s.setKs { s.ks with cmd := some ⟨value, s.uptime⟩ }

/-- R538: the least time that a command takes: a WRITE of n words 64 + 256 n cy. -/
def State.ksLeast (s : State) (value : Nat) : Nat :=
  if value % 256 = 1 then 64 + 256 * (6 + ceilDiv (s.ksArg 2 % 65536) 8) else 0

/-- Writes KS_RESULT and KS_RES0–7 and ends the command. -/
def State.ksAnswer (s : State) (value : Nat) (a : KsAns) : State :=
  let g := pgKeystone
  let s := if a.ev = 0 then s else s.ksEvent a.ev 0 (bits value 10 8) (value % 256)
  let s := a.res.foldl (fun s r => s.put g Rg.KS_RES r.2 r.1) s
  let v := 2 ^ 31 + (if a.ev = 0 then 2 ^ 30 else 0) + a.flags <<< 16 + a.ev
  let s := (s.setReg g 0x130 (BitVec.ofNat 32 v)).put g Rg.KS_STAT_BUSY 0
  ((s.setKs { s.ks with cmd := none }).showKs).irq g 0

/-- R543: whether a command changes the array. -/
def mutates (value : Nat) : Bool := [1, 2, 5, 6, 7, 8, 9, 10, 11, 12].contains (value % 256)

/-- KS_COMMAND_COMPLETE (R538, R543): the command in progress completes, or falls to an armed tear. -/
def execKsCommandComplete (s : State) : Host.Outcome State Fault Refusal :=
  let g := pgKeystone
  .next (
    match s.ks.cmd with
    | none => s
    | some c =>
      if s.uptime < c.start + s.ksLeast c.value then s
      else
        let arm := s.flag g Rg.KS_TEAR_ARM && mutates c.value && s.mode = modeDiag
        let s := s.setKs { s.ks with tear := if arm then some (s.get g Rg.KS_TEAR_WORD - 1) else none, torn := false, wrote := 0 }
        let r := s.ksRun c.value
        let s := r.2.bump g 3
        if s.ks.torn then
          let s := ((s.put g Rg.KS_TEAR_ARM 0).ksScan).ksEvent Ev.TEAR_DONE
          (s.ksAnswer c.value (ksNo Ev.TORN_RECORD)).ksEvent Ev.SCAN_DONE
        else (s.setKs { s.ks with tear := none }).ksAnswer c.value r.1)

/-- R523: a loss of power, or (`word` complete) a Keeper self-reset, while a command is in progress. -/
def State.ksCut (s : State) : State :=
  match s.ks.cmd with
  | none => s
  | some c =>
    if mutates c.value then
      let f := s.fresh
      let s := f.2.setKs { f.2.ks with tear := some (f.1 % 4096), torn := false, wrote := 0 }
      let s := (s.ksRun c.value).2
      s.setKs { s.ks with cmd := none, tear := none, torn := false }
    else s.setKs { s.ks with cmd := none }

/-- The mailbox commands: writes of KS_CMD. -/
def State.ksCommand (s : State) (w : Who) (op part : Nat) (flat : Bool := false) : State :=
  let v := op + part <<< 8 + flat.toNat <<< 15
  s.access w pgKeystone 0x104 true fun s => s.ksStart v

/-- KS_WRITE (R540). -/
def execKsWrite (w : Who) (part : Fin 8) (s : State) : Host.Outcome State Fault Refusal := .next (s.ksCommand w 1 part.val)

/-- KS_DELETE (R540). -/
def execKsDelete (w : Who) (part : Fin 8) (s : State) : Host.Outcome State Fault Refusal := .next (s.ksCommand w 2 part.val)

/-- KS_LOOKUP (R540). -/
def execKsLookup (w : Who) (part : Fin 8) (s : State) : Host.Outcome State Fault Refusal := .next (s.ksCommand w 3 part.val)

/-- KS_NEXT (R540). -/
def execKsNext (w : Who) (part : Fin 8) (s : State) : Host.Outcome State Fault Refusal := .next (s.ksCommand w 4 part.val)

/-- EPOCH_OPEN (R531). -/
def execEpochOpen (w : Who) (flat : Bool) (s : State) : Host.Outcome State Fault Refusal := .next (s.ksCommand w 5 0 flat)

/-- EPOCH_COMMIT (R531). -/
def execEpochCommit (w : Who) (s : State) : Host.Outcome State Fault Refusal := .next (s.ksCommand w 6 0)

/-- EPOCH_DISCARD (R540). -/
def execEpochDiscard (w : Who) (s : State) : Host.Outcome State Fault Refusal := .next (s.ksCommand w 7 0)

/-- TRIAL_BEGIN (R535). -/
def execTrialBegin (w : Who) (s : State) : Host.Outcome State Fault Refusal := .next (s.ksCommand w 8 0)

/-- CONFIRM (R535). -/
def execConfirm (w : Who) (s : State) : Host.Outcome State Fault Refusal := .next (s.ksCommand w 9 0)

/-- ABANDON (R535). -/
def execAbandon (w : Who) (s : State) : Host.Outcome State Fault Refusal := .next (s.ksCommand w 10 0)

/-- ROLLBACK (R535). -/
def execRollback (w : Who) (s : State) : Host.Outcome State Fault Refusal := .next (s.ksCommand w 11 0)

/-- KS_COMPACT (R527). -/
def execKsCompact (w : Who) (s : State) : Host.Outcome State Fault Refusal := .next (s.ksCommand w 12 0)

/-! ## Background work -/

/-- R527: the store's erases differ by more than 4,096: the closed segment with the lowest count. -/
def State.wearVictim (s : State) : Option Nat :=
  let hi := ((List.range 512).map fun n => (s.seg n).erases).foldl max 0
  let closed := (List.range 512).filter fun n => (s.seg n).state = 4
  let lo := ((List.range 512).map fun n => (s.seg n).erases).foldl min hi
  if hi ≤ lo + 4096 then none
  else closed.foldl (fun (o : Option Nat) n => match o with
    | some m => if (s.seg n).erases < (s.seg m).erases then some n else o
    | none => some n) none

/-- BACKGROUND_COMPACTION (R522, R527): with no command pending, one segment is freed while fewer than 32 are free, or one is
compacted for wear. -/
def execBackgroundCompaction (s : State) : Host.Outcome State Fault Refusal :=
  .next (
    if s.ks.cmd.isSome || !(s.flag pgKeystone Rg.KS_STAT_READY) then s
    else
      match s.wearVictim with
      | some n => ((s.compactSeg n).2).showKs
      | none => if s.freeSegs.length < 32 then ((s.freeOne).2).showKs else s)

/-- PATROL_READ (R528): the patrol reads word `i` of an in-use segment. -/
def execPatrolRead (n : Fin 512) (i : Fin 8192) (s : State) : Host.Outcome State Fault Refusal :=
  let a := 8192 * n.val + i.val
  .next (
    if s.ks.cmd.isSome || !(s.flag pgKeystone Rg.KS_STAT_READY) || decide ((s.seg n.val).state < 3) then s
    else
      let s := s.bump pgKeystone 5
      if s.ksKind a = 0 then s
      else if s.ksKind a = 1 then
        ((s.bump pgKeystone 6).ksEvent Ev.ECC_CORR_08 (8 * a) (s.seg n.val).part).setSeg n.val { s.seg n.val with mark := true }
      else
        let s := s.ksEvent Ev.KS_UE (8 * a) (s.seg n.val).part
        let hit := fun (r : KsRec) => !r.corrupt && decide (r.at_ ≤ a) && decide (a < r.at_ + 6 + ceilDiv r.len 8)
        if s.ks.recs.any hit then
          (s.setKs { s.ks with recs := s.ks.recs.map fun r => if hit r then { r with corrupt := true } else r }).ksEvent
            Ev.CORRUPT_RECORD (8 * a) (s.seg n.val).part
        else s)

/-! ## Status registers (R543) -/

/-- What a write of KS_SEG_IDX does. -/
def State.segLoad (s : State) : State :=
  let g := pgKeystone
  let n := s.get g Rg.KS_SEG_IDX
  let x := s.seg n
  let s := (s.put g Rg.KS_SEG_STAT_STATE x.state).put g Rg.KS_SEG_STAT_PART (if 3 ≤ x.state then x.part else 0)
  (s.put g Rg.KS_SEG_STAT_LIVE (s.segLive n)).put g Rg.KS_SEG_ERASES x.erases

/-- What a write of KS_PART_IDX does. -/
def State.partLoad (s : State) : State :=
  let g := pgKeystone
  let p := s.get g Rg.KS_PART_IDX
  let n := ((List.range 512).filter fun n => decide (3 ≤ (s.seg n).state) && (s.seg n).part = p).length
  (s.put g Rg.KS_PART_STAT_SEGS n).put g Rg.KS_PART_STAT_LIVE_KIB (ceilDiv (s.liveBytes p) 1024)

/-- KS_SEG_IDX_WRITE (R543). -/
def execKsSegIdxWrite (w : Who) (value : Nat) (s : State) : Host.Outcome State Fault Refusal :=
  .next (s.command w pgKeystone 0x1A0 value fun s => s.segLoad)

/-- KS_PART_IDX_WRITE (R543). -/
def execKsPartIdxWrite (w : Who) (value : Nat) (s : State) : Host.Outcome State Fault Refusal :=
  .next (s.command w pgKeystone 0x1B0 value fun s => s.partLoad)

/-! ## The read window (R516) -/

/-- Reads bytes of the read window: the data, and whether a word was uncorrectable; corrected words count. -/
def State.ksRead (s : State) (off n : Nat) : Nat × Bool × State :=
  let ws := (List.range (ceilDiv (off % 8 + n) 8)).map fun i => off / 8 + i
  let bad := ws.any fun i => decide (2 ≤ s.ksKind i)
  let v := (ws.zipIdx).foldl (fun v e => v + s.ksRaw e.1 <<< (64 * e.2)) 0
  let s := ws.foldl (fun s i =>
    let p := (s.seg (i / 8192)).part
    if s.ksKind i = 1 then (s.bump pgKeystone 6).ksEvent Ev.ECC_CORR_08 (8 * i) p
    else if 2 ≤ s.ksKind i then s.ksEvent Ev.KS_UE (8 * i) p else s) s
  (v >>> (8 * (off % 8)) % 2 ^ (8 * n), bad, s)

end Sys2Proof.Machine
end

