-- ==== Sys2Proof/Machine/Power.lean ====
section
/-! DEFINITION. Power domains, deck levels, device modes, the Keeper's sequences and the resets (spec chapter 18). -/
namespace Sys2Proof.Machine

def pgDom (d : Nat) : Nat := page .domain d

/-! ## The domains (R584, R585, R603) -/

/-- The States column of R584. -/
def domStates (d : Nat) : List Nat :=
  if d = 0 then [0] else if d ≤ 2 ∨ 72 ≤ d then [0, 3] else if d ≤ 6 then [0, 1, 3] else [0, 1, 2, 3]

/-- The Requires column of R584. -/
def domRequires (d : Nat) : List Nat :=
  if d = 0 then [] else if d = 1 then [0] else if d = 2 then [1] else if d = 7 then [12, 13, 14, 15]
  else if 8 ≤ d ∧ d ≤ 11 then [7] else [2]

/-- The groups of R603 in the order in which they rise. -/
def seqGroups : List (List Nat) :=
  [[1], [2], [12, 13, 14, 15], [7], [3, 4, 5, 6], [8, 9, 10, 11], (List.range 8).map (48 + ·), (List.range 32).map (16 + ·),
    (List.range 16).map (56 + ·), (List.range 8).map (72 + ·)]

/-- How long the entry to a state takes (R585). -/
def entryCy (st : Nat) : Nat := if st = 1 then 2 else if st = 2 then 64 else 256

/-- W: how long the wake from a state takes, with the extra delay of R603. -/
def wakeCy (d st : Nat) : Nat :=
  if st = 1 then 2 else if st = 2 then 3933
  else 39322 + (if d = 1 then 196608 else if d = 2 then 8192 else if d = 7 then 16384 else 0)

/-- How long a change from one state to another takes. A raise to a state other than ON passes through ON (R585; for RET see log entry 32). -/
def changeCy (d cur st : Nat) : Nat :=
  if cur < st then entryCy st else wakeCy d cur + (if st = 0 then 0 else entryCy st)

/-- A duration in whole deck clock cycles (R591). -/
def deckRound (k n : Nat) : Nat := ceilDiv n k * k

/-- R590: whether the running plan controls a domain. -/
def State.planDomain (s : State) (d : Nat) : Bool :=
  decide (16 ≤ d) && decide (d ≤ 71) && match s.plan with
    | none => false
    | some p => p.variants.any fun v => [v.stCool, v.stHot].any fun i =>
      match p.sections[i]? with
      | some ⟨_, .slots l⟩ => l.any fun e => unitDomain e.unit = d
      | _ => false

/-! ## Limits on wakes (R589) -/

/-- The wakes that the slot tables of the current span and of the latched next one begin, as uptimes of begin and end, and whether from OFF. -/
def State.planWakes (s : State) : List (Nat × Nat × Bool) :=
  match s.plan with
  | none => []
  | some p =>
    let span := fun (base : Nat) (f : InForce) => (wakesOf (p.tableOf f).1).filterMap fun w =>
      let at_ := base + w.1
      if at_ < s.now then none
      else
        let up := s.uptime + (at_ - s.now)
        if up = s.uptime && s.pw.begun.any fun b => b.start = up && b.off = w.2 then none
        else some (up, up + deckRound s.deckK (if w.2 then 39322 else 3933), w.2)
    span s.spanStart s.dk.cur ++ span (s.spanStart + spanCy) s.dk.next

/-- Whether a wake of `len` cy that begins now keeps both limits. -/
def State.wakeFits (s : State) (len : Nat) (off : Bool) : Bool :=
  let all := (s.pw.begun.map fun b => (b.start, b.fin, b.off)) ++ s.planWakes
  let now := s.uptime
  let near := (all.map (·.1)).filter fun t => decide (now < t + 512) && decide (t < now + 512)
  let windows := (now - 511) :: near.filter fun t => decide (t ≤ now)
  let rate := windows.all fun a => decide ((near.filter fun t => decide (a ≤ t) && decide (t < a + 512)).length < 8)
  let instants := now :: ((all.filter fun w => w.2.2 && decide (now ≤ w.1) && decide (w.1 < now + len)).map (·.1))
  let room := instants.all fun t =>
    decide ((all.filter fun w => w.2.2 && decide (w.1 ≤ t) && decide (t < w.2.1)).length < 4)
  rate && (!off || room)

/-- Notes a wake that begins now; older ones that no limit counts any more are forgotten. -/
def State.noteWake (s : State) (d len : Nat) (off : Bool) : State :=
  let keep := s.pw.begun.filter fun b => decide (s.uptime < b.start + 512) || decide (s.uptime < b.fin)
  { s with pw := { s.pw with begun := keep ++ [⟨d, s.uptime, s.uptime + len, off⟩] } }

/-! ## What a domain loses and regains -/

/-- R417, R585: the memories of the domains that `p` names lose their contents. -/
def State.forgetDomains (s : State) (p : Nat → Bool) : State :=
  let gone := fun (a : Nat) => (isBulk a || inDeck a) && p (memDomain a)
  { s with
    mem := Sparse.drop gone s.mem
    mu := { s.mu with
      ecc := Sparse.drop (fun w => gone (8 * w)) s.mu.ecc
      later := s.mu.later.filter fun l => match l.eff with
        | .bytes a _ _ => !(gone a)
        | .deliver a _ _ => !(gone a)
        | .pm a _ _ => !(gone a)
        | .bit a _ _ => !(gone a)
        | _ => true } }

/-- Whether the page of a slot lies in a domain that `p` names. -/
def slotIn (p : Nat → Bool) (n : Nat) : Bool := match slotDomain n with
  | some d => p d
  | none => false

/-- The state of a block beside its page registers and memories that power loss in the domains of `p` takes away (R585). -/
def State.clearBlocks (s : State) (p : Nat → Bool) : State :=
  let s := { s with
    nt := if p 2 then Mesh.zero else s.nt
    dk := if p 2 then Deck.zero else s.dk
    tr := if p 3 then Trestle.zero else s.tr
    pl := if p 4 then Pool.zero else s.pl
    ts := if p 4 then Toll.zero else s.ts
    io := if p 6 then { Slow.zero with tap := s.io.tap } else s.io
    piers := Sparse.drop (fun n => p (16 + n / 2)) s.piers
    lanes := Sparse.drop (fun n => p (72 + n / 16)) s.lanes
    en := { s.en with runs := s.en.runs.filter fun (r : EngRun) => !(p (unitDomain r.job.unit)) } }
  let s := { s with
    fh := { s.fh with
      flows := Sparse.drop (fun k => p (72 + k / 512)) s.fh.flows
      partners := Sparse.drop (fun k => p (72 + k / 32)) s.fh.partners
      rx := s.fh.rx.filter fun (b : RxBuf) => !(p (72 + b.au))
      ingress := s.fh.ingress.filter fun (i : Ingress) => !(p (72 + i.au))
      closed := s.fh.closed.filter fun (c : ClosedKey) => !(p (72 + c.au))
      em := Sparse.drop (fun n => if n < 64 then p (72 + n / 8) else p 4) s.fh.em
      cp := Sparse.drop (fun n => p (72 + n / 4)) s.fh.cp
      chains := s.fh.chains.filter fun (c : TxChain) => !(p (unitDomain c.unit))
      fenced := if p 4 then [] else s.fh.fenced } }
  let s := { s with
    ab := { s.ab with
      harts := Sparse.drop (fun h => p (8 + h / 4)) s.ab.harts
      hub := if p 3 then Hub.zero else s.ab.hub
      pcie := if p 5 then { Pcie.zero with perst := s.ab.pcie.perst } else s.ab.pcie } }
  { s with
    mu := { s.mu with
      dyn := s.mu.dyn.filter fun (l : DynLine) => !(p (memDomain l.addr))
      scrubs := Sparse.drop (slotIn p) s.mu.scrubs
      inits := s.mu.inits.filter fun (i : MemInit) => !(slotIn p i.page)
      refAt := Sparse.drop (fun g => p (12 + g / 16)) s.mu.refAt
      refHot := Sparse.drop (fun g => p (12 + g / 16)) s.mu.refHot
      refBusy := Sparse.drop (fun g => p (12 + g / 16)) s.mu.refBusy
      resv := s.mu.resv.filter fun r => !(decide (216 ≤ r.1) && decide (r.1 < 232) && p (8 + (r.1 - 216) / 4))
      train0 := if p 12 || p 13 then 0 else s.mu.train0
      train1 := if p 14 || p 15 then 0 else s.mu.train1 } }

/-- R585: what OFF takes away besides: the memories, the cached lines, the corrected-error logs, the training of a stack. -/
def State.loseOff (s : State) (p : Nat → Bool) : State :=
  let s := s.forgetDomains p
  let s := { s with
    ab := { s.ab with cache := s.ab.cache.filter fun (l : CacheLine) => !(p 7) && !(l.dirty && p (8 + l.core / 4)) }
    mu := { s.mu with cel := Sparse.drop (slotIn p) s.mu.cel } }
  let s := if p 12 || p 13 then s.putBit pgPhy Rg.PHY_STAT_TRAINED 0 false else s
  if p 14 || p 15 then s.putBit pgPhy Rg.PHY_STAT_TRAINED 1 false else s

/-- R52, R58: the Pylon starts in UNSET with air count 0, and the GPIO block with it. -/
def State.startPylon (s : State) : State := { s with air := 0, py := Pylon.zero s.uptime, gp := Gpio.zero }

/-- R444, R594: a cluster comes back: from RET the cores that HOLD does not hold restart at CL_BOOT; from GATE its cores run on the
ring oscillator. -/
def State.clusterBack (s : State) (c from_ : Nat) : State :=
  if from_ = 1 then s.put (pgCluster c) Rg.CL_PLEVEL_CUR 7
  else if from_ = 2 then s.holdFollow c
  else s

/-! ## Requests and transitions (R586–R588) -/

/-- What the pads of D01 drive: levels and output enables (R595, R26). -/
def State.padsNow (s : State) : Nat × Nat :=
  let drives := s.enabled pgGpio && s.outEn pgGpio && s.mode ≠ modeInert
  let oe := if drives then s.get pgGpio Rg.GPIO_OE0 + s.get pgGpio Rg.GPIO_OE1 <<< 32 else 0
  let py := s.enabled pgPylon && s.outEn pgPylon && s.mode ≠ modeInert
  let sync := (List.range 4).foldl (fun a n =>
    a + (s.py.pulses.any fun x => x.out = n && decide (x.start ≤ s.uptime) && decide (s.uptime < x.fin)).toNat <<< (49 + n)) 0
  let lvl := s.get pgGpio Rg.GPIO_OUT0 + s.get pgGpio Rg.GPIO_OUT1 <<< 32 + (s.py.ppsOutEnd ≠ 0 : Bool).toNat <<< 48 + sync
  (lvl, oe + (if py then 31 <<< 48 else 0))

/-- R595: a domain's pads latch what they drive. -/
def State.latchPads (s : State) (d : Nat) : State :=
  if !(domainHasPads d) || s.flag (pgDom d) Rg.D_STAT_LATCHED then s
  else
    let v := s.padsNow
    let s := s.put (pgDom d) Rg.D_STAT_LATCHED 1
    if d = 1 then { s with pw := { s.pw with padLvl := v.1, padOe := v.2 } } else s

/-- R596: the pads follow the block again. -/
def State.releasePads (s : State) (d : Nat) : State := if s.domOn d then s.put (pgDom d) Rg.D_STAT_LATCHED 0 else s

def State.transOf (s : State) (d : Nat) : Option Trans := s.pw.trans.find? fun t => t.dom = d

/-- Sets the transition of a domain. -/
def State.setTrans (s : State) (t : Trans) : State :=
  { s with pw := { s.pw with trans := (s.pw.trans.filter fun u => u.dom ≠ t.dom) ++ [t] } }

/-- The state of a domain as R587 compares it: during a transition, the higher of the state it leaves and the one it enters. -/
def State.domTop (s : State) (d : Nat) : Nat := min (s.domCur d) (s.get (pgDom d) Rg.D_STAT_TARGET)

/-- R587: the first refuser of a request for another state. Its fields: domain, state, requester. -/
def State.refuser (s : State) (d st req : Nat) : Option Nat :=
  let cur := s.domCur d
  let tgt := s.get (pgDom d) Rg.D_STAT_TARGET
  let busy := s.flag (pgDom d) Rg.D_STAT_BUSY
  if s.pw.down ∧ (req = 0 ∨ req = 2) then some 7
  else if s.flag pgSys Rg.SYS_MODE_BUSY ∧ (req = 0 ∨ req = 2 ∨ req = 4)
      ∧ (s.pw.seq.steps.any fun k => match k with
        | .domains l => l.any fun x => x.1 = d
        | _ => false) then some 4
  else if s.planDomain d ∧ req ≠ 3 then some 1
  else if ¬ (domStates d).contains st ∨ (st = 3 ∧ (d = 1 ∨ d = 2) ∧ req ≠ 1) then some 3
  else if (if cur < st then (List.range 80).any fun e => (domRequires e).contains d && decide (s.domTop e < st)
      else (domRequires d).any fun e => !(s.domOn e)) then some 2
  else if 12 ≤ d ∧ d ≤ 15 ∧ 2 ≤ st ∧ bits (s.get pgPhy Rg.PHY_STAT_SREF) ((d - 12) / 2) ((d - 12) / 2) = 0 then some 6
  else if busy ∧ ¬ (st = 0 ∧ cur < tgt ∧ tgt ≠ 3) then some 5
  else none

/-- R587: a refused request. -/
def State.refuse (s : State) (d req by_ : Nat) : State :=
  let g := pgDom d
  let s := ((s.put g Rg.D_REFUSE_REFUSER by_).put g Rg.D_REFUSE_REQUESTER req).satAdd g Rg.D_REFUSE_COUNT
  (s.event g Ev.REFUSED 0 0 (by_ <<< 20 + req <<< 16)).bump g 6

/-- Begins a transition whose conditions hold, or defers the wake that would exceed a limit (R589, R591). -/
def State.beginChange (s : State) (d st req k : Nat) : State :=
  let g := pgDom d
  let cur := s.domCur d
  let len := deckRound k (changeCy d cur st)
  let s := (s.put g Rg.D_STAT_BUSY 1).put g Rg.D_STAT_TARGET st
  let s := if st = 3 then s.latchPads d else s
  let t : Trans := ⟨d, req, max cur st, len, some (s.uptime + len)⟩
  if cur < 2 ∨ cur < st then s.setTrans t
  else if req ≠ 3 ∧ ¬ s.wakeFits len (cur = 3) then
    ((s.setTrans { t with due := none }).satAdd g Rg.D_DEFER).event g Ev.DEFERRED 0 0 (req <<< 16)
  else (s.setTrans t).noteWake d len (cur = 3)

/-- R587, R588: a request for a state of a domain by a requester; `k` rounds its duration (R591). -/
def State.domRequest (s : State) (d st req : Nat) (k : Nat := 1) : State :=
  let g := pgDom d
  if st = s.get g Rg.D_STAT_TARGET then s
  else
    match s.refuser d st req with
    | some r => s.refuse d req r
    | none =>
      if s.flag g Rg.D_STAT_BUSY then
        let tgt := s.get g Rg.D_STAT_TARGET
        let s := s.put g Rg.D_STAT_TARGET 0
        let s := s.setTrans ⟨d, req, tgt, wakeCy d tgt, some (s.uptime + wakeCy d tgt)⟩
        let s := (s.put g Rg.D_ABORT_ABORTER req).satAdd g Rg.D_ABORT_COUNT
        s.event g Ev.ABORTED 0 0 (req <<< 16)
      else s.beginChange d st req k

/-- D_STAT and D_AIR at a change of CUR (R610). -/
def State.setCur (s : State) (d st : Nat) : State :=
  let g := pgDom d
  let s := (s.put g Rg.D_STAT_CUR st).put g Rg.D_STAT_TARGET st
  (s.put64 g Rg.D_AIR_LO s.airIfValid).irq g 2

/-- R585: a domain's transition ends. -/
def State.endChange (s : State) (t : Trans) : State :=
  let d := t.dom
  let g := pgDom d
  let old := s.domCur d
  let st := s.get g Rg.D_STAT_TARGET
  let s := { s with pw := { s.pw with trans := s.pw.trans.filter fun u => u.dom ≠ d } }
  let s := (s.put g Rg.D_STAT_BUSY 0).touch d
  if old = st then s
  else
    let s := (s.setCur d st).put g Rg.D_STAT_LAST_REQ t.req
    let s := s.put g Rg.D_STAT_IDLE (t.req = 4 : Bool).toNat
    let is := fun (e : Nat) => e = d
    let s := if old = 3 then s.resetPages (slotIn is) else s
    let s := if old = 3 ∧ d = 1 then s.startPylon else s
    let s := if 2 ≤ st then s.clearBlocks is else s
    let s := if st = 3 then s.loseOff is else s
    if 8 ≤ d ∧ d ≤ 11 ∧ st = 0 then s.clusterBack (d - 8) old else s

/-! ## Modes (R598–R602) -/

/-- R656, R331: leaving DIAGNOSTIC, and every reset, clears what only DIAGNOSTIC unlocks. -/
def State.clearUnlocked (s : State) : State :=
  let s := { s with
    regs := Sparse.drop (fun k => decide (0xF00 ≤ k % 1024 * 4) && decide (k % 1024 * 4 < 0xF80)
      && match pageOf (k / 1024) with
        | some (p, _) => capPt p
        | none => false) s.regs }
  let s : State := (List.range 128).foldl (fun s n =>
    let g := pgLane n
    ((s.put g Rg.LN_PRBS_TX_PAT 0).put g Rg.LN_PRBS_LOOP 0).setReg g 0x1C8 0) s
  let s : State := { s with
    ts := { s.ts with lfsr := [], chans := [], hits := [], press := [], held := s.ts.held.map fun h => { h with due := min h.due s.uptime } }
    nt := { s.nt with bufs := s.nt.bufs.map fun b => { b with since := min b.since s.uptime } }
    mu := { s.mu with dyn := s.mu.dyn.map fun d => { d with since := min d.since s.uptime } }
    tr := { s.tr with lastAdmit := min s.tr.lastAdmit (s.uptime + 1) } }
  (s.put pgKeystone Rg.KS_TEAR_ARM 0).setKs { s.ks with tear := none }

/-- R46, R536, R599: the mode changes. -/
def State.setMode (s : State) (m : Nat) : State :=
  let old := s.mode
  let s := ((s.put pgSys Rg.SYS_MODE_MODE m).put pgSys Rg.SYS_MODE_TARGET m).put pgSys Rg.SYS_MODE_BUSY 0
  let s := s.put64 pgSys Rg.SYS_MODE_AIR_LO s.airIfValid
  let s := if old = modeDiag ∧ m ≠ modeDiag then s.clearUnlocked else s
  let trial := s.flag pgKeystone Rg.KS_BOOT0_AS_TRIAL && s.ks.boot.state = 1
  let s := if m = modeService ∧ trial ∧ s.get64 pgKeystone Rg.KS_DEADLINE_LO = 0 then
    s.put64 pgKeystone Rg.KS_DEADLINE_LO (s.now + 1769472000000) else s
  if m = modeService then { s with sec := { s.sec with service := if s.sec.service = 0 then s.uptime + 1 else s.sec.service } }
  else { s with sec := { s.sec with service := 0 } }

/-- A transition of the mode begins (R46). -/
def State.beginMode (s : State) (m : Nat) : State := (s.put pgSys Rg.SYS_MODE_TARGET m).put pgSys Rg.SYS_MODE_BUSY 1

/-- R608: the KEEPER mailbox completes its command. -/
def State.mailDone (s : State) (ok : Bool) (cause ev : Nat) : State :=
  let g := pgKeeper
  let v := 2 ^ 31 + ok.toNat * 2 ^ 30 + cause <<< 16 + ev
  let s := ((s.setReg g 0x120 (BitVec.ofNat 32 v)).put g Rg.KP_STAT_BUSY 0).irq g 0
  { s with pw := { s.pw with mail := none } }

/-- R599: the cause for which a MODE_SET is refused, the first that holds; 0: none. -/
def State.modeCause (s : State) (m : Nat) : Nat :=
  let cur := s.mode
  let guard_ := s.pl.guards.any fun e => bits e.2.cfg 31 31 = 1 && bits e.2.cfg 30 30 = 0
  let lc := s.get pgParapet Rg.PP_LC_LC
  let b := modeBringup
  if s.flag pgSys Rg.SYS_MODE_BUSY then 7
  else if cur = b ∧ m = modeService then (if !s.airValid then 2 else if !s.planBusy then 3 else 0)
  else if (cur = modeService ∧ m = modeDrain) ∨ (cur = modeDrain ∧ m = modeService) then 0
  else if ((cur = modeService ∨ cur = modeDrain) ∧ m = b) ∨ (cur = b ∧ m = modeQuiet) then
    (if s.planBusy then 4 else if guard_ then 5 else 0)
  else if cur = b ∧ m = modeDiag then
    (if s.get pgSys Rg.SYS_MODE_STRAP ≠ 3 then 6 else if s.planBusy then 4 else if lc = 2 ∨ lc = 4 then 8 else 0)
  else if 1 ≤ cur ∧ m = modeInert then (if s.planBusy then 4 else 0)
  else 1

/-- A sequence of the Keeper begins. -/
def State.setSeq (s : State) (kind : Nat) (steps : List KStep) : State :=
  { s with pw := { s.pw with seq := { KSeq.none with kind := kind, steps := steps } } }

/-- R583: every domain except D00 to OFF, then the rails. -/
def State.inertSteps (s : State) : List KStep :=
  (seqGroups.reverse.map fun g => KStep.domains (g.map fun d => (d, 3))) ++
    ((List.range 16).reverse.filterMap fun n => if s.flag pgPwr Rg.PWR_RAIL_A_EN n then some (KStep.railOff n) else none)

/-- R601: the steps of the entry to QUIET. -/
def State.quietSteps (s : State) : List KStep :=
  seqGroups.reverse.map fun g => KStep.domains (g.filterMap fun d =>
    let q := s.get (pgDom d) Rg.D_CFG_QUIET_ST
    if s.domCur d < q then some (d, q) else none)

/-- R602: the steps of the wake. -/
def State.wakeSteps (s : State) : List KStep :=
  (seqGroups.zipIdx).flatMap fun e =>
    let l := KStep.domains (e.1.filterMap fun d =>
      if s.pw.saved.getD d 0 ≠ s.domCur d ∨ s.flag (pgDom d) Rg.D_STAT_BUSY then some (d, s.pw.saved.getD d 0) else none)
    if e.2 = 2 then [l, .wakeStacks] else if e.2 = 5 then [l, .cores] else [l]

/-- R444: HOLD of every core. -/
def State.holdAll (s : State) : State :=
  (List.range 4).foldl (fun s c => if s.asleep (8 + c) then s else (s.put (pgCluster c) Rg.CL_RST 15).holdFollow c) s

/-- R605 from step 4 on. -/
def bringUpSteps : List KStep :=
  [.domains [(1, 0)], .domains [(2, 0)], .domains ((List.range 4).map fun i => (12 + i, 0)), .train, .domains [(7, 0)],
    .domains ((List.range 4).map fun i => (3 + i, 0)), .pads, .boot, .domains [(8, 0)], .start]

/-! ## The Keeper's sequences -/

/-- R611: firmware's transaction holds the port of a rail. -/
def State.portTaken (s : State) (n : Nat) : Bool :=
  match s.pw.pm with
  | some v => bits v 29 29 = s.get pgPwr Rg.PWR_RAIL_A_PORT n
  | none => false

/-- R431: whether a stack can be trained: its domains are ON and it is not. -/
def State.untrained (s : State) (n : Nat) : Bool :=
  s.domOn (12 + 2 * n) && s.domOn (13 + 2 * n) && s.domOn 12 && !(s.trained n)

/-- What a step does when it begins. -/
def State.beginStep (s : State) (k : KStep) : State :=
  let go := fun (s : State) => { s with pw := { s.pw with seq := { s.pw.seq with begun := true, at_ := s.uptime, poll := s.uptime } } }
  match k with
  | .rail n => if s.portTaken n then s else go s
  | .railOff n =>
    if s.portTaken n then s
    else go (s.put pgPwr Rg.PWR_RAIL_STAT_ON (let v := s.get pgPwr Rg.PWR_RAIL_STAT_ON; if v.testBit n then v - 2 ^ n else v))
  | .wakeStacks => go ((s.srefStack 0 false).srefStack 1 false)
  | .train => go ([0, 1].foldl (fun s n => if s.untrained n then s.setTrain n (s.uptime + 1) else s) s)
  | .pads => go (s.releasePads 6)
  | .cores =>
    go (s.pw.cores.foldl (fun s h =>
      let c := h / 4
      if s.domOn (8 + c) then
        let v := s.get (pgCluster c) Rg.CL_RST
        (s.put (pgCluster c) Rg.CL_RST (if v.testBit (h % 4) then v - 2 ^ (h % 4) else v)).holdFollow c
      else s) s)
  | .start =>
    let s := s.put64 (pgCluster 0) Rg.CL_BOOT_LO s.pw.entry
    go ((s.put (pgCluster 0) Rg.CL_RST (s.get (pgCluster 0) Rg.CL_RST / 2 * 2)).holdFollow 0)
  | _ => go s

/-- R603: the domains of a step are asked once each, as soon as no other transition of theirs is in progress. -/
def State.askDomains (s : State) (k : KStep) : State :=
  match k with
  | .domains l =>
    l.foldl (fun s x =>
      if s.pw.seq.asked.contains x.1 || s.flag (pgDom x.1) Rg.D_STAT_BUSY then s
      else
        let s := s.domRequest x.1 x.2 1
        { s with pw := { s.pw with seq := { s.pw.seq with asked := x.1 :: s.pw.seq.asked } } }) s
  | _ => s

/-- Whether a step that has begun is over. -/
def State.stepOver (s : State) (k : KStep) : Bool :=
  let q := s.pw.seq
  match k with
  | .scan => s.flag pgKeystone Rg.KS_STAT_READY
  | .rail n => match q.good with
    | some t => decide (t + s.get pgPwr Rg.PWR_RAIL_B_DELAY n * 196608 ≤ s.uptime)
    | none => false
  | .railOff n => decide (q.at_ + s.get pgPwr Rg.PWR_RAIL_B_DELAY n * 196608 ≤ s.uptime)
  | .domains l => l.all fun x => q.asked.contains x.1 && !(s.flag (pgDom x.1) Rg.D_STAT_BUSY)
  | .train => s.mu.train0 = 0 && s.mu.train1 = 0
  | .boot => false
  | _ => true

/-- The next step. -/
def State.popStep (s : State) (k : KStep) : State :=
  let rest := s.pw.seq.steps.drop 1
  match k with
  | .scan =>
    s.setSeq s.pw.seq.kind
      (((List.range 16).filterMap fun n => if s.flag pgPwr Rg.PWR_RAIL_A_EN n then some (KStep.rail n) else none) ++ rest)
  | .train => if s.trained 0 || s.trained 1 then s.setSeq s.pw.seq.kind rest else s.setSeq 0 []
  | _ => s.setSeq s.pw.seq.kind rest

/-- R602: the end of the wake from QUIET. -/
def State.endWake (s : State) : State :=
  let s := (s.setSeq 0 []).setMode modeBringup
  match s.pw.wake with
  | none => s
  | some x =>
    let s := (s.put pgPwr Rg.PWR_WAKE_CAUSE_CAUSE x.cause).put pgPwr Rg.PWR_WAKE_CAUSE_SRC x.src
    let s := (s.put64 pgPwr Rg.PWR_WAKE_AIR_LO x.air).event pgPwr Ev.QUIET_WAKE
    { s with pw := { s.pw with wake := none } }

/-- The Keeper carries its sequence on as far as it goes. A wake source stops the entry to QUIET (R606). -/
def State.keeperGo : Nat → State → State
  | 0, s => s
  | n + 1, s =>
    if s.pw.down || s.pw.porst || s.pw.warmPin || (s.pw.seq.kind = 2 && s.pw.wake.isSome) then s
    else
      match s.pw.seq.steps with
      | [] => if s.pw.seq.kind = 3 then s.endWake else if s.pw.seq.kind = 1 then s.setSeq 0 [] else s
      | k :: _ =>
        let s := if s.pw.seq.begun then s else s.beginStep k
        if !s.pw.seq.begun then s
        else
          let s := s.askDomains k
          if s.stepOver k then (s.popStep k).keeperGo n else s

def State.keeper (s : State) : State := s.keeperGo 64

/-! ## Resets (R604) -/

/-- DBG_STAT.ACCESS (R636, R641). -/
def State.showAccess (s : State) : State :=
  let lc := s.get pgSys Rg.SYS_LC
  s.put pgDebug Rg.DBG_STAT_ACCESS (if lc = 4 then 0 else if lc = 2 then (if s.flag pgDebug Rg.DBG_STAT_AUTH then 1 else 0) else 2)

/-- R623, R640: the registers that show the fuses. -/
def State.showFuses (s : State) : State :=
  let st := fun (n : Nat) => bits s.sec.fuses (2 * n - 1) (2 * n - 2)
  let lc := ([1, 2, 3, 4].filter fun n => st n = 3).foldl max 0
  let s := (s.put pgParapet Rg.PP_LC_LC lc).put pgSys Rg.SYS_LC lc
  let s := s.put pgParapet Rg.PP_FAULT_SCRAPPED (lc = 4 : Bool).toNat
  (s.put pgParapet Rg.PP_MINVER s.sec.minver).showAccess

/-- R625: the Caisson is wiped. It is 0 at once; accesses read 0 until WIPING ends. -/
def State.wipe (s : State) : State :=
  let s := { s with
    mem := Sparse.drop (fun a => decide (caissonBase ≤ a) && decide (a < caissonBase + 0x400000)) s.mem
    mu := { s.mu with
      ecc := Sparse.drop (fun w => decide (caissonBase ≤ 8 * w) && decide (8 * w < caissonBase + 0x400000)) s.mu.ecc }
    sec := { s.sec with handles := [], wipeEnd := s.uptime + 4096 } }
  let g := pgParapet
  ((s.put g Rg.PP_CAISSON_WIPING 1).satAdd g Rg.PP_CAISSON_WIPES).event g Ev.CAISSON_WIPED

/-- PORST_N (R604): everything but the fuses and the Keystone's array. A command of the Keystone in progress falls to the loss of power. -/
def State.porst (s : State) : State :=
  let s := s.ksCut
  let ecc := Sparse.drop (fun w => decide (w < ksEcc0) || decide (ksEcc0 + 0x400000 ≤ w)) s.mu.ecc
  ({ State.reset with
    free := s.free
    keys := s.keys
    mu := { Mem.zero with ecc := ecc }
    ks := { Ks.zero with words := s.ks.words }
    ab := { Abut.zero with pcie := { Pcie.zero with perst := s.ab.pcie.perst } }
    sec := { Sec.zero with fuses := s.sec.fuses, minver := s.sec.minver }
    io := { Slow.zero with tap := s.io.tap }
    pending := s.pending }).showFuses

/-- A warm reset (R604, R36): its bit of PWR_RST_CAUSE. -/
def State.warmReset (s : State) (cause : Nat) : State :=
  let out := fun (d : Nat) => d ≠ 0
  let s := s.resetPages fun n => match slotDomain n with
    | some d => out d
    | none => true
  let s := ((s.clearBlocks out).forgetDomains out).clearUnlocked
  let s := { s with
    air := 0
    py := Pylon.zero s.uptime
    gp := Gpio.zero
    ab := { s.ab with cache := [], target := [] }
    en := Engines.zero
    samples := []
    mu := { s.mu with cel := [], later := [], ports := [], resv := [] }
    pw := { s.pw with
      trans := [], begun := [], act := [], seq := KSeq.none, wake := none, mail := none, halted := false, test := false, padLvl := 0, padOe := 0 } }
  let s := (List.range 80).foldl (fun s d =>
    if d = 0 then s
    else
      let g := pgDom d
      let s := if s.domCur d = 3 then s else s.setCur d 3
      let s := (((s.put g Rg.D_STAT_TARGET 3).put g Rg.D_STAT_BUSY 0).put g Rg.D_STAT_IDLE 0)
      s.put g Rg.D_STAT_LATCHED (domainHasPads d).toNat) s
  let s := (s.put pgKeeper Rg.KP_STAT_BUSY 0).setReg pgKeeper 0x120 0
  let s := (s.setReg pgPwr 0x120 (BitVec.ofNat 32 (2 ^ cause))).event pgPwr Ev.WARM_RESET
  s.setMode modeBringup

/-- An internal warm reset: bring-up follows at once. -/
def State.warmStart (s : State) (cause : Nat) : State := ((s.warmReset cause).setSeq 1 bringUpSteps).keeper

/-- PORST (R604): PORST_N falls. -/
def execPorst (s : State) : Host.Outcome State Fault Refusal := .next s.porst

/-- PORST_RELEASE (R600, R605, R673): MODE_STRAP2–0 and REFOSC_SEL1–0 are latched. -/
def execPorstRelease (strap : Fin 8) (refosc : Fin 4) (s : State) : Host.Outcome State Fault Refusal :=
  .next (
    if !s.pw.porst then s
    else
      let s := ({ s with uptime := 0 } : State).showFuses
      let s := (s.put pgSys Rg.SYS_MODE_STRAP strap.val).put pgKeeper Rg.KP_STAT_KEEPER_UP 1
      let bad := refosc.val = 3
      let s := if 4 ≤ strap.val ∨ bad then s.event pgPwr Ev.STRAP_BAD else s
      let s := if bad then s.put pgParapet Rg.PP_FAULT_STRAP 1 else s
      let halt := strap.val = 2 || decide (4 ≤ strap.val)
      ({ s with pw := { s.pw with porst := false, test := !bad && !halt, halted := halt && !bad } }).wipe)

/-- R623: at a start the Keeper completes a pair of life-cycle fuses of which one is programmed. -/
def State.completePair (s : State) : State :=
  match [1, 2, 3, 4].find? fun n => bits s.sec.fuses (2 * n - 1) (2 * n - 2) = 1 ∨ bits s.sec.fuses (2 * n - 1) (2 * n - 2) = 2 with
  | none => s
  | some n =>
    let s := s.wipe
    let s := { s with sec := { s.sec with fuses := s.sec.fuses ||| 3 <<< (2 * n - 2) } }
    (s.showFuses.put pgParapet Rg.PP_LC_TORN 1).event pgParapet Ev.LC_CHANGED

/-- R599, R605: INERT gives way to BRINGUP, and the Keeper brings the device up. -/
def State.bringUp (s : State) : State :=
  let s := { s with pw := { s.pw with test := false, halted := false } }
  let s := ((s.setMode modeBringup).event pgPwr Ev.MODE_DONE).setKs { s.ks with scan := true, scanAt := s.uptime }
  (s.setSeq 1 (.scan :: bringUpSteps)).keeper

/-- SELF_TEST_DONE (R599, R605, R622): in SCRAPPED the self-test does not end. -/
def execSelfTestDone (s : State) : Host.Outcome State Fault Refusal :=
  .next (
    if !s.pw.test || s.pw.porst then s
    else
      let s := s.completePair
      if s.get pgParapet Rg.PP_LC_LC = 4 then s else s.bringUp)

/-- WARMRST (R604, R677): WARMRST_N has been low for 1,966 cy. -/
def execWarmrst (s : State) : Host.Outcome State Fault Refusal :=
  .next (
    if s.pw.porst || s.pw.warmPin then s
    else
      let s := s.warmReset 1
      { s with pw := { s.pw with warmPin := true } })

/-- WARMRST_RELEASE (R604): the rising edge. -/
def execWarmrstRelease (s : State) : Host.Outcome State Fault Refusal :=
  .next (
    if s.pw.warmPin then (({ s with pw := { s.pw with warmPin := false } }).setSeq 1 bringUpSteps).keeper else s)

/-! ## Rails (R582) -/

/-- A rail sequence fails: every rail that is on goes off, and the device returns to INERT. -/
def State.railFail (s : State) (n code : Nat) : State :=
  let s := ((s.put pgPwr Rg.PWR_RAIL_STAT_FAIL n).put pgPwr Rg.PWR_RAIL_STAT_ON 0).event pgPwr code
  (s.setSeq 0 []).setMode modeInert

/-- R611: a PMBus event, with the address in DETAIL[22:16] and the port in DETAIL[24]. -/
def State.pmEvent (s : State) (code addr port : Nat) : State := s.event pgPm code 0 0 (addr <<< 16 + port <<< 24)

/-- RAIL_POLL (R582): the STATUS_WORD that the Keeper reads; `none`: no acknowledge. -/
def execRailPoll (answer : Option (BitVec 16)) (s : State) : Host.Outcome State Fault Refusal :=
  .next (
    match s.pw.seq.steps with
    | .rail n :: _ =>
      let q := s.pw.seq
      if !q.begun || q.good.isSome || decide (s.uptime < q.poll) || s.pw.down then s
      else
        let s := { s with pw := { s.pw with seq := { q with poll := s.uptime + 196608 } } }
        let late := decide (q.at_ + s.get pgPwr Rg.PWR_RAIL_B_TMO n * 1966080 ≤ s.uptime)
        match answer with
        | none =>
          let s := s.pmEvent Ev.PM_NACK (s.get pgPwr Rg.PWR_RAIL_A_ADDR n) (s.get pgPwr Rg.PWR_RAIL_A_PORT n)
          if late then s.railFail n Ev.RAIL_TIMEOUT else s
        | some w =>
          if w.toNat &&& 0xE03C ≠ 0 then s.railFail n Ev.RAIL_FAULT
          else if bits w.toNat 11 11 = 0 then
            let s := s.put pgPwr Rg.PWR_RAIL_STAT_ON (s.get pgPwr Rg.PWR_RAIL_STAT_ON ||| 2 ^ n)
            ({ s with pw := { s.pw with seq := { s.pw.seq with good := some s.uptime } } }).keeper
          else if late then s.railFail n Ev.RAIL_TIMEOUT
          else s
    | _ => s)

/-! ## The mailbox (R608) -/

/-- R608: a write of KP_CMD: BAD_CMD while BUSY, or the command begins. -/
def State.mailStart (s : State) (op : Nat) (f : State → State) : State :=
  let g := pgKeeper
  if s.flag g Rg.KP_STAT_BUSY then s.event g Ev.BAD_CMD_01
  else
    let s := (s.put g Rg.KP_STAT_BUSY 1).setReg g 0x120 0
    f { s with pw := { s.pw with mail := some op } }

/-- MODE_SET's effect (R599, R601, R583). -/
def State.modeSet (s : State) : State :=
  let m := s.get pgKeeper Rg.KP_ARG % 8
  let c := s.modeCause m
  if c ≠ 0 then ((s.event pgKeeper Ev.MODE_REFUSED).irq pgPwr 0).mailDone false c Ev.MODE_REFUSED
  else
    let s := s.beginMode m
    if m = modeQuiet then
      let s := { s with pw := { s.pw with
        wake := none
        saved := (List.range 80).map s.domCur
        cores := (List.range 16).filter fun h => !((s.get (pgCluster (h / 4)) Rg.CL_RST).testBit (h % 4)) && !(s.asleep (8 + h / 4)) } }
      let s := (s.holdAll.srefStack 0 true).srefStack 1 true
      (s.setSeq 2 s.quietSteps).keeper
    else if m = modeInert then
      let s := (s.srefStack 0 true).srefStack 1 true
      (s.setSeq 4 s.inertSteps).keeper
    else s

/-- MODE_SET (R599): a write of KP_CMD with OP 0x01. -/
def execModeSet (w : Who) (s : State) : Host.Outcome State Fault Refusal :=
  .next (s.access w pgKeeper 0x100 true fun s => s.mailStart 1 State.modeSet)

/-- MODE_DONE (R599): the Keeper completes the transition in progress; one with actions of the Keeper after its last step. -/
def execModeDone (s : State) : Host.Outcome State Fault Refusal :=
  .next (
    let q := s.pw.seq
    if s.pw.down || s.pw.mail ≠ some 1 || !(s.flag pgSys Rg.SYS_MODE_BUSY) then s
    else if (q.kind = 2 && (!q.steps.isEmpty || s.pw.wake.isSome)) || (q.kind = 4 && !q.steps.isEmpty) || q.kind = 3 then s
    else
      let s := ((s.setSeq 0 []).setMode (s.get pgSys Rg.SYS_MODE_TARGET)).event pgPwr Ev.MODE_DONE
      s.mailDone true 0 0)

/-- WARM_RESET (R604, R608): a write of KP_CMD with OP 0x02. -/
def execWarmReset (w : Who) (s : State) : Host.Outcome State Fault Refusal :=
  .next (s.access w pgKeeper 0x100 true fun s => s.mailStart 2 fun s => s.warmStart 2)

/-- QUIET_WAKE (R602, R606): the Keeper begins the wake from QUIET, or from the entry to it, which then completes with OK = 1. -/
def execQuietWake (s : State) : Host.Outcome State Fault Refusal :=
  .next (
    if s.pw.wake.isNone || s.pw.down then s
    else
      let wake := fun (s : State) =>
        let s := s.beginMode modeBringup
        (s.setSeq 3 s.wakeSteps).keeper
      if s.mode = modeQuiet ∧ ¬ s.flag pgSys Rg.SYS_MODE_BUSY then wake s
      else if s.pw.seq.kind = 2 then wake (s.mailDone true 0 0)
      else s)

/-! ## Domain commands -/

/-- DOMAIN_REQUEST (R586, R587): by a write of D_REQ (0), by a firing with ACTION 0x5 that is due (1), or by an access or interrupt
that reaches an idle-gated domain (2). A firing that names D00 with state ON wakes the device from QUIET (R602). -/
def execDomainRequest (w : Who) (how : Fin 3) (d : Fin 80) (value : Nat) (s : State) : Host.Outcome State Fault Refusal :=
  .next (
    if how.val = 0 then s.command w (pgDom d.val) 0x100 value fun s => s.domRequest d.val (value % 4) 0
    else if how.val = 1 then
      match s.py.trigOut.find? fun o => o.action = 5 && decide (o.due ≤ s.uptime) with
      | none => s
      | some o =>
        let s := { s with py := { s.py with trigOut := s.py.trigOut.erase o } }
        let n := o.arg % 128
        let st := bits o.arg 9 8
        if 80 ≤ n then s
        else if n = 0 ∧ st = 0 then s.wakeSource 3 0
        else s.domRequest n st 2
    else if s.domCur d.val = 1 && s.flag (pgDom d.val) Rg.D_STAT_IDLE && !(s.flag (pgDom d.val) Rg.D_STAT_BUSY) then
      s.domRequest d.val 0 5
    else s)

/-- DEFERRED_WAKE_START (R589): a deferred wake begins when both limits allow it. -/
def execDeferredWakeStart (d : Fin 80) (s : State) : Host.Outcome State Fault Refusal :=
  .next (
    match s.transOf d.val with
    | some t =>
      let off := decide (s.domCur d.val = 3)
      if t.due.isNone && s.wakeFits t.len off then
        (s.setTrans { t with due := some (s.uptime + t.len) }).noteWake d.val t.len off
      else s
    | none => s)

/-- DOMAIN_TRANSITION_DONE (R585). -/
def execDomainTransitionDone (d : Fin 80) (s : State) : Host.Outcome State Fault Refusal :=
  .next (
    match s.transOf d.val with
    | some t => (match t.due with
      | some u => if u ≤ s.uptime then (s.endChange t).keeper else s
      | none => s)
    | none => s)

/-- R593: the domains that idle timers govern. -/
def idleDomain (d : Nat) : Bool :=
  (decide (3 ≤ d) && decide (d ≤ 6)) || (decide (8 ≤ d) && decide (d ≤ 11)) || (decide (16 ≤ d) && decide (d ≤ 71))

/-- IDLE_TIMER_EXPIRY (R593): a domain that has been ON and without activity for IDLE_T × 1,024 cy. -/
def execIdleTimerExpiry (d : Fin 80) (s : State) : Host.Outcome State Fault Refusal :=
  let g := pgDom d.val
  .next (
    let since := Sparse.get (fun _ => 0) s.pw.act d.val
    let awake := decide (8 ≤ d.val) && decide (d.val ≤ 11) && (List.range 4).any fun i =>
      (s.hart (4 * (d.val - 8) + i)).running && !(s.hart (4 * (d.val - 8) + i)).wfi
    if idleDomain d.val && s.flag g Rg.D_CFG_IDLE_EN && s.domOn d.val && !(s.planDomain d.val) && !awake
        && decide (since + s.get g Rg.D_CFG_IDLE_T * 1024 ≤ s.uptime + 1) then
      s.domRequest d.val (if s.get g Rg.D_CFG_IDLE_ST = 2 ∧ 16 ≤ d.val then 2 else 1) 4
    else s)

/-- PAD_RELEASE (R596): a write of D_PAD. -/
def execPadRelease (w : Who) (d : Fin 80) (value : Nat) (s : State) : Host.Outcome State Fault Refusal :=
  .next (s.command w (pgDom d.val) 0x10C value fun s => if value % 2 = 1 then s.releasePads d.val else s)

/-- POWER (R591): the slot-table operation requests a state of its domain. -/
def execSlotPower (r i : Nat) (s : State) : Host.Outcome State Fault Refusal :=
  .next (s.issueSlot 10 r i fun x s =>
    let d := x.unit % 256
    let st := x.arg % 4
    if x.fenced ∨ st = s.get (pgDom d) Rg.D_STAT_TARGET then s
    else
      let len := deckRound s.deckK (changeCy d (s.domCur d) st)
      (s.addJob x 10 len len).domRequest d st 3 s.deckK)

/-! ## Deck performance levels (R597) -/

/-- REQ, where 3 acts as 2. -/
def State.levelReq (s : State) : Nat := min 2 (s.get pgPwr Rg.PWR_DECK_REQ)

/-- A change towards REQ begins when it differs from CUR. -/
def State.levelGo (s : State) : State :=
  let go := decide (s.levelReq ≠ s.get pgPwr Rg.PWR_DECK_CUR)
  { (s.put pgPwr Rg.PWR_DECK_BUSY go.toNat) with pw := { s.pw with level := if go then some s.levelReq else none } }

/-- A write of PWR_DECK. -/
def State.levelWrite (s : State) (value : Nat) : State :=
  if s.planBusy then s.event pgPwr Ev.PLEVEL_REFUSED
  else
    let s := s.put pgPwr Rg.PWR_DECK_REQ value
    if s.flag pgPwr Rg.PWR_DECK_BUSY then s else s.levelGo

/-- DECK_LEVEL_REQUEST (R597). -/
def execDeckLevelRequest (w : Who) (value : Nat) (s : State) : Host.Outcome State Fault Refusal :=
  .next (s.access w pgPwr 0x100 true fun s => s.levelWrite value)

/-- DECK_PLEVEL_DONE (R597): the change in progress completes, at an air count that is a multiple of 4. -/
def execDeckPlevelDone (s : State) : Host.Outcome State Fault Refusal :=
  .next (
    match s.pw.level with
    | none => s
    | some l =>
      if s.now % 4 ≠ 0 ∨ s.pw.down then s
      else ((s.put pgPwr Rg.PWR_DECK_CUR l).event pgPwr Ev.PLEVEL_DONE_02).levelGo)

/-! ## PMBus (R611) -/

/-- PMBUS_TRANSACTION (R611): a write of PM_CMD; START begins a transaction. A START while one is in progress has no effect (log entry 34). -/
def execPmbusTransaction (w : Who) (value : Nat) (s : State) : Host.Outcome State Fault Refusal :=
  .next (s.command w pgPm 0x104 value fun s =>
    if bits value 31 31 = 1 ∧ ¬ s.flag pgPm Rg.PM_STAT_BUSY then
      let s := s.put pgPm Rg.PM_STAT_BUSY 1
      { s with pw := { s.pw with pm := some (value % 2 ^ 32) } }
    else s)

/-- PMBUS_DONE (R611): the transaction ends: without acknowledge, beyond 25 ms, with a PEC that fails, with the bytes read. It waits while
the Keeper uses the port. -/
def execPmbusDone (nack late badPec : Bool) (data : BitVec 32) (s : State) : Host.Outcome State Fault Refusal :=
  let g := pgPm
  .next (
    match s.pw.pm with
    | none => s
    | some v =>
      let port := bits v 29 29
      let keeper := match s.pw.seq.steps with
        | .rail n :: _ => s.pw.seq.begun && s.get pgPwr Rg.PWR_RAIL_A_PORT n = port
        | .railOff n :: _ => s.pw.seq.begun && s.get pgPwr Rg.PWR_RAIL_A_PORT n = port
        | _ => false
      if keeper then s
      else
        let rd := decide (bits v 30 30 = 1)
        let pec := badPec && rd && s.flag g (if port = 0 then Rg.PM_CFG_PEC0 else Rg.PM_CFG_PEC1)
        let addr := bits v 22 16
        let s := { s with pw := { s.pw with pm := none } }
        let s := s.setReg g 0x10C (BitVec.ofNat 32 (pec.toNat <<< 3 + late.toNat <<< 2 + nack.toNat <<< 1))
        let s := if nack then s.pmEvent Ev.PM_NACK addr port else s
        let s := if late then s.pmEvent Ev.PM_TIMEOUT addr port else s
        let s := if pec then s.pmEvent Ev.PM_PEC addr port else s
        let s := if rd && !nack && !late then
          s.put g Rg.PM_DATA (data.toNat % 2 ^ (8 * min 4 (bits v 28 26))) else s
        s.irq g 0)

/-! ## Trial limits (R536) -/

/-- Whether the booted image runs as a trial. -/
def State.trialRuns (s : State) : Bool := s.flag pgKeystone Rg.KS_BOOT0_AS_TRIAL && s.ks.boot.state = 1

/-- CONFIRM_EXPIRED (R536): the confirm deadline passes. -/
def execConfirmExpired (s : State) : Host.Outcome State Fault Refusal :=
  .next (
    let at_ := s.get64 pgKeystone Rg.KS_DEADLINE_LO
    if s.trialRuns ∧ at_ ≠ 0 ∧ at_ ≤ s.now ∧ ¬ s.pw.down then (s.ksEvent Ev.CONFIRM_EXPIRED).warmStart 3 else s)

/-- TRIAL_BRINGUP_LIMIT (R536): a trial image has not reached SERVICE within 2,359,296,000,000 cy. -/
def execTrialBringupLimit (s : State) : Host.Outcome State Fault Refusal :=
  .next (
    if s.trialRuns ∧ s.get64 pgKeystone Rg.KS_DEADLINE_LO = 0 ∧ s.ks.trialAt + 2359296000000 ≤ s.uptime ∧ ¬ s.pw.down then
      (s.event pgKeystone Ev.CONFIRM_EXPIRED 0 0 (5 <<< 16)).warmStart 3
    else s)

end Sys2Proof.Machine
end

