-- ==== Sys2Proof/Machine/PoolOps.lean ====
section
/-! DEFINITION. The POOL block: pool time, global operations, and what happens in it at every cycle (spec chapter 17, R560–R565, R574, R577). -/
namespace Sys2Proof.Machine

/-! ## Pool time (R560) -/

/-- The exchange in progress for a reference slot. -/
def State.timeOf (s : State) (n : Nat) : Option TimeX := s.pl.time.find? fun t => t.slot = n

def State.endTime (s : State) (n : Nat) : State := s.setPl { s.pl with time := s.pl.time.filter fun t => t.slot ≠ n }

/-- A reference slot of KIND 5 is enabled. -/
def State.poolSlot (s : State) (n : Nat) : Bool := s.domOn 1 && s.flag pgRef Rg.REF_CFG_EN n && (s.slot n).kind = 5

/-- TIME_EXCHANGE_START (R560): every INT spans. It needs no valid air count (log entry 45). -/
def execTimeExchangeStart (slot : Fin 8) (s : State) : Host.Outcome State Fault Refusal :=
  let n := slot.val
  .next (
    let last := Sparse.get (fun _ => 0) s.pl.timeAt n
    let int := max 1 (s.get pgPool Rg.POOL_TIME2_INT)
    let x := s.peer (s.get pgPool Rg.POOL_TIME)
    if !s.poolOn || !(s.poolSlot n) || s.plState = plConflict || (s.timeOf n).isSome || x = Peer.zero
        || (last ≠ 0 && decide (s.uptime + 1 < last + int * spanCy)) then s
    else
      let link := (s.slot n).src % 16
      let r := s.nextSeq 6
      let s := r.2.setPl { r.2.pl with
        time := r.2.pl.time ++ [⟨n, link, 0, s.uptime⟩]
        timeAt := Sparse.set (fun _ => 0) r.2.pl.timeAt n (s.uptime + 1) }
      s.lkSend link x.mac 6 (s.get pgPool Rg.POOL_TIME) r.1 (beBytes 8 0) (some 0))

/-- TIME_REQ (R560): answered with t1, t2 and t3 on the link of its arrival. -/
def execTimeReq (s : State) : Host.Outcome State Fault Refusal :=
  .next (s.takeFrame 6 fun r s =>
    if !s.poolActs || s.plState = plConflict then s
    else
      let q := s.nextSeq 7
      q.2.lkSend r.link r.mac 7 (r.src % 2048) q.1 (beBytes 8 (beAt r.body 0 8) ++ beBytes 8 r.tin ++ beBytes 8 0) (some 16))

/-- A rejected exchange. -/
def State.timeFail (s : State) : State := s.satAdd pgPool Rg.POOL_TIME_FAIL

/-- R560: an accepted exchange with offset `o` in 2⁻⁸ cy at slot `n`: a phase measurement, or a coarse step while UNSET or ACQUIRING. An
offset outside the range in another state is not committed (log entry 45). -/
def State.timeAccept (s : State) (n : Nat) (o demand : Int) : State :=
  let s := s.setSlot n { s.slot n with commit := s.uptime }
  if decide (o < -(2 ^ 31)) || decide (2 ^ 31 ≤ o) then
    if 2 ≤ s.get pgPylon Rg.PY_STATE_STATE then s
    else if s.planBusy then s.event pgPylon Ev.COARSE_DENIED
    else stepAir s (-(roundEven o 256))
  else
    let s := s.put pgPool Rg.POOL_TIME_OFS (ofInt 32 o)
    if s.flag pgRef Rg.REF_STAT_SEL_T n then measure s o demand else s

/-- TIME_RSP (R560): `demand` is the frequency that the Pylon's loop asks for (R56). -/
def execTimeRsp (demand : Int) (s : State) : Host.Outcome State Fault Refusal :=
  .next (s.takeFrame 7 fun r s =>
    let t1 := beAt r.body 0 8
    match s.pl.time.find? fun t => t.link = r.link && t.t1 = t1 with
    | none => s
    | some x =>
      if r.src ≠ s.get pgPool Rg.POOL_TIME then s
      else
        let s := s.endTime x.slot
        let t2 : Int := beAt r.body 8 8
        let t3 : Int := beAt r.body 16 8
        let t4 : Int := r.tin
        if (s.get pgPool Rg.POOL_TIME2_RTT_MAX : Int) < (t4 - t1) - (t3 - t2) then s.timeFail
        else if !(s.poolSlot x.slot) then s
        else s.timeAccept x.slot (((t4 - t3) - (t2 - t1)) * 128 + toInt 32 (s.get (pgLk r.link) Rg.LK_ASYM)) demand)

/-- TIME_EXCHANGE_TIMEOUT (R560). -/
def execTimeExchangeTimeout (slot : Fin 8) (s : State) : Host.Outcome State Fault Refusal :=
  .next (
    match s.timeOf slot.val with
    | some x => if s.poolOn && decide (x.up + spanCy ≤ s.uptime) then (s.endTime slot.val).timeFail else s
    | none => s)

/-! ## The tree (R562) -/

/-- FANOUT, held in its range (log entry 46). -/
def State.fanout (s : State) : Nat := max 2 (min 16 (s.get pgPool Rg.POOL_TREE_FANOUT))
def State.hop (s : State) : Nat := s.get pgPool Rg.POOL_TREE_HOP

/-- R562: the smallest d with 1 + F + … + F^d > r; `sum` is the sum so far. -/
def depthFrom (f r : Nat) : Nat → Nat → Nat → Nat → Nat
  | 0, d, _, _ => d
  | fuel + 1, d, pow, sum => if r < sum then d else depthFrom f r fuel (d + 1) (pow * f) (sum + pow * f)

/-- The depth of rank `r`. -/
def treeDepth (f r : Nat) : Nat := depthFrom f r 12 0 1 1

/-- D of a view of `n` members. -/
def treeD (f n : Nat) : Nat := treeDepth f (n - 1)

/-- The rank of a member in the tree of an initiator. -/
def View.rank (v : View) (init m : Nat) : Nat :=
  (v.members.idxOf m + v.members.length - v.members.idxOf init) % v.members.length

/-- The member at a rank. -/
def View.atRank (v : View) (init r : Nat) : Nat := v.members.getD ((v.members.idxOf init + r) % v.members.length) 0

/-- The children of a member, and its parent. -/
def View.children (v : View) (f init m : Nat) : List Nat :=
  let r := v.rank init m
  ((List.range f).map fun i => f * r + 1 + i).filterMap fun k => if k < v.members.length then some (v.atRank init k) else none

def View.parent (v : View) (f init m : Nat) : Nat := v.atRank init ((v.rank init m - 1) / f)

/-- R562: the view with a number that the chip still holds. -/
def State.heldView (s : State) (num : Nat) : Option View :=
  match s.pl.active, s.pl.prev with
  | some v, p => if v.num = num then some v else p.filter fun v => v.num = num
  | none, p => p.filter fun v => v.num = num

/-- The depth of this chip in an operation's tree, and U_d. -/
def State.runDepth (s : State) (o : OpRun) : Nat := treeDepth s.fanout (o.view.rank o.init s.chipId)
def State.runU (s : State) (o : OpRun) (d : Nat) : Int :=
  (o.t : Int) - ((treeD s.fanout o.view.members.length + d) * s.hop : Nat)

/-- A frame to every child of this chip in an operation's tree. -/
def State.toChildren (s : State) (o : OpRun) (type : Nat) (body : List Nat) : State :=
  (o.view.children s.fanout o.init s.chipId).foldl (fun s m => s.chipSend type m body) s

def OpRun.same (o : OpRun) (init h : Nat) : Bool := o.init = init && o.h = h

def State.findRun (s : State) (init h : Nat) : Option OpRun := s.pl.runs.find? fun o => o.same init h

/-- Replaces an operation. -/
def State.setOpRun (s : State) (o : OpRun) : State :=
  s.setPl { s.pl with runs := s.pl.runs.map fun x => if x.same o.init o.h then o else x }

/-! ## The op table (R561, R563, R577) -/

def State.opSlot (s : State) (h : Nat) : OpSlot := Sparse.get opSlot0 s.pl.slots h

/-- Changes an op slot; POOL_OP_STAT shows the selected one. -/
def State.setOpSlot (s : State) (h : Nat) (x : OpSlot) : State :=
  let s := s.setPl { s.pl with slots := Sparse.set opSlot0 s.pl.slots h x }
  if s.get pgPool Rg.POOL_OP_IDX = h then s.setReg pgPool 0x1DC (BitVec.ofNat 32 x.stat) else s

/-- The OP body of an operation (R564). -/
def OpRun.body (o : OpRun) : List Nat := Config.poolBody 3 ([o.init, o.h, o.kind, o.t, o.view.num, o.arg] ++ o.payload)

/-- An operation begins at this chip; an arrival that was held counts (R564). -/
def State.addRun (s : State) (o : OpRun) : State :=
  let mine := s.pl.held.contains (o.init, o.h)
  s.setPl { s.pl with runs := s.pl.runs ++ [{ o with mine := mine }], held := s.pl.held.filter fun x => x ≠ (o.init, o.h) }

/-- The 32 payload bytes of an op slot; free values where they cannot be read (log entry 46). -/
def State.opPayload (s : State) (a : Nat) : List Nat × State :=
  match s.dynRead ⟨236, 2, 0, 0⟩ a 32 with
  | (some v, s) => (bytesOf 32 v, s)
  | (none, s) => let f := s.fresh; (bytesOf 32 f.1, f.2)

/-- R561, R563: ISSUE of slot `h` at this air count. A KIND without a meaning has no effect. -/
def State.opIssue (s : State) (h : Nat) : State :=
  let x := s.opSlot h
  let kind := bits x.cfg 2 0
  let v : Option View := if s.plState = plAlone then some ⟨0, [s.chipId]⟩ else if s.plState = plMember then s.pl.active else none
  if kind = 0 ∨ 4 < kind then s
  else
    match v with
    | none => s.plEvent Ev.NO_VIEW
    | some v =>
      let d := treeD s.fanout v.members.length
      let k := if kind = 1 then 3 else 1
      if s.now + 2 ^ 31 ≤ x.t then s.plEvent Ev.OP_RANGE
      else if x.t < s.now + k * d * s.hop + 65536 then s.plEvent Ev.LEAD_SHORT
      else
        let p := s.opPayload x.pay
        let o : OpRun := ⟨s.chipId, h, kind, x.t, v, bits x.cfg 31 16, p.1, false, 0, none, false, false⟩
        let s := (p.2.setOpSlot h { x with stat := 1 <<< 30 }).addRun o
        s.toChildren o 3 o.body

/-- POOL_OP_WRITE: the staged slot is applied. -/
def State.opWrite (s : State) : State :=
  let h := s.get pgPool Rg.POOL_OP_IDX
  s.setOpSlot h { s.opSlot h with
    cfg := (s.reg pgPool 0x1C4).toNat
    t := s.get64 pgPool Rg.POOL_OP_T_LO
    pay := s.get64 pgPool Rg.POOL_OP_PAY_LO }

/-- A write of POOL_OP_CMD: WRITE, then ISSUE. -/
def State.opCmd (s : State) (value : Nat) : State :=
  let s := if value % 2 = 1 then s.opWrite else s
  if bits value 1 1 = 1 ∧ s.poolActs then s.opIssue (s.get pgPool Rg.POOL_OP_IDX) else s

/-- OP_ISSUE (R561): by a write of POOL_OP_CMD (`byTrigger` false), or by a firing with ACTION 0x7 that is due. -/
def execOpIssue (w : Who) (byTrigger : Bool) (value : Nat) (s : State) : Host.Outcome State Fault Refusal :=
  .next (
    if byTrigger then
      match s.py.trigOut.find? fun o => o.action = 7 && decide (o.due ≤ s.uptime) with
      | none => s
      | some o =>
        let s := { s with py := { s.py with trigOut := s.py.trigOut.erase o } }
        if s.poolActs && bits o.arg 15 8 = 0 then s.opIssue (o.arg % 256) else s
    else s.command w pgPool 0x1D8 value fun s => s.opCmd value)

/-- POOL_OP_WRITE (R577). -/
def execPoolOpWrite (w : Who) (value : Nat) (s : State) : Host.Outcome State Fault Refusal :=
  .next (s.command w pgPool 0x1D8 value fun s => s.opCmd value)

/-- POOL_OP_IDX_WRITE (R577): loads the slot's words and status. -/
def execPoolOpIdxWrite (w : Who) (value : Nat) (s : State) : Host.Outcome State Fault Refusal :=
  .next (s.command w pgPool 0x1C0 value fun s =>
    let x := s.opSlot (value % 256)
    let s := (s.setReg pgPool 0x1C4 (BitVec.ofNat 32 x.cfg)).setReg pgPool 0x1DC (BitVec.ofNat 32 x.stat)
    (s.put64 pgPool Rg.POOL_OP_T_LO x.t).put64 pgPool Rg.POOL_OP_PAY_LO x.pay)

/-! ## Operations on their way (R562, R564) -/

/-- OP (R564): forwarded to the children; one that comes after T − 65,536 is late; one of a view no longer held is dropped. -/
def execOp (s : State) : Host.Outcome State Fault Refusal :=
  .next (s.takeFrame 3 fun r s =>
    if !s.poolActs then s
    else
      let f := Config.poolFields 3 r.body
      let init := f.getD 0 0 % 2048
      match s.heldView (f.getD 4 0 % 2 ^ 32) with
      | none => s.plEvent Ev.OP_DROP r.src
      | some v =>
        let t := f.getD 3 0 % 2 ^ 64
        let late := decide (t < s.now + 65536)
        let o : OpRun := ⟨init, f.getD 1 0 % 256, f.getD 2 0 % 8, t, v, f.getD 5 0 % 65536,
          (List.range 32).map fun i => f.getD (6 + i) 0 % 256, false, 0, none, late, false⟩
        let s := if late then s.plEvent Ev.OP_LATE init else s
        (s.addRun o).toChildren o 3 r.body)

/-- POOL_ARRIVE (R564): this member's arrival counts until U_d; one before the OP frame is held, up to 64. -/
def execPoolArrive (w : Who) (value : Nat) (s : State) : Host.Outcome State Fault Refusal :=
  .next (s.command w pgPool 0x1E0 value fun s =>
    let init := bits value 26 16
    let h := bits value 7 0
    if !s.poolActs then s
    else
      match s.findRun init h with
      | some o => if (s.now : Int) < s.runU o (s.runDepth o) then s.setOpRun { o with mine := true } else s
      | none =>
        if 64 ≤ s.pl.held.length || s.pl.held.contains (init, h) then s
        else s.setPl { s.pl with held := s.pl.held ++ [(init, h)] })

/-- The barrier of an initiator's slot that has not sent yet and whose instant has come. -/
def State.dueRun (s : State) (root : Bool) : Option OpRun :=
  s.pl.runs.find? fun o => o.kind = 1 && !o.sent && decide (o.init = s.chipId) = root
    && decide (s.runU o (s.runDepth o) ≤ (s.now : Int))

/-- The arrived members of this chip's subtree. -/
def OpRun.arrived (o : OpRun) : Nat := o.count + o.mine.toNat

/-- ARRIVE_SEND (R564): at U_d. -/
def execArriveSend (s : State) : Host.Outcome State Fault Refusal :=
  .next (
    match s.dueRun false with
    | some o =>
      if !s.poolActs then s
      else
        (s.setOpRun { o with sent := true }).chipSend 4 (o.view.parent s.fanout o.init s.chipId)
          (Config.poolBody 4 [o.init, o.h, o.view.num, o.arrived])
    | none => s)

/-- ARRIVE (R564): added to this member's subtree, until its own instant. -/
def execArrive (s : State) : Host.Outcome State Fault Refusal :=
  .next (s.takeFrame 4 fun r s =>
    let f := Config.poolFields 4 r.body
    let init := f.getD 0 0 % 2048
    if !s.poolActs then s
    else if (s.heldView (f.getD 2 0 % 2 ^ 32)).isNone then s.plEvent Ev.OP_DROP r.src
    else
      match s.findRun init (f.getD 1 0 % 256) with
      | some o =>
        if (s.now : Int) ≤ s.runU o (s.runDepth o) ∧ ¬ o.sent then s.setOpRun { o with count := o.count + f.getD 3 0 % 4096 }
        else s.plEvent Ev.ARRIVE_LATE r.src
      | none => s.plEvent Ev.ARRIVE_LATE r.src)

/-- RESULT_SEND (R564): the root sends the total at U_0. -/
def execResultSend (s : State) : Host.Outcome State Fault Refusal :=
  .next (
    match s.dueRun true with
    | some o =>
      if !s.poolActs then s
      else
        (s.setOpRun { o with sent := true, result := some o.arrived }).toChildren o 5
          (Config.poolBody 5 [o.init, o.h, o.view.num, o.arrived])
    | none => s)

/-- RESULT (R564): kept and forwarded. -/
def execResult (s : State) : Host.Outcome State Fault Refusal :=
  .next (s.takeFrame 5 fun r s =>
    let f := Config.poolFields 5 r.body
    if !s.poolActs then s
    else if (s.heldView (f.getD 2 0 % 2 ^ 32)).isNone then s.plEvent Ev.OP_DROP r.src
    else
      match s.findRun (f.getD 0 0 % 2048) (f.getD 1 0 % 256) with
      | some o => (s.setOpRun { o with result := some (f.getD 3 0 % 4096) }).toChildren o 5 r.body
      | none => s)

/-! ## The instant T (R563, R565) -/

/-- R563: a RESET names this chip. -/
def namesChip (payload : List Nat) (chip : Nat) : Bool :=
  let n := ofBytes (payload.take 2)
  n = 0xFFFF || (decide (1 ≤ n) && decide (n ≤ 15) && (List.range n).any fun i =>
    ofBytes ((payload.drop (2 + 2 * i)).take 2) = chip)

/-- R565: the outcome (0 DONE, 1 INCOMPLETE, 2 NO_RESULT) and COUNT of an operation; COUNT without a result is a free value. -/
def State.runOutcome (s : State) (o : OpRun) : (Nat × Nat) × State :=
  let n := o.view.members.length
  if o.kind = 1 then
    match o.result, o.late with
    | some c, false => ((if c = n then 0 else 1, c), s)
    | _, _ => let f := s.fresh; ((2, f.1 % 4096), f.2)
  else ((if o.late then 2 else 0, n), s)

/-- R565: the token of an operation. Its words that R565 does not name are free values. -/
def State.opToken (s : State) (o : OpRun) (out count : Nat) : State :=
  let q := s.get pgPool Rg.POOL_Q_OPQ
  if !s.domOn 3 then s
  else if 64 ≤ s.internalUsed then (s.satAdd pgTr0 Rg.TR_TRIG_DROP).trEvent pgTr0 Ev.TRIG_DROP q
  else
    let r := (List.range 16).foldl (fun r _ => let f := r.2.fresh; (r.1 ++ [f.1 % 2 ^ 32], f.2)) (([] : List Nat), s)
    let w1 := fldPut ⟨0, 26, 16, .rw, 0, 0⟩ (fldPut ⟨0, 7, 0, .rw, 0, 0⟩ (BitVec.ofNat 32 (r.1.getD 1 0)) o.h) o.init
    let w4 := fldPut ⟨0, 31, 28, .rw, 0, 0⟩ (fldPut ⟨0, 27, 24, .rw, 0, 0⟩
      (fldPut ⟨0, 11, 0, .rw, 0, 0⟩ (BitVec.ofNat 32 (r.1.getD 4 0)) count) out) o.kind
    let w := ((((r.1.set 1 w1.toNat).set 4 w4.toNat).set 5 (o.t % 2 ^ 32)).set 6 (o.t / 2 ^ 32)).set 7 o.view.num
    let w := w.take 8 ++ (List.range 8).map fun i => ofBytes ((o.payload.drop (4 * i)).take 4)
    r.2.setTr { r.2.tr with internal := r.2.tr.internal ++ [⟨q, 0, w, 236, none⟩] }

/-- OP_DELIVER (R563–R565): an operation reaches its T. -/
def execOpDeliver (s : State) : Host.Outcome State Fault Refusal :=
  .next (
    match s.pl.runs.find? fun o => decide (o.t ≤ s.now) with
    | none => s
    | some o =>
      if !s.poolActs then s
      else
        let s := (s.setPl { s.pl with runs := s.pl.runs.erase o }).bump pgPool 3
        let r := s.runOutcome o
        let s := r.2
        let reset := o.kind = 4 && !o.late && namesChip o.payload s.chipId
        let denied := reset && !(s.flag pgPool Rg.POOL_CFG2_RESET_EN)
        let out := if denied then 3 else r.1.1
        let s := if denied then s.plEvent Ev.RESET_DENIED o.init else s
        let s := if o.kind = 3 && !o.late then
          { s with py := { s.py with trigOut := s.py.trigOut ++ [⟨s.uptime, o.t, 1024, 4, o.arg % 256⟩] } } else s
        let s := s.opToken o out r.1.2
        let s := if o.init = s.chipId then
          s.setOpSlot o.h { s.opSlot o.h with stat := 2 <<< 30 + out <<< 28 + r.1.2 % 4096 } else s
        if reset && !denied then s.warmStart 4 else s)

/-! ## At every cycle -/

/-- R574: the air count has been stepped: the counts of misses start afresh, and operations whose T has passed are late. -/
def State.poolStepped (s : State) : State :=
  let k := s.poolSpan
  let s := s.others.foldl (fun s m => s.setPeer m { s.peer m with miss := 0, last := k }) s
  let s := s.put pgPool Rg.POOL_STAT_OWN_MISS 0
  s.setPl { s.pl with
    stepSeen := s.py.stepUp
    runs := s.pl.runs.map fun o => if o.t < s.now then { o with late := true, result := none } else o }

/-- What the block does in one cycle: frames that are due leave; without a valid air count it is SEEKING (R555). -/
def State.poolTick (s : State) : State :=
  if !s.poolOn then s
  else
    let s := if s.pl.stepSeen = s.py.stepUp then s else s.poolStepped
    let due := s.pl.out.filter fun f => decide (f.due ≤ s.uptime)
    let s := if due.isEmpty then s
      else due.foldl (fun s f => s.lkDepart f) (s.setPl { s.pl with out := s.pl.out.filter fun f => !decide (f.due ≤ s.uptime) })
    if s.airValid || s.plState = plOff then s
    else
      let s := if s.plState = plSeeking then s.setPl { s.pl with seekAt := s.uptime } else s.noView.setPlState plSeeking
      if s.pl.active.isSome then s.noView else s

end Sys2Proof.Machine
end

