-- ==== Sys2Proof/Machine/Counters.lean ====
section
/-! DEFINITION. The counters of the pages (R642–R646): what each event is worth in a sample, the samples of a cycle, wrapping. -/
namespace Sys2Proof.Machine

/-! ## Events that hold for whole cycles -/

/-- Whether a condition holds, as a value of 0 or 1. -/
def lvl (b : Bool) : Nat := b.toNat

/-- The unit code of a deck unit's page (R107). -/
def pageUnit (k : PageKind) (n : Nat) : Nat :=
  match k with
  | .eng _ => pageClass k * 256 + n
  | .pier => 0x2000 + n
  | .au => 0x4000 + n
  | .bm => 0x5000 + n
  | _ => 0

/-- The events of an engine page that hold for cycles (R240, R276, R308). -/
def State.engLevel (s : State) (u code : Nat) : Nat :=
  if code = 1 then lvl (s.en.runs.any fun r => r.job.unit = u && decide (r.job.issue ≤ s.uptime) && decide (s.uptime < r.job.fin))
  else if code = 4 then lvl (s.dk.lent.any fun l => l.1 = u && decide (l.2.1 ≤ s.uptime) && decide (s.uptime < l.2.2))
  else 0

/-- Dynamic lines that wait at a bay's shared memory, or accesses that wait at a controller. -/
def State.waiting (s : State) (p : Nat) : Nat := (s.mu.dyn.filter fun d => memPage d.addr = p).length

/-- The events of a memory page that hold for cycles, and its occupancy (R438, R439). -/
def State.memLevel (s : State) (k : PageKind) (n p code : Nat) : Nat :=
  match k with
  | .bay => if code = 3 then lvl (0 < s.waiting p) else if code = 6 then s.waiting p else 0
  | _ =>
    if code = 1 then
      lvl (s.dk.jobs.any fun j => j.unit = pageUnit .bm n && j.op = 6 && decide (j.issue ≤ s.uptime) && decide (s.uptime < j.free))
    else if code = 3 then lvl (0 < s.waiting p)
    else if code = 6 then lvl (s.mu.refBusy.any fun r => r.1 / 16 = n && decide (s.uptime < r.2))
    else 0

/-- The events of the fronthaul, lane, link and pool pages that hold for cycles, and the ingress occupancy (R335, R378, R576). -/
def State.portLevel (s : State) (k : PageKind) (n p code : Nat) : Nat :=
  match k with
  | .lane =>
    if code = 1 then lvl (s.flag p Rg.LN_STAT_BLOCK_LOCK || s.flag p Rg.LN_STAT_AM_LOCK)
    else if code = 5 then lvl (s.get p Rg.LN_STAT_TX_STATE = 2)
    else if code = 6 then lvl (2 ≤ s.get p Rg.LN_STAT_RX_STATE) else 0
  | .au => if code = 4 then s.ingressUsed n else 0
  | .em => if code = 4 then lvl (s.em n).lpi else 0
  | .cp => if code = 4 then lvl (s.get p Rg.CP_STAT_STATE = 5) else 0
  | .lk => if code = 5 then lvl (!(s.flag p Rg.LK_STAT_LINK_UP)) else 0
  | .pool =>
    if code = 4 then (s.pl.peers.filter fun m => m.2.suspect).length
    else if code = 5 then (s.pl.guards.filter fun g => g.2.fenced).length else 0
  | _ => 0

/-- The events of the control pages that hold for cycles, and their occupancies (R476, R508, R543, R610). -/
def State.ctlLevel (s : State) (k : PageKind) (n code : Nat) : Nat :=
  match k with
  | .domain =>
    if 1 ≤ code ∧ code ≤ 4 then lvl (s.domCur n = code - 1) else if code = 5 then lvl (s.flag (page .domain n) Rg.D_STAT_BUSY) else 0
  | .keystone =>
    if code = 3 then lvl s.ks.cmd.isSome else if code = 4 then lvl (s.flag pgKeystone Rg.KS_STAT_COMPACTING) else 0
  | .trestle0 | .trestle1 | .trestle2 | .trestle3 =>
    if code = 6 then (s.tr.rings.map fun r => r.2.items.length).sum
    else if code = 7 then s.tr.entries.length
    else if code = 8 then lvl (!s.tr.jobs.isEmpty) else 0
  | .pcie => if code = 3 then lvl (!s.ab.pcie.reads.isEmpty) else 0
  | _ => 0

/-- What an event that holds for cycles is worth in this cycle, or the occupancy of a threshold-mode event. -/
def State.level (s : State) (k : PageKind) (n p code : Nat) : Nat :=
  if code = 0xFF then 1
  else match k with
    | .eng _ => s.engLevel (pageUnit k n) code
    | .pier =>
      if code = 0x0A then lvl (s.pier n).shadow else if code = 0x0B then lvl (!(s.pier n).running) else 0
    | .bay | .bm => s.memLevel k n p code
    | .router => if code = 5 then ((s.nt.bufs.filter fun b => b.router = n).map fun b => dataUnits b.pkt + 1).sum else 0
    | .lane | .au | .em | .cp | .lk | .pool => s.portLevel k n p code
    | _ => s.ctlLevel k n code

/-- Whether a page counts an event code (R172, R240, R276, R308, R335, R378, R408, R438, R439, R476, R508, R543, R576, R610, R645). -/
def countsEvent (k : PageKind) (code : Nat) : Bool :=
  let most := match k with
    | .domain | .keystone | .bay | .bm | .router => 6
    | .trestle0 | .trestle1 | .trestle2 | .trestle3 => 0x0A
    | .pier => 0x0C
    | .eng _ => 9
    | .lane => 8
    | .au | .em | .cp | .lk | .pool | .cluster | .pcie => 5
    | _ => 0
  (decide (1 ≤ code) && decide (code ≤ most)) || code = 0xF0 || code = 0xF1 || code = 0xFF

/-- The occurrences of an event in the sample. The four Trestle pages count the same events. -/
def State.occurred (s : State) (k : PageKind) (p code : Nat) : Nat :=
  let here := fun (q : Nat) => match k with
    | .trestle0 | .trestle1 | .trestle2 | .trestle3 => decide (pgTr0 ≤ q) && decide (q ≤ pgTr3)
    | _ => q = p
  ((s.samples.filter fun e => here e.1 && e.2.1 = code).map fun e => e.2.2).sum

/-! ## Samples -/

/-- The clock of a cluster's cores in units of 10 kHz (R453, R454). -/
def State.coreClock (s : State) (c : Nat) : Nat :=
  let p := page .cluster c
  if s.flag p Rg.CL_PLEVEL_BUSY then 40000
  else [280000, 240000, 200000, 160000, 120000, 80000, 60000, 40000].getD (s.get p Rg.CL_PLEVEL_CUR) 0

/-- How many cycles of a clock begin in the running cy. -/
def ticksOf (up clock : Nat) : Nat := (up + 1) * clock / 196608 - up * clock / 196608

/-- R643: how many samples of an event end with the running cy. -/
def State.sampleCount (s : State) (k : PageKind) (n code : Nat) : Nat :=
  let d := pageDomain k n
  if !(s.domOn d) then 0
  else if d = 0 then lvl ((s.uptime + 1) % 8 = 0)
  else match k with
    | .cluster => ticksOf s.uptime (if code = 3 then 160000 else s.coreClock n)
    | _ => lvl ((s.uptime + 1) % s.deckK = 0)

/-- A count of 48 bits. -/
def State.cntOf (s : State) (p i : Nat) : Nat := s.get64 p Rg.CNT_LO i % 2 ^ 48

/-- Adds to a counter; a wrap is noted (R646). -/
def State.addCount (s : State) (p i v : Nat) : State :=
  if v = 0 then s
  else
    let c := s.cntOf p i + v
    let s := s.put64 p Rg.CNT_LO (c % 2 ^ 48) i
    if 2 ^ 48 ≤ c then { s with ts := { s.ts with wraps := s.ts.wraps ++ [(p, i)] } } else s

/-- R644: what a sample of value `v` adds. -/
def sampleAdds (mode thr v : Nat) : Nat :=
  if mode = 0 then lvl (0 < v) else if mode = 1 then lvl (thr < v) else if mode = 2 then lvl (v ≤ thr) else v

/-- R646: counter `i` serves the chain of the counter below it. -/
def State.chained (s : State) (p i : Nat) : Bool := decide (0 < i) && s.flag p Rg.CNT_SEL_CHAIN (i - 1)

/-- The samples of one counter that end with the running cy: the occurrences fall in the first of them. -/
def State.sampleCounter (s : State) (k : PageKind) (n p i : Nat) : State :=
  let code := s.get p Rg.CNT_SEL_EVENT i
  if s.chained p i || !(countsEvent k code) then s
  else
    let mode := s.get p Rg.CNT_SEL_MODE i
    let thr := s.get p Rg.CNT_THR i
    let hold := s.level k n p code
    match s.sampleCount k n code with
    | 0 => s
    | m + 1 => s.addCount p i (sampleAdds mode thr (s.occurred k p code + hold) + m * sampleAdds mode thr hold)

/-- The pages on which some counter is set. -/
def State.countingPages (s : State) : List Nat :=
  ((s.regs.filter fun e => decide (0x20 ≤ e.1 % 1024) && decide (e.1 % 1024 < 0x40) && e.1 % 4 = 0).map fun e => e.1 / 1024).eraseDups

/-- Whether an occurrence waits for a sample yet to come. -/
def State.keepsSample (s : State) (pages : List Nat) (e : Nat × Nat × Nat) : Bool :=
  match pageOf e.1 with
  | some (k, n) =>
    let watched := match k with
      | .trestle0 | .trestle1 | .trestle2 | .trestle3 => pages.any fun p => decide (pgTr0 ≤ p) && decide (p ≤ pgTr3)
      | _ => pages.contains e.1
    watched && s.domOn (pageDomain k n) && s.sampleCount k n e.2.1 = 0
  | none => false

/-- R643, R644: the counters at the end of the running cy. -/
def State.countTick (s : State) : State :=
  let pages := s.countingPages
  let t := pages.foldl
    (fun t p => match pageOf p with
      | some (k, n) => if capCnt k then (List.range 8).foldl (fun t i => t.sampleCounter k n p i) t else t
      | none => t) s
  { t with samples := s.samples.filter (s.keepsSample pages) }

/-! ## Wrapping (R646) -/

/-- OVF of a counter that has wrapped, and the carry into the counter that it is chained to. -/
def State.wrapped (s : State) (p i : Nat) : State :=
  let s := s.put p Rg.CNT_SEL_OVF 1 i
  if i < 7 ∧ s.flag p Rg.CNT_SEL_CHAIN i then s.addCount p (i + 1) 1 else s

/-- Completes every wrap noted, carries into carries included. -/
def State.settleWraps (s : State) : Nat → State
  | 0 => s
  | n + 1 =>
    let l := s.ts.wraps
    if l.isEmpty then s
    else State.settleWraps (l.foldl (fun s e => s.wrapped e.1 e.2) { s with ts := { s.ts with wraps := [] } }) n

/-- COUNTER_WRAP (R646): counter `i` of a page, and with it every counter that has wrapped in the sample. -/
def execCounterWrap (p : Fin 4096) (i : Fin 8) (s : State) : Host.Outcome State Fault Refusal :=
  .next (if s.ts.wraps.contains (p.val, i.val) then s.settleWraps 8 else s)

end Sys2Proof.Machine
end

