-- ==== Sys2Proof/Machine/Toll.lean ====
section
/-! DEFINITION. The Tollhouse: snapshots and bandwidth monitors (R647–R652, R659, R660). -/
namespace Sys2Proof.Machine

def State.setToll (s : State) (t : Toll) : State := { s with ts := t }

/-- R659: an event of the Tollhouse; DETAIL[23:16] holds the slot or monitor. -/
def State.tsEvent (s : State) (code n : Nat) : State := s.event pgToll code 0 0 (n <<< 16)

/-! ## Slots (R660) -/

def tsSlot0 : Nat → TsSlot := fun _ => TsSlot.zero

def State.tsSlot (s : State) (n : Nat) : TsSlot := Sparse.get tsSlot0 s.ts.slots n

def State.setTsSlot (s : State) (n : Nat) (x : TsSlot) : State :=
  s.setToll { s.ts with slots := Sparse.set tsSlot0 s.ts.slots n x }

/-- NPAGES of a slot, from 1 to 1,024. -/
def TsSlot.pages (x : TsSlot) : Nat := bits x.cfg 9 0 + 1

/-- DEPTH of a slot; 0 acts as 1. -/
def TsSlot.ring (x : TsSlot) : Nat := max 1 x.depth

/-- The staging registers show the slot's WIDX and SEQ. -/
def State.showSlot (s : State) (n : Nat) : State :=
  if s.get pgToll Rg.TS_SLOT_IDX = n then
    (s.put pgToll Rg.TS_SLOT_DEPTH_WIDX (s.tsSlot n).widx).put pgToll Rg.TS_SLOT_SEQ (s.tsSlot n).seq
  else s

/-- TS_SLOT_IDX_WRITE (R660). -/
def execTsSlotIdxWrite (w : Who) (value : Nat) (s : State) : Host.Outcome State Fault Refusal :=
  .next (s.command w pgToll 0x110 value fun s =>
    let n := value % 256
    let x := s.tsSlot n
    let s := s.setReg pgToll 0x114 (BitVec.ofNat 32 x.cfg)
    let s := (s.put64 pgToll Rg.TS_SLOT_LIST_LO x.list).put64 pgToll Rg.TS_SLOT_DST_LO x.dst
    (s.put pgToll Rg.TS_SLOT_DEPTH_DEPTH x.depth).showSlot n)

/-- TS_SLOT_WRITE (R658, R660): a write of TS_SLOT_CMD. -/
def execTsSlotWrite (w : Who) (value : Nat) (s : State) : Host.Outcome State Fault Refusal :=
  .next (s.command w pgToll 0x130 value fun s =>
    let n := s.get pgToll Rg.TS_SLOT_IDX
    let busy := match s.ts.run with
      | some r => decide (r.slot = n)
      | none => false
    if value % 2 = 0 then s
    else if busy then s.tsEvent Ev.SNAP_INVALID n
    else
      let x : TsSlot := ⟨(s.reg pgToll 0x114).toNat, s.get64 pgToll Rg.TS_SLOT_LIST_LO / 4 * 4,
        s.get64 pgToll Rg.TS_SLOT_DST_LO / 64 * 64, s.get pgToll Rg.TS_SLOT_DEPTH_DEPTH, 0, (s.tsSlot n).seq⟩
      (s.setTsSlot n x).showSlot n)

/-! ## Capture (R647–R649) -/

/-- SNAP_TAKE (R648): a write of TS_SNAP. -/
def execSnapTake (w : Who) (value : Nat) (s : State) : Host.Outcome State Fault Refusal :=
  .next (s.command w pgToll 0x100 value fun s =>
    if bits value 31 31 = 1 then s.setToll { s.ts with takes := s.ts.takes ++ [((s.now + 16) % 2 ^ 64, value % 256)] } else s)

/-- R650: the word that describes a counter. -/
def State.cntWord (s : State) (p i : Nat) (gated : Bool) : Nat :=
  1 <<< 63 + gated.toNat <<< 60 + s.get p Rg.CNT_SEL_OVF i <<< 59 + s.get p Rg.CNT_SEL_CHAIN i <<< 58
    + s.get p Rg.CNT_SEL_MODE i <<< 56 + s.get p Rg.CNT_SEL_EVENT i <<< 48 + s.cntOf p i

/-- R650: the copies of a page's counters, and whether its words are known at once: NOCNT and ASLEEP pages do not answer themselves. -/
def State.snapPage (s : State) (p : Nat) : SnapPage :=
  match pageOf p with
  | none => ⟨p, List.replicate 8 (1 <<< 62), true⟩
  | some (k, n) =>
    if !(capCnt k) then ⟨p, List.replicate 8 (1 <<< 62), true⟩
    else if s.asleep (pageDomain k n) then ⟨p, List.replicate 8 (1 <<< 61), true⟩
    else ⟨p, (List.range 8).map fun i => s.cntWord p i (s.domCur (pageDomain k n) = 1), false⟩

/-- R650: the header unit of a record. -/
def snapHead (c seq slot n missing : Nat) : List Nat :=
  bytesOf 8 c ++ bytesOf 4 seq ++ bytesOf 4 (slot <<< 24 + (lvl (0 < missing)) <<< 23 + n % 2048) ++ bytesOf 4 missing
    ++ List.replicate 44 0

/-- The token of a record (R651); its words that R651 does not name are free values. -/
def State.snapToken (s : State) (r : Snap) (seq addr : Nat) : State :=
  let q := bits (s.tsSlot r.slot).cfg 27 16
  if !s.domOn 3 then s
  else if 64 ≤ s.internalUsed then (s.satAdd pgTr0 Rg.TR_TRIG_DROP).trEvent pgTr0 Ev.TRIG_DROP q
  else
    let f := (List.range 16).foldl (fun r _ => let f := r.2.fresh; (r.1 ++ [f.1 % 2 ^ 32], f.2)) (([] : List Nat), s)
    let w := ((((f.1.set 1 r.slot).set 4 seq).set 5 (r.c % 2 ^ 32)).set 6 (r.c / 2 ^ 32 % 2 ^ 32)).set 7 (addr % 2 ^ 32)
    f.2.setTr { f.2.tr with internal := f.2.tr.internal ++ [⟨q, 0, w, 236, none⟩] }

/-- The end of a readout: TS_STAT shows none. -/
def State.snapIdle (s : State) : State :=
  ((s.setToll { s.ts with run := none }).put pgToll Rg.TS_STAT_BUSY 0).put pgToll Rg.TS_STAT_SLOT 0

/-- Writes the units of a record in the order of the list; `false`: one was answered with ERR. -/
def State.writeUnits (s : State) (a : Nat) : List (List Nat) → Bool × State
  | [] => (true, s)
  | u :: l =>
    let r := s.dynWrite ⟨236, 2, 0, 0⟩ a u
    if r.1 then r.2.writeUnits (a + 64) l else (false, r.2)

/-- R649–R651: the record of a snapshot is written; pages that have not answered have VALID = 0 in each word. -/
def State.snapRecord (s : State) (r : Snap) : State :=
  let x := s.tsSlot r.slot
  let n := r.pages.length
  let missing := (r.pages.filter fun p => !p.here).length
  let seq := (x.seq + 1) % 2 ^ 32
  let a := x.dst + x.widx * 64 * (1 + n)
  let units := snapHead r.c seq r.slot n missing
    :: r.pages.map fun p => if p.here then p.words.flatMap (bytesOf 8) else List.replicate 64 0
  let s := s.snapIdle
  let s := if 0 < missing then s.tsEvent Ev.SNAP_PARTIAL r.slot else s
  let o := s.writeUnits a units
  if !o.1 then o.2.tsEvent Ev.SNAP_WRITE_ERR r.slot
  else
    let s := (o.2.setTsSlot r.slot { x with widx := (x.widx + 1) % x.ring, seq := seq }).showSlot r.slot
    let s := (s.put64 pgToll Rg.TS_LAST_AIR_LO r.c).tsEvent Ev.SNAP_DONE r.slot
    if bits x.cfg 30 30 = 1 then s.snapToken r seq a else s

/-- The record is written once every page has answered. -/
def State.snapCheck (s : State) : State :=
  match s.ts.run with
  | some r => if r.pages.all (·.here) then s.snapRecord r else s
  | none => s

/-- R649: a capture instant of a slot. -/
def State.snapCapture (s : State) (slot c : Nat) : State :=
  let x := s.tsSlot slot
  if s.ts.run.isSome then (s.satAdd pgToll Rg.TS_STAT_OVERRUN).tsEvent Ev.SNAP_OVERRUN slot
  else if bits x.cfg 31 31 = 0 ∨ bulkEnd < x.list + 2 * x.pages then s.tsEvent Ev.SNAP_INVALID slot
  else
    let r := s.dynRead ⟨236, 2, 0, 0⟩ x.list (2 * x.pages)
    match r.1 with
    | none => r.2.tsEvent Ev.SNAP_INVALID slot
    | some v =>
      let s := r.2.settleWraps 8
      let l := (List.range x.pages).map fun j => s.snapPage (bits v (16 * j + 11) (16 * j))
      let s := s.setToll { s.ts with run := some ⟨slot, c, s.uptime, l⟩ }
      ((s.put pgToll Rg.TS_STAT_BUSY 1).put pgToll Rg.TS_STAT_SLOT slot).snapCheck

/-- SNAPSHOT_CAPTURE (R647–R649): the oldest request whose capture instant has come. C of a trigger is its firing + 4 cy, of a pool operation
its T (the number 1,024 marks it). -/
def execSnapshotCapture (s : State) : Host.Outcome State Fault Refusal :=
  .next (
    if !(s.domOn 4) then s
    else match s.py.trigOut.find? fun o => o.action = 4 && decide (o.due ≤ s.uptime) with
      | some o =>
        let s := { s with py := { s.py with trigOut := s.py.trigOut.erase o } }
        if s.airValid then s.snapCapture (o.arg % 256) (if o.idx = 1024 then o.air else (o.air + 4) % 2 ^ 64)
        else s.tsEvent Ev.SNAP_INVALID (o.arg % 256)
      | none =>
        match s.ts.takes.find? fun t => decide (t.1 ≤ s.now) with
        | some t => (s.setToll { s.ts with takes := s.ts.takes.erase t }).snapCapture t.2 t.1
        | none => s)

/-- SNAPSHOT_PAGE_REPLY (R649): page `j` of the list answers; a dead page does not (R658). -/
def execSnapshotPageReply (j : Fin 1024) (s : State) : Host.Outcome State Fault Refusal :=
  .next (
    match s.ts.run with
    | none => s
    | some r =>
      match r.pages[j.val]? with
      | none => s
      | some x =>
        let dead := match pageOf x.page with
          | some (k, n) => pageDead s x.page k n
          | none => false
        if x.here || dead || !(s.domOn 2) then s
        else (s.setToll { s.ts with run := some { r with pages := r.pages.set j.val { x with here := true } } }).snapCheck)

/-- SNAP_PARTIAL (R649): TS_TMO × 1,024 cy have passed since C. -/
def execSnapPartial (s : State) : Host.Outcome State Fault Refusal :=
  .next (
    match s.ts.run with
    | some r => if r.up + s.get pgToll Rg.TS_TMO * 1024 ≤ s.uptime then s.snapRecord r else s
    | none => s)

/-! ## Bandwidth (R652) -/

def bw0 : Nat → BwMon := fun _ => BwMon.zero

def State.bwMon (s : State) (m : Nat) : BwMon := Sparse.get bw0 s.ts.bw m

def State.setBwMon (s : State) (m : Nat) (x : BwMon) : State := s.setToll { s.ts with bw := Sparse.set bw0 s.ts.bw m x }

/-- Windows in spans; 0 acts as 1. -/
def State.bwSpans (s : State) (m : Nat) : Nat := max 1 (s.get pgToll Rg.TS_BW_WIN_W m)

/-- The effect of a write of TS_BWm_CFG: MAX is cleared; with EN the next window end takes the starting value. -/
def State.bwStart (s : State) (m : Nat) : State :=
  (s.put pgToll Rg.TS_BW_MAX 0 m).setBwMon m ⟨none, false, s.now, s.uptime⟩

/-- BW_CFG_WRITE (R652). -/
def execBwCfgWrite (w : Who) (m : Fin 32) (value : Nat) (s : State) : Host.Outcome State Fault Refusal :=
  .next (s.command w pgToll (0x200 + 0x20 * m.val) value fun s => s.bwStart m.val)

/-- The counter that a monitor names, while its page can be read. -/
def State.bwRead (s : State) (m : Nat) : Option Nat :=
  let p := s.get pgToll Rg.TS_BW_CFG_PAGE m
  match pageOf p with
  | some (k, n) => if capCnt k && s.domOn (pageDomain k n) then some (s.cntOf p (s.get pgToll Rg.TS_BW_CFG_COUNTER m)) else none
  | none => none

/-- A monitor's window that ends with a valid result. -/
def State.bwResult (s : State) (m old new : Nat) : State :=
  let bytes := (new + 2 ^ 48 - old) % 2 ^ 48 * s.get pgToll Rg.TS_BW_WIN_SCALE m
  let rate := min (bytes * 16 / s.bwSpans m) (2 ^ 32 - 1)
  let above := decide (s.get pgToll Rg.TS_BW_THR m < rate)
  let s := (s.put64 pgToll Rg.TS_BW_BYTES_LO bytes m).put pgToll Rg.TS_BW_RATE rate m
  let s := s.put pgToll Rg.TS_BW_MAX (max rate (s.get pgToll Rg.TS_BW_MAX m)) m
  let s := (s.put pgToll Rg.TS_BW_TAG_VALID 1 m).put pgToll Rg.TS_BW_TAG_ABOVE above.toNat m
  if above then s.tsEvent Ev.BW_ABOVE m else s

/-- BANDWIDTH_WINDOW (R652): the air count has passed a multiple of W spans. -/
def execBandwidthWindow (m : Fin 32) (s : State) : Host.Outcome State Fault Refusal :=
  let n := m.val
  let len := s.bwSpans n * spanCy
  let x := s.bwMon n
  let fin := s.now / len * len
  .next (
    if !(s.domOn 4) || !(s.flag pgToll Rg.TS_BW_CFG_EN n) || decide (fin ≤ x.last) then s
    else
      let new := s.bwRead n
      let s := s.setBwMon n ⟨new, false, s.now, s.uptime⟩
      let s := s.put pgToll Rg.TS_BW_TAG_TAG (fin / spanCy) n
      match x.old, new with
      | some a, some b =>
        if x.spoilt ∨ x.up < s.py.stepUp then s.put pgToll Rg.TS_BW_TAG_VALID 0 n else s.bwResult n a b
      | _, _ => s.put pgToll Rg.TS_BW_TAG_VALID 0 n)

/-- What the monitors notice at every cycle: a domain that is not ON spoils its window; a step back of the air count moves the window end
last seen. -/
def State.bwTick (s : State) : State :=
  ((List.range 32).filter fun m => s.flag pgToll Rg.TS_BW_CFG_EN m).foldl
    (fun s m =>
      let x := s.bwMon m
      let y := { x with spoilt := x.spoilt || (s.bwRead m).isNone, last := min x.last s.now }
      if x = y then s else s.setBwMon m y) s

end Sys2Proof.Machine
end

