-- ==== Sys2Proof/Machine/Perturb.lean ====
section
/-! DEFINITION. Perturbation (R653–R657). -/
namespace Sys2Proof.Machine

/-- R655: whether a page supports a kind, with the PARAM of ERROR. -/
def ptSupports (k : PageKind) (kind param : Nat) : Bool :=
  let e := fun (most : Nat) => kind = 5 && decide (param % 4 ≤ most)
  match k with
  | .pier | .eng _ => kind = 4 || e 3
  | .bay | .bm => kind = 1 || e 3
  | .router => (decide (1 ≤ kind) && decide (kind ≤ 3)) || e 1
  | .au | .em | .lk => kind = 1 || kind = 3 || e 0
  | .cp => kind = 3
  | .trestle0 | .trestle1 | .trestle2 | .trestle3 => decide (1 ≤ kind) && decide (kind ≤ 3)
  | .cluster => kind = 1 || e 1
  | .keystone => e 1
  | _ => false

/-- PT_STAT shows the channels that name a kind that the page does not support. -/
def State.ptShow (s : State) (p : Nat) : State :=
  match pageOf p with
  | some (k, _) =>
    let bad := fun (n : Nat) =>
      s.flag p Rg.PT_CFG_KIND n && !(ptSupports k (s.get p Rg.PT_CFG_KIND n) (s.get p Rg.PT_PARAM n))
    s.put p Rg.PT_STAT (((List.range 4).filter bad).map fun n => 2 ^ n).sum
  | none => s

/-- R656: a write that only DIAGNOSTIC admits has no effect. -/
def State.ptDenied (s : State) (addr : Nat) : State :=
  (s.satAdd pgToll Rg.TS_PT_DENIED).event pgToll Ev.PT_DENIED 0 (addr % 2 ^ 32) (addr / 2 ^ 32 % 65536)

/-- A write of the register at an offset of a page, by the access codes of its fields. -/
def State.writeAt (s : State) (w : Who) (p off v : Nat) : State :=
  match pageOf p with
  | some (k, inst) =>
    match findReg k inst off with
    | some d => s.writeReg w p k inst off d v
    | none => s
  | none => s

/-- R656: whether a write of a perturbation register is denied. -/
def State.ptRefused (s : State) (off v : Nat) : Bool :=
  s.mode ≠ modeDiag &&
    ((off = 0xF00 && (bits v 31 31 = 1 || bits v 3 0 ≠ 0))
      || (decide (0xF20 ≤ off) && (off - 0xF20) % 0x18 = 0 && bits v 31 28 ≠ 0))

/-- The effect of a write of PT_CTL: without ARM the channels stop. -/
def State.ptCtl (s : State) (p : Nat) : State :=
  let s := s.ptShow p
  if s.flag p Rg.PT_CTL_ARM then s else s.put p Rg.PT_CTL_ACTIVE 0

/-- PT_ARM (R653, R656): a write of PT_CTL. -/
def execPtArm (w : Who) (p : Fin 4096) (value : Nat) (s : State) : Host.Outcome State Fault Refusal :=
  .next (s.access w p.val 0xF00 true fun s =>
    if s.ptRefused 0xF00 value then s.ptDenied (pagesBase + p.val * 4096 + 0xF00)
    else (s.writeAt w p.val 0xF00 value).ptCtl p.val)

def ptChan0 : Nat → PtChan := fun _ => PtChan.zero

def State.ptChan (s : State) (p n : Nat) : PtChan := Sparse.get ptChan0 s.ts.chans (4 * p + n)

def State.setPtChan (s : State) (p n : Nat) (x : PtChan) : State :=
  s.setToll { s.ts with chans := Sparse.set ptChan0 s.ts.chans (4 * p + n) x }

/-- PT_START (R657): an armed page starts its channels once AT has come. -/
def execPtStart (p : Fin 4096) (s : State) : Host.Outcome State Fault Refusal :=
  .next (
    match pageOf p.val with
    | some (k, n) =>
      if capPt k && s.domOn (pageDomain k n) && s.mode = modeDiag && s.flag p.val Rg.PT_CTL_ARM
          && !(s.flag p.val Rg.PT_CTL_ACTIVE)
          && decide ((s.now + 2 ^ 64 - s.get64 p.val Rg.PT_AT_LO) % 2 ^ 32 < 2 ^ 31) then
        (List.range 4).foldl (fun s n => s.setPtChan p.val n PtChan.zero) (s.put p.val Rg.PT_CTL_ACTIVE 1)
      else s
    | none => s)

/-- The LFSR of a page; it starts at the reset value of SEED. -/
def State.lfsr (s : State) (p : Nat) : Nat := Sparse.get (fun _ => 1) s.ts.lfsr p

/-- PT_SEED_WRITE (R653): 0 acts as 1. -/
def execPtSeedWrite (w : Who) (p : Fin 4096) (value : Nat) (s : State) : Host.Outcome State Fault Refusal :=
  .next (s.command w p.val 0xF0C value fun s =>
    s.setToll { s.ts with lfsr := Sparse.set (fun _ => 1) s.ts.lfsr p.val (max 1 (value % 2 ^ 32)) })

/-- R653, R657: whether channel `n` acts on a matching item: every (N + 1)-th, or with probability (N + 1) / 65,536. -/
def State.ptRate (s : State) (p n : Nat) : Bool × State :=
  let lim := s.get p Rg.PT_RATE_N n
  let x := s.ptChan p n
  if s.flag p Rg.PT_RATE_RANDOM n then
    let v := Config.ptNext (s.lfsr p)
    (decide (Config.ptDraw v % 65536 ≤ lim), s.setToll { s.ts with lfsr := Sparse.set (fun _ => 1) s.ts.lfsr p v })
  else if lim ≤ x.items then (true, s.setPtChan p n { x with items := 0 })
  else (false, s.setPtChan p n { x with items := x.items + 1 })

/-- One channel meets an item: whether it acts on it. -/
def State.ptChannel (s : State) (k : PageKind) (p n ctx source : Nat) : Bool × State :=
  let kind := s.get p Rg.PT_CFG_KIND n
  let most := s.get p Rg.PT_CFG_COUNT n
  let on := (s.get p Rg.PT_CTL_EN).testBit n && ptSupports k kind (s.get p Rg.PT_PARAM n)
  let mine := (!(s.flag p Rg.PT_MATCH_CTX_EN n) || s.get p Rg.PT_MATCH_CTX n = ctx)
    && (!(s.flag p Rg.PT_MATCH_SRC_EN n) || s.get p Rg.PT_MATCH_SOURCE n = source)
  if !on || !mine || (most ≠ 0 && decide (most ≤ (s.ptChan p n).acts)) then (false, s)
  else
    let r := (s.satAdd p Rg.PT_SEEN 1 n).ptRate p n
    if r.1 then
      let x := r.2.ptChan p n
      (true, (r.2.satAdd p Rg.PT_HIT 1 n).setPtChan p n { x with acts := x.acts + 1 })
    else r

/-- What awaits the page's next item. -/
def State.ptAwait (s : State) (p kind param : Nat) : State :=
  s.setToll { s.ts with hits := s.ts.hits ++ [⟨p, kind, param⟩] }

/-! ## What the kinds do -/

/-- STRETCH (R654): what a unit still owes comes `n` cy later, and its occupancy ends so much later. -/
def State.stretch (s : State) (u n : Nat) (j : Job → Bool) : State :=
  let late := fun (x : Job) => if x.unit = u && j x then { x with fin := x.fin + n, free := x.free + n } else x
  { s with
    dk := { s.dk with jobs := s.dk.jobs.map late }
    mu := { s.mu with later := s.mu.later.map fun l => if l.unit = u && decide (s.uptime < l.due) then { l with due := l.due + n } else l }
    en := { s.en with runs := s.en.runs.map fun r =>
      if r.job.unit = u && j r.job then
        { r with job := late r.job, items := r.items.map fun i => if i.done then i else { i with due := i.due + n } }
      else r } }

/-- ERROR on an operation of an engine (R654): a corrected bit of its inputs; an uncorrectable or poisoned input; a mismatch of its check. -/
def State.errEngine (s : State) (u ctx param : Nat) : State :=
  if param % 4 = 0 then (s.satAdd (engPage u) Rg.ENG_ERRS_ECC_CORR).engEvent u Ev.ENG_ECC_CORR ctx 0 0
  else
    let code := if param % 4 = 2 then 1 else 2
    match s.en.runs.reverse.find? fun r => r.job.unit = u && r.job.ctx = ctx with
    | some r =>
      let items := match r.items with
        | i :: l => { i with codes := i.codes ++ [code] } :: l
        | [] => []
      s.setRun r { r with items := items }
    | none => s

/-- ERROR on an operation of a pier. -/
def State.errPier (s : State) (n param : Nat) : State :=
  if param % 4 = 0 then s.pierCorr n
  else s.setPier n ((s.pier n).trap s.uptime (if param % 4 = 2 then Ev.RESIDUE else Ev.DM_ECC))

/-- ERROR on a cache word (R474, R654): a corrected bit, or an uncorrectable word, whose line is written to memory poisoned when it is
dirty. -/
def State.errCache (s : State) (c addr param : Nat) : State :=
  if param % 4 = 0 then s.event (page .cluster c) Ev.ECC_CORR_58
  else
    let s := s.event (page .cluster c) Ev.L2_UE
    match s.cached addr with
    | some l =>
      let s := if l.dirty then s.writeMem (216 + l.core) (64 * l.line) 64 l.data true else s
      s.inval l.line
    | none => s

/-- The waiting packet of an initiator in a router. -/
def State.ptPacket (s : State) (r ctx source : Nat) : Option Buffered :=
  s.nt.bufs.find? fun b => b.router = r && b.pkt.ctx = ctx && b.pkt.source = source

/-- What a kind does to an item of a router (R654). -/
def State.ptRouter (s : State) (n p kind param ctx source : Nat) : State :=
  let len := param % 2 ^ 24
  if kind = 5 then s.ptAwait p kind param
  else if kind = 2 then s.setToll { s.ts with press := Sparse.set (fun _ => 0) s.ts.press p (s.uptime + len) }
  else match s.ptPacket n ctx source with
    | none => s
    | some b =>
      if kind = 3 then { s with nt := { s.nt with bufs := s.nt.bufs.erase b } }
      else
        let b' := { b with since := max b.since s.uptime + len }
        { s with nt := { s.nt with bufs := s.nt.bufs.map fun x => if x = b then b' else x } }

/-- What a kind does to an item of a page (R654, R655). -/
def State.pertApply (s : State) (k : PageKind) (n p kind param ctx source addr : Nat) : State :=
  let len := param % 2 ^ 24
  match k with
  | .eng _ =>
    if kind = 4 then s.stretch (pageUnit k n) (param % 65536 * s.deckK) (fun j => j.ctx = ctx)
    else s.errEngine (pageUnit k n) ctx param
  | .pier =>
    if kind = 4 then
      let d := param % 65536 * s.deckK
      (s.setPier n { s.pier n with last := max (s.pier n).last s.uptime + d }).stretch (pageUnit .pier n) d (fun j => j.ctx = ctx)
    else s.errPier n param
  | .bay | .bm =>
    if kind = 5 then s.ptAwait p kind param
    else
      let mine := fun (d : DynLine) => memPage d.addr = p && d.who.ctx = ctx && d.who.source = source
      let dyn := s.mu.dyn.map fun d => if mine d then { d with since := max d.since s.uptime + len } else d
      { s with mu := { s.mu with dyn := dyn } }
  | .router => s.ptRouter n p kind param ctx source
  | .trestle0 | .trestle1 | .trestle2 | .trestle3 =>
    if kind = 3 then s.ptAwait pgTr0 kind param
    else { s with tr := { s.tr with lastAdmit := max s.tr.lastAdmit (s.uptime + 1) + len } }
  | .cluster => if kind = 5 then s.errCache n addr param else s
  | _ => s.ptAwait p kind param

/-- Channels `n` on act on an item until one drops it (R657). -/
def State.ptItem (s : State) (k : PageKind) (inst p ctx source addr : Nat) : List Nat → State
  | [] => s
  | n :: l =>
    let kind := s.get p Rg.PT_CFG_KIND n
    let param := s.get p Rg.PT_PARAM n
    let r := s.ptChannel k p n ctx source
    if r.1 then
      let s := r.2.pertApply k inst p kind param ctx source addr
      if kind = 3 then s else s.ptItem k inst p ctx source addr l
    else r.2.ptItem k inst p ctx source addr l

/-- PT_ACTION (R654, R655, R657): an item with a CTX and a Truss SOURCE (and the address of a cache word) meets the channels of a page. Of an
operation it is the one in progress, of an access or a packet the one that waits; of a frame, a basic frame, a token, a unit or a word
it is the page's next. -/
def execPtAction (p : Fin 4096) (ctx : Fin 4096) (source : Fin 256) (addr : Nat) (s : State) : Host.Outcome State Fault Refusal :=
  .next (
    match pageOf p.val with
    | some (k, n) =>
      if capPt k && s.domOn (pageDomain k n) && s.mode = modeDiag && s.flag p.val Rg.PT_CTL_ACTIVE then
        s.ptItem k n p.val ctx.val source.val addr [0, 1, 2, 3]
      else s
    | none => s)

/-- PT_DELAY_RELEASE (R654, R656): the oldest frame that a page's DELAY holds and whose time has come is handled. -/
def execPtDelayRelease (p : Fin 4096) (s : State) : Host.Outcome State Fault Refusal :=
  .next (
    match s.ts.held.find? fun h => h.page = p.val && decide (h.due ≤ s.uptime) with
    | none => s
    | some h =>
      let s := s.setToll { s.ts with held := s.ts.held.erase h }
      match pageOf h.page with
      | some (.em, _) => s.toUnit h.port h.bytes h.bad
      | some (.au, _) => s.frameIn h.port h.bytes h.bad
      | some (.lk, _) => s.linkIn h.port h.bytes h.bad
      | _ => s)

end Sys2Proof.Machine
end

