-- ==== Sys2Proof/Machine/Security.lean ====
section
/-! DEFINITION. The Keeper's recovery, the recovery ladder, the watchdog timer, tamper inputs, life cycle, keys, secure boot, the debug
port and the test access port (spec chapter 19; R682). -/
namespace Sys2Proof.Machine

/-- R639: a Parapet event, with the tamper input, hart, image slot or key slot in DETAIL[19:16]. -/
def State.ppEvent (s : State) (code : Nat) (item : Nat := 0) : State := s.event pgParapet code 0 0 ((item % 16) <<< 16)

/-! ## Self-resets of the Keeper (R604, R616, R617) -/

/-- A mailbox command in progress ends with CMD_ABORTED; a MODE_SET transition is abandoned, the entry to QUIET and INERT with it (log entry 37). -/
def State.mailAbort (s : State) : State :=
  match s.pw.mail with
  | none => s
  | some op =>
    let s := if op = 1 then
      let s := if s.pw.seq.kind = 2 ∨ s.pw.seq.kind = 4 then s.setSeq 0 [] else s
      (s.put pgSys Rg.SYS_MODE_TARGET s.mode).put pgSys Rg.SYS_MODE_BUSY 0
    else s
    (s.event pgKeeper Ev.CMD_ABORTED).mailDone false 0 Ev.CMD_ABORTED

/-- R604, R523: a Keystone command in progress falls to a self-reset. -/
def State.ksAbort (s : State) : State :=
  match s.ks.cmd with
  | none => s
  | some c => (s.ksCut).ksAnswer c.value (ksNo Ev.CMD_ABORTED)

/-- KEEPER_SELF_RESET (R616): a miscompare, an uncorrectable error or a lapse of the loop timer. The fourth within 1 s halts the Keeper. -/
def execKeeperSelfReset (s : State) : Host.Outcome State Fault Refusal :=
  .next (
    if s.pw.porst || s.pw.down then s
    else
      let old := s.pw.resets.filter fun t => decide (s.uptime < t + secondCy)
      let s := (s.satAdd pgParapet Rg.KW_CNT_KRST).put pgKeeper Rg.KP_STAT_KEEPER_UP 0
      let s := (s.mailAbort).ksAbort
      let s := { s with pw := { s.pw with down := true, resets := old ++ [s.uptime] } }
      if 3 ≤ old.length then (s.put pgParapet Rg.KW_STAT_KEEPER_HALTED 1).ppEvent Ev.KEEPER_HALT else s)

/-- KEEPER_RESTART (R604, R616): the Keeper runs again and scans the Keystone; a half-programmed pair of fuses is completed (R623). -/
def execKeeperRestart (s : State) : Host.Outcome State Fault Refusal :=
  .next (
    if !s.pw.down || s.flag pgParapet Rg.KW_STAT_KEEPER_HALTED then s
    else
      let s := { s with pw := { s.pw with down := false } }
      let s := (s.put pgKeeper Rg.KP_STAT_KEEPER_UP 1).ppEvent Ev.KEEPER_RESET
      let s := (s.setKs { s.ks with scan := true, scanAt := s.uptime }).put pgKeystone Rg.KS_STAT_READY 0
      (s.completePair).keeper)

/-! ## The ladder (R618, R619) -/

/-- KW_KICK (R618): a kick counts for the writing hart's own bit. -/
def execKwKick (w : Who) (value : Nat) (s : State) : Host.Outcome State Fault Refusal :=
  .next (s.command w pgParapet 0x1C8 value fun s =>
    let h := w.source - 216
    if 216 ≤ w.source ∧ w.source < 232 ∧ value.testBit h then
      let s := { s with sec := { s.sec with kicks := s.sec.kicks ||| 2 ^ h } }
      s.put pgParapet Rg.KW_STAT_MISSED (0xFFFF - s.sec.kicks % 65536)
    else s)

/-- R619: a core restarts at CL_BOOT: HOLD, the Trestle's flush, the completion of its sources in service, release. -/
def State.restartCore (s : State) (h : Nat) : State :=
  let g := pgCluster (h / 4)
  if s.asleep (8 + h / 4) then s
  else
    let v := s.get g Rg.CL_RST
    let s := (s.put g Rg.CL_RST (v ||| 2 ^ (h % 4))).holdFollow (h / 4)
    let s := if s.asleep 3 then s else s.trFlush (2 ^ h)
    let mine := s.ab.hub.insvc.filter fun x => routeKind (s.route x.1) = 0 && (bits (s.route x.1) 10 0) / 2 = h
    let s := mine.foldl (fun s x => s.hubComplete (bits (s.route x.1) 10 0) x.1) s
    let v := s.get g Rg.CL_RST
    (s.put g Rg.CL_RST (v - (v &&& 2 ^ (h % 4)))).holdFollow (h / 4)

/-- The Keeper completes a rung; the count of missed kicks starts afresh. -/
def State.doRung (s : State) : State :=
  let g := pgParapet
  let r := s.pw.rung
  let harts := (List.range 16).filter fun h => s.pw.rungHarts.testBit h
  let s := { s with pw := { s.pw with rung := 0, rungHarts := 0 }, sec := { s.sec with silent := [] } }
  let s := s.put g Rg.KW_STAT_RUNG_PEND 0
  if r = 1 then
    harts.foldl (fun s h => ((s.restartCore h).satAdd g Rg.KW_CNT_HART).ppEvent Ev.HART_RESTART h) s
  else if r = 2 then
    let out := (List.range 16).filter fun h => (s.hart h).running
    ((out.foldl (fun s h => s.restartCore h) s).satAdd g Rg.KW_CNT_ABUT).ppEvent Ev.ABUT_RESTART
  else if r = 3 then ((s.satAdd g Rg.KW_CNT_LADDER).ppEvent Ev.LADDER_RESET).warmStart 5
  else
    let s := { s with sec := { s.sec with spent := true } }
    s.holdAll.ppEvent Ev.LADDER_EXHAUSTED

/-- R619: the rung whose condition holds at a period boundary (0: none), and the harts of a rung 1. -/
def State.rungFor (s : State) (period : Nat) : Nat × Nat :=
  let g := pgParapet
  let mask := s.get g Rg.KW_MASK
  let tmo := max 1 (s.get g Rg.KW_CFG_HART_TMO)
  let late := (List.range 16).filter fun h => mask.testBit h && decide (tmo ≤ Sparse.get (fun _ => 0) s.sec.silent h)
  let bits_ := (late.map fun h => 2 ^ h).sum
  if late.isEmpty then (0, 0)
  else if bits_ = mask ∨ s.get g Rg.KW_CFG_RESTART_MAX < s.sec.rung1.length + late.length then
    match s.sec.rung2 with
    | some p =>
      if period ≤ p + s.get g Rg.KW_CFG_ABUT_WIN then
        (if s.get g Rg.KW_CNT_LADDER < s.get g Rg.KW_CFG_LADDER_MAX then (3, 0) else (4, 0))
      else (2, 0)
    | none => (2, 0)
  else (1, bits_)

/-- LADDER_EVALUATION (R619): at a period boundary of KP_UPTIME. The rung completes in a later cycle. -/
def execLadderEvaluation (s : State) : Host.Outcome State Fault Refusal :=
  let p := s.uptime / spanCy
  .next (
    if s.pw.porst || s.pw.down || s.sec.spent || decide (s.pw.rung ≠ 0) || s.uptime % spanCy ≠ 0 || decide (p ≤ s.sec.period) then s
    else
      let n := p - s.sec.period
      let mask := s.get pgParapet Rg.KW_MASK
      let silent := (List.range 16).foldl (fun l h =>
        Sparse.set (fun _ => 0) l h
          (if mask.testBit h && !s.sec.kicks.testBit h then Sparse.get (fun _ => 0) s.sec.silent h + n else 0)) []
      let hour := s.sec.service ≠ 0 && decide (s.sec.service + 7077888000000 ≤ s.uptime + 1)
      let s := { s with sec := { s.sec with
        silent := silent, kicks := 0, period := p, rung1 := s.sec.rung1.filter fun q => decide (p < q + 2048) } }
      let s := s.put pgParapet Rg.KW_STAT_MISSED 0xFFFF
      let s := if hour then s.put pgParapet Rg.KW_CNT_LADDER 0 else s
      let r := s.rungFor p
      if r.1 = 0 then s
      else
        let k := ((List.range 16).filter fun h => r.2.testBit h).length
        let s := { s with
          sec := { s.sec with
            rung1 := if r.1 = 1 then s.sec.rung1 ++ List.replicate k p else s.sec.rung1
            rung2 := if r.1 = 2 then some p else s.sec.rung2 }
          pw := { s.pw with rung := r.1, rungHarts := r.2 } }
        s.put pgParapet Rg.KW_STAT_RUNG_PEND 1)

/-- WDOG_EXPIRED (R620): 31,457,280 cy after the last restart of the watchdog timer. -/
def execWdogExpired (s : State) : Host.Outcome State Fault Refusal :=
  .next (
    if s.pw.porst || s.flag pgParapet Rg.KW_STAT_WDT_EXPIRED || decide (s.uptime < s.sec.wdog + 31457280) then s
    else ((s.put pgParapet Rg.KW_STAT_WDT_EXPIRED 1).put pgParapet Rg.PP_FAULT_WDOG 1).ppEvent Ev.WDOG_EXPIRED)

/-! ## Tamper inputs (R625, R626) -/

/-- R625, R626: the Caisson is locked until PORST_N, or while an input with ACTION 1 or 3 stays active. -/
def State.lockFollow (s : State) : State :=
  let act := s.get pgParapet Rg.PP_TAMP_STAT_ACTIVE
  let held := (List.range 4).any fun n => act.testBit n && (s.get pgParapet Rg.PP_TAMP_CFG_ACTION n) % 2 = 1
    && s.flag pgParapet Rg.PP_TAMP_CFG_EN n
  s.put pgParapet Rg.PP_CAISSON_LOCKED (s.sec.lock || held).toNat

/-- R626: an accepted activation: its events, its LATCH, the capture, the CRASH record that the Keeper will write. -/
def State.tamperSeen (s : State) (n : Nat) (toggle : Bool) : State :=
  let g := pgParapet
  let s := if toggle then s.ppEvent Ev.TAMPER_TOGGLE n
    else (s.putBit g Rg.PP_TAMP_STAT_ACTIVE n true).putBit g Rg.PP_TAMP_STAT_RAW n (s.flag g Rg.PP_TAMP_CFG_ACT_HIGH n)
  let s := ((s.ppEvent Ev.TAMPER n).putBit g Rg.PP_TAMP_STAT_LATCH n true).put64 g Rg.PP_TAMP_UP_LO s.uptime
  { s with sec := { s.sec with crash := s.sec.crash ++ [((s.reg g 0x120).toNat, s.uptime)] } }

/-- R626, R638: the action of an input; of two inputs in one cycle one wipes. -/
def State.tamperAct (s : State) (a : Nat) : State :=
  let again := s.flag pgParapet Rg.PP_CAISSON_WIPING && s.sec.wipeEnd = s.uptime + 4096
  let s := if a = 0 || again then s else s.wipe
  let s := if a = 2 then { s with sec := { s.sec with lock := true } } else s
  let s := s.lockFollow
  if a = 3 then (s.warmStart 5).setReg pgPwr 0x120 0 else s

/-- TAMPER (R626): an input is accepted as active, or (`toggle`) has changed more than 64 times within 1 ms. -/
def execTamper (input : Fin 4) (toggle : Bool) (s : State) : Host.Outcome State Fault Refusal :=
  let n := input.val
  let g := pgParapet
  .next (
    if s.pw.porst || !(s.flag g Rg.PP_TAMP_CFG_EN n) || (toggle && !(s.flag g Rg.PP_TAMP_CFG_TOGGLE_EN n))
        || (!toggle && (s.get g Rg.PP_TAMP_STAT_ACTIVE).testBit n) then s
    else ((s.tamperSeen n toggle).tamperAct (s.get g Rg.PP_TAMP_CFG_ACTION n)).flushCrash)

/-- TAMPER_INACTIVE (R626): an input ceases to be active. -/
def execTamperInactive (input : Fin 4) (s : State) : Host.Outcome State Fault Refusal :=
  let n := input.val
  let g := pgParapet
  .next (
    if s.pw.porst || !((s.get g Rg.PP_TAMP_STAT_ACTIVE).testBit n) then s
    else
      ((s.putBit g Rg.PP_TAMP_STAT_ACTIVE n false).putBit g Rg.PP_TAMP_STAT_RAW n (!(s.flag g Rg.PP_TAMP_CFG_ACT_HIGH n))).lockFollow)

/-! ## Life cycle and fuses (R622, R623, R627, R628, R635) -/

def State.lc (s : State) : Nat := s.get pgSys Rg.SYS_LC

def State.arg (s : State) (n : Nat) : Nat := s.get pgKeeper Rg.KP_ARG n

def State.key (s : State) (n : Nat) : KeySlot := Sparse.get (fun _ => KeySlot.empty) s.keys n
def State.setKey (s : State) (n : Nat) (k : KeySlot) : State := { s with keys := Sparse.set (fun _ => KeySlot.empty) s.keys n k }

/-- R637: a refused command. -/
def State.mailRefuse (s : State) (code : Nat) (item : Nat := 0) : State := (s.ppEvent code item).mailDone false 0 code

/-- R636: authentication ends. -/
def State.endAuth (s : State) : State := (s.put pgDebug Rg.DBG_STAT_AUTH 0).showAccess

/-- R623: LC_ADVANCE begins: the wipe and the first fuse. -/
def State.lcAdvance (s : State) : State :=
  let t := s.arg 0 % 8
  let fw := (List.range 16).any fun n => n ≠ 0 && (s.key n).used && !(s.key n).revoked && (s.key n).purpose.testBit 0
  let uid := s.get pgSys Rg.SYS_UID_LO
  if decide (t ≤ s.lc) || decide (4 < t) || s.arg 1 != Nat.xor uid 0x4C435F41 || (s.lc = 0 && t = 1 && !fw) then
    s.mailRefuse Ev.LC_REFUSED
  else
    let s := s.wipe
    { s with sec := { s.sec with fuses := s.sec.fuses ||| 1 <<< (2 * t - 2) } }

/-- R623: the second fuse, SYS_LC and LC_CHANGED. -/
def State.lcFinish (s : State) : State :=
  let t := s.arg 0 % 8
  let s := { s with sec := { s.sec with fuses := s.sec.fuses ||| 3 <<< (2 * t - 2) } }
  ((s.showFuses.endAuth).ppEvent Ev.LC_CHANGED).mailDone true 0 0

/-- LC_ADVANCE (R623): KP_CMD with OP 0x40; it completes in a later cycle. -/
def execLcAdvance (w : Who) (s : State) : Host.Outcome State Fault Refusal :=
  .next (s.access w pgKeeper 0x100 true fun s => s.mailStart 0x40 State.lcAdvance)

/-- The Keeper's and debug port's own access. -/
def keeperWho : Who := ⟨232, 3, 0, 0⟩

/-- R628: a slot is fused; `bad`: the read-back fails. -/
def State.keyFuse (s : State) (bad : Bool) : State :=
  let n := s.arg 0 % 16
  if 1 < s.lc ∨ (s.key n).used then s.mailRefuse Ev.KEY_REFUSED n
  else
    match s.dynRead keeperWho (s.arg 2 + s.arg 3 * 2 ^ 32) 96 with
    | (none, s) => s.mailRefuse Ev.KEY_REFUSED n
    | (some k, s) =>
      let s := s.setKey n ⟨true, k, s.arg 1, bits (s.arg 0) 10 8, bad || (s.key n).revoked⟩
      if bad then s.mailRefuse Ev.KEY_REFUSED n else s.mailDone true 0 0

/-- KEY_FUSE (R628): KP_CMD with OP 0x41. -/
def execKeyFuse (w : Who) (readBackFails : Bool) (s : State) : Host.Outcome State Fault Refusal :=
  .next (s.access w pgKeeper 0x100 true fun s => s.mailStart 0x41 fun s => s.keyFuse readBackFails)

/-- R627: a usable firmware key among the slots that R622 accepts. -/
def State.fwKey (s : State) (n : Nat) : Bool :=
  (s.key n).used && !(s.key n).revoked && (s.key n).purpose.testBit 0 && keyAccepted s.lc n

/-- R627: a slot is revoked. -/
def State.keyRevoke (s : State) : State :=
  let n := s.arg 0 % 16
  if 2 < s.lc ∨ (s.fwKey n ∧ ((List.range 16).filter fun m => m ≠ n && s.fwKey m) = []) then s.mailRefuse Ev.KEY_REFUSED n
  else (s.setKey n { s.key n with revoked := true }).mailDone true 0 0

/-- KEY_REVOKE (R627): KP_CMD with OP 0x42. -/
def execKeyRevoke (w : Who) (s : State) : Host.Outcome State Fault Refusal :=
  .next (s.access w pgKeeper 0x100 true fun s => s.mailStart 0x42 State.keyRevoke)

/-- R635. -/
def State.minverAdvance (s : State) : State :=
  let v := s.arg 0 % 64
  if s.ks.boot.state ≠ 0 ∨ s.sec.svn < v ∨ v < s.sec.minver then s.mailRefuse Ev.KEY_REFUSED
  else ({ s with sec := { s.sec with minver := v } } : State).showFuses.mailDone true 0 0

/-- MINVER_ADVANCE (R635): KP_CMD with OP 0x43. -/
def execMinverAdvance (w : Who) (s : State) : Host.Outcome State Fault Refusal :=
  .next (s.access w pgKeeper 0x100 true fun s => s.mailStart 0x43 State.minverAdvance)

/-! ## Handles (R629, R630) -/

def State.setHandle (s : State) (h : Nat) (k : Option KeyHandle) : State :=
  { s with sec := { s.sec with handles := Sparse.set (fun _ => none) s.sec.handles h k } }

/-- R625: a write into the Caisson is discarded while a wipe is in progress. -/
def State.putHandle (s : State) (h : Nat) (k : KeyHandle) : State := if s.flag pgParapet Rg.PP_CAISSON_WIPING then s else s.setHandle h (some k)

/-- R630: a handle is exported as a blob. -/
def State.wrapKey (s : State) : State :=
  match s.keyOf (s.arg 0 % 1024) with
  | none => s.mailRefuse Ev.KEY_HANDLE
  | some k =>
    let f := s.fresh
    let nonce := f.1 % 2 ^ 96
    let attrs := k.use
    let c := Config.blobSeal s.lc nonce attrs k.key
    let blob := bytesOf 12 nonce ++ bytesOf 32 c.1 ++ bytesOf 4 attrs ++ bytesOf 16 c.2
    ((f.2.dynWrite keeperWho (s.arg 2 + s.arg 3 * 2 ^ 32) blob).2).mailDone true 0 0

/-- WRAP (R630): KP_CMD with OP 0x44. -/
def execWrap (w : Who) (s : State) : Host.Outcome State Fault Refusal :=
  .next (s.access w pgKeeper 0x100 true fun s => s.mailStart 0x44 State.wrapKey)

/-- R630: a blob is loaded into a handle. -/
def State.unwrapKey (s : State) : State :=
  if s.flag pgParapet Rg.PP_CAISSON_LOCKED then s.mailRefuse Ev.CAISSON_LOCKED
  else
    match s.dynRead keeperWho (s.arg 2 + s.arg 3 * 2 ^ 32) 64 with
    | (none, s) => s.mailRefuse Ev.KEY_UNWRAP_FAIL
    | (some v, s) =>
      let attrs := v / 2 ^ 352 % 2 ^ 32
      match Config.blobOpen s.lc (v % 2 ^ 96) attrs (v / 2 ^ 96 % 2 ^ 256) (v / 2 ^ 384) with
      | none => s.mailRefuse Ev.KEY_UNWRAP_FAIL
      | some k => (s.putHandle (s.arg 0 % 1024) ⟨attrs % 4, k⟩).mailDone true 0 0

/-- UNWRAP (R630): KP_CMD with OP 0x45. -/
def execUnwrap (w : Who) (s : State) : Host.Outcome State Fault Refusal :=
  .next (s.access w pgKeeper 0x100 true fun s => s.mailStart 0x45 State.unwrapKey)

/-- R629: a write of PP_KCMD. -/
def State.keyCommand (s : State) (value : Nat) : State :=
  let h := value % 1024
  if bits value 31 30 = 1 then
    let key := ofBytes (s.sec.kdata.flatMap (bytesOf 4))
    let s := { s with sec := { s.sec with kdata := List.replicate 8 0 } }
    if s.flag pgParapet Rg.PP_CAISSON_LOCKED then s.ppEvent Ev.CAISSON_LOCKED else s.putHandle h ⟨bits value 25 24, key⟩
  else if bits value 31 30 = 2 then s.setHandle h none
  else s

/-- KEY_LOAD (R629): a write of PP_KCMD with OP = LOAD. -/
def execKeyLoad (w : Who) (use : Fin 4) (handle : Fin 1024) (s : State) : Host.Outcome State Fault Refusal :=
  .next (s.access w pgParapet 0x160 true fun s => s.keyCommand (1 <<< 30 + use.val <<< 24 + handle.val))

/-- KEY_ERASE (R629): a write of PP_KCMD with OP = ERASE. -/
def execKeyErase (w : Who) (handle : Fin 1024) (s : State) : Host.Outcome State Fault Refusal :=
  .next (s.access w pgParapet 0x160 true fun s => s.keyCommand (2 <<< 30 + handle.val))

/-- PP_KIDX_WRITE (R640): PP_KSTAT shows the handle. -/
def execPpKidxWrite (w : Who) (value : Nat) (s : State) : Host.Outcome State Fault Refusal :=
  .next (s.command w pgParapet 0x168 value fun s =>
    let h := value % 1024
    let refs := (s.sec.sas.filter fun a => bits a.2.cfg 31 31 = 1 && a.2.cfg % 1024 = h).length
    let v := match s.keyOf h with
      | some k => 1 <<< 31 + k.use <<< 24
      | none => 0
    s.setReg pgParapet 0x16C (BitVec.ofNat 32 (v + min refs 65535)))

/-- The association that PP_SA_IDX names: the port and its number there. -/
def State.saIdx (s : State) : Nat × Nat :=
  let g := pgParapet
  (s.get g Rg.PP_SA_IDX_PORT, 16 * s.get g Rg.PP_SA_IDX_DIR + 4 * s.get g Rg.PP_SA_IDX_SC + s.get g Rg.PP_SA_IDX_AN)

/-- PP_SA_IDX_WRITE (R640). -/
def execPpSaIdxWrite (w : Who) (value : Nat) (s : State) : Host.Outcome State Fault Refusal :=
  .next (s.command w pgParapet 0x170 value fun s =>
    let i := s.saIdx
    let a := s.sa i.1 i.2
    ((s.setReg pgParapet 0x174 (BitVec.ofNat 32 a.cfg)).put64 pgParapet Rg.PP_SA_SCI_LO a.sci).put pgParapet Rg.PP_SA_PN a.pn)

/-- SA_WRITE (R640): a write of PP_SA_CMD. -/
def execSaWrite (w : Who) (value : Nat) (s : State) : Host.Outcome State Fault Refusal :=
  .next (s.command w pgParapet 0x184 value fun s =>
    let i := s.saIdx
    if value % 2 = 1 then
      s.setSa i.1 i.2 ⟨(s.reg pgParapet 0x174).toNat, s.get64 pgParapet Rg.PP_SA_SCI_LO, s.get pgParapet Rg.PP_SA_PN⟩
    else s)

/-- PP_PK_IDX_WRITE (R640). -/
def execPpPkIdxWrite (w : Who) (value : Nat) (s : State) : Host.Outcome State Fault Refusal :=
  .next (s.command w pgParapet 0x190 value fun s =>
    let k := s.key (value % 16)
    let v := k.used.toNat <<< 31 + k.revoked.toNat <<< 30 + (k.purpose % 8) <<< 16
    (s.setReg pgParapet 0x194 (BitVec.ofNat 32 v)).put pgParapet Rg.PP_PK_ID k.id)

/-- PP_FAULT_SET (R615): a write of PP_FAULT_SET. -/
def execPpFaultSet (w : Who) (value : Nat) (s : State) : Host.Outcome State Fault Refusal :=
  .next (s.command w pgParapet 0x108 value fun s => if value.testBit 7 then s.put pgParapet Rg.PP_FAULT_FW 1 else s)

/-- What a read of PP_RNG does: a new random word. -/
def State.rngRead (s : State) : State :=
  let f := s.fresh
  let v := f.1 % 2 ^ 32
  (f.2.put pgParapet Rg.PP_RNG v).answer 0 v

/-- RNG_READ (R640). -/
def execRngRead (w : Who) (s : State) : Host.Outcome State Fault Refusal :=
  .next (s.access w pgParapet 0x1A0 false State.rngRead)

/-! ## The debug port (R636, R641, R600) -/

/-- R639: a debug event. -/
def State.dbgEvent (s : State) (code : Nat) : State := s.event pgDebug code

/-- NEW: a nonce. -/
def State.dbgNew (s : State) : State :=
  let f := s.fresh
  let s := (List.range 12).foldl (fun s i => s.put pgDebug Rg.DBG_CHAL (f.1 / 2 ^ (32 * i)) i) f.2
  { s with sec := { s.sec with nonce := true } }

/-- VERIFY: the response to the nonce. -/
def State.dbgVerify (s : State) : State :=
  if s.flag pgDebug Rg.DBG_STAT_LOCKOUT then s
  else
    let nonce := (List.range 12).flatMap fun i => bytesOf 4 (s.get pgDebug Rg.DBG_CHAL i)
    let msg := nonce ++ bytesOf 8 (s.get64 pgSys Rg.SYS_UID_LO)
    let b := s.sec.resp.flatMap (bytesOf 4)
    let ok := s.sec.nonce && signatureOk s (s.get pgDebug Rg.DBG_KEY) 2 msg (beNat (b.take 48)) (beNat (b.drop 48))
    let s := { s with sec := { s.sec with nonce := false } }
    if ok then ((s.put pgDebug Rg.DBG_STAT_AUTH 1).showAccess).dbgEvent Ev.DBG_AUTH_OK
    else
      let s := (s.satAdd pgDebug Rg.DBG_STAT_FAILS).dbgEvent Ev.DBG_AUTH_FAIL
      if s.get pgDebug Rg.DBG_STAT_FAILS = 8 then (s.put pgDebug Rg.DBG_STAT_LOCKOUT 1).dbgEvent Ev.DBG_LOCKOUT else s

/-- R636: the debug port may release a HALT strap. -/
def State.mayRelease (s : State) : Bool := s.lc ≠ 4 && (s.lc ≠ 2 || s.flag pgDebug Rg.DBG_STAT_AUTH)

/-- RELEASE_HALT: a HALT strap ends and the device is brought up. -/
def State.releaseHalt (s : State) : State :=
  if s.pw.halted && s.mayRelease && !s.pw.down then s.completePair.bringUp else s

/-- A write of DBG_CMD. -/
def State.dbgCommand (s : State) (value : Nat) : State :=
  let s := if value.testBit 0 then s.dbgNew else s
  let s := if value.testBit 1 then s.dbgVerify else s
  let s := if value.testBit 2 then s.endAuth else s
  if value.testBit 3 then s.releaseHalt else s

/-- DBG_NEW (R636). -/
def execDbgNew (w : Who) (s : State) : Host.Outcome State Fault Refusal := .next (s.access w pgDebug 0x1A0 true State.dbgNew)

/-- DBG_VERIFY (R636). -/
def execDbgVerify (w : Who) (s : State) : Host.Outcome State Fault Refusal := .next (s.access w pgDebug 0x1A0 true State.dbgVerify)

/-- DBG_DEAUTH (R636). -/
def execDbgDeauth (w : Who) (s : State) : Host.Outcome State Fault Refusal := .next (s.access w pgDebug 0x1A0 true State.endAuth)

/-- RELEASE_HALT (R600). -/
def execReleaseHalt (w : Who) (s : State) : Host.Outcome State Fault Refusal := .next (s.access w pgDebug 0x1A0 true State.releaseHalt)

/-! ## The test access port (R682) -/

/-- The 94 balls of the boundary register. -/
def tapBalls : Nat := 2 ^ 94

def State.setTap (s : State) (t : Tap) : State := { s with io := { s.io with tap := t } }

/-- R636: boundary scan is available. -/
def State.scanAllowed (s : State) : Bool := s.lc ≠ 2 && s.lc ≠ 4

/-- EXTEST (R682): the boundary register captures the levels at the balls and drives its output cells with their enables. Where R636 does not
admit boundary scan the instruction has no effect. -/
def execExtest (levels out oe : Nat) (s : State) : Host.Outcome State Fault Refusal :=
  .next (
    if s.scanAllowed then (s.setTap ⟨0, levels % tapBalls, out % tapBalls, oe % tapBalls⟩).answer 0 (levels % tapBalls) else s)

/-- IDCODE (R682). -/
def execIdcode (s : State) : Host.Outcome State Fault Refusal :=
  .next ((s.setTap { s.io.tap with ir := 1 }).answer 0 0x177200FF)

/-- SAMPLE_PRELOAD (R682): the levels at the balls are sampled; the output cells are preloaded and drive nothing. -/
def execSamplePreload (levels out oe : Nat) (s : State) : Host.Outcome State Fault Refusal :=
  .next (
    if s.scanAllowed then (s.setTap ⟨2, levels % tapBalls, out % tapBalls, oe % tapBalls⟩).answer 0 (levels % tapBalls) else s)

/-- BYPASS (R682): the one-bit register captures 0. -/
def execBypass (s : State) : Host.Outcome State Fault Refusal :=
  .next ((s.setTap { s.io.tap with ir := 0xFF }).answer 0 0)

/-! ## Secure boot (R535, R605, R631–R633) -/

/-- R631: the size of the region of an image: A (0), B (1), golden (2). -/
def imageRegion (slot : Nat) : Nat := if slot = 2 then 63 * 1048576 else 96 * 1048576

/-- A little-endian field of an image header. -/
def hdr (b : List Nat) (o n : Nat) : Nat := ofBytes ((b.drop o).take n)

/-- R633: the checks of an image up to its body, in the order of PP_BOOT.REASON; 0: they pass. -/
def State.imageCheck (s : State) (slot : Nat) (b : List Nat) : Nat :=
  let load := hdr b 0x10 8
  let len := hdr b 0x20 8
  let entry := hdr b 0x18 8
  if hdr b 0 4 ≠ 0x57464458 ∨ hdr b 4 2 ≠ 1 ∨ hdr b 6 2 ≠ 0x7720 ∨ hdr b 8 2 ≠ 0x4201 ∨ hdr b 0x0B 1 ≠ 0 ∨ hdr b 0x5E 2 ≠ 0
      ∨ hdr b 0xC0 64 ≠ 0 then 1
  else if hdr b 0x0A 1 < s.sec.minver then 2
  else if (selectKey s (hdr b 0x58 4) 0).isNone then 3
  else if imageRegion slot < len + 256 ∨ bulkEnd < load + len ∨ entry < load ∨ load + len ≤ entry then 4
  else if !(signatureOk s (hdr b 0x58 4) 0 (b.take 0x60) (beNat ((b.drop 0x60).take 48)) (beNat ((b.drop 0x90).take 48))) then 5
  else 0

/-- R633: the result of an image in PP_BOOT. -/
def State.bootResult (s : State) (slot reason : Nat) : State :=
  let res := s.get pgParapet Rg.PP_BOOT_RES
  let v := res - bits res (2 * slot + 1) (2 * slot) <<< (2 * slot) + (if reason = 0 then 1 else 2) <<< (2 * slot)
  let s := s.put pgParapet Rg.PP_BOOT_RES v
  if reason = 0 then s else (s.put pgParapet Rg.PP_BOOT_REASON reason).ppEvent Ev.IMG_REJECTED slot

/-- R633: an image is tried: its body is copied to LOAD and compared with BODY_HASH. -/
def State.tryImage (s : State) (slot : Nat) (b : List Nat) : Bool × State :=
  match s.imageCheck slot b with
  | 0 =>
    let body := (b.drop 256).take (hdr b 0x20 8)
    let body := body ++ List.replicate (hdr b 0x20 8 - body.length) 0
    let s := s.writeBytes 232 (hdr b 0x10 8) body
    let ok := Config.sha384 body = beNat ((b.drop 0x28).take 48)
    (ok, s.bootResult slot (if ok then 0 else 6))
  | r => (false, s.bootResult slot r)

/-- R605: with one stack trained, the images whose LOAD region does not lie in it are skipped. -/
def State.imageFits (s : State) (b : List Nat) : Bool :=
  let lo := hdr b 0x10 8
  let hi := lo + hdr b 0x20 8
  let half := bulkEnd / 2
  (s.trained 0 && s.trained 1) || (s.trained 0 && decide (hi ≤ half)) || (s.trained 1 && decide (half ≤ lo))

/-- R632, R678: the image starts: what the Keystone page and the Keeper record. -/
def State.startImage (s : State) (slot eff : Nat) (trial : Bool) (b : List Nat) : State :=
  let g := pgKeystone
  let s := ((s.put g Rg.KS_BOOT0_BOOTED slot).put g Rg.KS_BOOT0_AS_TRIAL trial.toNat).put g Rg.KS_BOOT3 eff
  let s := s.setKs { s.ks with trialAt := s.uptime }
  let s := { s with pw := { s.pw with entry := hdr b 0x18 8 }, sec := { s.sec with svn := hdr b 0x0A 1 } }
  (s.setSeq s.pw.seq.kind (s.pw.seq.steps.drop 1)).keeper

/-- R535: the images of STABLE in their order: slot and EFF. -/
def State.stableOrder (s : State) : List (Nat × Nat) :=
  let b := s.ks.boot
  [(b.confSlot, b.confEpoch)] ++ (if b.prevV then [(b.prevSlot, b.prevEpoch)] else []) ++ [(2, 0)]

/-- R535, R633: tries images in order; the golden one that fails is BOOT_FAIL. Where none qualifies the device stays in BRINGUP. -/
def State.bootFrom (s : State) (img : Nat → List Nat) : List (Nat × Nat) → State
  | [] => s.setSeq 0 []
  | (slot, eff) :: l =>
    if !(s.imageFits (img slot)) then s.bootFrom img l
    else
      match s.tryImage slot (img slot) with
      | (true, s) => s.startImage slot eff false (img slot)
      | (false, s) => if slot = 2 then (s.ppEvent Ev.BOOT_FAIL 2).setSeq 0 [] else s.bootFrom img l

/-- R535: the boot by the boot state and the strap. -/
def State.bootGo (s : State) (img : Nat → List Nat) : State :=
  let b := s.ks.boot
  if s.get pgSys Rg.SYS_MODE_STRAP = 1 then s.bootFrom img [(2, 0)]
  else if b.state ≠ 1 then s.bootFrom img s.stableOrder
  else if b.left = 0 then let s := s.fallback 1; s.bootFrom img s.stableOrder
  else if !(s.imageFits (img b.trialSlot)) then s.bootFrom img s.stableOrder
  else
    let s := s.writeBoot { b with left := b.left - 1 }
    match s.tryImage b.trialSlot (img b.trialSlot) with
    | (true, s) => (s.ksEvent Ev.TRIAL_BOOT 0 6).startImage b.trialSlot b.trialBase true (img b.trialSlot)
    | (false, s) => let s := s.fallback 2; s.bootFrom img s.stableOrder

/-- BOOT_IMAGE_LOAD (R535, R605, R633, R678): step 7: what the flash holds in image slots A and B and in the golden region, from the header on,
and whether its SFDP tables offer 8D-8D-8D mode. -/
def execBootImageLoad (a b golden : List (Fin 256)) (octal : Bool) (s : State) : Host.Outcome State Fault Refusal :=
  .next (
    match s.pw.seq.steps with
    | .boot :: _ =>
      if s.pw.down || s.pw.warmPin || !(s.flag pgKeystone Rg.KS_STAT_READY) || s.ks.cmd.isSome then s
      else
        let s := (s.setReg pgXspi 0x008 (s.reg pgXspi 0x008 ||| 3)).put pgXspi Rg.XS_CFG_OCTAL octal.toNat
        let s := (s.setReg pgParapet 0x1A4 0).put64 pgKeystone Rg.KS_DEADLINE_LO 0
        s.bootGo fun n => ((if n = 0 then a else if n = 1 then b else golden)).map (·.val)
    | _ => s)

/-! ## At every cycle -/

/-- What the Keeper and the Parapet do in one cycle: a rung and an LC_ADVANCE complete, the watchdog timer is restarted once per period, a wipe
ends. -/
def State.secTick (s : State) : State :=
  if s.pw.porst then s
  else
    let s := if s.flag pgParapet Rg.PP_CAISSON_WIPING && decide (s.sec.wipeEnd ≤ s.uptime) then s.put pgParapet Rg.PP_CAISSON_WIPING 0 else s
    if s.pw.down then s
    else
      let s := if s.uptime % spanCy = 0 && !s.sec.spent then { s with sec := { s.sec with wdog := s.uptime } } else s
      let s := if s.pw.mail = some 0x40 then s.lcFinish else s
      if s.pw.rung ≠ 0 then s.doRung else s

end Sys2Proof.Machine
end

