-- ==== Sys2Proof/Machine/Slow.lean ====
section
/-! DEFINITION. The xSPI port and the UARTs (R681, R688–R692). -/
namespace Sys2Proof.Machine

/-! ## xSPI (R688–R691) -/

def State.setIo (s : State) (x : Slow) : State := { s with io := x }

/-- The Truss identity of the port: SOURCE 232 with CTX 0. -/
def xsWho : Who := ⟨232, 3, 0, 0⟩

/-- XS_STAT at the end of a command: DONE, and ERR with EVENT when it failed. -/
def State.xsEnd (s : State) (ev : Nat) : State :=
  let s := s.setIo { s.io with xs := none }
  let s := ((s.put pgXspi Rg.XS_STAT_BUSY 0).put pgXspi Rg.XS_STAT_DONE 1).put pgXspi Rg.XS_STAT_ERR (ev ≠ 0 : Bool).toNat
  let s := (s.put pgXspi Rg.XS_STAT_EVENT ev).irq pgXspi 0
  if ev = 0 then s else s.event pgXspi ev

/-- Whether `n` bytes from flash offset `a` on touch the region of an image (R631): 0 A, 1 B, 2 golden. -/
def touchesRegion (a n region : Nat) : Bool :=
  let base := if region = 0 then 0x00100000 else if region = 1 then 0x06100000 else 0x0C100000
  let size := if region = 2 then 0x03F00000 else 0x06000000
  decide (a < base + size) && decide (base < a + n)

/-- The bytes that a command touches in the flash: those of PROGRAM; of an ERASE what its opcode erases, which is not the port's to know: its
address (log entry 47). -/
def XsCmd.span (x : XsCmd) : Nat := if bits x.cmd 30 29 = 2 then 1 else x.len

/-- R688: the commands that DEPLOYED refuses. -/
def State.xsProtected (s : State) (x : XsCmd) : Bool :=
  let kind := bits x.cmd 30 29
  let hit := fun (r : Nat) => touchesRegion x.addr x.span r
  s.get pgParapet Rg.PP_LC_LC = 2 &&
    (((kind = 1 || kind = 2) && (hit 2 || hit s.ks.boot.confSlot))
      || (kind = 3 && bits x.cmd 28 28 = 0 && !([0x06, 0x04, 0x66, 0x99].contains (x.cmd % 256))))

/-- A write of XS_CMD with START = 1 for a command of a kind; while BUSY it has no effect. -/
def State.xsStart (s : State) (w : Who) (kind value : Nat) : State :=
  let v := 1 <<< 31 + kind <<< 29 + value % 2 ^ 29
  s.access w pgXspi 0x104 true fun s =>
    if s.flag pgXspi Rg.XS_STAT_BUSY then s
    else
      let s := s.setReg pgXspi 0x104 (BitVec.ofNat 32 (v % 2 ^ 31 &&& 0x70FF00FF))
      let x : XsCmd := ⟨v, s.get pgXspi Rg.XS_ADDR, s.get pgXspi Rg.XS_LEN, s.get64 pgXspi Rg.XS_BUF_LO, s.get64 pgXspi Rg.XS_DATA_LO⟩
      let s := (s.put pgXspi Rg.XS_STAT_BUSY 1).setIo { s.io with xs := some x }
      if s.xsProtected x then s.xsEnd Ev.XS_PROTECT else s

/-- XS_READ (R688): KIND 0. -/
def execXsRead (w : Who) (value : Nat) (s : State) : Host.Outcome State Fault Refusal := .next (s.xsStart w 0 value)

/-- XS_PROGRAM (R688): KIND 1. -/
def execXsProgram (w : Who) (value : Nat) (s : State) : Host.Outcome State Fault Refusal := .next (s.xsStart w 1 value)

/-- XS_ERASE (R688): KIND 2. -/
def execXsErase (w : Who) (value : Nat) (s : State) : Host.Outcome State Fault Refusal := .next (s.xsStart w 2 value)

/-- XS_REGISTER (R688): KIND 3. -/
def execXsRegister (w : Who) (value : Nat) (s : State) : Host.Outcome State Fault Refusal := .next (s.xsStart w 3 value)

/-- The bytes of a command that the flash has answered with: exactly as many as it asks for. -/
def flashBytes (l : List (Fin 256)) (n : Nat) : List Nat := (List.range n).map fun i => (l.getD i 0).val

/-- XS_DONE (R688, R691): the command in progress ends, unless the Keeper reads the flash for a boot (R689). `flash` is what the flash has
answered; `stall`: XSPI_DQS has not toggled for 1,024 periods of a read. -/
def execXsDone (flash : List (Fin 256)) (stall : Bool) (s : State) : Host.Outcome State Fault Refusal :=
  .next (
    match s.io.xs with
    | none => s
    | some x =>
      let kind := bits x.cmd 30 29
      let rd := kind = 0 || (kind = 3 && bits x.cmd 28 28 = 1)
      if !(s.domOn 6) then s
      else if stall && rd && s.flag pgXspi Rg.XS_CFG_OCTAL then s.xsEnd Ev.XS_DQS
      else if kind = 0 then
        let r := s.dynWrite xsWho x.buf (flashBytes flash x.len)
        r.2.xsEnd (if r.1 then 0 else Ev.XS_BUF_ERR)
      else if kind = 1 then
        let r := s.dynRead xsWho x.buf x.len
        r.2.xsEnd (if r.1.isSome then 0 else Ev.XS_BUF_ERR)
      else if kind = 3 && bits x.cmd 28 28 = 1 then
        let n := min x.len 8
        let old := x.data / 256 ^ n * 256 ^ n
        (s.put64 pgXspi Rg.XS_DATA_LO (old + ofBytes (flashBytes flash n))).xsEnd 0
      else s.xsEnd 0)

/-! ## UARTs (R681, R690, R692) -/

def State.uart (s : State) (u : Nat) : Uart := if u = 0 then s.io.u0 else s.io.u1

def State.setUart (s : State) (u : Nat) (x : Uart) : State :=
  s.setIo (if u = 0 then { s.io with u0 := x } else { s.io with u1 := x })

/-- U_STAT shows the FIFOs; PG_IRQ latches the levels that hold before or after the change. -/
def State.showUart (s : State) (u : Nat) (x : Uart) : State :=
  let old := s.uart u
  let s := ((s.setUart u x).put pgUart Rg.U_STAT_RXCNT x.rx.length u).put pgUart Rg.U_STAT_TXCNT x.tx.length u
  let s := if old.rx.isEmpty && x.rx.isEmpty then s else s.irq pgUart (4 * u)
  if old.tx.isEmpty || x.tx.isEmpty then s.irq pgUart (4 * u + 1) else s

/-- R690: an event of a UART; its bit of U_STAT. -/
def State.uartEvent (s : State) (u code : Nat) (f : Fld) : State :=
  ((s.put pgUart f 1 u).event pgUart code 0 0 (u <<< 16)).irq pgUart (4 * u + 2)

/-- The bits of a character: start, data, parity, stop (R681). -/
def State.charBits (s : State) (u : Nat) : Nat :=
  let par := s.get pgUart Rg.U_CFG_PARITY u
  1 + (if s.get pgUart Rg.U_CFG_BITS u = 1 then 7 else 8) + (if par = 1 ∨ par = 2 then 1 else 0)
    + (if s.flag pgUart Rg.U_CFG_STOP2 u then 2 else 1)

/-- The duration of a character in cy. -/
def State.charCy (s : State) (u : Nat) : Nat := s.charBits u * max 0x100 (s.get pgUart Rg.U_CFG_DIV u) / 16

/-- UART_TX_WRITE (R690, R692): a write of U_TX. -/
def execUartTxWrite (w : Who) (u : Fin 2) (value : Nat) (s : State) : Host.Outcome State Fault Refusal :=
  .next (s.access w pgUart (0x108 + 0x40 * u.val) true fun s =>
    let x := s.uart u.val
    if 64 ≤ x.tx.length then s.uartEvent u.val Ev.TX_OVF Rg.U_STAT_OVF
    else s.showUart u.val { x with tx := x.tx ++ [value % 256] })

/-- UART_CHAR_SEND (R681): the next character starts: the page is enabled and drives, the last one has ended, and with FLOW = 1 CTS_N is
low. Of a character of 7 bits bit 7 is not sent. -/
def execUartCharSend (u : Fin 2) (ctsLow : Bool) (s : State) : Host.Outcome State Fault Refusal :=
  let n := u.val
  let x := s.uart n
  .next (
    if !(s.domOn 6) || !(s.enabled pgUart) || decide (s.uptime < x.txEnd) || (s.flag pgUart Rg.U_CFG_FLOW n && !ctsLow) then s
    else
      match x.tx with
      | [] => s
      | c :: l =>
        let c := if s.get pgUart Rg.U_CFG_BITS n = 1 then c % 128 else c
        s.showUart n { x with tx := l, txEnd := s.uptime + s.charCy n, line := if s.outEn pgUart then c else x.line })

/-- UART_CHAR_RECEIVE (R681, R690, R692): the start bit of a character falls now; `parity` and `stop` are the levels of those bits. U_RXAIR
takes the start bit of a character after an idle line of at least two character times. -/
def execUartCharReceive (u : Fin 2) (data : Fin 256) (parity stop : Bool) (s : State) : Host.Outcome State Fault Refusal :=
  let n := u.val
  let x := s.uart n
  .next (
    if !(s.domOn 6) || !(s.enabled pgUart) || decide (s.uptime < x.rxEnd) then s
    else
      let len := s.charCy n
      let mode := s.get pgUart Rg.U_CFG_PARITY n
      let d := if s.get pgUart Rg.U_CFG_BITS n = 1 then data.val % 128 else data.val
      let ones := ((List.range 8).filter fun i => d.testBit i).length + parity.toNat
      let perr := (mode = 1 && ones % 2 = 1) || (mode = 2 && ones % 2 = 0)
      let s := if x.rxEnd + 2 * len ≤ s.uptime then s.put64 pgUart Rg.U_RXAIR_LO s.airIfValid n else s
      let s := s.setUart n { x with rxEnd := s.uptime + len }
      let s := if stop then s else s.uartEvent n Ev.FRAMING Rg.U_STAT_FERR
      let s := if perr then s.uartEvent n Ev.PARITY Rg.U_STAT_PERR else s
      let x := s.uart n
      if 64 ≤ x.rx.length then s.uartEvent n Ev.RX_OVF_5C Rg.U_STAT_OVF
      else s.showUart n { x with rx := x.rx ++ [⟨d, !stop, perr⟩] })

/-- UART_RX_POP (R692): a read of U_RX. -/
def execUartRxPop (w : Who) (u : Fin 2) (s : State) : Host.Outcome State Fault Refusal :=
  .next (s.access w pgUart (0x10C + 0x40 * u.val) false fun s =>
    let x := s.uart u.val
    match x.rx with
    | [] => s.answer 0 0
    | c :: l => (s.showUart u.val { x with rx := l }).answer 0 (1 <<< 31 + c.perr.toNat <<< 9 + c.ferr.toNat <<< 8 + c.data))

end Sys2Proof.Machine
end

