-- ==== Sys2Proof/Machine/Xsv.lean ====
section
/-! DEFINITION. The arithmetic instructions of the XSV short-vector extension (R455–R459). An instruction gives its hart and
its fields EW, FMT, S2, S1 and D (R457). -/
namespace Sys2Proof.Machine

/-- The element width (R457). -/
def xsvW (ew : Nat) : Nat := 8 * 2 ^ ew

/-- The elements of a register (R457). -/
def vElems (w v : Nat) : List Nat := (List.range (128 / w)).map fun i => bits v (w * i + w - 1) (w * i)

/-- A register from its elements. -/
def packElems (w : Nat) : List Nat → Nat
  | [] => 0
  | e :: l => e % 2 ^ w + 2 ^ w * packElems w l

/-- The operand b of every element (R457): qs2, x[rs2], or the immediate. -/
def Hart.xsvB (x : Hart) (w fmt s2 : Nat) : List Nat :=
  if fmt = 0 then vElems w (x.vec s2)
  else List.replicate (128 / w) (if fmt = 1 then x.reg s2 % 2 ^ w else ofInt w (toInt 5 s2))

/-- R455, R459: an XSV arithmetic instruction: illegal while FS is Off, in an unlisted form, or with XSVSTART ≠ 0. -/
def State.xsv (s : State) (h : Nat) (legal : Bool) (f : Hart → Hart) : State :=
  s.instr h fun x s =>
    if x.fs ≠ 0 && legal && x.get csrXsvstart = 0 then (s.setHart h (f x).next).bump (pgCluster (h / 4)) 4
    else s.setHart h x.illegal

/-- An instruction that writes qd, and sets XSVSAT if something was clipped. -/
def Hart.writeQ (x : Hart) (d v : Nat) (sat : Bool) : Hart :=
  let x := (x.setVec d v).dirty
  if sat then x.set csrXsvsat 1 else x

/-- An instruction that works element by element: `f w a b` gives the element and whether it was clipped. -/
def State.xsvMap (s : State) (h ew fmt s2 s1 d : Nat) (legal : Bool) (f : Nat → Nat → Nat → Nat × Bool) : State :=
  s.xsv h (legal && decide (fmt ≤ 2)) fun x =>
    let w := xsvW ew
    let r := List.zipWith (f w) (vElems w (x.vec s1)) (x.xsvB w fmt s2)
    x.writeQ d (packElems w (r.map (·.1))) (r.any (·.2))

/-- An exact integer clipped to the signed range of `w` bits. -/
def xsvClip (w : Nat) (v : Int) : Nat × Bool := (ofInt w (satN w v), clips w v)

/-- An exact integer modulo 2^w. -/
def xsvWrap (w : Nat) (v : Int) : Nat × Bool := (ofInt w v, false)

/-- All ones where a relation holds. -/
def xsvMask (w : Nat) (b : Bool) : Nat × Bool := (if b then 2 ^ w - 1 else 0, false)

/-- R458: VCMULQ and VCMULQJ: the products of complex elements, each half as VMULQ. -/
def xsvCmul (w : Nat) (conj : Bool) : List Nat → List Nat → List (Nat × Bool)
  | ai :: aq :: a, bi :: bq :: b =>
    let ai := toInt w ai
    let aq := toInt w aq
    let bi := toInt w bi
    let bq := if conj then -toInt w bq else toInt w bq
    xsvClip w (rnd 1 (ai * bi - aq * bq) (w - 1)) :: xsvClip w (rnd 1 (ai * bq + aq * bi) (w - 1)) :: xsvCmul w conj a b
  | _, _ => []

def State.xsvComplex (s : State) (h ew fmt s2 s1 d : Nat) (conj : Bool) : State :=
  s.xsv h (fmt = 0 && (ew = 1 || ew = 2)) fun x =>
    let w := xsvW ew
    let r := xsvCmul w conj (vElems w (x.vec s1)) (vElems w (x.vec s2))
    x.writeQ d (packElems w (r.map (·.1))) (r.any (·.2))

/-- XSV_VADD (R458). -/
def execXsvVadd (h : Fin 16) (ew : Fin 4) (fmt : Fin 8) (s2 s1 d : Fin 32) (s : State) : Host.Outcome State Fault Refusal :=
  .next (s.xsvMap h.val ew.val fmt.val s2.val s1.val d.val true fun w a b => xsvWrap w (a + b))

/-- XSV_VSUB (R458). -/
def execXsvVsub (h : Fin 16) (ew : Fin 4) (fmt : Fin 8) (s2 s1 d : Fin 32) (s : State) : Host.Outcome State Fault Refusal :=
  .next (s.xsvMap h.val ew.val fmt.val s2.val s1.val d.val true fun w a b => xsvWrap w ((a : Int) - b))

/-- VADDS (R458). -/
def execXsvVadds (h : Fin 16) (ew : Fin 4) (fmt : Fin 8) (s2 s1 d : Fin 32) (s : State) : Host.Outcome State Fault Refusal :=
  .next (s.xsvMap h.val ew.val fmt.val s2.val s1.val d.val true fun w a b => xsvClip w (toInt w a + toInt w b))

/-- VSUBS (R458). -/
def execXsvVsubs (h : Fin 16) (ew : Fin 4) (fmt : Fin 8) (s2 s1 d : Fin 32) (s : State) : Host.Outcome State Fault Refusal :=
  .next (s.xsvMap h.val ew.val fmt.val s2.val s1.val d.val true fun w a b => xsvClip w (toInt w a - toInt w b))

/-- VMUL (R458). -/
def execXsvVmul (h : Fin 16) (ew : Fin 4) (fmt : Fin 8) (s2 s1 d : Fin 32) (s : State) : Host.Outcome State Fault Refusal :=
  .next (s.xsvMap h.val ew.val fmt.val s2.val s1.val d.val true fun w a b => xsvWrap w (a * b))

/-- VMULH (R458). -/
def execXsvVmulh (h : Fin 16) (ew : Fin 4) (fmt : Fin 8) (s2 s1 d : Fin 32) (s : State) : Host.Outcome State Fault Refusal :=
  .next (s.xsvMap h.val ew.val fmt.val s2.val s1.val d.val true fun w a b => xsvWrap w (toInt w a * toInt w b / (2 ^ w : Nat)))

/-- VMULQ (R458). -/
def execXsvVmulq (h : Fin 16) (ew : Fin 4) (fmt : Fin 8) (s2 s1 d : Fin 32) (s : State) : Host.Outcome State Fault Refusal :=
  .next (s.xsvMap h.val ew.val fmt.val s2.val s1.val d.val (ew.val = 1 || ew.val = 2) fun w a b => xsvClip w (rnd 1 (toInt w a * toInt w b) (w - 1)))

/-- XSV_VMIN (R458). -/
def execXsvVmin (h : Fin 16) (ew : Fin 4) (fmt : Fin 8) (s2 s1 d : Fin 32) (s : State) : Host.Outcome State Fault Refusal :=
  .next (s.xsvMap h.val ew.val fmt.val s2.val s1.val d.val true fun w a b => xsvWrap w (min (toInt w a) (toInt w b)))

/-- XSV_VMAX (R458). -/
def execXsvVmax (h : Fin 16) (ew : Fin 4) (fmt : Fin 8) (s2 s1 d : Fin 32) (s : State) : Host.Outcome State Fault Refusal :=
  .next (s.xsvMap h.val ew.val fmt.val s2.val s1.val d.val true fun w a b => xsvWrap w (max (toInt w a) (toInt w b)))

/-- VMINU (R458). -/
def execXsvVminu (h : Fin 16) (ew : Fin 4) (fmt : Fin 8) (s2 s1 d : Fin 32) (s : State) : Host.Outcome State Fault Refusal :=
  .next (s.xsvMap h.val ew.val fmt.val s2.val s1.val d.val true fun _ a b => (min a b, false))

/-- VMAXU (R458). -/
def execXsvVmaxu (h : Fin 16) (ew : Fin 4) (fmt : Fin 8) (s2 s1 d : Fin 32) (s : State) : Host.Outcome State Fault Refusal :=
  .next (s.xsvMap h.val ew.val fmt.val s2.val s1.val d.val true fun _ a b => (max a b, false))

/-- XSV_VAND (R458). -/
def execXsvVand (h : Fin 16) (ew : Fin 4) (fmt : Fin 8) (s2 s1 d : Fin 32) (s : State) : Host.Outcome State Fault Refusal :=
  .next (s.xsvMap h.val ew.val fmt.val s2.val s1.val d.val true fun _ a b => (a &&& b, false))

/-- XSV_VOR (R458). -/
def execXsvVor (h : Fin 16) (ew : Fin 4) (fmt : Fin 8) (s2 s1 d : Fin 32) (s : State) : Host.Outcome State Fault Refusal :=
  .next (s.xsvMap h.val ew.val fmt.val s2.val s1.val d.val true fun _ a b => (a ||| b, false))

/-- XSV_VXOR (R458). -/
def execXsvVxor (h : Fin 16) (ew : Fin 4) (fmt : Fin 8) (s2 s1 d : Fin 32) (s : State) : Host.Outcome State Fault Refusal :=
  .next (s.xsvMap h.val ew.val fmt.val s2.val s1.val d.val true fun _ a b => (a ^^^ b, false))

/-- VSLL (R458). -/
def execXsvVsll (h : Fin 16) (ew : Fin 4) (fmt : Fin 8) (s2 s1 d : Fin 32) (s : State) : Host.Outcome State Fault Refusal :=
  .next (s.xsvMap h.val ew.val fmt.val s2.val s1.val d.val true fun w a b => ((a <<< (b % w)) % 2 ^ w, false))

/-- VSRL (R458). -/
def execXsvVsrl (h : Fin 16) (ew : Fin 4) (fmt : Fin 8) (s2 s1 d : Fin 32) (s : State) : Host.Outcome State Fault Refusal :=
  .next (s.xsvMap h.val ew.val fmt.val s2.val s1.val d.val true fun w a b => (a >>> (b % w), false))

/-- XSV_VSRA (R458). -/
def execXsvVsra (h : Fin 16) (ew : Fin 4) (fmt : Fin 8) (s2 s1 d : Fin 32) (s : State) : Host.Outcome State Fault Refusal :=
  .next (s.xsvMap h.val ew.val fmt.val s2.val s1.val d.val true fun w a b => xsvWrap w (toInt w a / (2 ^ (b % w) : Nat)))

/-- XSV_VSEQ (R458). -/
def execXsvVseq (h : Fin 16) (ew : Fin 4) (fmt : Fin 8) (s2 s1 d : Fin 32) (s : State) : Host.Outcome State Fault Refusal :=
  .next (s.xsvMap h.val ew.val fmt.val s2.val s1.val d.val true fun w a b => xsvMask w (a = b))

/-- VSLT (R458). -/
def execXsvVslt (h : Fin 16) (ew : Fin 4) (fmt : Fin 8) (s2 s1 d : Fin 32) (s : State) : Host.Outcome State Fault Refusal :=
  .next (s.xsvMap h.val ew.val fmt.val s2.val s1.val d.val true fun w a b => xsvMask w (toInt w a < toInt w b))

/-- VSLTU (R458). -/
def execXsvVsltu (h : Fin 16) (ew : Fin 4) (fmt : Fin 8) (s2 s1 d : Fin 32) (s : State) : Host.Outcome State Fault Refusal :=
  .next (s.xsvMap h.val ew.val fmt.val s2.val s1.val d.val true fun w a b => xsvMask w (a < b))

/-- VSEL (R458). -/
def execXsvVsel (h : Fin 16) (ew : Fin 4) (fmt : Fin 8) (s2 s1 d : Fin 32) (s : State) : Host.Outcome State Fault Refusal :=
  .next (s.xsv h.val (fmt.val = 0 && ew.val = 0) fun x =>
    let m := x.vec d.val
    x.writeQ d.val ((m &&& x.vec s1.val) ||| ((2 ^ 128 - 1 - m) &&& x.vec s2.val)) false)

/-- VCMULQ (R458). -/
def execXsvVcmulq (h : Fin 16) (ew : Fin 4) (fmt : Fin 8) (s2 s1 d : Fin 32) (s : State) : Host.Outcome State Fault Refusal :=
  .next (s.xsvComplex h.val ew.val fmt.val s2.val s1.val d.val false)

/-- VCMULQJ (R458). -/
def execXsvVcmulqj (h : Fin 16) (ew : Fin 4) (fmt : Fin 8) (s2 s1 d : Fin 32) (s : State) : Host.Outcome State Fault Refusal :=
  .next (s.xsvComplex h.val ew.val fmt.val s2.val s1.val d.val true)

/-- VREDSUM (R458). -/
def execXsvVredsum (h : Fin 16) (ew : Fin 4) (fmt : Fin 8) (s2 s1 d : Fin 32) (s : State) : Host.Outcome State Fault Refusal :=
  .next (s.xsv h.val (fmt.val = 0 && s2.val = 0) fun x =>
    x.writeQ d.val ((vElems (xsvW ew.val) (x.vec s1.val)).foldl (· + ·) 0 % 2 ^ xsvW ew.val) false)

/-- XSV_VPERM (R458). -/
def execXsvVperm (h : Fin 16) (ew : Fin 4) (fmt : Fin 8) (s2 s1 d : Fin 32) (s : State) : Host.Outcome State Fault Refusal :=
  .next (s.xsv h.val (fmt.val = 0 && ew.val = 0) fun x =>
    let a := vElems 8 (x.vec s1.val)
    x.writeQ d.val (packElems 8 ((vElems 8 (x.vec s2.val)).map fun k => if k.testBit 7 then 0 else a.getD (k % 16) 0)) false)

/-- VMVXQ (R458). -/
def execXsvVmvxq (h : Fin 16) (ew : Fin 4) (fmt : Fin 8) (s2 s1 d : Fin 32) (s : State) : Host.Outcome State Fault Refusal :=
  .next (s.xsv h.val (fmt.val = 3 && decide (s2.val < 128 / xsvW ew.val)) fun x =>
    let w := xsvW ew.val
    x.setReg d.val (ofInt 64 (toInt w ((vElems w (x.vec s1.val)).getD s2.val 0))))

/-- VMVQX (R458). -/
def execXsvVmvqx (h : Fin 16) (ew : Fin 4) (fmt : Fin 8) (s2 s1 d : Fin 32) (s : State) : Host.Outcome State Fault Refusal :=
  .next (s.xsv h.val (fmt.val = 3 && decide (s2.val < 128 / xsvW ew.val)) fun x =>
    let w := xsvW ew.val
    x.writeQ d.val (packElems w ((vElems w (x.vec d.val)).set s2.val (x.reg s1.val % 2 ^ w))) false)

/-- VDUP (R458). -/
def execXsvVdup (h : Fin 16) (ew : Fin 4) (fmt : Fin 8) (s2 s1 d : Fin 32) (s : State) : Host.Outcome State Fault Refusal :=
  .next (s.xsv h.val (fmt.val = 3 && s2.val = 0) fun x =>
    let w := xsvW ew.val
    x.writeQ d.val (packElems w (List.replicate (128 / w) (x.reg s1.val % 2 ^ w))) false)

end Sys2Proof.Machine
end

