-- ==== Sys2Proof/Machine/Regs.lean ====
section
/-! DEFINITION. Register accesses (R8–R11, R21–R34): what a read returns, what a write does beside the write of the fields, and the commands
of the common page layout. An access to a register with a command of its own has that command's effect. -/
namespace Sys2Proof.Machine

/-- The state that a command's meaning leaves. -/
def State.via (s : State) (f : State → Host.Outcome State Fault Refusal) : State :=
  match f s with
  | .next t => t
  | _ => s

/-! ## Reading -/

/-- R336: a lane that a port binds behind its first lane, or that runs no E50, has no port-first fields. -/
def State.portFirst (s : State) (n : Nat) : Bool :=
  s.pers n = 3 && (match s.emOf n with
    | some p => (s.emLanes p).1 = n
    | none => match s.lkOf n with
      | some p => (s.lkLanes p).1 = n
      | none => true)

/-- R336: the bits of a lane register that read and write as the table states on lane `n`; the fields of the others read 0. -/
def State.laneMask (s : State) (n off : Nat) : Nat :=
  if off = 0x160 then (if n % 4 = 0 then 2 ^ 32 - 1 else 0)
  else if off = 0x10C || off = 0x120 || off = 0x124 || off = 0x128 then (if s.portFirst n then 2 ^ 32 - 1 else 0)
  else if off = 0x104 && !(s.portFirst n) then 2 ^ 32 - 1 - 0x100
  else 2 ^ 32 - 1

/-- PG_STAT.OUT_ACTIVE: the block drives an output (R26). -/
def State.outActive (s : State) (p : Nat) (k : PageKind) (inst : Nat) : Bool :=
  capOut k && s.portDrives p (pageDomain k inst) && match k with
    | .lane => s.get p Rg.LN_STAT_TX_STATE = 1
    | .gpio => s.reg p 0x290 ≠ 0 || s.reg p 0x294 ≠ 0
    | _ => true

/-- PG_STAT of a page; a lane's ENABLED is told by a command (R335), another block takes up ENABLE while its domain is ON. -/
def State.pgStat (s : State) (p : Nat) (k : PageKind) (inst : Nat) : Nat :=
  let on := if k = .lane then (s.reg p 0x00C).getLsbD 0 else s.enabled p && s.domOn (pageDomain k inst)
  (s.flag p Rg.PG_ERR_CAP0_VALID).toNat <<< 2 + (s.outActive p k inst).toNat <<< 1 + on.toNat

/-- What a register shows now: the stored value, and the fields that follow other state. -/
def State.liveReg (s : State) (p : Nat) (k : PageKind) (inst off : Nat) : Nat :=
  let v := (s.reg p off).toNat
  if off = 0x008 then v % 2 ^ 31 + (s.locked p).toNat <<< 31
  else if off = 0x00C then s.pgStat p k inst
  else if off = 0x010 then (s.rawIrq p).toNat
  else if off = 0x018 then (s.irqNow p).toNat
  else if off = 0x01C then 0
  else match k with
    | .keeper =>
      let up := if s.pw.porst then 0 else s.uptime
      if off = 0x128 then up % 2 ^ 32 else if off = 0x12C then up / 2 ^ 32 % 2 ^ 32 else v
    | .keystone => if off = 0x164 then s.ksTokens / 196608 else v
    | .domain => if off = 0x104 then v + (s.planDomain inst).toNat <<< 30 else v
    | .router =>
      if off = 0x104 then v + ((List.range 5).map fun q => (s.reserved inst q s.spanOfs).toNat <<< q).sum else v
    | .bay =>
      if off = 0x100 then
        let bad := fun (i : Nat) =>
          let u := pierUnit (8 * inst + i)
          s.failedUnits.contains u || s.dk.overflow.contains u || s.fenced u
        v + ((List.range 8).map fun i => (bad i).toNat <<< i).sum
      else v
    | .lane =>
      let v := v &&& s.laneMask inst off
      if off = 0x18C then v + (Config.vstep (s.pers inst) % 2 ^ 16) <<< 8 else v
    | _ => v

/-- The registers whose read is a command. -/
def ownRead (w : Who) (k : PageKind) (inst off : Nat) : Option (State → Host.Outcome State Fault Refusal) :=
  match k with
  | .pylon => if off = 0x108 then some (execPyAirRead w) else none
  | .gpio => if off = 0x2A0 then some (execGpioCapPop w) else none
  | .bay => if off = 0x220 then some (execCelPop w (Fin.ofNat 12 inst)) else none
  | .bm => if off = 0x240 then some (execCelPop w (Fin.ofNat 12 (8 + inst))) else none
  | .em => if off = 0x170 then some (execTsPop w (Fin.ofNat 64 inst)) else none
  | .eventHub => if 0x204 ≤ off ∧ off % 8 = 4 then some (execEhClaim w (Fin.ofNat 32 ((off - 0x204) / 8))) else none
  | .parapet => if off = 0x1A0 then some (execRngRead w) else none
  | .trestle2 =>
    if 0x100 ≤ off ∧ off < 0x200 ∧ off % 16 = 12 then some (execTaskPop w (Fin.ofNat 16 ((off - 0x100) / 16)))
    else if 0x280 ≤ off ∧ off < 0x2C0 then some (execTrWaitRead w (Fin.ofNat 16 ((off - 0x280) / 4)))
    else none
  | .trestle3 => if 0x200 ≤ off ∧ off < 0x240 then some (execBufferAlloc w (Fin.ofNat 16 ((off - 0x200) / 4))) else none
  | .uart => if off % 0x40 = 0x0C ∧ 0x100 ≤ off then some (execUartRxPop w (Fin.ofNat 2 ((off - 0x100) / 0x40))) else none
  | _ => none

/-- Reads one 32-bit register of a page that the access has reached; a read of _LO latches the upper half, which _HI returns (R11). -/
def State.regRead (s : State) (w : Who) (p : Nat) (k : PageKind) (inst off : Nat) (d : RegDef) : Nat × State :=
  match ownRead w k inst off with
  | some f =>
    let t := s.via f
    (t.rsp.data, t)
  | none =>
    if d.pair then
      let hi := BitVec.ofNat 32 (s.liveReg p k inst (off + 4))
      (s.liveReg p k inst off, { s with hiLatch := Sparse.set resetVal s.hiLatch (regKey p (off + 4)) hi })
    else if isHiHalf k inst off then ((Sparse.get resetVal s.hiLatch (regKey p off)).toNat, s)
    else (s.liveReg p k inst off, s)

/-! ## Writing -/

/-- A command with an operand that only the outside knows: a free value stands for it. -/
def State.viaFree (s : State) (f : Nat → State → Host.Outcome State Fault Refusal) : State :=
  let r := s.fresh
  r.2.via (f r.1)

/-- Writes of KP_CMD (R608, R637). -/
def mailWrite (w : Who) (v : Nat) (s : State) : State :=
  let op := v % 256
  if op = 1 then s.via (execModeSet w)
  else if op = 2 then s.via (execWarmReset w)
  else if op = 0x40 then s.via (execLcAdvance w)
  else if op = 0x41 then s.viaFree fun f => execKeyFuse w (f % 2 = 1)
  else if op = 0x42 then s.via (execKeyRevoke w)
  else if op = 0x43 then s.via (execMinverAdvance w)
  else if op = 0x44 then s.via (execWrap w)
  else if op = 0x45 then s.via (execUnwrap w)
  else s.event pgKeeper Ev.BAD_CMD_01

/-- Writes of the DECK page that are commands. -/
def deckWrite (w : Who) (off v : Nat) : Option (State → State) :=
  let slot := Fin.ofNat 2 (bits v 8 8)
  if off = 0x104 then some fun s =>
    match v % 8 with
    | 1 => s.via (execLoad w slot)
    | 2 => s.via (execArm w slot)
    | 3 => s.via (execDisarm w)
    | 4 => s.via (execStop w)
    | 5 => s.via (execUnload w slot)
    | _ => s
  else if off = 0x150 then some (State.via · (execLeaseRenew w v))
  else if off = 0x168 then some (State.via · (execFailSet w v))
  else if 0x180 ≤ off ∧ off < 0x1A0 then some (State.via · (execFailRemove w (Fin.ofNat 8 ((off - 0x180) / 4)) v))
  else none

/-- Writes of the POOL page that are commands. -/
def poolWrite (w : Who) (off v : Nat) : Option (State → State) :=
  if off = 0x11C then some (State.via · (execBeat w v))
  else if off = 0x120 then some (State.via · (execHelloSend w v))
  else if off = 0x124 then some (State.via · (execPoolSend w v))
  else if off = 0x150 then some fun s =>
    if bits v 0 0 = 0 then s else if bits v 1 1 = 1 then s.via (execViewWithdraw w) else s.via (execViewLoad w)
  else if off = 0x160 then some (State.via · (execPoolMIdxWrite w v))
  else if off = 0x170 then some (State.via · (execPoolGIdxWrite w v))
  else if off = 0x19C then some fun s =>
    match v % 8 with
    | 1 => s.via (execPoolGWrite w)
    | 2 => s.via (execTake w)
    | 3 => s.via (execUnfence w)
    | 4 => s.via (execHandover w)
    | _ => s
  else if off = 0x1AC then some (State.via · (execCkGo w v))
  else if off = 0x1C0 then some (State.via · (execPoolOpIdxWrite w v))
  else if off = 0x1D8 then some (State.via · (execPoolOpWrite w v))
  else if off = 0x1E0 then some (State.via · (execPoolArrive w v))
  else none

/-- Writes of the TRESTLE pages that are commands. -/
def trestleWrite (w : Who) (k : PageKind) (off v : Nat) : Option (State → State) :=
  let go := fun (f : State → Host.Outcome State Fault Refusal) => some fun (s : State) => if v % 2 = 1 then s.via f else s
  match k with
  | .trestle0 =>
    if off = 0x100 then some (State.via · (execTrQIdxWrite w v))
    else if off = 0x108 then go (execTrQWrite w)
    else if off = 0x110 then some (State.via · (execTrRIdxWrite w v))
    else if off = 0x11C then go (execTrRWrite w)
    else if off = 0x140 then some (State.via · (execTrSend w v))
    else none
  | .trestle1 =>
    if off = 0x100 then some (State.via · (execTrTIdxWrite w v))
    else if off = 0x11C then go (execTrTWrite w)
    else none
  | .trestle2 =>
    if off = 0x200 then some (State.via · (execTrDone w v))
    else if off = 0x204 then some (State.via · (execTrCFlush w v))
    else if off = 0x300 then some (State.via · (execTrFIdxWrite w v))
    else none
  | .trestle3 =>
    if 0x100 ≤ off ∧ off < 0x200 ∧ off % 16 = 8 then some (State.via · (execTrPoolCfgWrite w (Fin.ofNat 16 ((off - 0x100) / 16)) v))
    else if off = 0x240 then some (State.via · (execBufferFree w v))
    else if off = 0x244 then some (State.via · (execBufferGive w v))
    else if off = 0x248 then some (State.via · (execTrLIdxWrite w v))
    else if off = 0x300 then some (State.via · (execTrHIdxWrite w v))
    else if off = 0x318 then go (execTrHWrite w)
    else if off = 0x340 then some (State.via · (execTrVIdxWrite w v))
    else if off = 0x354 then go (execTrVWrite w)
    else none
  | _ => none

/-- Writes of the PARAPET/CAISSON page that are commands. -/
def parapetWrite (w : Who) (off v : Nat) : Option (State → State) :=
  if off = 0x108 then some (State.via · (execPpFaultSet w v))
  else if off = 0x160 then some fun s =>
    if bits v 31 30 = 1 then s.via (execKeyLoad w (Fin.ofNat 4 (bits v 25 24)) (Fin.ofNat 1024 v))
    else if bits v 31 30 = 2 then s.via (execKeyErase w (Fin.ofNat 1024 v))
    else s
  else if off = 0x168 then some (State.via · (execPpKidxWrite w v))
  else if off = 0x170 then some (State.via · (execPpSaIdxWrite w v))
  else if off = 0x184 then some (State.via · (execSaWrite w v))
  else if off = 0x190 then some (State.via · (execPpPkIdxWrite w v))
  else if off = 0x1C8 then some (State.via · (execKwKick w v))
  else none

/-- Writes of the TOLLHOUSE page that are commands. -/
def tollWrite (w : Who) (off v : Nat) : Option (State → State) :=
  if off = 0x100 then some (State.via · (execSnapTake w v))
  else if off = 0x110 then some (State.via · (execTsSlotIdxWrite w v))
  else if off = 0x130 then some (State.via · (execTsSlotWrite w v))
  else if 0x200 ≤ off ∧ off % 32 = 0 then some (State.via · (execBwCfgWrite w (Fin.ofNat 32 ((off - 0x200) / 32)) v))
  else none

/-- Writes of a lane page that are commands. -/
def laneWrite (w : Who) (n off v : Nat) : Option (State → State) :=
  let l := Fin.ofNat 128 n
  if off = 0x11C then some fun s => if v % 2 = 1 then s.via (execLnCntClear w l) else s
  else if off = 0x144 ∧ bits v 1 1 = 1 then some (State.via · (execAdaptRestart w l v))
  else if off = 0x150 then some (State.via · (execLaneSleepRequest w l v))
  else if off = 0x158 ∧ v % 2 = 1 then some (State.via · (execWakeOsSend w l v))
  else if off = 0x188 then some fun s =>
    let s := if bits v 1 1 = 1 then s.viaFree fun a s => .next (s.viaFree fun b => execEyeScanAbort w l a b) else s
    if v % 2 = 1 then s.via (execEyeScanStart w l) else s
  else none

/-- Writes of the Pylon's pages and of the GPIO block that are commands. -/
def pylonWrite (w : Who) (k : PageKind) (off v : Nat) : Option (State → State) :=
  match k with
  | .pylon =>
    if off = 0x13C then some (State.via · (execCoarseStep w v))
    else if off = 0x1D4 then some (State.via · (execTodLabelWrite w v))
    else none
  | .pylonRef =>
    let n := Fin.ofNat 8 ((off - 0x100) / 0x20)
    if off < 0x100 ∨ 0x200 ≤ off then none
    else if off % 0x20 = 0 then some fun s =>
      if v % 2 = 1 then s.via (execRefSlotEnable w n v) else s.via (execRefSlotDisable w n v)
    else if off % 0x20 = 0x0C then some (State.viaFree · fun f => execRefOfsCommit w n v (toInt 32 f))
    else none
  | .pylonTrig =>
    if off = 0x100 then some (State.via · (execTrgIdxWrite w v))
    else if off = 0x118 then some fun s =>
      if v % 4 = 1 then s.via (execTrgArm w) else if v % 4 = 2 then s.via (execTrgDisarm w) else s
    else none
  | _ => none

/-- Writes of the Abutment's pages that are commands. -/
def abutWrite (w : Who) (k : PageKind) (inst off v : Nat) : Option (State → State) :=
  match k with
  | .cluster => if off = 0x110 then some (State.via · (execClusterPlevelRequest w (Fin.ofNat 4 inst) v)) else none
  | .eventHub =>
    if off = 0x100 then some (State.via · (execEhIdxWrite w v))
    else if off = 0x104 then some (State.via · (execEhRouteWrite w v))
    else if off = 0x10C then some (State.via · (execEhDoorbell w v))
    else if 0x204 ≤ off ∧ off % 8 = 4 then some (State.via · (execEhComplete w (Fin.ofNat 32 ((off - 0x204) / 8)) v))
    else none
  | .pcie =>
    if off = 0x120 then some (State.via · (execPcieVfIdxWrite w v))
    else if off = 0x138 then some fun s => if v % 2 = 1 then s.via (execPcieVfWrite w) else s
    else none
  | _ => none

/-- Writes of memory pages, engine pages and fronthaul pages that are commands. -/
def unitWrite (w : Who) (k : PageKind) (inst off v : Nat) : Option (State → State) :=
  match k with
  | .bay => if off = 0x218 then some (State.via · (execMemInitStart w (Fin.ofNat 8 inst) v)) else none
  | .bm =>
    if off = 0x108 then some (State.via · (execBmRelease w (Fin.ofNat 4 inst) v))
    else if off = 0x10C then some (State.via · (execBmInitStart w (Fin.ofNat 4 inst) v))
    else none
  | .hbmPhy => if off = 0x104 then some fun s => (s.via (execPhyTrain w v)).via (execSrefRequest w v) else none
  | .eng .hq =>
    if off = 0x144 then some (State.via · (execHqEpochWrite w v))
    else if off = 0x148 then some (State.via · (execHqFlush w v))
    else none
  | .au =>
    let a := Fin.ofNat 8 inst
    if off = 0x110 then some (State.via · (execAuFlowIdxWrite w a v))
    else if off = 0x128 then some (State.via · (execAuFlowWrite w a v))
    else if off = 0x160 then some (State.via · (execAuPtIdxWrite w a v))
    else if off = 0x170 then some (State.via · (execAuPtWrite w a v))
    else none
  | .cp =>
    if off = 0x104 then some (State.via · (execCpriGoF w (Fin.ofNat 32 inst) v))
    else if off = 0x124 then some (State.via · (execCpriTsiSwitchRequest w (Fin.ofNat 32 inst) v))
    else none
  | .router =>
    if off = 0x108 then some (State.via · (execRtRevive w (Fin.ofNat 100 inst) v))
    else if off = 0x130 then some (State.via · (execRtClr w (Fin.ofNat 100 inst) v))
    else none
  | _ => none

/-- Writes of the Keeper's pages, the Keystone and the slow interfaces that are commands. -/
def keeperWrite (w : Who) (k : PageKind) (inst off v : Nat) : Option (State → State) :=
  match k with
  | .keeper => if off = 0x100 then some (mailWrite w v) else none
  | .pwr => if off = 0x100 then some (State.via · (execDeckLevelRequest w v)) else none
  | .domain =>
    if off = 0x100 then some (State.via · (execDomainRequest w 0 (Fin.ofNat 80 inst) v))
    else if off = 0x10C then some (State.via · (execPadRelease w (Fin.ofNat 80 inst) v))
    else none
  | .pmbus => if off = 0x104 then some (State.via · (execPmbusTransaction w v)) else none
  | .keystone =>
    if off = 0x104 then some fun s => s.ksCommand w (v % 256) (bits v 10 8) (bits v 15 15 = 1)
    else if off = 0x1A0 then some (State.via · (execKsSegIdxWrite w v))
    else if off = 0x1B0 then some (State.via · (execKsPartIdxWrite w v))
    else none
  | .xspi => if off = 0x104 ∧ bits v 31 31 = 1 then some fun s => s.xsStart w (bits v 30 29) v else none
  | .uart => if off = 0x108 then some (State.via · (execUartTxWrite w 0 v)) else if off = 0x148 then some (State.via · (execUartTxWrite w 1 v)) else none
  | .debug => if off = 0x1A0 then some fun s => s.dbgCommand v else none
  | _ => none

/-- The registers whose write is a command. -/
def ownWrite (w : Who) (p : Nat) (k : PageKind) (inst off v : Nat) : Option (State → State) :=
  if off = 0xF00 ∧ capPt k then some (State.via · (execPtArm w (Fin.ofNat 4096 p) v))
  else if off = 0xF0C ∧ capPt k then some (State.via · (execPtSeedWrite w (Fin.ofNat 4096 p) v))
  else match k with
    | .deck => deckWrite w off v
    | .deckVariant => if off = 0x100 then some (State.via · (execVariantSelect w v)) else none
    | .pool => poolWrite w off v
    | .trestle0 | .trestle1 | .trestle2 | .trestle3 => trestleWrite w k off v
    | .parapet => parapetWrite w off v
    | .tollhouse => tollWrite w off v
    | .lane => laneWrite w inst off v
    | .pylon | .pylonRef | .pylonTrig => pylonWrite w k off v
    | .cluster | .eventHub | .pcie => abutWrite w k inst off v
    | .bay | .bm | .hbmPhy | .eng _ | .au | .cp | .router => unitWrite w k inst off v
    | _ => keeperWrite w k inst off v

/-! ## PG_CTRL -/

/-- R339, R545: a port page's ENABLE rises: its lanes must fit. -/
def State.portEnable (s : State) (p : Nat) (k : PageKind) (inst code : Nat) (f : State → State) : State :=
  if s.bindOk k inst then f s
  else (s.setReg p 0x008 (s.reg p 0x008 &&& BitVec.ofNat 32 (2 ^ 32 - 2))).event p code

/-- ENABLE of an Ethernet port rises: it sees its lanes' faults (R344). -/
def State.emStart (s : State) (e : Nat) : State :=
  (s.setEm e { EmPort.zero with ts := (s.em e).ts, clean := s.uptime }).emFollow e

/-- ENABLE of an Ethernet port falls: the link is down and what waits is dropped. -/
def State.emStop (s : State) (e : Nat) : State :=
  let s := s.emLink e 0
  let s := (s.put (pgEm e) (fldLocal e) 0).put (pgEm e) (fldRemote e) 0
  s.setEm e { EmPort.zero with ts := (s.em e).ts }

/-- ENABLE of a CP port changes: the framer leaves A, or returns to it (R369). -/
def State.cpEnable (s : State) (n : Nat) (on : Bool) : State :=
  let x := { CpPort.zero with rxPage := (s.cp n).rxPage, deg := s.now }
  ((s.setCp n x).put (pgCp n) Rg.CP_STAT_DEF 0).cpState n on.toNat

/-- What a block does when its ENABLE has changed. -/
def State.enableFollow (s : State) (p : Nat) (k : PageKind) (inst : Nat) (on : Bool) : State :=
  match k with
  | .lane => if on then s.laneEnable inst else s.laneDisable inst
  | .em => if on then s.portEnable p k inst Ev.PORT_BIND_49 (State.emStart · inst) else s.emStop inst
  | .lk => if on then s.portEnable p k inst Ev.LK_BIND (State.emStart · (64 + inst)) else s.emStop (64 + inst)
  | .cp => if on then s.portEnable p k inst Ev.PORT_BIND_4A (State.cpEnable · inst true) else s.cpEnable inst false
  | .pool => if on then s.poolEnable else s.poolDisable
  | _ => s

/-- A write of PG_CTRL (R27). -/
def State.ctrlWrite (s : State) (w : Who) (p : Nat) (k : PageKind) (inst : Nat) (d : RegDef) (v : Nat) : State :=
  let t := s.writeReg w p k inst 0x008 d v
  if s.enabled p == t.enabled p then t else t.enableFollow p k inst (t.enabled p)

/-! ## The other registers of the common layout -/

/-- A write of PG_IRQ_FORCE (R29). -/
def State.forceWrite (s : State) (w : Who) (p v : Nat) : State :=
  if s.mode = modeDiag then s.setReg p 0x018 (s.reg p 0x018 ||| BitVec.ofNat 32 v)
  else s.sysEvent Ev.FORCE_DENIED (pagesBase + p * 4096 + 0x01C) w true

/-- A write of PG_ERR_CAP0 (R30). -/
def State.capWrite (s : State) (p v : Nat) : State :=
  if bits v 31 31 = 1 then [0x020, 0x024, 0x028, 0x02C].foldl (fun s o => s.setReg p o 0) s else s

/-- A write of PG_LOCK (R33). -/
def State.lockWrite (s : State) (w : Who) (p v : Nat) : State :=
  if v % 2 = 0 then s
  else if bits v 31 16 = 0xA5C3 then s.put p Rg.PG_LOCK_LOCK 1
  else s.sysEvent Ev.LOCK_KEY (pagesBase + p * 4096 + 0xFF0) w true

/-! ## What a plain write brings about -/

/-- Lane registers: fields that the lane does not have, and the test functions that only DIAGNOSTIC admits (R331, R336). -/
def State.laneField (s : State) (n off v : Nat) : Nat × State :=
  let p := pgLane n
  let old := (s.reg p off).toNat
  let deny := fun (s : State) => s.laneEvent n Ev.INJ_DENIED
  if s.laneMask n off = 0 then (old, s)
  else if s.mode = modeDiag then (v, s)
  else if off = 0x1C0 then
    let v1 := if bits v 3 0 = 0 then v else v - bits v 3 0 + bits old 3 0
    let v2 := if bits v 9 8 = 0 then v1 else v1 - bits v 9 8 <<< 8 + bits old 9 8 <<< 8
    (v2, if bits v 3 0 = 0 && bits v 9 8 = 0 then s else deny s)
  else if off = 0x1C8 && bits v 1 0 ≠ 0 then (v - bits v 1 0 + bits old 1 0, deny s)
  else (v, s)

/-- R322: the taps' magnitudes. -/
def tapSum (e50 : Bool) (v : Nat) : Nat :=
  (if e50 then (toInt 6 (v >>> 24)).natAbs else 0) + (toInt 6 (v >>> 16)).natAbs + bits v 13 8 + (toInt 6 v).natAbs

/-- What the write of a register with no command of its own brings about. -/
def State.afterWrite (s : State) (p : Nat) (k : PageKind) (inst off v : Nat) : State :=
  match k with
  | .lane =>
    if off = 0x140 then (if 63 < tapSum (s.pers inst == 3) (s.reg p 0x140).toNat then s.laneEvent inst Ev.TXEQ_CLIP else s)
    else if off = 0x160 then s.pllFollow (inst / 4)
    else if off = 0x1C8 then s.setLane inst { s.lane inst with inj := s.uptime }
    else s
  | .cluster =>
    if off = 0x104 then s.holdFollow inst
    else if 0x120 ≤ off ∧ off < 0x140 ∧ off % 8 = 4 then s.timer (4 * inst + (off - 0x120) / 8)
    else s
  | .eventHub => s.hubShow
  | .parapet =>
    if off = 0x104 then (if s.flag p Rg.PP_FAULT_FW then s else s.setReg p 0x108 0)
    else if 0x140 ≤ off ∧ off < 0x160 then { s with sec := { s.sec with kdata := s.sec.kdata.set ((off - 0x140) / 4) (v % 2 ^ 32) } }
    else s
  | .debug =>
    if 0x140 ≤ off ∧ off < 0x1A0 then { s with sec := { s.sec with resp := s.sec.resp.set ((off - 0x140) / 4) (v % 2 ^ 32) } } else s
  | .trestle3 => if off = 0x31C then s.hostCidx (s.get pgTr3 Rg.TR_H_IDX) (bits v 31 16) else s
  | _ => s

/-- R378: whether an offset of a CP page lies in the active connection page of its direction. -/
def State.activePage (s : State) (n off : Nat) : Bool :=
  let hit := fun (base act : Nat) => decide (base + 0x200 * act ≤ off) && decide (off < base + 0x200 * act + 0x200)
  hit 0x600 (s.cp n).rxPage || hit 0xA00 (s.get (pgCp n) Rg.CP_STAT_ACT_PAGE)

/-- A write of a register with no command of its own. -/
def State.plainWrite (s : State) (w : Who) (p : Nat) (k : PageKind) (inst off : Nat) (d : RegDef) (v : Nat) : State :=
  let addr := pagesBase + p * 4096 + off
  if k = .cp && s.activePage inst off then s.sysEvent Ev.FROZEN_WRITE addr w true
  else if capPt k && s.ptRefused off v then s.ptDenied addr
  else if k = .keystone && off = 0x1E0 && bits v 31 31 = 1 && s.mode ≠ modeDiag then s.ptDenied addr
  else
    let r := if k = .lane then s.laneField inst off v else (v, s)
    let s := (r.2.writeReg w p k inst off d r.1).afterWrite p k inst off v
    if capPt k && decide (0xF20 ≤ off) && decide (off < 0xF80) then s.ptShow p else s

/-- Writes one 32-bit register of a page that the access has reached. -/
def State.regWrite (s : State) (w : Who) (p : Nat) (k : PageKind) (inst off : Nat) (d : RegDef) (v : Nat) : State :=
  if off = 0x008 then s.ctrlWrite w p k inst d v
  else if off = 0x018 then (s.writeReg w p k inst off d v).reIrq p
  else if off = 0x01C then s.forceWrite w p v
  else if off = 0x020 then s.capWrite p v
  else if off = 0xFF0 then s.lockWrite w p v
  else match ownWrite w p k inst off v with
    | some f => f s
    | none => s.plainWrite w p k inst off d v

/-! ## Accesses -/

/-- An access of `width` bytes to an address of the register-page range or to an unmapped one (R21, R22, R694): a write of `v`, or a read.
A 64-bit access is an access to _LO and then to _HI. -/
def State.pageAccess (s : State) (w : Who) (addr width : Nat) (v : Option Nat) (amo : Bool := false) : State :=
  match place addr with
  | .pages slot o =>
    match checkPage s w slot o width v.isSome amo with
    | .denied st ev => s.deny w addr v.isSome st ev
    | .reg p k inst off d =>
      let s := (s.answer 0 0).touch (pageDomain k inst)
      let d2 := (findReg k inst (off + 4)).getD d
      match v with
      | some v =>
        let s := s.regWrite w p k inst off d (v % 2 ^ 32)
        (if width = 8 then s.regWrite w p k inst (off + 4) d2 (v / 2 ^ 32 % 2 ^ 32) else s).answer 0 0
      | none =>
        let a := s.regRead w p k inst off d
        if width = 8 then
          let b := a.2.regRead w p k inst (off + 4) d2
          b.2.answer 0 (a.1 + b.1 * 2 ^ 32)
        else a.2.answer 0 a.1
  | _ => s.deny w addr v.isSome stUnmapped Ev.UNMAPPED

/-- REGISTER_WRITE (R8): a write of 4 or 8 bytes (another width is refused) to an address of the register pages. -/
def execRegisterWrite (w : Who) (addr : BitVec 48) (width : Fin 17) (value : BitVec 64) (s : State) : Host.Outcome State Fault Refusal :=
  .next (s.pageAccess w addr.toNat width.val (some value.toNat))

/-- LO_READ_LATCH (R11): a read of 4 or 8 bytes at an address of the register pages; of a _LO register it latches the upper half. -/
def execLoReadLatch (w : Who) (addr : BitVec 48) (width : Fin 17) (s : State) : Host.Outcome State Fault Refusal :=
  .next (s.pageAccess w addr.toNat width.val none)

/-- PG_CTRL_WRITE (R27, R310, R339). -/
def execPgCtrlWrite (w : Who) (p : Fin 4096) (value : BitVec 32) (s : State) : Host.Outcome State Fault Refusal :=
  .next (s.pageAccess w (pagesBase + 4096 * p.val + 0x008) 4 (some value.toNat))

/-- PG_IRQ_FORCE_WRITE (R29). -/
def execPgIrqForceWrite (w : Who) (p : Fin 4096) (value : BitVec 32) (s : State) : Host.Outcome State Fault Refusal :=
  .next (s.pageAccess w (pagesBase + 4096 * p.val + 0x01C) 4 (some value.toNat))

/-- ERR_CAP_CLEAR (R30): a write of 1 to PG_ERR_CAP0.VALID. -/
def execErrCapClear (w : Who) (p : Fin 4096) (s : State) : Host.Outcome State Fault Refusal :=
  .next (s.pageAccess w (pagesBase + 4096 * p.val + 0x020) 4 (some (2 ^ 31)))

/-- PAGE_LOCK (R33): a write of PG_LOCK with LOCK = 1 and a key. -/
def execPageLock (w : Who) (p : Fin 4096) (key : BitVec 16) (s : State) : Host.Outcome State Fault Refusal :=
  .next (s.pageAccess w (pagesBase + 4096 * p.val + 0xFF0) 4 (some (key.toNat * 2 ^ 16 + 1)))

end Sys2Proof.Machine
end

