-- ==== Sys2Proof/Machine/Access.lean ====
section
/-! DEFINITION. Accesses over the 48-bit address space: dynamic accesses that queue at memory banks (R411–R415), those of harts (R445–R450,
R460–R463), of the host (R470, R471) and of the debug port (R636). -/
namespace Sys2Proof.Machine

/-! ## AMO (R450) -/

/-- The new value of an AMO on operands of `n` bytes: operation, old value, operand, compare value. -/
def amoNew (aop n old v cmp : Nat) : Nat :=
  let w := 8 * n
  let lt := decide (toInt w old < toInt w v)
  match aop with
  | 0 => v
  | 1 => (old + v) % 2 ^ w
  | 2 => old &&& v
  | 3 => old ||| v
  | 4 => old ^^^ v
  | 5 => if lt then old else v
  | 6 => if lt then v else old
  | 7 => min old v
  | 8 => max old v
  | _ => if old = cmp then v else old

/-- R450: whether an AMO names an operation and one aligned word. -/
def amoOk (aop a n : Nat) : Bool := decide (aop ≤ 9) && (n = 4 || n = 8) && a % n = 0

/-! ## Memories -/

/-- Serves one dynamic line at its bank (R412, R413, R418, R420): status and data of the answer. -/
def State.serveLine (s : State) (d : DynLine) : Nat × Nat × State :=
  let s := (s.touch (memDomain d.addr)).dynServed d.addr d.len
  match d.kind with
  | .read =>
    let r := s.readMem d.who.source false d.addr d.len
    if 2 ≤ r.1 then (stPoison, 0, r.2) else (0, s.load d.addr d.len, r.2)
  | .write => (0, 0, s.writeMem d.who.source d.addr d.len d.data d.poison)
  | .amo aop cmp =>
    let r := s.readMem d.who.source false d.addr d.len
    let old := s.load d.addr d.len
    if 2 ≤ r.1 then (stPoison, 0, r.2)
    else (0, old, r.2.writeMem d.who.source d.addr d.len (amoNew aop d.len old (d.data % 2 ^ (8 * d.len)) cmp))

/-- A store or an AMO. -/
def dynWrites : DynKind → Bool
  | .read => false
  | _ => true

/-- Why a memory refuses an access of `n` bytes (R21, R386, R450, R415, R424). -/
def State.dynRefusal (s : State) (w : Who) (a n : Nat) (kind : DynKind) : Nat × Nat :=
  let bad := match kind with
    | .amo aop _ => !(amoOk aop a n)
    | _ => n = 0
  if !(mapped a n) then (stUnmapped, Ev.UNMAPPED)
  else if bad then (stWidth, Ev.ACCESS_WIDTH)
  else s.memRefusal w a (dynWrites kind)

/-! ## The Keystone window and the Caisson -/

/-- R514, R516: an access to the Keystone read window. -/
def State.keystoneAccess (s : State) (w : Who) (a n : Nat) (kind : DynKind) : Nat × Nat × State :=
  if dynWrites kind then (stPrivilege, 0, s.sysEvent Ev.KEYSTONE_WRITE a w true)
  else
    let h := s.ptTake pgKeystone [5]
    let off := a - keystoneBase
    let s := match h.1 with
      | some x =>
        if x.param % 4 = 0 then (h.2.bump pgKeystone 6).event pgKeystone Ev.ECC_CORR_08 0 off
        else h.2.event pgKeystone Ev.KS_UE 0 off
      | none => h.2
    let hurt := match h.1 with
      | some x => x.param % 4 ≠ 0
      | none => false
    let r := s.ksRead off n
    if r.2.1 || hurt then (stPoison, 0, r.2.2) else (0, r.1, r.2.2)

/-- R624, R625: an access to the Caisson. -/
def State.caissonAccess (s : State) (w : Who) (a n v : Nat) (kind : DynKind) : Nat × Nat × State :=
  let off := a - caissonBase
  let mine := (w.source = 232 || (decide (216 ≤ w.source) && decide (w.source < 232) && w.priv = 3)) && w.ctx = 0
  let shape := [1, 2, 4, 8].contains n && a % n = 0 && (match kind with
    | .amo _ _ => false
    | _ => true)
  if off < 0x10000 || !mine || !shape then (stPrivilege, 0, s.sysEvent Ev.PRIVILEGE a w (dynWrites kind))
  else if s.flag pgParapet Rg.PP_CAISSON_LOCKED then (stPrivilege, 0, s.ppEvent Ev.CAISSON_LOCKED)
  else if s.flag pgParapet Rg.PP_CAISSON_WIPING then (0, 0, s)
  else if dynWrites kind then (0, 0, s.store a n v)
  else (0, s.load a n, s)

/-! ## The bus -/

/-- An access that is served at once: its status and data. What a read of the host's memory returns is a free value. -/
def State.bus (s : State) (w : Who) (a n : Nat) (kind : DynKind) (v : Nat := 0) (poison : Bool := false) : Nat × Nat × State :=
  match place a with
  | .bulk _ | .pier _ _ | .bay _ _ | .slice _ _ =>
    match s.dynRefusal w a n kind with
    | (0, _) => s.serveLine ⟨w, a, n, kind, v, poison, 0⟩
    | (st, 0) => (st, 0, s)
    | (st, ev) => (st, 0, s.sysEvent ev a w (dynWrites kind))
  | .keystone _ => s.keystoneAccess w a n kind
  | .caisson _ => s.caissonAccess w a n v kind
  | .outbound _ =>
    if s.asleep 5 then (stAsleep, 0, s.sysEvent Ev.PAGE_ASLEEP a w (dynWrites kind))
    else if !s.linkUp then (if dynWrites kind then 0 else stTimeout, 0, s)
    else match kind with
      | .amo _ _ => (stWidth, 0, s.sysEvent Ev.ACCESS_WIDTH a w true)
      | .write => (0, 0, (s.bump pgPcie 2).hostWrite (s.hostAddr a) (bytesOf n v))
      | .read =>
        let f := (s.bump pgPcie 2).fresh
        (0, f.1 % 2 ^ (8 * n), f.2)
  | .pages _ _ | .none =>
    let amo := match kind with
      | .amo _ _ => true
      | _ => false
    let t := s.pageAccess w a n (if dynWrites kind then some v else none) amo
    (t.rsp.status, t.rsp.data, t)

/-! ## Dynamic lines -/

/-- The lines of an access of `n` bytes from `a` on, in address order. -/
def dynLines (w : Who) (kind : DynKind) (poison : Bool) (since : Nat) : (fuel a n v : Nat) → List DynLine
  | 0, _, _, _ => []
  | f + 1, a, n, v =>
    let l := lineSize a
    let m := min n (l - a % l)
    if n = 0 then [] else ⟨w, a, m, kind, v % 256 ^ m, poison, since⟩ :: dynLines w kind poison since f (a + m) (n - m) (v / 256 ^ m)

/-- R412: lines that wait at a bank. -/
def State.bankWait (s : State) (b : Nat) : Nat := (s.mu.dyn.filter fun d => bankOf d.addr = b).length

/-- DYNAMIC_MEMORY_ACCESS (R415): up to 16 units. A memory refuses the access or queues its lines; an access for which a bank holds 4 lines
already is not accepted yet. Other targets answer at once. -/
def execDynamicMemoryAccess (w : Who) (addr : BitVec 48) (len : Fin 1025) (kind : DynKind) (data : Nat) (poison : Bool) (s : State) :
    Host.Outcome State Fault Refusal :=
  let a := addr.toNat
  .next (
    match place a with
    | .bulk _ | .pier _ _ | .bay _ _ | .slice _ _ =>
      match s.dynRefusal w a len.val kind with
      | (0, _) =>
        let l := match kind with
          | .amo _ _ => [⟨w, a, len.val, kind, data, poison, s.uptime⟩]
          | _ => dynLines w kind poison s.uptime 64 a len.val data
        if l.all fun d => decide (s.bankWait (bankOf d.addr) < 4) then { s with mu := { s.mu with dyn := s.mu.dyn ++ l } } else s
      | (st, 0) => s.answer st 0
      | (st, ev) => (s.sysEvent ev a w (dynWrites kind)).answer st 0
    | _ =>
      let r := s.bus w a len.val kind data poison
      r.2.2.answer r.1 r.2.1)

/-- R426, R427: a pseudo-channel serves the plan: a refresh, or a transfer in progress. -/
def State.pcTaken (s : State) (g : Nat) : Bool :=
  s.pcBusy g || s.dk.jobs.any fun j =>
    j.op = 6 && j.unit % 256 = g / 16 && decide (s.uptime < j.free)
      && (let w := s.descWords j.arg; (w.getD 3 0 % 65536 * 2 ^ 32 + w.getD 2 0) / 0x30000000 = g)

/-- R143: whether the pier fetches from PM in the deck clock cycle that began at `c`: the bundle that issues two cycles later, as far as
the operations issued so far tell. -/
def Pier.fetches (x : Pier) (k c : Nat) : Nat → Bool
  | 0 => false
  | f + 1 =>
    x.running && (if x.at_ < c + 2 * k then
        match x.advance k 0 with
        | none => false
        | some y => y.fetches k c f
      else x.at_ = c + 2 * k && decide (x.pc < 0x20000) && !x.fromBuffer)

/-- R412: a deterministic access takes the bank of an address in this deck clock cycle; bus P belongs to a fetch first (R144). -/
def State.bankTaken (s : State) (a : Nat) : Bool :=
  let c := s.uptime - s.spanOfs % s.deckK
  let held := s.mu.ports.any fun e => e.bank = bankOf a && e.at_ = c + 1
  match place a with
  | .bulk g => s.pcTaken g
  | .pier n o => held || (decide (o < 0x20000) && (s.pier n).fetches s.deckK c 3)
  | _ => held

/-- DYNAMIC_ACCESS_SERVED (R412, R413, R418, R420): the oldest line whose bank is free is served; the others of its bank wait for the next
deck clock cycle. -/
def execDynamicAccessServed (s : State) : Host.Outcome State Fault Refusal :=
  .next (
    match s.mu.dyn.find? fun d => decide (d.since ≤ s.uptime) && !(s.bankTaken d.addr) with
    | none => s
    | some d =>
      let b := bankOf d.addr
      let rest := (s.mu.dyn.erase d).map fun (x : DynLine) =>
        if bankOf x.addr = b then { x with since := max x.since (s.uptime + s.deckK) } else x
      let s : State := { s with mu := { s.mu with dyn := rest } }
      if s.asleep (memDomain d.addr) then (s.sysEvent Ev.PAGE_ASLEEP d.addr d.who (dynWrites d.kind)).answer stAsleep 0
      else
        let r := s.serveLine d
        r.2.2.answer r.1 r.2.1)

/-- R414: the group of an initiator. -/
def confGroup (source : Nat) : Nat :=
  if 216 ≤ source ∧ source ≤ 232 then 0
  else if source = 233 then 1
  else if source = 234 then 2
  else 3

/-- R414: conflicts are counted, in the last cy of every deck clock cycle. -/
def State.conflictTick (s : State) : State :=
  if s.mu.dyn.isEmpty || (s.spanOfs + 1) % s.deckK ≠ 0 then s
  else (s.mu.dyn.filter fun d => decide (d.since ≤ s.uptime) && s.bankTaken d.addr).foldl (fun s d =>
    let g := confGroup d.who.source
    match place d.addr with
    | .bay b _ => s.satAdd (page .bay b) Rg.MEM_CONF 1 g
    | .pier n _ => s.satAdd (page .bay (n / 8)) Rg.MEM_PCONF 1 (n % 8)
    | .slice e _ => s.satAdd (page .bay (e / 4)) Rg.MEM_ECONF 1 (e % 4)
    | .bulk k => s.satAdd (page .bm (k / 16)) Rg.BM_CONF 1 g
    | _ => s) s

/-! ## Harts -/

/-- R445: a load (`none`) or store of a hart at a physical address, naturally aligned; no answer: an access fault. -/
def State.coreAccess (s : State) (w : Who) (a n : Nat) (v : Option Nat) : Option Nat × State :=
  let go := fun (kind : DynKind) (v : Nat) =>
    let r := s.bus w a n kind v
    (if r.1 = 0 then some r.2.1 else none, r.2.2)
  match place a with
  | .bulk _ =>
    match v with
    | none => s.cacheRead w a n
    | some v => let r := s.cacheWrite w a n v; (if r.1 then some 0 else none, r.2)
  | .keystone _ => if v.isSome then (none, s) else go .read 0
  | .pages _ _ => if n = 4 || n = 8 then (match v with
      | none => go .read 0
      | some v => go .write v) else (none, s)
  | _ => match v with
    | none => go .read 0
    | some v => go .write v

/-- R449: the reservations without those of a SOURCE. -/
def State.unreserve (s : State) (source : Nat) : State :=
  { s with mu := { s.mu with resv := s.mu.resv.filter fun e => e.1 != source } }

/-- LR_SC (R449): LR (`sc` false) or SC of 32 or 64 bits at x[rs1]. -/
def execLrSc (h : Fin 16) (sc wide : Bool) (rs1 rs2 rd : Fin 32) (s : State) : Host.Outcome State Fault Refusal :=
  .next (s.instr h.val fun x s =>
    let n := if wide then 8 else 4
    let va := x.reg rs1.val
    let w := x.who h.val
    if va % n ≠ 0 then s.setHart h.val (x.trap false (if sc then 6 else 4) va)
    else match s.translate x va n sc.toNat with
      | .error c => s.setHart h.val (x.trap false c va)
      | .ok a =>
        let fault := fun (s : State) => s.setHart h.val (x.trap false (if sc then 7 else 5) va)
        if !(isBulk a) then fault s
        else if sc then
          let held := s.mu.resv.contains (w.source, a / 64)
          let s := s.unreserve w.source
          if held then
            let r := s.cacheWrite w a n (x.reg rs2.val % 2 ^ (8 * n))
            if r.1 then r.2.setHart h.val (x.setReg rd.val 0).next else fault r.2
          else s.setHart h.val (x.setReg rd.val 1).next
        else
          let r := s.cacheRead w a n
          match r.1 with
          | none => fault r.2
          | some v =>
            let s := r.2.unreserve w.source
            let s : State := { s with mu := { s.mu with resv := s.mu.resv ++ [(w.source, a / 64)] } }
            s.setHart h.val (x.setReg rd.val (ofInt 64 (toInt (8 * n) v))).next)

/-- CORE_AMO (R449, R450): an AMO instruction of 32 or 64 bits at x[rs1], by the AOP of R450 (CAS is no instruction of R442). -/
def execCoreAmo (h : Fin 16) (aop : Fin 9) (wide : Bool) (rs1 rs2 rd : Fin 32) (s : State) : Host.Outcome State Fault Refusal :=
  .next (s.instr h.val fun x s =>
    let n := if wide then 8 else 4
    let va := x.reg rs1.val
    let w := x.who h.val
    let v := x.reg rs2.val % 2 ^ (8 * n)
    if va % n ≠ 0 then s.setHart h.val (x.trap false 6 va)
    else match s.translate x va n 1 with
      | .error c => s.setHart h.val (x.trap false c va)
      | .ok a =>
        let fault := fun (s : State) => s.setHart h.val (x.trap false 7 va)
        let done := fun (s : State) (old : Nat) => s.setHart h.val (x.setReg rd.val (ofInt 64 (toInt (8 * n) old))).next
        if isBulk a then
          let r := s.cacheRead w a n
          match r.1 with
          | none => fault r.2
          | some old =>
            let q := r.2.cacheWrite w a n (amoNew aop.val n old v 0)
            if q.1 then done q.2 old else fault q.2
        else if inDeck a then
          let r := s.bus w a n (.amo aop.val 0) v
          if r.1 = 0 then done r.2.2 r.2.1 else fault r.2.2
        else fault s)

/-! ## XSV structure accesses (R460–R463) -/

/-- The fields of a structure access (R460). -/
structure XsvMem where
  nf : Nat
  pi : Bool
  st : Bool
  ew : Nat
  resv : Nat
  rs1 : Nat
  fn3 : Nat
  q : Nat

/-- R460, R463: whether the instruction is legal at the hart's XSVSTART. -/
def XsvMem.legal (i : XsvMem) (x : Hart) : Bool :=
  x.fs ≠ 0 && i.resv = 0 && i.fn3 = 0 && decide (i.q + i.nf ≤ 31) && !(i.pi && i.rs1 = 0)
    && decide (x.get csrXsvstart < 128 / xsvW i.ew * (i.nf + 1))

/-- Element `m` of a register group: register and element. -/
def XsvMem.place (i : XsvMem) (m : Nat) : Nat × Nat := (i.q + m % (i.nf + 1), m / (i.nf + 1))

/-- The hart takes the exception of element `m` (R463). -/
def XsvMem.fault (x : Hart) (m cause va : Nat) : Hart := ((x.set csrXsvstart m).dirty).trap false cause va

/-- Performs the elements from `m` on, `left` of them. -/
def State.xsvElems (s : State) (h : Nat) (i : XsvMem) : (left m : Nat) → State
  | 0, _ =>
    let x := s.hart h
    let x := if i.pi then x.setReg i.rs1 (x.reg i.rs1 + 16 * (i.nf + 1)) else x
    (s.setHart h ((x.set csrXsvstart 0).dirty).next).bump (pgCluster (h / 4)) 4
  | left + 1, m =>
    let x := s.hart h
    let w := xsvW i.ew
    let va := (x.reg i.rs1 + m * (w / 8)) % 2 ^ 64
    let e := i.place m
    match s.translate x va (w / 8) i.st.toNat with
    | .error c => s.setHart h (XsvMem.fault x m c va)
    | .ok a =>
      let old := vElems w (x.vec e.1)
      let r := s.coreAccess (x.who h) a (w / 8) (if i.st then some (old.getD e.2 0) else none)
      match r.1 with
      | none => r.2.setHart h (XsvMem.fault x m (if i.st then 7 else 5) va)
      | some v =>
        let s := if i.st then r.2 else r.2.setHart h (x.setVec e.1 (packElems w (old.set e.2 v))).dirty
        s.xsvElems h i left (m + 1)

/-- A structure access (R460–R463). -/
def State.xsvMem (s : State) (h : Nat) (i : XsvMem) : State :=
  s.instr h fun x s =>
    if !(i.legal x) then s.setHart h x.illegal
    else if x.reg i.rs1 % (xsvW i.ew / 8) ≠ 0 then s.setHart h (XsvMem.fault x 0 (if i.st then 6 else 4) (x.reg i.rs1))
    else
      let m := x.get csrXsvstart
      s.xsvElems h i (128 / xsvW i.ew * (i.nf + 1) - m) m

/-- XSV_LOAD (R461). -/
def execXsvLoad (h : Fin 16) (nf : Fin 4) (pi : Bool) (ew : Fin 4) (resv : Fin 64) (rs1 : Fin 32) (fn3 : Fin 8) (qd : Fin 32) (s : State) :
    Host.Outcome State Fault Refusal :=
  .next (s.xsvMem h.val ⟨nf.val, pi, false, ew.val, resv.val, rs1.val, fn3.val, qd.val⟩)

/-- XSV_STORE (R461). -/
def execXsvStore (h : Fin 16) (nf : Fin 4) (pi : Bool) (ew : Fin 4) (resv : Fin 64) (rs1 : Fin 32) (fn3 : Fin 8) (qs : Fin 32) (s : State) :
    Host.Outcome State Fault Refusal :=
  .next (s.xsvMem h.val ⟨nf.val, pi, true, ew.val, resv.val, rs1.val, fn3.val, qs.val⟩)

/-! ## The host (R470, R471) -/

/-- R471: who makes a host request. -/
def State.hostWho (s : State) (fn : Nat) : Who :=
  ⟨233, 2, if fn = 0 then s.get pgPcie Rg.PCIE_PF_CTX else Sparse.get nat0 s.ab.pcie.ctx fn, fn⟩

/-- R471: an inbound request on the Truss. A write to bulk memory is coherent (R445). A request that is answered with ERR ends with Completer
Abort or is discarded. -/
def State.hostAccess (s : State) (fn a n : Nat) (v : Option Nat) : State :=
  let w := s.hostWho fn
  let shut := v.isSome && (match place a with
    | .pages p off =>
      match checkPage s w p off n true false with
      | .denied _ _ => true
      | .reg _ _ _ _ _ => false
    | .none => true
    | _ => false)
  let s := if v.isSome then (s.bump pgPcie 1).bump pgPcie 0xF0 n else s.bump pgPcie 1
  let s := if v.isSome && isBulk a then s.snoop a n else s
  let r := match v with
    | some v => s.bus w a n .write v
    | none => s.bus w a n .read
  let s := r.2.2.answer r.1 r.2.1
  if r.1 ≠ 0 || shut then (s.satAdd pgPcie Rg.PCIE_ERRCNT_UR).pcieEvent Ev.UR_INBOUND fn else s

/-- R468: words of an MSI-X table and of the pending bits behind it (log entry 21). -/
def State.msixAccess (s : State) (fn off pbaAt : Nat) (v : Option Nat) : State :=
  let p := s.ab.pcie
  if off < pbaAt then
    let k := 8192 * fn + off / 4
    match v with
    | none => s.answer 0 (Sparse.get msix0 p.msix k)
    | some v =>
      let s := (s.setPcie { p with msix := Sparse.set msix0 p.msix k (v % 2 ^ 32) }).answer 0 0
      let vec := 2048 * fn + off / 16
      let open_ := off % 16 = 12 && v % 2 = 0 && Sparse.get nat0 p.pba vec = 1
      if open_ then s.msixSend fn (off / 16) else s
  else
    let b := (off - pbaAt) * 8
    let bit := fun (i : Nat) => (Sparse.get nat0 p.pba (2048 * fn + b + i)) <<< i
    if v.isSome then s.answer 0 0 else s.answer 0 ((List.range 32).map bit).sum

/-- HOST_REQUEST (R470, R471): a request of `len` bytes of function `fn` at an offset of BAR0, BAR2 or BAR4. `bar` 7 stands for the function's
configuration: offset 0 is Bus Master Enable, offset 1 of the physical function VF Enable. -/
def execHostRequest (fn : Fin 64) (bar : Fin 8) (off : BitVec 36) (len : Fin 65) (data : Option Nat) (s : State) :
    Host.Outcome State Fault Refusal :=
  let f := fn.val
  let o := off.toNat
  let n := len.val
  .next (
    if !s.linkUp || (f ≠ 0 && !s.ab.pcie.sriov) then s
    else
      let ur := s.answer stUnmapped 0
      let p := s.ab.pcie
      match bar.val with
      | 0 =>
        if f = 0 then (if o < 0x1000000 then s.hostAccess 0 (pagesBase + o) n data else ur)
        else match data with
          | none => s.answer 0 0
          | some v =>
            if !(s.vfLive f) then s
            else if o < 0x4000 then s.vfToken f o (bytesOf n v)
            else if 0x8000 ≤ o ∧ o < 0xA000 then s.vfCidx f o (bytesOf n v)
            else s
      | 2 =>
        if f = 0 then (if o < bulkEnd then s.hostAccess 0 o n data else ur)
        else
          let w := Sparse.get nat0 p.wins (4 * f + o / 2 ^ 30)
          if o < 2 ^ 32 && bits w 31 31 = 1 then s.hostAccess f (bits w 17 0 * 2 ^ 30 + o % 2 ^ 30) n data else ur
      | 4 =>
        if n = 4 && o % 4 = 0 then
          if f = 0 then (if o < 0x10000 then s.msixAccess 0 o 0x8000 data else ur)
          else (if o < 0x2000 then s.msixAccess f o 0x1000 data else ur)
        else ur
      | 7 =>
        match data with
        | none => s.answer 0 (if o = 0 then Sparse.get nat0 p.bme f else if o = 1 && f = 0 then p.sriov.toNat else 0)
        | some v =>
          if o = 0 then s.setPcie { p with bme := Sparse.set nat0 p.bme f (v % 2) }
          else if o = 1 && f = 0 then s.setPcie { p with sriov := v % 2 = 1 }
          else s
      | _ => ur)

/-! ## The debug port (R636, R641) -/

/-- R636: whether the debug port is admitted to memory. -/
def State.debugMemory (s : State) : Bool :=
  let lc := s.get pgParapet Rg.PP_LC_LC
  lc ≠ 4 && (lc ≠ 2 || s.flag pgDebug Rg.DBG_STAT_AUTH)

/-- DEBUG_ACCESS (R636): an access of the debug port to a page or to memory. -/
def execDebugAccess (addr : BitVec 48) (len : Fin 9) (data : Option (BitVec 64)) (s : State) : Host.Outcome State Fault Refusal :=
  let a := addr.toNat
  let w : Who := ⟨235, 3, 0, 0⟩
  let v := (data.map BitVec.toNat).getD 0
  .next (
    match place a with
    | .pages _ _ | .none => s.pageAccess w a len.val (data.map BitVec.toNat)
    | _ =>
      if s.debugMemory then
        let r := s.bus w a len.val (if data.isSome then .write else .read) v
        r.2.2.answer r.1 r.2.1
      else s.deny w a data.isSome stPrivilege Ev.PRIVILEGE)

end Sys2Proof.Machine
end

