-- ==== Sys2Proof/Machine/EngNarrow.lean ====
section
/-! DEFINITION. The chip-rate engines (R282–R288) and the narrowband engines (R292–R301). -/
namespace Sys2Proof.Machine

/-! ## Chip-rate engines -/

/-- TS 25.213 clause 4.3.1: chip i of OVSF code C_ch,SF,k with SF = 2^n. -/
def ovsf : Nat → Nat → Nat → Int
  | 0, _, _ => 1
  | n + 1, k, i =>
    let a := ovsf n (k / 2) (i % 2 ^ n)
    if k % 2 = 1 ∧ 2 ^ n ≤ i % 2 ^ (n + 1) then -a else a

/-- An entry of the user table: its 16 words (R288). -/
def State.xcUser (s : State) (w : List Nat) (u : Nat) : List Nat := s.words (deckOf (dw w 8) + 64 * u) 16

/-- A finger or hypothesis: its words. -/
def State.xcFinger (s : State) (w : List Nat) (f : Nat) : List Nat := s.words (deckOf (dw w 9) + 16 * f) 4

/-- R282: whether stream r is marked erased. -/
def State.xcErased (s : State) (w : List Nat) (r : Nat) : Bool :=
  dw w 14 ≠ 0 && (s.byte (deckOf (dw w 14) + r / 8)).toNat.testBit (r % 8)

/-- R282: sample j of stream r. -/
def State.xcSample (s : State) (w : List Nat) (r j : Nat) : Int × Int :=
  c16Of (s.load (deckOf (dw w 6) + r * dw w 7 + 4 * j) 4)

/-- R287, R288: the descriptor and the tables of a chip-rate operation. -/
def xcOk (w : List Nat) (s : State) : Bool :=
  let op := df w 0 31 24
  let f := df w 4 25 16
  let c := df w 4 15 0
  let u := df w 5 24 16
  let user := fun i =>
    let t := s.xcUser w i
    let nc := df t 1 2 0 + 1
    rsvOk t [(0, 0xFF000000), (1, 0x38)] && zeros t [3, 12, 13, 14, 15] && df t 1 31 16 % 256 = 0 && decide (df t 1 31 16 < 38400)
      && (List.range 8).all fun k =>
        let x := dw t (4 + k)
        if k < nc then bits x 27 25 = 0 && inRange 1 8 (bits x 31 28) && decide (bits x 24 16 < 2 ^ bits x 31 28)
          && (k ≠ 0 || op ≠ 2 || bits x 31 28 = 8)
          && (op ≠ 1 || bufOk ((dw t 2 + 64 * bits x 15 0) % 2 ^ 32))
        else x = 0
  let chan := fun i =>
    let t := s.words (deckOf (dw w 8) + 16 * i) 4
    let kind := df t 0 31 30
    rsvOk t [(0, 0x000C0000), (1, 0xFFF0E000), (3, 0xFFFF0000)] && decide (kind ≤ 2) && bufOk (dw t 2 / 64 * 64) && dw t 2 % 4 = 0
      && (if kind = 0 then inRange 2 9 (df t 0 29 26) && decide (df t 0 17 9 < 2 ^ df t 0 29 26) && df t 1 19 16 = 0
            && decide (df t 1 12 0 ≤ 8191)
          else df t 0 29 26 = 0 && df t 0 17 9 = 0 && df t 0 8 0 = 0 && df t 1 12 0 = 0 && (kind = 2 || df t 1 19 16 = 0)
            && decide (df w 15 31 16 % 2560 + c ≤ 2560))
  inRange 1 3 op && rsvOk w [(4, 0x3C000000), (5, 0xFE00FFE0), (15, 0xFFFF)] && decide (df w 4 31 30 ≤ 2)
    && c % 256 = 0 && inRange 256 38400 c && inRange 1 768 f && tabOk (dw w 8)
    && (if op = 3 then u = 0 && zeros w [6, 7, 9, 12, 13] && dw w 14 = 0 && bufOk (dw w 10) && dw w 11 % 64 = 0
          && decide (df w 15 31 16 < 38400) && (List.range f).all chan
        else
          inRange 1 256 u && bufOk (dw w 6) && dw w 7 % 64 = 0 && tabOk (dw w 9) && dw w 15 = 0 && dw w 11 = 0
            && (dw w 14 = 0 || tabOk (dw w 14)) && (List.range u).all user
            && (List.range f).all (fun i =>
                let t := s.xcFinger w i
                rsvOk t [(0, 0xF000)] && zeros t [2, 3] && decide (df t 0 31 24 < u) && (op = 1 || dw t 1 = 0))
            && (if op = 1 then df w 5 4 0 = 0 && dw w 10 = 0 && (dw w 12 = 0 || bufOk (dw w 12)) && dw w 13 % 64 = 0
                else bufOk (dw w 10) && zeros w [12, 13]))

def csum (l : List (Int × Int)) : (Int × Int) := l.foldl cadd (0, 0)

def cscale (k : Int) (a : Int × Int) : Int × Int := (k * a.1, k * a.2)

/-- One despread sum from chip `i0` over 2^lsf chips (R284, R285). -/
def State.xcDespread (s : State) (w user finger : List Nat) (code i0 n : Nat) : Int × Int :=
  let x := dw user (4 + code)
  csum ((List.range n).map fun i =>
    cscale (ovsf (bits x 31 28) (bits x 24 16) (i % 2 ^ bits x 31 28))
      (cmul (s.xcSample w (df finger 0 23 16) (2 * (i0 + i) + df finger 0 11 0))
        (conj (Config.scrUp (df user 0 23 0) ((df user 1 31 16 + i0 + i) % 38400)))))

def clip16 (e : Int × Int) : Nat := (clips 16 e.1).toNat + (clips 16 e.2).toNat

def sat2 (e : Int × Int) : Int × Int := (satN 16 e.1, satN 16 e.2)

def rnd2 (m sh : Nat) (e : Int × Int) : Int × Int := (rnd m e.1 sh, rnd m e.2 sh)

/-- The ranges of samples that the fingers or hypotheses read. -/
def State.xcRanges (s : State) (w : List Nat) : List (Nat × Nat) :=
  (List.range (df w 4 25 16)).map fun f =>
    let t := s.xcFinger w f
    (deckOf (dw w 6) + df t 0 23 16 * dw w 7 + 4 * df t 0 11 0, 8 * df w 4 15 0)

/-- The completion item of a chip-rate operation (R288, R308). -/
def xcOut (e : EngIn) (s : State) (bad : Bool) (sat erased : Nat) : EngOut :=
  ⟨[e.one s (if bad then [2] else []) (if erased = 0 then 0 else Ev.ENG_QUAL) (if sat = 0 then 0 else 1) 0 (decide (0 < sat))],
    (if sat = 0 then 0 else 1) + (if erased = 0 then 0 else 2), [min sat (2 ^ 32 - 1), erased], s⟩

/-- The fingers that read an erased stream. -/
def State.xcErasedCount (s : State) (w : List Nat) : Nat :=
  (List.range (df w 4 25 16)).countP fun f => s.xcErased w (df (s.xcFinger w f) 0 23 16)

/-- DESPREAD (R284); descriptors of no defined OP are refused by this row too. -/
def execEngDespread (by_ : IssueBy) (s : State) : Host.Outcome State Fault Refusal :=
  .next (s.engIssue by_ .xc (fun w => !(isOp 2 w || isOp 3 w)) xcOk fun e s0 =>
    let w := e.w
    let nf := df w 4 25 16
    let c := df w 4 15 0
    let m := df w 4 31 30
    let rd := s0.engReads e.x.unit (s0.xcRanges w)
    let fin := e.fin s0
    let r := (List.range (df w 5 24 16)).foldl
      (fun (q : Nat × State) u =>
        let us := s0.xcUser w u
        let fs := (List.range nf).filter fun f => df (s0.xcFinger w f) 0 31 24 = u
        (List.range (df us 1 2 0 + 1)).foldl
          (fun (q : Nat × State) k =>
            let x := dw us (4 + k)
            let sf := 2 ^ bits x 31 28
            (List.range (c / sf)).foldl
              (fun (q : Nat × State) i =>
                let ds := fs.map fun f =>
                  let t := s0.xcFinger w f
                  (f, if s0.xcErased w (df t 0 23 16) then (0, 0) else rnd2 m (df us 1 10 6) (s0.xcDespread w us t k (i * sf) sf))
                let z := rnd2 m (df us 1 15 11)
                  (csum (ds.map fun d => cmul (conj (c16Of (dw (s0.xcFinger w d.1) 1))) (sat2 d.2)))
                let sat := (ds.map fun d => clip16 d.2).foldl (· + ·) (clip16 z)
                let s := q.2.engLand e fin (deckOf (dw us 2) + 64 * bits x 15 0 + 4 * i) (c16Bytes (sat2 z))
                let s := if dw w 12 ≠ 0 ∧ k = 0 then
                    ds.foldl (fun s d => s.engLand e fin (deckOf (dw w 12) + d.1 * dw w 13 + 4 * i) (c16Bytes (sat2 d.2))) s
                  else s
                (q.1 + sat, s)) q) q)
      (0, rd.2)
    xcOut e r.2 rd.1 r.1 (s0.xcErasedCount w))

/-- SEARCH (R285). -/
def execEngSearch (by_ : IssueBy) (s : State) : Host.Outcome State Fault Refusal :=
  .next (s.engIssue by_ .xc (isOp 2) xcOk fun e s0 =>
    let w := e.w
    let rd := s0.engReads e.x.unit (s0.xcRanges w)
    let s := (List.range (df w 4 25 16)).foldl
      (fun s h =>
        let t := s0.xcFinger w h
        let us := s0.xcUser w (df t 0 31 24)
        let en := (List.range (df w 4 15 0 / 256)).foldl
          (fun (a : Int) b => let v := s0.xcDespread w us t 0 (256 * b) 256; a + v.1 * v.1 + v.2 * v.2) 0
        let v := if s0.xcErased w (df t 0 23 16) then 0 else min (2 ^ 32 - 1) (rnd (df w 4 31 30) en (df w 5 4 0)).toNat
        s.engLand e (e.fin s0) (deckOf (dw w 10) + 4 * h) (wordBytes v)) rd.2
    xcOut e s rd.1 0 (s0.xcErasedCount w))

/-- R286: one chip of one stream. -/
def State.xcSpread (s : State) (w : List Nat) (chans : List (List Nat)) (n : Nat) : Int × Int :=
  let ph := df w 15 31 16 + n
  csum (chans.map fun t =>
    let g := toInt 16 (dw t 3)
    let sym := fun m => c16Of (s.load (deckOf (dw t 2) + 4 * m) 4)
    if df t 0 31 30 = 0 then
      let p := n + df t 0 8 0
      let sf := 2 ^ df t 0 29 26
      cscale (g * ovsf (df t 0 29 26) (df t 0 17 9) (p % sf)) (cmul (sym (p / sf)) (Config.scrDown (df t 1 12 0) (ph % 38400)))
    else if ph % 2560 < 256 then
      cscale g (cmul (sym 0) (if df t 0 31 30 = 1 then Config.codePsc (ph % 2560) else Config.codeSsc (df t 1 19 16) (ph % 2560)))
    else (0, 0))

/-- SPREAD (R286). -/
def execEngSpread (by_ : IssueBy) (s : State) : Host.Outcome State Fault Refusal :=
  .next (s.engIssue by_ .xc (isOp 3) xcOk fun e s0 =>
    let w := e.w
    let chans := (List.range (df w 4 25 16)).map fun i => s0.words (deckOf (dw w 8) + 16 * i) 4
    let rd := s0.engReads e.x.unit (chans.map fun t => (deckOf (dw t 2), 4))
    let r := (List.range 64).foldl
      (fun (q : Nat × State) o =>
        let mine := chans.filter fun t => df t 0 25 20 = o
        if mine.isEmpty then q
        else
          let x := (List.range (df w 4 15 0)).map fun n => rnd2 (df w 4 31 30) (df w 5 4 0) (s0.xcSpread w mine n)
          (q.1 + (x.map clip16).foldl (· + ·) 0,
            q.2.engLand e (e.fin s0) (deckOf (dw w 10) + o * dw w 11) (x.flatMap fun v => c16Bytes (sat2 v))))
      (0, rd.2)
    xcOut e r.2 rd.1 r.1 0)

/-! ## Narrowband engines -/

def nbAccess (w : List Nat) : Bool := df w 4 29 28 = 1

/-- R300: the number of trellis states or the DFE's taps are among the valid ones. -/
def nbStatesOk (w : List Nat) : Bool :=
  let st := df w 4 6 0
  let mod_ := df w 4 27 26
  if df w 4 25 25 = 1 then st = 0 && inRange 2 7 (df w 4 10 8)
  else df w 4 10 8 = 0 && (if mod_ = 0 then [2, 4, 8, 16, 32, 64].contains st else st = 8 || st = 64)

/-- R301: the descriptor of a narrowband operation. -/
def nbOk (w : List Nat) (_ : State) : Bool :=
  let op := df w 0 31 24
  let acc := nbAccess w
  let a := df w 4 21 20
  inRange 1 2 op && rsvOk w [(4, 0xC0C00880), (5, 0xFFFF), (14, 0x00F0FFFF)] && dw w 15 = 0 && inRange 1 2 a && bufOk (dw w 6)
    && dw w 7 % 64 = 0 && (dw w 10 = 0 || tabOk (dw w 10))
    && (if op = 2 then inRange 1 1024 (df w 5 31 16) && dw w 8 = 0
        else
          decide (df w 4 29 28 ≤ 1) && decide (df w 4 27 26 ≤ 2) && nbStatesOk w && bufOk (dw w 8) && !((dw w 11).testBit 31)
            && dw w 11 ≠ 0 && bits (dw w 11) 30 23 ≠ 255 && inRange 1 255 (df w 14 31 24)
            && (if df w 4 25 25 = 1 then inRange 4 15 (df w 14 19 16) else df w 14 19 16 = 0)
            && (if acc then df w 4 19 16 = 0 && df w 4 15 12 = 0 && df w 4 27 26 ≠ 1 && df w 4 27 26 ≠ 2 && dw w 9 % 16 = 0
                  && bufOk (dw w 9 / 64 * 64)
                else decide (df w 4 19 16 ≤ 8) && df w 5 31 16 = 0 && dw w 9 = 0))

/-- R291, R292: the streams in use. -/
def State.nbUsed (s : State) (w : List Nat) : List Nat :=
  let er := if dw w 10 = 0 then 0 else s.load (deckOf (dw w 10)) 8
  (List.range (df w 4 21 20)).filter fun a => !(er.testBit a)

/-- `n` samples of each of some streams, from sample `i0` on. -/
def State.nbSamples (s : State) (w used : List Nat) (i0 n : Nat) : List (Int × Int) :=
  used.flatMap fun a => s.c16At (deckOf (dw w 6) + a * dw w 7 + 4 * i0) n

/-- The number of soft values of a burst (R297). -/
def nbSoftCount (w : List Nat) (psk : Bool) : Nat := if nbAccess w then 36 else if psk then 348 else 116

/-- EQUALIZE (R292–R297); descriptors of no defined OP are refused by this row too. -/
def execEngEqualize (by_ : IssueBy) (s : State) : Host.Outcome State Fault Refusal :=
  .next (s.engIssue by_ .nb (fun w => !(isOp 2 w)) nbOk fun e s =>
    let w := e.w
    let acc := nbAccess w
    let rec0 := if acc then s.words (deckOf (dw w 9)) 4 else []
    let ta := df rec0 0 11 0
    let i0 := if acc then df w 5 31 16 + ta else df w 4 19 16
    let nb := if acc then 88 else 148
    let used := s.nbUsed w
    let n := if acc then i0 + 88 else 148 + 2 * df w 4 19 16
    let rd := s.engReads e.x.unit (used.map fun a => (deckOf (dw w 6) + a * dw w 7, 4 * n))
    let x := s.nbSamples w used i0 nb
    let pwr := Config.f32Div (energy x) (nb * used.length) % 2 ^ 32
    let one := !used.isEmpty && decide (df w 12 15 0 * f32Nat (dw w 11) < 256 * f32Nat pwr) && (!acc || df rec0 0 31 31 = 1)
    let b := Config.nbBurst w (s.nbSamples w used 0 n) (if acc then df rec0 0 21 16 else df w 4 15 12)
    let two := one && decide (df w 12 31 16 * 2 ^ 149 ≤ 256 * f32Nat b.q)
    let psk := if df w 4 27 26 = 2 then b.psk else decide (df w 4 27 26 = 1)
    let cnt := nbSoftCount w psk
    let soft := (List.range cnt).map fun i => if two then ofInt 8 (satSoft (b.soft.getD i 0)) else 0
    let afc := two && df w 4 24 24 = 1
    let toa := if acc then i0 else if one then ofInt 16 b.tau else 0
    let word4 := two.toNat <<< 31 + (one && !two).toNat <<< 30 + afc.toNat <<< 29 + (psk && one).toNat <<< 28 + used.length <<< 16
      + toa % 65536
    let s := rd.2.engLand e (e.fin s) (deckOf (dw w 8)) soft
    let info := if !one then Ev.ENG_QUAL else if two then 0 else Ev.ENG_TSC_QFAIL
    ⟨[e.one s (if rd.1 then [2] else []) info (one && !two).toNat two.toNat two],
      two.toNat + (if one && !two then 2 else 0) + (if one then 0 else 4),
      [word4, if afc then ofInt 32 b.fofs else 0, pwr, if one then b.q % 2 ^ 32 else 0, if one then b.sigma2 % 2 ^ 32 else 0], s⟩)

/-- MEASURE (R299). -/
def execEngMeasure (by_ : IssueBy) (s : State) : Host.Outcome State Fault Refusal :=
  .next (s.engIssue by_ .nb (isOp 2) nbOk fun e s =>
    let w := e.w
    let n := df w 5 31 16
    let used := s.nbUsed w
    let rd := s.engReads e.x.unit (used.map fun a => (deckOf (dw w 6) + a * dw w 7, 4 * n))
    let pwr := Config.f32Div (energy (s.nbSamples w used 0 n)) (n * used.length) % 2 ^ 32
    ⟨[e.one rd.2 (if rd.1 then [2] else []) 0 0 0 false], 0,
      [used.length <<< 16, 0, pwr], rd.2⟩)

end Sys2Proof.Machine
end

