-- ==== Sys2Proof/Machine/Lost.lean ====
section
/-! DEFINITION. Loss of a supply or of REFOSC (R579, R669, R674): from then on nothing of the state can be relied on but the Keystone's array,
whose word in progress is cut under R515, and the fuses (log entry 48). -/

/-- What the device holds after a loss, by the free-value counter: a FREE VALUE (R579); `none` stands for the state as it was. -/
opaque Sys2Proof.Config.lostState : Nat → Option Sys2Proof.Machine.State

namespace Sys2Proof.Machine

/-- A store brought into its canonical form. -/
def canonical {α : Type} [DecidableEq α] (d : Nat → α) (l : List (Nat × α)) : List (Nat × α) :=
  l.foldl (fun m e => Sparse.set d m e.1 e.2) []

/-- A word index of the Keystone array's read window (R20). -/
def inKeystone (w : Nat) : Bool := decide (ksEcc0 ≤ w) && decide (w < ksEcc0 + 0x400000)

/-- R579, R674: every register, memory and block state takes a free value. What outlasts the supply stays: the array's words and their
check bits, the fuses and the fused keys. The queue of commands is the sender's. -/
def State.lose (s : State) : State :=
  let s := s.ksCut
  let t := (Config.lostState s.free).getD s
  let ecc := canonical ecc0 (s.mu.ecc.filter (fun e => inKeystone e.1) ++ t.mu.ecc.filter fun e => !inKeystone e.1)
  { t with
    free := s.free + 1
    regs := canonical resetVal t.regs
    hiLatch := canonical resetVal t.hiLatch
    loStage := canonical resetVal t.loStage
    mem := canonical memDefault t.mem
    piers := canonical pier0 t.piers
    mu := { t.mu with ecc := ecc }
    keys := s.keys
    ks := { t.ks with words := s.ks.words }
    sec := { t.sec with fuses := s.sec.fuses, minver := s.sec.minver }
    pending := s.pending }

/-- LOSS_OF_POWER (R579): a rail leaves its range while PORST_N stays high. -/
def execLossOfPower (s : State) : Host.Outcome State Fault Refusal := .next s.lose

/-- REFOSC_STOP (R674): every PLL loses its reference; nothing can be relied on until PORST_N. -/
def execRefoscStop (s : State) : Host.Outcome State Fault Refusal :=
  let s := s.lose
  .next s

end Sys2Proof.Machine
end

