-- ==== Sys2Proof/Machine/Dispatch.lean ====
section
/-! DEFINITION. One arm per command: each calls the meaning of its command and nothing else. -/
namespace Sys2Proof.Machine

def exec (i : Instr) (s : State) : Host.Outcome State Fault Refusal :=
  match i with
  | .registerWrite w addr width value => Sys2Proof.Machine.execRegisterWrite w addr width value s
  | .loReadLatch w addr width => Sys2Proof.Machine.execLoReadLatch w addr width s
  | .pgCtrlWrite w p value => Sys2Proof.Machine.execPgCtrlWrite w p value s
  | .pgIrqForceWrite w p value => Sys2Proof.Machine.execPgIrqForceWrite w p value s
  | .errCapClear w p => Sys2Proof.Machine.execErrCapClear w p s
  | .pageLock w p key => Sys2Proof.Machine.execPageLock w p key s
  | .pyAirRead w => Sys2Proof.Machine.execPyAirRead w s
  | .ppsInEdge demand => Sys2Proof.Machine.execPpsInEdge demand s
  | .ppsMiss => Sys2Proof.Machine.execPpsMiss s
  | .ppsStuck => Sys2Proof.Machine.execPpsStuck s
  | .todLabelWrite w value => Sys2Proof.Machine.execTodLabelWrite w value s
  | .coarseStep w value => Sys2Proof.Machine.execCoarseStep w value s
  | .refOfsCommit w slot value demand => Sys2Proof.Machine.execRefOfsCommit w slot value demand s
  | .refSlotEnable w slot value => Sys2Proof.Machine.execRefSlotEnable w slot value s
  | .refSlotDisable w slot value => Sys2Proof.Machine.execRefSlotDisable w slot value s
  | .refLossOfSignal slot => Sys2Proof.Machine.execRefLossOfSignal slot s
  | .refSecondBoundary y1 y16 y256 die back => Sys2Proof.Machine.execRefSecondBoundary y1 y16 y256 die back s
  | .driftResultPost => Sys2Proof.Machine.execDriftResultPost s
  | .holdoverModelUpdate offset => Sys2Proof.Machine.execHoldoverModelUpdate offset s
  | .trgIdxWrite w value => Sys2Proof.Machine.execTrgIdxWrite w value s
  | .trgArm w => Sys2Proof.Machine.execTrgArm w s
  | .trgDisarm w => Sys2Proof.Machine.execTrgDisarm w s
  | .triggerFire idx => Sys2Proof.Machine.execTriggerFire idx s
  | .ppsOutPulse => Sys2Proof.Machine.execPpsOutPulse s
  | .ppsOutEnd => Sys2Proof.Machine.execPpsOutEnd s
  | .gpioInputChange pin level held => Sys2Proof.Machine.execGpioInputChange pin level held s
  | .stuck pin => Sys2Proof.Machine.execStuck pin s
  | .gpioCapPop w => Sys2Proof.Machine.execGpioCapPop w s
  | .load w slot => Sys2Proof.Machine.execLoad w slot s
  | .planLoadDone => Sys2Proof.Machine.execPlanLoadDone s
  | .arm w slot => Sys2Proof.Machine.execArm w slot s
  | .disarm w => Sys2Proof.Machine.execDisarm w s
  | .stop w => Sys2Proof.Machine.execStop w s
  | .unload w slot => Sys2Proof.Machine.execUnload w slot s
  | .swapCommit => Sys2Proof.Machine.execSwapCommit s
  | .planStart => Sys2Proof.Machine.execPlanStart s
  | .variantLatch => Sys2Proof.Machine.execVariantLatch s
  | .variantSelect w value => Sys2Proof.Machine.execVariantSelect w value s
  | .leaseRenew w value => Sys2Proof.Machine.execLeaseRenew w value s
  | .leaseLapse => Sys2Proof.Machine.execLeaseLapse s
  | .planStop => Sys2Proof.Machine.execPlanStop s
  | .failSet w value => Sys2Proof.Machine.execFailSet w value s
  | .failRemove w n value => Sys2Proof.Machine.execFailRemove w n value s
  | .unitFault unit => Sys2Proof.Machine.execUnitFault unit s
  | .replayRun win => Sys2Proof.Machine.execReplayRun win s
  | .slotPierStart r k => Sys2Proof.Machine.execSlotPierStart r k s
  | .slotAuRxOpen r k => Sys2Proof.Machine.execSlotAuRxOpen r k s
  | .slotAuRxClose r k => Sys2Proof.Machine.execSlotAuRxClose r k s
  | .slotAuTxSend b => Sys2Proof.Machine.execSlotAuTxSend b s
  | .slotBmXfer r k => Sys2Proof.Machine.execSlotBmXfer r k s
  | .slotBmRefresh r k => Sys2Proof.Machine.execSlotBmRefresh r k s
  | .slotRingWrite r k => Sys2Proof.Machine.execSlotRingWrite r k s
  | .slotLend r k => Sys2Proof.Machine.execSlotLend r k s
  | .slotPower r k => Sys2Proof.Machine.execSlotPower r k s
  | .slotDeckXfer r k => Sys2Proof.Machine.execSlotDeckXfer r k s
  | .slotNop r k => Sys2Proof.Machine.execSlotNop r k s
  | .refreshMiss g => Sys2Proof.Machine.execRefreshMiss g s
  | .ev0 p => Sys2Proof.Machine.execEv0 p s
  | .ev1 p => Sys2Proof.Machine.execEv1 p s
  | .pierEventTake p => Sys2Proof.Machine.execPierEventTake p s
  | .pierVadd p va chk => Sys2Proof.Machine.execPierVadd p va chk s
  | .pierVsub p va chk => Sys2Proof.Machine.execPierVsub p va chk s
  | .pierVneg p va chk => Sys2Proof.Machine.execPierVneg p va chk s
  | .pierVabs p va chk => Sys2Proof.Machine.execPierVabs p va chk s
  | .pierVconj p va chk => Sys2Proof.Machine.execPierVconj p va chk s
  | .pierVand p va chk => Sys2Proof.Machine.execPierVand p va chk s
  | .pierVor p va chk => Sys2Proof.Machine.execPierVor p va chk s
  | .pierVxor p va chk => Sys2Proof.Machine.execPierVxor p va chk s
  | .pierVandn p va chk => Sys2Proof.Machine.execPierVandn p va chk s
  | .pierVshl p va chk => Sys2Proof.Machine.execPierVshl p va chk s
  | .pierVsra p va chk => Sys2Proof.Machine.execPierVsra p va chk s
  | .pierVclip p va chk => Sys2Proof.Machine.execPierVclip p va chk s
  | .pierVbfly p va chk => Sys2Proof.Machine.execPierVbfly p va chk s
  | .pierVbflyj p va chk => Sys2Proof.Machine.execPierVbflyj p va chk s
  | .pierVcmul p va chk => Sys2Proof.Machine.execPierVcmul p va chk s
  | .pierVrmul p va chk => Sys2Proof.Machine.execPierVrmul p va chk s
  | .pierVcmac p va chk => Sys2Proof.Machine.execPierVcmac p va chk s
  | .pierVcmacn p va chk => Sys2Proof.Machine.execPierVcmacn p va chk s
  | .pierVcmacz p va chk => Sys2Proof.Machine.execPierVcmacz p va chk s
  | .pierVrmac p va chk => Sys2Proof.Machine.execPierVrmac p va chk s
  | .pierVrmacz p va chk => Sys2Proof.Machine.execPierVrmacz p va chk s
  | .pierVrdo p va chk => Sys2Proof.Machine.execPierVrdo p va chk s
  | .pierVwset p va chk => Sys2Proof.Machine.execPierVwset p va chk s
  | .pierVwadd p va chk => Sys2Proof.Machine.execPierVwadd p va chk s
  | .pierVwsub p va chk => Sys2Proof.Machine.execPierVwsub p va chk s
  | .pierVperm p chk => Sys2Proof.Machine.execPierVperm p chk s
  | .pierVrot p chk => Sys2Proof.Machine.execPierVrot p chk s
  | .pierValign p chk => Sys2Proof.Machine.execPierValign p chk s
  | .pierVdeint p chk => Sys2Proof.Machine.execPierVdeint p chk s
  | .pierVintl p chk => Sys2Proof.Machine.execPierVintl p chk s
  | .pierVbcast p chk => Sys2Proof.Machine.execPierVbcast p chk s
  | .pierVext p chk => Sys2Proof.Machine.execPierVext p chk s
  | .pierVins p chk => Sys2Proof.Machine.execPierVins p chk s
  | .pierVsign p chk => Sys2Proof.Machine.execPierVsign p chk s
  | .pierVramp p chk => Sys2Proof.Machine.execPierVramp p chk s
  | .pierVseqi p chk => Sys2Proof.Machine.execPierVseqi p chk s
  | .pierVseq p chk => Sys2Proof.Machine.execPierVseq p chk s
  | .pierVseqa p chk => Sys2Proof.Machine.execPierVseqa p chk s
  | .pierVmax p chk => Sys2Proof.Machine.execPierVmax p chk s
  | .pierVmin p chk => Sys2Proof.Machine.execPierVmin p chk s
  | .pierVbexp p chk => Sys2Proof.Machine.execPierVbexp p chk s
  | .pierVbexpw p chk => Sys2Proof.Machine.execPierVbexpw p chk s
  | .pierVcmpeq p chk => Sys2Proof.Machine.execPierVcmpeq p chk s
  | .pierVcmplt p chk => Sys2Proof.Machine.execPierVcmplt p chk s
  | .pierVcmple p chk => Sys2Proof.Machine.execPierVcmple p chk s
  | .pierLdv p bus chk => Sys2Proof.Machine.execPierLdv p bus chk s
  | .pierLdh p bus chk => Sys2Proof.Machine.execPierLdh p bus chk s
  | .pierLds p bus chk => Sys2Proof.Machine.execPierLds p bus chk s
  | .pierLde p bus chk => Sys2Proof.Machine.execPierLde p bus chk s
  | .pierLdb p bus chk => Sys2Proof.Machine.execPierLdb p bus chk s
  | .pierStv p bus chk => Sys2Proof.Machine.execPierStv p bus chk s
  | .pierSth p bus chk => Sys2Proof.Machine.execPierSth p bus chk s
  | .pierSts p bus chk => Sys2Proof.Machine.execPierSts p bus chk s
  | .pierSte p bus chk => Sys2Proof.Machine.execPierSte p bus chk s
  | .pierAupd p bus chk => Sys2Proof.Machine.execPierAupd p bus chk s
  | .pierAdd p chk => Sys2Proof.Machine.execPierAdd p chk s
  | .pierSub p chk => Sys2Proof.Machine.execPierSub p chk s
  | .pierAdds p chk => Sys2Proof.Machine.execPierAdds p chk s
  | .pierSubs p chk => Sys2Proof.Machine.execPierSubs p chk s
  | .pierAnd p chk => Sys2Proof.Machine.execPierAnd p chk s
  | .pierOr p chk => Sys2Proof.Machine.execPierOr p chk s
  | .pierXor p chk => Sys2Proof.Machine.execPierXor p chk s
  | .pierAndn p chk => Sys2Proof.Machine.execPierAndn p chk s
  | .pierShl p chk => Sys2Proof.Machine.execPierShl p chk s
  | .pierShrl p chk => Sys2Proof.Machine.execPierShrl p chk s
  | .pierShra p chk => Sys2Proof.Machine.execPierShra p chk s
  | .pierMin p chk => Sys2Proof.Machine.execPierMin p chk s
  | .pierMax p chk => Sys2Proof.Machine.execPierMax p chk s
  | .pierMinu p chk => Sys2Proof.Machine.execPierMinu p chk s
  | .pierMaxu p chk => Sys2Proof.Machine.execPierMaxu p chk s
  | .pierClz p chk => Sys2Proof.Machine.execPierClz p chk s
  | .pierAddi p chk => Sys2Proof.Machine.execPierAddi p chk s
  | .pierAndi p chk => Sys2Proof.Machine.execPierAndi p chk s
  | .pierOri p chk => Sys2Proof.Machine.execPierOri p chk s
  | .pierShli p chk => Sys2Proof.Machine.execPierShli p chk s
  | .pierShrli p chk => Sys2Proof.Machine.execPierShrli p chk s
  | .pierShrai p chk => Sys2Proof.Machine.execPierShrai p chk s
  | .pierMovi p chk => Sys2Proof.Machine.execPierMovi p chk s
  | .pierMovih p chk => Sys2Proof.Machine.execPierMovih p chk s
  | .pierCmpeq p chk => Sys2Proof.Machine.execPierCmpeq p chk s
  | .pierCmpne p chk => Sys2Proof.Machine.execPierCmpne p chk s
  | .pierCmplt p chk => Sys2Proof.Machine.execPierCmplt p chk s
  | .pierCmpge p chk => Sys2Proof.Machine.execPierCmpge p chk s
  | .pierCmpltu p chk => Sys2Proof.Machine.execPierCmpltu p chk s
  | .pierCmpgeu p chk => Sys2Proof.Machine.execPierCmpgeu p chk s
  | .pierCmpeqi p chk => Sys2Proof.Machine.execPierCmpeqi p chk s
  | .pierCmplti p chk => Sys2Proof.Machine.execPierCmplti p chk s
  | .pierGand p chk => Sys2Proof.Machine.execPierGand p chk s
  | .pierGor p chk => Sys2Proof.Machine.execPierGor p chk s
  | .pierGnot p chk => Sys2Proof.Machine.execPierGnot p chk s
  | .pierMul p chk => Sys2Proof.Machine.execPierMul p chk s
  | .pierMulhs p chk => Sys2Proof.Machine.execPierMulhs p chk s
  | .pierMulhu p chk => Sys2Proof.Machine.execPierMulhu p chk s
  | .pierMovr p chk => Sys2Proof.Machine.execPierMovr p chk s
  | .pierBr p chk => Sys2Proof.Machine.execPierBr p chk s
  | .pierBrl p chk => Sys2Proof.Machine.execPierBrl p chk s
  | .pierBrr p chk => Sys2Proof.Machine.execPierBrr p chk s
  | .pierRte p chk => Sys2Proof.Machine.execPierRte p chk s
  | .pierEnd p chk => Sys2Proof.Machine.execPierEnd p chk s
  | .pierRep p chk => Sys2Proof.Machine.execPierRep p chk s
  | .engFft by_ => Sys2Proof.Machine.execEngFft by_ s
  | .fftTransformComplete unit j parity => Sys2Proof.Machine.execFftTransformComplete unit j parity s
  | .engGemm by_ => Sys2Proof.Machine.execEngGemm by_ s
  | .engGram by_ => Sys2Proof.Machine.execEngGram by_ s
  | .engSolve by_ => Sys2Proof.Machine.execEngSolve by_ s
  | .engApply by_ => Sys2Proof.Machine.execEngApply by_ s
  | .matrixItemComplete unit k upset => Sys2Proof.Machine.execMatrixItemComplete unit k upset s
  | .engDetectPrach by_ => Sys2Proof.Machine.execEngDetectPrach by_ s
  | .engDetectNprach by_ => Sys2Proof.Machine.execEngDetectNprach by_ s
  | .engDetectUmtsRach by_ => Sys2Proof.Machine.execEngDetectUmtsRach by_ s
  | .engDetectGsmAccess by_ => Sys2Proof.Machine.execEngDetectGsmAccess by_ s
  | .engLdpcDecode by_ => Sys2Proof.Machine.execEngLdpcDecode by_ s
  | .engLdpcEncode by_ => Sys2Proof.Machine.execEngLdpcEncode by_ s
  | .engPolarEncode by_ => Sys2Proof.Machine.execEngPolarEncode by_ s
  | .engPolarDecode by_ => Sys2Proof.Machine.execEngPolarDecode by_ s
  | .engTurboDecode by_ => Sys2Proof.Machine.execEngTurboDecode by_ s
  | .engTrellisDecode by_ => Sys2Proof.Machine.execEngTrellisDecode by_ s
  | .engCombine by_ => Sys2Proof.Machine.execEngCombine by_ s
  | .engSelect by_ => Sys2Proof.Machine.execEngSelect by_ s
  | .engStore by_ => Sys2Proof.Machine.execEngStore by_ s
  | .hqFlush w value => Sys2Proof.Machine.execHqFlush w value s
  | .hqEpochWrite w value => Sys2Proof.Machine.execHqEpochWrite w value s
  | .engDespread by_ => Sys2Proof.Machine.execEngDespread by_ s
  | .engSearch by_ => Sys2Proof.Machine.execEngSearch by_ s
  | .engSpread by_ => Sys2Proof.Machine.execEngSpread by_ s
  | .engEqualize by_ => Sys2Proof.Machine.execEngEqualize by_ s
  | .engMeasure by_ => Sys2Proof.Machine.execEngMeasure by_ s
  | .engineOpComplete unit upset => Sys2Proof.Machine.execEngineOpComplete unit upset s
  | .blockLockAcquired lane slips var => Sys2Proof.Machine.execBlockLockAcquired lane slips var s
  | .lockLoss lane bad => Sys2Proof.Machine.execLockLoss lane bad s
  | .hiBer lane bad => Sys2Proof.Machine.execHiBer lane bad s
  | .amLockChange lane gained var => Sys2Proof.Machine.execAmLockChange lane gained var s
  | .fecCodewordDecode lane errs => Sys2Proof.Machine.execFecCodewordDecode lane errs s
  | .signalDetectChange lane rises => Sys2Proof.Machine.execSignalDetectChange lane rises s
  | .cdrLockAcquired lane => Sys2Proof.Machine.execCdrLockAcquired lane s
  | .cdrUnlock lane => Sys2Proof.Machine.execCdrUnlock lane s
  | .adaptDone lane => Sys2Proof.Machine.execAdaptDone lane s
  | .adaptTimeout lane => Sys2Proof.Machine.execAdaptTimeout lane s
  | .adaptRestart w lane value => Sys2Proof.Machine.execAdaptRestart w lane value s
  | .eyeScanStart w lane => Sys2Proof.Machine.execEyeScanStart w lane s
  | .eyeScanDone lane samples errs => Sys2Proof.Machine.execEyeScanDone lane samples errs s
  | .eyeScanAbort w lane samples errs => Sys2Proof.Machine.execEyeScanAbort w lane samples errs s
  | .laneSleepRequest w lane value => Sys2Proof.Machine.execLaneSleepRequest w lane value s
  | .wakeOs lane => Sys2Proof.Machine.execWakeOs lane s
  | .laneWakeComplete lane tx => Sys2Proof.Machine.execLaneWakeComplete lane tx s
  | .wakeOsSend w lane value => Sys2Proof.Machine.execWakeOsSend w lane value s
  | .pllUnlock quad cpri => Sys2Proof.Machine.execPllUnlock quad cpri s
  | .prbsLockAcquired lane errs => Sys2Proof.Machine.execPrbsLockAcquired lane errs s
  | .lnCntClear w lane => Sys2Proof.Machine.execLnCntClear w lane s
  | .frameReceive port bytes bad => Sys2Proof.Machine.execFrameReceive port bytes bad s
  | .uplanePlace au => Sys2Proof.Machine.execUplanePlace au s
  | .remoteFault port received => Sys2Proof.Machine.execRemoteFault port received s
  | .linkUp port => Sys2Proof.Machine.execLinkUp port s
  | .lpiEnter port => Sys2Proof.Machine.execLpiEnter port s
  | .lpiExit port => Sys2Proof.Machine.execLpiExit port s
  | .lpiReceived port on => Sys2Proof.Machine.execLpiReceived port on s
  | .frameDepart port => Sys2Proof.Machine.execFrameDepart port s
  | .dynamicFrameSend port bytes mark tag => Sys2Proof.Machine.execDynamicFrameSend port bytes mark tag s
  | .tsPop w port => Sys2Proof.Machine.execTsPop w port s
  | .cpriHfSync port ofs => Sys2Proof.Machine.execCpriHfSync port ofs s
  | .cpriHfSyncLoss port => Sys2Proof.Machine.execCpriHfSyncLoss port s
  | .cpriProtocolSetup port => Sys2Proof.Machine.execCpriProtocolSetup port s
  | .cpriCmSetup port ptr => Sys2Proof.Machine.execCpriCmSetup port ptr s
  | .cpriGoF w port value => Sys2Proof.Machine.execCpriGoF w port value s
  | .cpriBasicFrameRelease port lead iq => Sys2Proof.Machine.execCpriBasicFrameRelease port lead iq s
  | .cpriBasicFrameSend port => Sys2Proof.Machine.execCpriBasicFrameSend port s
  | .cpriTsiSwitchRequest w port value => Sys2Proof.Machine.execCpriTsiSwitchRequest w port value s
  | .pageSwitched port => Sys2Proof.Machine.execPageSwitched port s
  | .cpDeg port bad => Sys2Proof.Machine.execCpDeg port bad s
  | .cpriControlWordReceive port rai sdi data => Sys2Proof.Machine.execCpriControlWordReceive port rai sdi data s
  | .cpriSubstEnd port => Sys2Proof.Machine.execCpriSubstEnd port s
  | .cpPartnerLost port => Sys2Proof.Machine.execCpPartnerLost port s
  | .partnerLost au k => Sys2Proof.Machine.execPartnerLost au k s
  | .auFlowIdxWrite w au value => Sys2Proof.Machine.execAuFlowIdxWrite w au value s
  | .auFlowWrite w au value => Sys2Proof.Machine.execAuFlowWrite w au value s
  | .auPtIdxWrite w au value => Sys2Proof.Machine.execAuPtIdxWrite w au value s
  | .auPtWrite w au value => Sys2Proof.Machine.execAuPtWrite w au value s
  | .trussPacketRoute r port p unit err => Sys2Proof.Machine.execTrussPacketRoute r port p unit err s
  | .dynamicPacketForward r out => Sys2Proof.Machine.execDynamicPacketForward r out s
  | .targetDead r att => Sys2Proof.Machine.execTargetDead r att s
  | .rtRevive w r value => Sys2Proof.Machine.execRtRevive w r value s
  | .rspTimeout source tag => Sys2Proof.Machine.execRspTimeout source tag s
  | .trussMonitorWindow m => Sys2Proof.Machine.execTrussMonitorWindow m s
  | .rtClr w r value => Sys2Proof.Machine.execRtClr w r value s
  | .dynamicMemoryAccess w addr len kind data poison => Sys2Proof.Machine.execDynamicMemoryAccess w addr len kind data poison s
  | .dynamicAccessServed => Sys2Proof.Machine.execDynamicAccessServed s
  | .memInitStart w b value => Sys2Proof.Machine.execMemInitStart w b value s
  | .memInitDone b => Sys2Proof.Machine.execMemInitDone b s
  | .bmInitStart w k value => Sys2Proof.Machine.execBmInitStart w k value s
  | .initDone k => Sys2Proof.Machine.execInitDone k s
  | .scrubRead b => Sys2Proof.Machine.execScrubRead b s
  | .scrubWriteback u => Sys2Proof.Machine.execScrubWriteback u s
  | .bmScrubRead k => Sys2Proof.Machine.execBmScrubRead k s
  | .celPop w u => Sys2Proof.Machine.execCelPop w u s
  | .bmRelease w k value => Sys2Proof.Machine.execBmRelease w k value s
  | .controllerRefresh g => Sys2Proof.Machine.execControllerRefresh g s
  | .hbmTempRead t0 t1 => Sys2Proof.Machine.execHbmTempRead t0 t1 s
  | .phyTrain w value => Sys2Proof.Machine.execPhyTrain w value s
  | .trainComplete n good => Sys2Proof.Machine.execTrainComplete n good s
  | .srefRequest w value => Sys2Proof.Machine.execSrefRequest w value s
  | .caParity n => Sys2Proof.Machine.execCaParity n s
  | .coreHold w h => Sys2Proof.Machine.execCoreHold w h s
  | .coreRelease w h => Sys2Proof.Machine.execCoreRelease w h s
  | .cbo h op rs1 => Sys2Proof.Machine.execCbo h op rs1 s
  | .fence h => Sys2Proof.Machine.execFence h s
  | .lrSc h sc wide rs1 rs2 rd => Sys2Proof.Machine.execLrSc h sc wide rs1 rs2 rd s
  | .coreAmo h aop wide rs1 rs2 rd => Sys2Proof.Machine.execCoreAmo h aop wide rs1 rs2 rd s
  | .wfi h => Sys2Proof.Machine.execWfi h s
  | .mtimecmpMatch h => Sys2Proof.Machine.execMtimecmpMatch h s
  | .clusterPlevelRequest w c value => Sys2Proof.Machine.execClusterPlevelRequest w c value s
  | .plevelDone c => Sys2Proof.Machine.execPlevelDone c s
  | .xsvVadd h ew fmt s2 s1 d => Sys2Proof.Machine.execXsvVadd h ew fmt s2 s1 d s
  | .xsvVsub h ew fmt s2 s1 d => Sys2Proof.Machine.execXsvVsub h ew fmt s2 s1 d s
  | .xsvVadds h ew fmt s2 s1 d => Sys2Proof.Machine.execXsvVadds h ew fmt s2 s1 d s
  | .xsvVsubs h ew fmt s2 s1 d => Sys2Proof.Machine.execXsvVsubs h ew fmt s2 s1 d s
  | .xsvVmul h ew fmt s2 s1 d => Sys2Proof.Machine.execXsvVmul h ew fmt s2 s1 d s
  | .xsvVmulh h ew fmt s2 s1 d => Sys2Proof.Machine.execXsvVmulh h ew fmt s2 s1 d s
  | .xsvVmulq h ew fmt s2 s1 d => Sys2Proof.Machine.execXsvVmulq h ew fmt s2 s1 d s
  | .xsvVmin h ew fmt s2 s1 d => Sys2Proof.Machine.execXsvVmin h ew fmt s2 s1 d s
  | .xsvVmax h ew fmt s2 s1 d => Sys2Proof.Machine.execXsvVmax h ew fmt s2 s1 d s
  | .xsvVminu h ew fmt s2 s1 d => Sys2Proof.Machine.execXsvVminu h ew fmt s2 s1 d s
  | .xsvVmaxu h ew fmt s2 s1 d => Sys2Proof.Machine.execXsvVmaxu h ew fmt s2 s1 d s
  | .xsvVand h ew fmt s2 s1 d => Sys2Proof.Machine.execXsvVand h ew fmt s2 s1 d s
  | .xsvVor h ew fmt s2 s1 d => Sys2Proof.Machine.execXsvVor h ew fmt s2 s1 d s
  | .xsvVxor h ew fmt s2 s1 d => Sys2Proof.Machine.execXsvVxor h ew fmt s2 s1 d s
  | .xsvVsll h ew fmt s2 s1 d => Sys2Proof.Machine.execXsvVsll h ew fmt s2 s1 d s
  | .xsvVsrl h ew fmt s2 s1 d => Sys2Proof.Machine.execXsvVsrl h ew fmt s2 s1 d s
  | .xsvVsra h ew fmt s2 s1 d => Sys2Proof.Machine.execXsvVsra h ew fmt s2 s1 d s
  | .xsvVseq h ew fmt s2 s1 d => Sys2Proof.Machine.execXsvVseq h ew fmt s2 s1 d s
  | .xsvVslt h ew fmt s2 s1 d => Sys2Proof.Machine.execXsvVslt h ew fmt s2 s1 d s
  | .xsvVsltu h ew fmt s2 s1 d => Sys2Proof.Machine.execXsvVsltu h ew fmt s2 s1 d s
  | .xsvVsel h ew fmt s2 s1 d => Sys2Proof.Machine.execXsvVsel h ew fmt s2 s1 d s
  | .xsvVcmulq h ew fmt s2 s1 d => Sys2Proof.Machine.execXsvVcmulq h ew fmt s2 s1 d s
  | .xsvVcmulqj h ew fmt s2 s1 d => Sys2Proof.Machine.execXsvVcmulqj h ew fmt s2 s1 d s
  | .xsvVredsum h ew fmt s2 s1 d => Sys2Proof.Machine.execXsvVredsum h ew fmt s2 s1 d s
  | .xsvVperm h ew fmt s2 s1 d => Sys2Proof.Machine.execXsvVperm h ew fmt s2 s1 d s
  | .xsvVmvxq h ew fmt s2 s1 d => Sys2Proof.Machine.execXsvVmvxq h ew fmt s2 s1 d s
  | .xsvVmvqx h ew fmt s2 s1 d => Sys2Proof.Machine.execXsvVmvqx h ew fmt s2 s1 d s
  | .xsvVdup h ew fmt s2 s1 d => Sys2Proof.Machine.execXsvVdup h ew fmt s2 s1 d s
  | .xsvLoad h nf pi ew resv rs1 fn3 qd => Sys2Proof.Machine.execXsvLoad h nf pi ew resv rs1 fn3 qd s
  | .xsvStore h nf pi ew resv rs1 fn3 qs => Sys2Proof.Machine.execXsvStore h nf pi ew resv rs1 fn3 qs s
  | .eventMessage src => Sys2Proof.Machine.execEventMessage src s
  | .ehDoorbell w value => Sys2Proof.Machine.execEhDoorbell w value s
  | .ehClaim w k => Sys2Proof.Machine.execEhClaim w k s
  | .ehComplete w k value => Sys2Proof.Machine.execEhComplete w k value s
  | .ehIdxWrite w value => Sys2Proof.Machine.execEhIdxWrite w value s
  | .ehRouteWrite w value => Sys2Proof.Machine.execEhRouteWrite w value s
  | .hostRequest fn bar off len data => Sys2Proof.Machine.execHostRequest fn bar off len data s
  | .outboundRequest source a data len cpl => Sys2Proof.Machine.execOutboundRequest source a data len cpl s
  | .cplTimeout => Sys2Proof.Machine.execCplTimeout s
  | .pcieLinkChange up width speed => Sys2Proof.Machine.execPcieLinkChange up width speed s
  | .flr f => Sys2Proof.Machine.execFlr f s
  | .pcieVfIdxWrite w value => Sys2Proof.Machine.execPcieVfIdxWrite w value s
  | .pcieVfWrite w => Sys2Proof.Machine.execPcieVfWrite w s
  | .pciePerst => Sys2Proof.Machine.execPciePerst s
  | .tokenAdmit => Sys2Proof.Machine.execTokenAdmit s
  | .trSend w value => Sys2Proof.Machine.execTrSend w value s
  | .matchExpiry => Sys2Proof.Machine.execMatchExpiry s
  | .taskPlace => Sys2Proof.Machine.execTaskPlace s
  | .taskPop w n => Sys2Proof.Machine.execTaskPop w n s
  | .trDone w value => Sys2Proof.Machine.execTrDone w value s
  | .trCFlush w value => Sys2Proof.Machine.execTrCFlush w value s
  | .vfTokenWrite f j off data => Sys2Proof.Machine.execVfTokenWrite f j off data s
  | .vfCidxWrite f second data => Sys2Proof.Machine.execVfCidxWrite f second data s
  | .bufferAlloc w p => Sys2Proof.Machine.execBufferAlloc w p s
  | .bufferFree w value => Sys2Proof.Machine.execBufferFree w value s
  | .bufferGive w value => Sys2Proof.Machine.execBufferGive w value s
  | .trPoolCfgWrite w p value => Sys2Proof.Machine.execTrPoolCfgWrite w p value s
  | .trQIdxWrite w value => Sys2Proof.Machine.execTrQIdxWrite w value s
  | .trQWrite w => Sys2Proof.Machine.execTrQWrite w s
  | .trRIdxWrite w value => Sys2Proof.Machine.execTrRIdxWrite w value s
  | .trRWrite w => Sys2Proof.Machine.execTrRWrite w s
  | .trTIdxWrite w value => Sys2Proof.Machine.execTrTIdxWrite w value s
  | .trTWrite w => Sys2Proof.Machine.execTrTWrite w s
  | .trFIdxWrite w value => Sys2Proof.Machine.execTrFIdxWrite w value s
  | .trWaitRead w n => Sys2Proof.Machine.execTrWaitRead w n s
  | .trLIdxWrite w value => Sys2Proof.Machine.execTrLIdxWrite w value s
  | .trHIdxWrite w value => Sys2Proof.Machine.execTrHIdxWrite w value s
  | .trHWrite w => Sys2Proof.Machine.execTrHWrite w s
  | .trVIdxWrite w value => Sys2Proof.Machine.execTrVIdxWrite w value s
  | .trVWrite w => Sys2Proof.Machine.execTrVWrite w s
  | .ksWrite w part => Sys2Proof.Machine.execKsWrite w part s
  | .ksDelete w part => Sys2Proof.Machine.execKsDelete w part s
  | .ksLookup w part => Sys2Proof.Machine.execKsLookup w part s
  | .ksNext w part => Sys2Proof.Machine.execKsNext w part s
  | .epochOpen w flat => Sys2Proof.Machine.execEpochOpen w flat s
  | .epochCommit w => Sys2Proof.Machine.execEpochCommit w s
  | .epochDiscard w => Sys2Proof.Machine.execEpochDiscard w s
  | .trialBegin w => Sys2Proof.Machine.execTrialBegin w s
  | .confirm w => Sys2Proof.Machine.execConfirm w s
  | .abandon w => Sys2Proof.Machine.execAbandon w s
  | .rollback w => Sys2Proof.Machine.execRollback w s
  | .ksCompact w => Sys2Proof.Machine.execKsCompact w s
  | .ksCommandComplete => Sys2Proof.Machine.execKsCommandComplete s
  | .keystoneScan => Sys2Proof.Machine.execKeystoneScan s
  | .backgroundCompaction => Sys2Proof.Machine.execBackgroundCompaction s
  | .patrolRead n k => Sys2Proof.Machine.execPatrolRead n k s
  | .confirmExpired => Sys2Proof.Machine.execConfirmExpired s
  | .trialBringupLimit => Sys2Proof.Machine.execTrialBringupLimit s
  | .ksSegIdxWrite w value => Sys2Proof.Machine.execKsSegIdxWrite w value s
  | .ksPartIdxWrite w value => Sys2Proof.Machine.execKsPartIdxWrite w value s
  | .helloSend w value => Sys2Proof.Machine.execHelloSend w value s
  | .hello => Sys2Proof.Machine.execHello s
  | .ronrisReceive link bytes bad => Sys2Proof.Machine.execRonrisReceive link bytes bad s
  | .discoveryExpiry chip => Sys2Proof.Machine.execDiscoveryExpiry chip s
  | .seekTimeout => Sys2Proof.Machine.execSeekTimeout s
  | .poolSend w value => Sys2Proof.Machine.execPoolSend w value s
  | .viewLoad w => Sys2Proof.Machine.execViewLoad w s
  | .viewWithdraw w => Sys2Proof.Machine.execViewWithdraw w s
  | .viewActive => Sys2Proof.Machine.execViewActive s
  | .beat w value => Sys2Proof.Machine.execBeat w value s
  | .heartbeat => Sys2Proof.Machine.execHeartbeat s
  | .peerEvaluation => Sys2Proof.Machine.execPeerEvaluation s
  | .poolGWrite w => Sys2Proof.Machine.execPoolGWrite w s
  | .take w => Sys2Proof.Machine.execTake w s
  | .unfence w => Sys2Proof.Machine.execUnfence w s
  | .handover w => Sys2Proof.Machine.execHandover w s
  | .handoverLate k => Sys2Proof.Machine.execHandoverLate k s
  | .handoverEffect k => Sys2Proof.Machine.execHandoverEffect k s
  | .takeoverEffect k => Sys2Proof.Machine.execTakeoverEffect k s
  | .ckGo w value => Sys2Proof.Machine.execCkGo w value s
  | .delta => Sys2Proof.Machine.execDelta s
  | .commit => Sys2Proof.Machine.execCommit s
  | .checkpointCopyDone k => Sys2Proof.Machine.execCheckpointCopyDone k s
  | .ckBad k => Sys2Proof.Machine.execCkBad k s
  | .ack => Sys2Proof.Machine.execAck s
  | .timeExchangeStart slot => Sys2Proof.Machine.execTimeExchangeStart slot s
  | .timeReq => Sys2Proof.Machine.execTimeReq s
  | .timeRsp demand => Sys2Proof.Machine.execTimeRsp demand s
  | .timeExchangeTimeout slot => Sys2Proof.Machine.execTimeExchangeTimeout slot s
  | .opIssue w byTrigger value => Sys2Proof.Machine.execOpIssue w byTrigger value s
  | .op => Sys2Proof.Machine.execOp s
  | .poolArrive w value => Sys2Proof.Machine.execPoolArrive w value s
  | .arriveSend => Sys2Proof.Machine.execArriveSend s
  | .arrive => Sys2Proof.Machine.execArrive s
  | .resultSend => Sys2Proof.Machine.execResultSend s
  | .result => Sys2Proof.Machine.execResult s
  | .opDeliver => Sys2Proof.Machine.execOpDeliver s
  | .poolMIdxWrite w value => Sys2Proof.Machine.execPoolMIdxWrite w value s
  | .poolGIdxWrite w value => Sys2Proof.Machine.execPoolGIdxWrite w value s
  | .poolOpIdxWrite w value => Sys2Proof.Machine.execPoolOpIdxWrite w value s
  | .poolOpWrite w value => Sys2Proof.Machine.execPoolOpWrite w value s
  | .porst => Sys2Proof.Machine.execPorst s
  | .porstRelease strap refosc => Sys2Proof.Machine.execPorstRelease strap refosc s
  | .selfTestDone => Sys2Proof.Machine.execSelfTestDone s
  | .railPoll answer => Sys2Proof.Machine.execRailPoll answer s
  | .bootImageLoad a b golden octal => Sys2Proof.Machine.execBootImageLoad a b golden octal s
  | .warmrst => Sys2Proof.Machine.execWarmrst s
  | .warmrstRelease => Sys2Proof.Machine.execWarmrstRelease s
  | .modeSet w => Sys2Proof.Machine.execModeSet w s
  | .modeDone => Sys2Proof.Machine.execModeDone s
  | .warmReset w => Sys2Proof.Machine.execWarmReset w s
  | .quietWake => Sys2Proof.Machine.execQuietWake s
  | .domainRequest w how d value => Sys2Proof.Machine.execDomainRequest w how d value s
  | .deferredWakeStart d => Sys2Proof.Machine.execDeferredWakeStart d s
  | .domainTransitionDone d => Sys2Proof.Machine.execDomainTransitionDone d s
  | .idleTimerExpiry d => Sys2Proof.Machine.execIdleTimerExpiry d s
  | .padRelease w d value => Sys2Proof.Machine.execPadRelease w d value s
  | .deckLevelRequest w value => Sys2Proof.Machine.execDeckLevelRequest w value s
  | .deckPlevelDone => Sys2Proof.Machine.execDeckPlevelDone s
  | .pmbusTransaction w value => Sys2Proof.Machine.execPmbusTransaction w value s
  | .pmbusDone nack late badPec data => Sys2Proof.Machine.execPmbusDone nack late badPec data s
  | .keeperSelfReset => Sys2Proof.Machine.execKeeperSelfReset s
  | .keeperRestart => Sys2Proof.Machine.execKeeperRestart s
  | .kwKick w value => Sys2Proof.Machine.execKwKick w value s
  | .ladderEvaluation => Sys2Proof.Machine.execLadderEvaluation s
  | .wdogExpired => Sys2Proof.Machine.execWdogExpired s
  | .tamper input toggle => Sys2Proof.Machine.execTamper input toggle s
  | .lcAdvance w => Sys2Proof.Machine.execLcAdvance w s
  | .keyFuse w readBackFails => Sys2Proof.Machine.execKeyFuse w readBackFails s
  | .keyRevoke w => Sys2Proof.Machine.execKeyRevoke w s
  | .minverAdvance w => Sys2Proof.Machine.execMinverAdvance w s
  | .wrap w => Sys2Proof.Machine.execWrap w s
  | .unwrap w => Sys2Proof.Machine.execUnwrap w s
  | .keyLoad w use handle => Sys2Proof.Machine.execKeyLoad w use handle s
  | .keyErase w handle => Sys2Proof.Machine.execKeyErase w handle s
  | .ppKidxWrite w value => Sys2Proof.Machine.execPpKidxWrite w value s
  | .ppSaIdxWrite w value => Sys2Proof.Machine.execPpSaIdxWrite w value s
  | .saWrite w value => Sys2Proof.Machine.execSaWrite w value s
  | .ppPkIdxWrite w value => Sys2Proof.Machine.execPpPkIdxWrite w value s
  | .ppFaultSet w value => Sys2Proof.Machine.execPpFaultSet w value s
  | .rngRead w => Sys2Proof.Machine.execRngRead w s
  | .dbgNew w => Sys2Proof.Machine.execDbgNew w s
  | .dbgVerify w => Sys2Proof.Machine.execDbgVerify w s
  | .dbgDeauth w => Sys2Proof.Machine.execDbgDeauth w s
  | .releaseHalt w => Sys2Proof.Machine.execReleaseHalt w s
  | .debugAccess addr len data => Sys2Proof.Machine.execDebugAccess addr len data s
  | .extest levels out oe => Sys2Proof.Machine.execExtest levels out oe s
  | .idcode => Sys2Proof.Machine.execIdcode s
  | .samplePreload levels out oe => Sys2Proof.Machine.execSamplePreload levels out oe s
  | .bypass => Sys2Proof.Machine.execBypass s
  | .counterWrap p k => Sys2Proof.Machine.execCounterWrap p k s
  | .snapTake w value => Sys2Proof.Machine.execSnapTake w value s
  | .snapshotCapture => Sys2Proof.Machine.execSnapshotCapture s
  | .snapshotPageReply j => Sys2Proof.Machine.execSnapshotPageReply j s
  | .snapPartial => Sys2Proof.Machine.execSnapPartial s
  | .tsSlotIdxWrite w value => Sys2Proof.Machine.execTsSlotIdxWrite w value s
  | .tsSlotWrite w value => Sys2Proof.Machine.execTsSlotWrite w value s
  | .bwCfgWrite w m value => Sys2Proof.Machine.execBwCfgWrite w m value s
  | .bandwidthWindow m => Sys2Proof.Machine.execBandwidthWindow m s
  | .ptArm w p value => Sys2Proof.Machine.execPtArm w p value s
  | .ptStart p => Sys2Proof.Machine.execPtStart p s
  | .ptAction p ctx source addr => Sys2Proof.Machine.execPtAction p ctx source addr s
  | .ptDelayRelease p => Sys2Proof.Machine.execPtDelayRelease p s
  | .ptSeedWrite w p value => Sys2Proof.Machine.execPtSeedWrite w p value s
  | .xsRead w value => Sys2Proof.Machine.execXsRead w value s
  | .xsProgram w value => Sys2Proof.Machine.execXsProgram w value s
  | .xsErase w value => Sys2Proof.Machine.execXsErase w value s
  | .xsRegister w value => Sys2Proof.Machine.execXsRegister w value s
  | .xsDone flash stall => Sys2Proof.Machine.execXsDone flash stall s
  | .uartTxWrite w u value => Sys2Proof.Machine.execUartTxWrite w u value s
  | .uartCharSend u ctsLow => Sys2Proof.Machine.execUartCharSend u ctsLow s
  | .uartCharReceive u data parity stop => Sys2Proof.Machine.execUartCharReceive u data parity stop s
  | .uartRxPop w u => Sys2Proof.Machine.execUartRxPop w u s
  | .ppsAcceptedChange => Sys2Proof.Machine.execPpsAcceptedChange s
  | .syncOutPulseEnd out => Sys2Proof.Machine.execSyncOutPulseEnd out s
  | .qpllLock quad cpri => Sys2Proof.Machine.execQpllLock quad cpri s
  | .enabled lane => Sys2Proof.Machine.execEnabled lane s
  | .tamperInactive input => Sys2Proof.Machine.execTamperInactive input s
  | .lossOfPower => Sys2Proof.Machine.execLossOfPower s
  | .refoscStop => Sys2Proof.Machine.execRefoscStop s
  | .pePerstRelease => Sys2Proof.Machine.execPePerstRelease s

end Sys2Proof.Machine
end

