-- ==== Sys2Proof/Machine/Land.lean ====
section
/-! DEFINITION. What comes about at its due uptime (R97), and the bank ports that movers, FFT engines and class-0 deliveries take in
each deck clock cycle (R101, R144, R217, R389–R391). -/
namespace Sys2Proof.Machine

/-- R390, R391: the unit that a mover read in the cycle that ends now goes out, and the next one follows. A unit whose read was
suppressed is not sent (log entry 109). -/
def State.copyStep (s : State) (unit tag src dst h n ctx : Nat) (bad lost : Bool) : State :=
  let k := s.deckK
  let rd := s.readMem 240 false src 64
  let b := !lost && decide (2 ≤ rd.1)
  let s := if lost then s
    else rd.2.schedule (s.uptime + k * (2 + h)) unit 240 tag (.deliver dst (bytesOf 64 (s.load src 64)) b)
  let s := if b && !bad then
      (s.event (page .router tag) Ev.DATA_POISON ctx 0 (240 <<< 24 + 4 <<< 16)).schedule
        (s.uptime + k * (1 + h + n)) unit 240 tag .fault
    else s
  if 1 < n then s.schedule (s.uptime + k) unit 240 tag (.copy (src + 64) (dst + 64) h (n - 1) ctx (bad || b) false) else s

/-- An effect comes about. A bundle issued at t is read at t from the PM of cycle t − 2 (R143): a write delivered to PM shows two
cycles later (log entry 111). -/
def State.runEff (s : State) (l : Later) : State :=
  match l.eff with
  | .bytes a d p => s.writeBytes l.source a d p
  | .deliver _ [] _ => s
  | .deliver a d p =>
    if inPm a then s.schedule (s.uptime + 2 * s.deckK) l.unit l.source l.tag (.pm a d p) else s.writeBytes l.source a d p
  | .pm a d p => s.writeBytes l.source a d p
  | .bit a n v =>
    let b := (s.byte a).toNat
    s.writeMem l.source a 1 (if b.testBit n = v then b else if v then b + 2 ^ n else b - 2 ^ n)
  | .copy src dst h n ctx bad lost => s.copyStep l.unit l.tag src dst h n ctx bad lost
  | .fft t0 w tab acc j i bad lost => s.fftStep l.unit t0 w tab acc j i bad lost
  | .token n c w => s.ringAppend n c w
  | .fault => s.reportFault l.unit

/-- Whether an effect is a read of the cycle that ends now: it sees what was visible in that cycle (R413). -/
def Eff.reads : Eff → Bool
  | .copy _ _ _ _ _ _ _ | .fft _ _ _ _ _ _ _ _ => true
  | .bytes _ _ _ | .deliver _ _ _ | .pm _ _ _ | .bit _ _ _ | .token _ _ _ | .fault => false

/-- The effects that are due come about: the reads of the cycle that ended, then the others, in the order in which they were
scheduled (R97, R389, R413). -/
def State.landDue (s : State) : State :=
  let due := s.mu.later.filter fun l => decide (l.due ≤ s.uptime)
  let s := { s with mu := { s.mu with later := s.mu.later.filter fun l => decide (s.uptime < l.due) } }
  (due.filter fun l => !l.eff.reads).foldl State.runEff ((due.filter fun l => l.eff.reads).foldl State.runEff s)

/-- The access to a bank port that an effect makes in the cycle that begins now, if it makes one. For PM, `out` tells when the effect is
due that falls with the access. -/
def Later.portUse (l : Later) (now k : Nat) : Option PortUse :=
  if l.due ≠ now + k then none
  else l.eff.portAddr.map fun a =>
    let out := match l.eff with
      | .copy _ _ h _ _ _ _ => now + k * (3 + h)
      | _ => now + 3 * k
    ⟨bankOf a, now + 1, l.source, l.tag, 0, a, if inPm a then out else 0⟩

/-- R144, R171: the fetch of the bundle that issues now took bus P two cycles ago. A mover's access to bus P in that cycle collides and is
suppressed. -/
def State.fetchClash (s : State) (e : PortUse) : State :=
  let x := s.pier (e.bank / 16)
  if e.out ≠ 0 ∧ e.at_ + 2 * s.deckK = s.uptime + 1 ∧ x.running ∧ x.at_ = s.uptime ∧ x.pc < 0x20000 ∧ x.fromBuffer = false then
    (s.deckEvent Ev.COLL_PORT e.addr).dropLater fun l => l.source = e.src && l.tag = e.tag && l.due = e.out && match l.eff with
      | .deliver _ _ _ | .pm _ _ _ => true
      | _ => false
  else s

/-- R101, R131: the bank ports that movers, FFT engines and deliveries take in the cycle that begins. -/
def State.portTick (s : State) : State :=
  let s := s.mu.ports.foldl State.fetchClash s
  let uses := sortBy (fun a b => decide (a.src < b.src) || (a.src = b.src && decide (a.tag ≤ b.tag)))
    (s.mu.later.filterMap fun l => l.portUse s.uptime s.deckK)
  uses.foldl (fun s e => let t := s.takePort e; if t.1 then t.2 else t.2.losePort e) s

end Sys2Proof.Machine
end

