-- ==== Sys2Proof/Machine/Tick.lean ====
section
/-! DEFINITION. One cy of the device clock (R4, R6): what the spec lets happen with time alone, whatever is commanded. The table has no row
for it: it is what a step on an empty queue does (log entry 1). -/
namespace Sys2Proof.Machine

/-- A trigger firing that reaches its destination now (R65): the hub, a GPIO pin, a Trestle queue. The Tollhouse, the power domains, the pool
and the deck's signal lines take theirs by commands of their own. -/
def State.trigReach (s : State) (o : TrigOut) : State :=
  if o.action = 1 then (if s.domOn 3 then s.hubSet (4096 + o.arg % 256) true else s)
  else if o.action = 3 then
    let pin := o.arg % 64
    let off := if pin < 32 then 0x288 else 0x28C
    let old := (s.reg pgGpio off).toNat
    let m := 2 ^ (pin % 32)
    s.setReg pgGpio off (BitVec.ofNat 32 (if o.arg.testBit 8 then old ||| m else old - (old &&& m)))
  else if o.action = 6 then s.trigToken o.arg
  else s

/-- Whether the model's time carries out an action, or drops it once it has passed (a signal line). -/
def trigLeaves (now : Nat) (o : TrigOut) : Bool :=
  ((o.action = 1 || o.action = 3 || o.action = 6) && decide (o.due ≤ now)) || (o.action = 8 && decide (o.due < now))

/-- The firings that are due. Of two that drive one pin, the entry with the lower index acts last and so wins (R67). -/
def State.trigTick (s : State) : State :=
  let due := sortBy (fun a b => decide (b.idx ≤ a.idx)) (s.py.trigOut.filter (trigLeaves s.uptime))
  if due.isEmpty then s
  else
    due.foldl State.trigReach
      { s with py := { s.py with trigOut := s.py.trigOut.filter fun o => !trigLeaves s.uptime o } }

/-- R428: the class of a controller's own refresh: the deck's while a plan runs, else by the reading at every span boundary. -/
def State.refClassTick (s : State) : State :=
  (List.range 4).foldl
    (fun s k =>
      let p := page .bm k
      let was := s.flag p Rg.BM_REF_STAT_HOT
      let hot := if s.plan.isSome then s.deckHot else if s.now % spanCy = 0 then thermClass s was else was
      if !(s.domOn (12 + k)) || hot = was then s else s.put p Rg.BM_REF_STAT_HOT hot.toNat) s

/-- The cycle that begins: the uptime, and the air count while the Pylon's domain is on (R6, R48). -/
def State.advance (s : State) : State :=
  { s with uptime := s.uptime + 1, air := if s.domOn 1 then s.air + 1 else s.air }

/-- One cy. Nothing happens while PORST_N is low (R604). -/
def State.tick (s : State) : State :=
  if s.pw.porst then s
  else
    let s := s.conflictTick.countTick.advance
    let s := s.landDue.trigTick.tickPiers.portTick
    let s := s.epochTick.lentTick.settleReplays
    let s := s.laneTick.cpTick.hartTick.poolTick
    s.keeper.secTick.refClassTick.bwTick

end Sys2Proof.Machine
end

