-- ==== Sys2Proof/WellFormed.lean ====
section
/-! DEFINITION. Which commands are well formed: every operand lies in the range that the spec gives it. -/
namespace Sys2Proof

/-- R383, R385, R470: an initiator's SOURCE, PRIV, CTX and function. -/
def Who.wellFormed (w : Who) : Bool := decide (w.source < 256) && decide (w.priv < 4) && decide (w.ctx < 4096) && decide (w.fn < 64)

/-- R22: a register's value. -/
def isWord (v : Nat) : Bool := decide (v < 2 ^ 32)

/-- R108, R127: an entry of the slot table (`r` = 0) or of the SUBTAB of a replay window `r` − 1. -/
def isSlot (r i : Nat) : Bool := decide (r < 9) && decide (i < 65536)

/-- R202, R204, R497: how an engine operation comes to be issued. -/
def IssueBy.wellFormed : IssueBy → Bool
  | .table r i => isSlot r i
  | .chain unit => decide (unit < 65536)
  | .lent unit addr ctx => decide (unit < 65536) && decide (addr < 2 ^ 48) && decide (ctx < 4096)

/-- R385, R386: a packet header. -/
def Packet.wellFormed (p : Packet) : Bool :=
  decide (p.dx < 10) && decide (p.dy < 10) && decide (p.cmd < 64) && decide (p.cls < 4) && decide (p.priv < 4) && decide (p.ctx < 4096)
    && decide (1 ≤ p.len) && decide (p.len ≤ (if p.cls = 0 then 255 else 16)) && decide (p.source < 256) && decide (p.tag < 2 ^ 16)
    && decide (p.addr < 2 ^ 48) && p.addr % 64 = 0

/-- R386, R450: a dynamic access and its data of `len` bytes. -/
def DynKind.wellFormed (k : DynKind) (len data : Nat) : Bool :=
  match k with
  | .read => data = 0
  | .write => decide (data < 2 ^ (8 * len))
  | .amo aop cmp => decide (aop < 9) && decide (cmp < 2 ^ 64) && decide (data < 2 ^ 64)

/-- R429: a temperature in whole degrees that the register holds. -/
def isTemp (t : Option Int) : Bool :=
  match t with
  | some t => decide (-128 ≤ t) && decide (t ≤ 127)
  | none => true

/-- R682: the 94 balls of the boundary register. -/
def isBalls (v : Nat) : Bool := decide (v < 2 ^ 94)

/-- Bytes. -/
def areBytes (l : List Nat) : Bool := l.all fun b => decide (b < 256)

/-- A command is well formed. -/
def Instr.wellFormed (i : Instr) : Bool :=
  match i with
  | .registerWrite w _ _ _ => w.wellFormed
  | .loReadLatch w _ _ => w.wellFormed
  | .pgCtrlWrite w _ _ => w.wellFormed
  | .pgIrqForceWrite w _ _ => w.wellFormed
  | .errCapClear w _ => w.wellFormed
  | .pageLock w _ _ => w.wellFormed
  | .pyAirRead w => w.wellFormed
  | .ppsInEdge _ => true
  | .ppsMiss => true
  | .ppsStuck => true
  | .todLabelWrite w value => w.wellFormed && isWord value
  | .coarseStep w value => w.wellFormed && isWord value
  | .refOfsCommit w _ value _ => w.wellFormed && isWord value
  | .refSlotEnable w _ value => w.wellFormed && isWord value
  | .refSlotDisable w _ value => w.wellFormed && isWord value
  | .refLossOfSignal _ => true
  | .refSecondBoundary y1 y16 y256 _ _ => y1.length = 9 && y16.length = 9 && y256.length = 9
  | .driftResultPost => true
  | .holdoverModelUpdate _ => true
  | .trgIdxWrite w value => w.wellFormed && isWord value
  | .trgArm w => w.wellFormed
  | .trgDisarm w => w.wellFormed
  | .triggerFire _ => true
  | .ppsOutPulse => true
  | .ppsOutEnd => true
  | .gpioInputChange _ _ _ => true
  | .stuck _ => true
  | .gpioCapPop w => w.wellFormed
  | .load w _ => w.wellFormed
  | .planLoadDone => true
  | .arm w _ => w.wellFormed
  | .disarm w => w.wellFormed
  | .stop w => w.wellFormed
  | .unload w _ => w.wellFormed
  | .swapCommit => true
  | .planStart => true
  | .variantLatch => true
  | .variantSelect w value => w.wellFormed && isWord value
  | .leaseRenew w value => w.wellFormed && isWord value
  | .leaseLapse => true
  | .planStop => true
  | .failSet w value => w.wellFormed && isWord value
  | .failRemove w _ value => w.wellFormed && isWord value
  | .unitFault _ => true
  | .replayRun _ => true
  | .slotPierStart r i => isSlot r i
  | .slotAuRxOpen r i => isSlot r i
  | .slotAuRxClose r i => isSlot r i
  | .slotAuTxSend b => b.wellFormed
  | .slotBmXfer r i => isSlot r i
  | .slotBmRefresh r i => isSlot r i
  | .slotRingWrite r i => isSlot r i
  | .slotLend r i => isSlot r i
  | .slotPower r i => isSlot r i
  | .slotDeckXfer r i => isSlot r i
  | .slotNop r i => isSlot r i
  | .refreshMiss _ => true
  | .ev0 _ => true
  | .ev1 _ => true
  | .pierEventTake _ => true
  | .pierVadd _ _ _ => true
  | .pierVsub _ _ _ => true
  | .pierVneg _ _ _ => true
  | .pierVabs _ _ _ => true
  | .pierVconj _ _ _ => true
  | .pierVand _ _ _ => true
  | .pierVor _ _ _ => true
  | .pierVxor _ _ _ => true
  | .pierVandn _ _ _ => true
  | .pierVshl _ _ _ => true
  | .pierVsra _ _ _ => true
  | .pierVclip _ _ _ => true
  | .pierVbfly _ _ _ => true
  | .pierVbflyj _ _ _ => true
  | .pierVcmul _ _ _ => true
  | .pierVrmul _ _ _ => true
  | .pierVcmac _ _ _ => true
  | .pierVcmacn _ _ _ => true
  | .pierVcmacz _ _ _ => true
  | .pierVrmac _ _ _ => true
  | .pierVrmacz _ _ _ => true
  | .pierVrdo _ _ _ => true
  | .pierVwset _ _ _ => true
  | .pierVwadd _ _ _ => true
  | .pierVwsub _ _ _ => true
  | .pierVperm _ _ => true
  | .pierVrot _ _ => true
  | .pierValign _ _ => true
  | .pierVdeint _ _ => true
  | .pierVintl _ _ => true
  | .pierVbcast _ _ => true
  | .pierVext _ _ => true
  | .pierVins _ _ => true
  | .pierVsign _ _ => true
  | .pierVramp _ _ => true
  | .pierVseqi _ _ => true
  | .pierVseq _ _ => true
  | .pierVseqa _ _ => true
  | .pierVmax _ _ => true
  | .pierVmin _ _ => true
  | .pierVbexp _ _ => true
  | .pierVbexpw _ _ => true
  | .pierVcmpeq _ _ => true
  | .pierVcmplt _ _ => true
  | .pierVcmple _ _ => true
  | .pierLdv _ _ _ => true
  | .pierLdh _ _ _ => true
  | .pierLds _ _ _ => true
  | .pierLde _ _ _ => true
  | .pierLdb _ _ _ => true
  | .pierStv _ _ _ => true
  | .pierSth _ _ _ => true
  | .pierSts _ _ _ => true
  | .pierSte _ _ _ => true
  | .pierAupd _ _ _ => true
  | .pierAdd _ _ => true
  | .pierSub _ _ => true
  | .pierAdds _ _ => true
  | .pierSubs _ _ => true
  | .pierAnd _ _ => true
  | .pierOr _ _ => true
  | .pierXor _ _ => true
  | .pierAndn _ _ => true
  | .pierShl _ _ => true
  | .pierShrl _ _ => true
  | .pierShra _ _ => true
  | .pierMin _ _ => true
  | .pierMax _ _ => true
  | .pierMinu _ _ => true
  | .pierMaxu _ _ => true
  | .pierClz _ _ => true
  | .pierAddi _ _ => true
  | .pierAndi _ _ => true
  | .pierOri _ _ => true
  | .pierShli _ _ => true
  | .pierShrli _ _ => true
  | .pierShrai _ _ => true
  | .pierMovi _ _ => true
  | .pierMovih _ _ => true
  | .pierCmpeq _ _ => true
  | .pierCmpne _ _ => true
  | .pierCmplt _ _ => true
  | .pierCmpge _ _ => true
  | .pierCmpltu _ _ => true
  | .pierCmpgeu _ _ => true
  | .pierCmpeqi _ _ => true
  | .pierCmplti _ _ => true
  | .pierGand _ _ => true
  | .pierGor _ _ => true
  | .pierGnot _ _ => true
  | .pierMul _ _ => true
  | .pierMulhs _ _ => true
  | .pierMulhu _ _ => true
  | .pierMovr _ _ => true
  | .pierBr _ _ => true
  | .pierBrl _ _ => true
  | .pierBrr _ _ => true
  | .pierRte _ _ => true
  | .pierEnd _ _ => true
  | .pierRep _ _ => true
  | .engFft by_ => by_.wellFormed
  | .fftTransformComplete _ _ _ => true
  | .engGemm by_ => by_.wellFormed
  | .engGram by_ => by_.wellFormed
  | .engSolve by_ => by_.wellFormed
  | .engApply by_ => by_.wellFormed
  | .matrixItemComplete _ _ _ => true
  | .engDetectPrach by_ => by_.wellFormed
  | .engDetectNprach by_ => by_.wellFormed
  | .engDetectUmtsRach by_ => by_.wellFormed
  | .engDetectGsmAccess by_ => by_.wellFormed
  | .engLdpcDecode by_ => by_.wellFormed
  | .engLdpcEncode by_ => by_.wellFormed
  | .engPolarEncode by_ => by_.wellFormed
  | .engPolarDecode by_ => by_.wellFormed
  | .engTurboDecode by_ => by_.wellFormed
  | .engTrellisDecode by_ => by_.wellFormed
  | .engCombine by_ => by_.wellFormed
  | .engSelect by_ => by_.wellFormed
  | .engStore by_ => by_.wellFormed
  | .hqFlush w value => w.wellFormed && isWord value
  | .hqEpochWrite w value => w.wellFormed && isWord value
  | .engDespread by_ => by_.wellFormed
  | .engSearch by_ => by_.wellFormed
  | .engSpread by_ => by_.wellFormed
  | .engEqualize by_ => by_.wellFormed
  | .engMeasure by_ => by_.wellFormed
  | .engineOpComplete _ _ => true
  | .blockLockAcquired _ _ _ => true
  | .lockLoss _ _ => true
  | .hiBer _ _ => true
  | .amLockChange _ _ _ => true
  | .fecCodewordDecode _ errs => decide (errs.length ≤ 8)
  | .signalDetectChange _ _ => true
  | .cdrLockAcquired _ => true
  | .cdrUnlock _ => true
  | .adaptDone _ => true
  | .adaptTimeout _ => true
  | .adaptRestart w _ value => w.wellFormed && isWord value
  | .eyeScanStart w _ => w.wellFormed
  | .eyeScanDone _ _ _ => true
  | .eyeScanAbort w _ _ _ => w.wellFormed
  | .laneSleepRequest w _ value => w.wellFormed && isWord value
  | .wakeOs _ => true
  | .laneWakeComplete _ _ => true
  | .wakeOsSend w _ value => w.wellFormed && isWord value
  | .pllUnlock _ _ => true
  | .prbsLockAcquired _ _ => true
  | .lnCntClear w _ => w.wellFormed
  | .frameReceive _ _ _ => true
  | .uplanePlace _ => true
  | .remoteFault _ _ => true
  | .linkUp _ => true
  | .lpiEnter _ => true
  | .lpiExit _ => true
  | .lpiReceived _ _ => true
  | .frameDepart _ => true
  | .dynamicFrameSend _ _ _ _ => true
  | .tsPop w _ => w.wellFormed
  | .cpriHfSync _ _ => true
  | .cpriHfSyncLoss _ => true
  | .cpriProtocolSetup _ => true
  | .cpriCmSetup _ _ => true
  | .cpriGoF w _ value => w.wellFormed && isWord value
  | .cpriBasicFrameRelease _ _ _ => true
  | .cpriBasicFrameSend _ => true
  | .cpriTsiSwitchRequest w _ value => w.wellFormed && isWord value
  | .pageSwitched _ => true
  | .cpDeg _ _ => true
  | .cpriControlWordReceive _ _ _ _ => true
  | .cpriSubstEnd _ => true
  | .cpPartnerLost _ => true
  | .partnerLost _ _ => true
  | .auFlowIdxWrite w _ value => w.wellFormed && isWord value
  | .auFlowWrite w _ value => w.wellFormed && isWord value
  | .auPtIdxWrite w _ value => w.wellFormed && isWord value
  | .auPtWrite w _ value => w.wellFormed && isWord value
  | .trussPacketRoute _ _ p unit _ => p.wellFormed && decide (unit ≤ p.len)
  | .dynamicPacketForward _ _ => true
  | .targetDead _ _ => true
  | .rtRevive w _ value => w.wellFormed && isWord value
  | .rspTimeout _ tag => decide (tag < 2 ^ 16)
  | .trussMonitorWindow _ => true
  | .rtClr w _ value => w.wellFormed && isWord value
  | .dynamicMemoryAccess w _ len kind data _ => w.wellFormed && kind.wellFormed len.val data
  | .dynamicAccessServed => true
  | .memInitStart w _ value => w.wellFormed && isWord value
  | .memInitDone _ => true
  | .bmInitStart w _ value => w.wellFormed && isWord value
  | .initDone _ => true
  | .scrubRead _ => true
  | .scrubWriteback _ => true
  | .bmScrubRead _ => true
  | .celPop w _ => w.wellFormed
  | .bmRelease w _ value => w.wellFormed && isWord value
  | .controllerRefresh _ => true
  | .hbmTempRead t0 t1 => isTemp t0 && isTemp t1
  | .phyTrain w value => w.wellFormed && isWord value
  | .trainComplete _ _ => true
  | .srefRequest w value => w.wellFormed && isWord value
  | .caParity _ => true
  | .coreHold w _ => w.wellFormed
  | .coreRelease w _ => w.wellFormed
  | .cbo _ _ _ => true
  | .fence _ => true
  | .lrSc _ _ _ _ _ _ => true
  | .coreAmo _ _ _ _ _ _ => true
  | .wfi _ => true
  | .mtimecmpMatch _ => true
  | .clusterPlevelRequest w _ value => w.wellFormed && isWord value
  | .plevelDone _ => true
  | .xsvVadd _ _ _ _ _ _ => true
  | .xsvVsub _ _ _ _ _ _ => true
  | .xsvVadds _ _ _ _ _ _ => true
  | .xsvVsubs _ _ _ _ _ _ => true
  | .xsvVmul _ _ _ _ _ _ => true
  | .xsvVmulh _ _ _ _ _ _ => true
  | .xsvVmulq _ _ _ _ _ _ => true
  | .xsvVmin _ _ _ _ _ _ => true
  | .xsvVmax _ _ _ _ _ _ => true
  | .xsvVminu _ _ _ _ _ _ => true
  | .xsvVmaxu _ _ _ _ _ _ => true
  | .xsvVand _ _ _ _ _ _ => true
  | .xsvVor _ _ _ _ _ _ => true
  | .xsvVxor _ _ _ _ _ _ => true
  | .xsvVsll _ _ _ _ _ _ => true
  | .xsvVsrl _ _ _ _ _ _ => true
  | .xsvVsra _ _ _ _ _ _ => true
  | .xsvVseq _ _ _ _ _ _ => true
  | .xsvVslt _ _ _ _ _ _ => true
  | .xsvVsltu _ _ _ _ _ _ => true
  | .xsvVsel _ _ _ _ _ _ => true
  | .xsvVcmulq _ _ _ _ _ _ => true
  | .xsvVcmulqj _ _ _ _ _ _ => true
  | .xsvVredsum _ _ _ _ _ _ => true
  | .xsvVperm _ _ _ _ _ _ => true
  | .xsvVmvxq _ _ _ _ _ _ => true
  | .xsvVmvqx _ _ _ _ _ _ => true
  | .xsvVdup _ _ _ _ _ _ => true
  | .xsvLoad _ _ _ _ _ _ _ _ => true
  | .xsvStore _ _ _ _ _ _ _ _ => true
  | .eventMessage _ => true
  | .ehDoorbell w value => w.wellFormed && isWord value
  | .ehClaim w _ => w.wellFormed
  | .ehComplete w _ value => w.wellFormed && isWord value
  | .ehIdxWrite w value => w.wellFormed && isWord value
  | .ehRouteWrite w value => w.wellFormed && isWord value
  | .hostRequest _ _ _ len data =>
    match data with
    | some d => decide (d < 2 ^ (8 * len.val))
    | none => true
  | .outboundRequest source a data len _ =>
    decide (source < 256) && decide (a < 2 ^ 48) && decide (len ≤ 64) && areBytes (data.getD [])
  | .cplTimeout => true
  | .pcieLinkChange _ width speed => decide (width ≤ 16) && decide (speed ≤ 5)
  | .flr _ => true
  | .pcieVfIdxWrite w value => w.wellFormed && isWord value
  | .pcieVfWrite w => w.wellFormed
  | .pciePerst => true
  | .tokenAdmit => true
  | .trSend w value => w.wellFormed && isWord value
  | .matchExpiry => true
  | .taskPlace => true
  | .taskPop w _ => w.wellFormed
  | .trDone w value => w.wellFormed && isWord value
  | .trCFlush w value => w.wellFormed && isWord value
  | .vfTokenWrite _ _ _ data => areBytes data
  | .vfCidxWrite _ _ data => areBytes data
  | .bufferAlloc w _ => w.wellFormed
  | .bufferFree w value => w.wellFormed && isWord value
  | .bufferGive w value => w.wellFormed && isWord value
  | .trPoolCfgWrite w _ value => w.wellFormed && isWord value
  | .trQIdxWrite w value => w.wellFormed && isWord value
  | .trQWrite w => w.wellFormed
  | .trRIdxWrite w value => w.wellFormed && isWord value
  | .trRWrite w => w.wellFormed
  | .trTIdxWrite w value => w.wellFormed && isWord value
  | .trTWrite w => w.wellFormed
  | .trFIdxWrite w value => w.wellFormed && isWord value
  | .trWaitRead w _ => w.wellFormed
  | .trLIdxWrite w value => w.wellFormed && isWord value
  | .trHIdxWrite w value => w.wellFormed && isWord value
  | .trHWrite w => w.wellFormed
  | .trVIdxWrite w value => w.wellFormed && isWord value
  | .trVWrite w => w.wellFormed
  | .ksWrite w _ => w.wellFormed
  | .ksDelete w _ => w.wellFormed
  | .ksLookup w _ => w.wellFormed
  | .ksNext w _ => w.wellFormed
  | .epochOpen w _ => w.wellFormed
  | .epochCommit w => w.wellFormed
  | .epochDiscard w => w.wellFormed
  | .trialBegin w => w.wellFormed
  | .confirm w => w.wellFormed
  | .abandon w => w.wellFormed
  | .rollback w => w.wellFormed
  | .ksCompact w => w.wellFormed
  | .ksCommandComplete => true
  | .keystoneScan => true
  | .backgroundCompaction => true
  | .patrolRead _ _ => true
  | .confirmExpired => true
  | .trialBringupLimit => true
  | .ksSegIdxWrite w value => w.wellFormed && isWord value
  | .ksPartIdxWrite w value => w.wellFormed && isWord value
  | .helloSend w value => w.wellFormed && isWord value
  | .hello => true
  | .ronrisReceive _ _ _ => true
  | .discoveryExpiry _ => true
  | .seekTimeout => true
  | .poolSend w value => w.wellFormed && isWord value
  | .viewLoad w => w.wellFormed
  | .viewWithdraw w => w.wellFormed
  | .viewActive => true
  | .beat w value => w.wellFormed && isWord value
  | .heartbeat => true
  | .peerEvaluation => true
  | .poolGWrite w => w.wellFormed
  | .take w => w.wellFormed
  | .unfence w => w.wellFormed
  | .handover w => w.wellFormed
  | .handoverLate _ => true
  | .handoverEffect _ => true
  | .takeoverEffect _ => true
  | .ckGo w value => w.wellFormed && isWord value
  | .delta => true
  | .commit => true
  | .checkpointCopyDone _ => true
  | .ckBad _ => true
  | .ack => true
  | .timeExchangeStart _ => true
  | .timeReq => true
  | .timeRsp _ => true
  | .timeExchangeTimeout _ => true
  | .opIssue w _ value => w.wellFormed && isWord value
  | .op => true
  | .poolArrive w value => w.wellFormed && isWord value
  | .arriveSend => true
  | .arrive => true
  | .resultSend => true
  | .result => true
  | .opDeliver => true
  | .poolMIdxWrite w value => w.wellFormed && isWord value
  | .poolGIdxWrite w value => w.wellFormed && isWord value
  | .poolOpIdxWrite w value => w.wellFormed && isWord value
  | .poolOpWrite w value => w.wellFormed && isWord value
  | .porst => true
  | .porstRelease _ _ => true
  | .selfTestDone => true
  | .railPoll _ => true
  | .bootImageLoad _ _ _ _ => true
  | .warmrst => true
  | .warmrstRelease => true
  | .modeSet w => w.wellFormed
  | .modeDone => true
  | .warmReset w => w.wellFormed
  | .quietWake => true
  | .domainRequest w _ _ value => w.wellFormed && isWord value
  | .deferredWakeStart _ => true
  | .domainTransitionDone _ => true
  | .idleTimerExpiry _ => true
  | .padRelease w _ value => w.wellFormed && isWord value
  | .deckLevelRequest w value => w.wellFormed && isWord value
  | .deckPlevelDone => true
  | .pmbusTransaction w value => w.wellFormed && isWord value
  | .pmbusDone _ _ _ _ => true
  | .keeperSelfReset => true
  | .keeperRestart => true
  | .kwKick w value => w.wellFormed && isWord value
  | .ladderEvaluation => true
  | .wdogExpired => true
  | .tamper _ _ => true
  | .lcAdvance w => w.wellFormed
  | .keyFuse w _ => w.wellFormed
  | .keyRevoke w => w.wellFormed
  | .minverAdvance w => w.wellFormed
  | .wrap w => w.wellFormed
  | .unwrap w => w.wellFormed
  | .keyLoad w _ _ => w.wellFormed
  | .keyErase w _ => w.wellFormed
  | .ppKidxWrite w value => w.wellFormed && isWord value
  | .ppSaIdxWrite w value => w.wellFormed && isWord value
  | .saWrite w value => w.wellFormed && isWord value
  | .ppPkIdxWrite w value => w.wellFormed && isWord value
  | .ppFaultSet w value => w.wellFormed && isWord value
  | .rngRead w => w.wellFormed
  | .dbgNew w => w.wellFormed
  | .dbgVerify w => w.wellFormed
  | .dbgDeauth w => w.wellFormed
  | .releaseHalt w => w.wellFormed
  | .debugAccess _ _ _ => true
  | .extest levels out oe => isBalls levels && isBalls out && isBalls oe
  | .idcode => true
  | .samplePreload levels out oe => isBalls levels && isBalls out && isBalls oe
  | .bypass => true
  | .counterWrap _ _ => true
  | .snapTake w value => w.wellFormed && isWord value
  | .snapshotCapture => true
  | .snapshotPageReply _ => true
  | .snapPartial => true
  | .tsSlotIdxWrite w value => w.wellFormed && isWord value
  | .tsSlotWrite w value => w.wellFormed && isWord value
  | .bwCfgWrite w _ value => w.wellFormed && isWord value
  | .bandwidthWindow _ => true
  | .ptArm w _ value => w.wellFormed && isWord value
  | .ptStart _ => true
  | .ptAction _ _ _ addr => decide (addr < 2 ^ 48)
  | .ptDelayRelease _ => true
  | .ptSeedWrite w _ value => w.wellFormed && isWord value
  | .xsRead w value => w.wellFormed && isWord value
  | .xsProgram w value => w.wellFormed && isWord value
  | .xsErase w value => w.wellFormed && isWord value
  | .xsRegister w value => w.wellFormed && isWord value
  | .xsDone _ _ => true
  | .uartTxWrite w _ value => w.wellFormed && isWord value
  | .uartCharSend _ _ => true
  | .uartCharReceive _ _ _ _ => true
  | .uartRxPop w _ => w.wellFormed
  | .ppsAcceptedChange => true
  | .syncOutPulseEnd _ => true
  | .qpllLock _ _ => true
  | .enabled _ => true
  | .tamperInactive _ => true
  | .lossOfPower => true
  | .refoscStop => true
  | .pePerstRelease => true

end Sys2Proof
end

