-- ==== Sys2Proof/Safety.lean ====
section
/-! DEFINITION. The terms in which statements speak of the machine: a command that completes, an access that reaches its register, the
canonical form of the stores, and what a command leaves unchanged. -/
namespace Sys2Proof.Machine

/-- The command ends in a next state of which `P` holds. -/
def Completes (i : Instr) (s : State) (P : State → Prop) : Prop := ∃ t, exec i s = .next t ∧ P t

/-- Registers, latches, memory and the piers' stores stand in their canonical form: keys rise, and no entry holds what an unlisted key
reads as. -/
def State.canonical (s : State) : Bool :=
  Sparse.wf resetVal s.regs && Sparse.wf resetVal s.hiLatch && Sparse.wf resetVal s.loStage && memWf s.mem && Sparse.wf pier0 s.piers

/-- R694: a 4-byte access of `w` to the register at offset `off` of page `p` passes every check. -/
def State.reaches (s : State) (w : Who) (p off : Nat) (write : Bool) : Bool :=
  match checkPage s w p off 4 write false with
  | .reg .. => true
  | .denied .. => false

/-- R694: the access is refused with an ERR STATUS and an event of the SYS page (0: none). -/
def State.refuses (s : State) (w : Who) (p off : Nat) (write : Bool) (status event : Nat) : Bool :=
  checkPage s w p off 4 write false == .denied status event

/-- Everything but the registers, the answer, the idle timers, the staged halves, the counters' samples and the captures' instants. -/
structure KeepsBlocks (s t : State) : Prop where
  uptime : t.uptime = s.uptime
  air : t.air = s.air
  mem : t.mem = s.mem
  py : t.py = s.py
  gp : t.gp = s.gp
  mu : t.mu = s.mu
  nt : t.nt = s.nt
  dk : t.dk = s.dk
  keys : t.keys = s.keys
  tr : t.tr = s.tr
  piers : t.piers = s.piers
  en : t.en = s.en
  lanes : t.lanes = s.lanes
  ab : t.ab = s.ab
  fh : t.fh = s.fh
  ks : t.ks = s.ks
  pl : t.pl = s.pl
  sec : t.sec = s.sec
  ts : t.ts = s.ts
  io : t.io = s.io
  pending : t.pending = s.pending

/-- Every byte of memory reads as before, and no error of a word appears or goes. -/
def KeepsMemory (s t : State) : Prop := (∀ a, t.byte a = s.byte a) ∧ t.mu.ecc = s.mu.ecc

/-- Every register of every page but those that `p` names reads as before. -/
def KeepsRegsBut (s t : State) (p : Nat → Nat → Prop) : Prop := ∀ pg off, off < 4096 → ¬ p pg off → t.reg pg off = s.reg pg off

end Sys2Proof.Machine
end

