-- ==== Sys2Proof/Certificates/Slice0/Obligations.lean ====
section
/-! DEFINITION. The statements for the provers: what the rules of spec/ say each command does, with the tables that they range over. -/

namespace Sys2Proof.Claims
open Sys2Proof.Machine

/-! ## The piers -/

/-- The word of slot `n` in pier `p`'s current bundle, and that the bundle holds opcode `op` there and issues now. -/
def wordOf (s : State) (p : Fin 64) (n : Nat) : Nat := slotWord (s.bundle p.val) n

/-- Scalar register `r` of the bank that issues, as a 32-bit word. -/
def sReg (s : State) (p : Fin 64) (r : Nat) : BitVec 32 :=
  let x := s.pier p.val
  BitVec.ofNat 32 (x.reg (kS x.bank r))

/-- Guard register `g` of the bank that issues (G0 reads all ones). -/
def gReg (s : State) (p : Fin 64) (g : Nat) : Nat :=
  let x := s.pier p.val
  x.reg (kG x.bank g)

/-- Lane `l` of V register `r` (R180). -/
def vLane (s : State) (p : Fin 64) (r l : Nat) : Int := toInt 16 ((s.pier p.val).reg (kV r) >>> (16 * l))

/-- Lane `l` of W register `r` (R180). -/
def wLane (s : State) (p : Fin 64) (r l : Nat) : Int := toInt 32 ((s.pier p.val).reg (kW r) >>> (32 * l))

/-- Element `e` of V register `r` as 32 bits (R134). -/
def vElem (s : State) (p : Fin 64) (r e : Nat) : Nat := (s.pier p.val).reg (kV r) >>> (32 * e) % 2 ^ 32

/-- The pier after an operation that gives register writes due `lat` deck cycles later. -/
def Pends (s t : State) (p : Fin 64) (lat slot : Nat) (ws : List (Nat × PierVal × Nat)) : Prop :=
  (t.pier p.val).writes
    = (s.pier p.val).writes ++ ws.map fun e => ⟨s.uptime + s.deckK * lat, s.uptime, slot, e.1, e.2.1, e.2.2⟩

/-- A row of R196 whose result goes to S(D): opcode, latency, and the result from Sa, Sb, the old Sd and IMM. -/
structure ScalarRow where
  cmd : Fin 64 → Fin 3 → Instr
  op : Nat
  lat : Nat
  res : BitVec 32 → BitVec 32 → BitVec 32 → BitVec 16 → BitVec 32

/-- A row whose result goes to G(D): all ones where the relation holds of Sa, Sb and IMM. -/
structure CompareRow where
  cmd : Fin 64 → Fin 3 → Instr
  op : Nat
  holds : BitVec 32 → BitVec 32 → BitVec 16 → Bool

def scalarRows : List ScalarRow :=
  [⟨.pierAdd, 0x01, 1, fun a b _ _ => a + b⟩,
   ⟨.pierSub, 0x02, 1, fun a b _ _ => a - b⟩,
   ⟨.pierAnd, 0x05, 1, fun a b _ _ => a &&& b⟩,
   ⟨.pierOr, 0x06, 1, fun a b _ _ => a ||| b⟩,
   ⟨.pierXor, 0x07, 1, fun a b _ _ => a ^^^ b⟩,
   ⟨.pierAndn, 0x08, 1, fun a b _ _ => a &&& ~~~b⟩,
   ⟨.pierShl, 0x09, 1, fun a b _ _ => a <<< (b.toNat % 32)⟩,
   ⟨.pierShrl, 0x0A, 1, fun a b _ _ => a >>> (b.toNat % 32)⟩,
   ⟨.pierShra, 0x0B, 1, fun a b _ _ => a.sshiftRight (b.toNat % 32)⟩,
   ⟨.pierMin, 0x0C, 1, fun a b _ _ => if a.slt b then a else b⟩,
   ⟨.pierMax, 0x0D, 1, fun a b _ _ => if a.slt b then b else a⟩,
   ⟨.pierMinu, 0x0E, 1, fun a b _ _ => if a.ult b then a else b⟩,
   ⟨.pierMaxu, 0x0F, 1, fun a b _ _ => if a.ult b then b else a⟩,
   ⟨.pierClz, 0x10, 1, fun a _ _ _ => a.clz⟩] ++
  [⟨.pierAddi, 0x18, 1, fun a _ _ i => a + i.signExtend 32⟩,
   ⟨.pierAndi, 0x19, 1, fun a _ _ i => a &&& i.zeroExtend 32⟩,
   ⟨.pierOri, 0x1A, 1, fun a _ _ i => a ||| i.zeroExtend 32⟩,
   ⟨.pierShli, 0x1B, 1, fun a _ _ i => a <<< (i.toNat % 32)⟩,
   ⟨.pierShrli, 0x1C, 1, fun a _ _ i => a >>> (i.toNat % 32)⟩,
   ⟨.pierShrai, 0x1D, 1, fun a _ _ i => a.sshiftRight (i.toNat % 32)⟩,
   ⟨.pierMovi, 0x1E, 1, fun _ _ _ i => i.signExtend 32⟩,
   ⟨.pierMovih, 0x1F, 1, fun _ _ d i => i.zeroExtend 32 <<< 16 ||| d &&& 0xFFFF#32⟩,
   ⟨.pierMul, 0x30, 3, fun a b _ _ => a * b⟩,
   ⟨.pierMulhs, 0x31, 3, fun a b _ _ => ((a.signExtend 64 * b.signExtend 64) >>> 32).truncate 32⟩,
   ⟨.pierMulhu, 0x32, 3, fun a b _ _ => ((a.zeroExtend 64 * b.zeroExtend 64) >>> 32).truncate 32⟩]

def compareRows : List CompareRow :=
  [⟨.pierCmpeq, 0x20, fun a b _ => a == b⟩,
   ⟨.pierCmpne, 0x21, fun a b _ => a != b⟩,
   ⟨.pierCmplt, 0x22, fun a b _ => a.slt b⟩,
   ⟨.pierCmpge, 0x23, fun a b _ => !a.slt b⟩,
   ⟨.pierCmpltu, 0x24, fun a b _ => a.ult b⟩,
   ⟨.pierCmpgeu, 0x25, fun a b _ => !a.ult b⟩,
   ⟨.pierCmpeqi, 0x28, fun a _ i => a == i.signExtend 32⟩,
   ⟨.pierCmplti, 0x29, fun a _ i => a.slt (i.signExtend 32)⟩]

/-- The exact complex product's half at lane `l` (R184). -/
def productLane (a b : Nat → Int) (cja cjb : Bool) (l : Nat) : Int :=
  let e := l / 2 * 2
  let aq := if cja then -(a (e + 1)) else a (e + 1)
  let bq := if cjb then -(b (e + 1)) else b (e + 1)
  if l % 2 = 0 then a e * b e - aq * bq else a e * bq + aq * b e

/-- The second operand's lanes: V(B), or the halves of S(B) broadcast (R184). -/
def bLane (s : State) (p : Fin 64) (f : VaF) (l : Nat) : Int :=
  if f.bs then toInt 16 ((sReg s p f.b).toNat >>> (16 * (l % 2))) else vLane s p f.b l

/-- A row of R185 with one V result: opcode, latency, and the lane's value before sat16. -/
structure VectorRow where
  cmd : Fin 64 → Fin 2 → Fin 3 → Instr
  op : Nat
  lat : Nat
  lane : (a b : Nat → Int) → VaF → Nat → Int

def vectorRows : List VectorRow :=
  [⟨.pierVadd, 0x01, 2, fun a b _ l => a l + b l⟩,
   ⟨.pierVsub, 0x02, 2, fun a b _ l => a l - b l⟩,
   ⟨.pierVneg, 0x03, 2, fun a _ _ l => -(a l)⟩,
   ⟨.pierVabs, 0x04, 2, fun a _ _ l => (a l).natAbs⟩,
   ⟨.pierVconj, 0x05, 2, fun a _ _ l => if l % 2 = 1 then -(a l) else a l⟩,
   ⟨.pierVshl, 0x0C, 2, fun a _ f l => a l * (2 ^ f.sh : Nat)⟩,
   ⟨.pierVsra, 0x0D, 2, fun a _ f l => rnd f.rnd (a l) f.sh⟩,
   ⟨.pierVclip, 0x0E, 2, fun a _ f l =>
      if a l < -(2 ^ f.sh : Nat) then -(2 ^ f.sh : Nat) else if (2 ^ f.sh : Nat) - 1 < a l then (2 ^ f.sh : Nat) - 1 else a l⟩,
   ⟨.pierVcmul, 0x18, 4, fun a b f l => rnd f.rnd (productLane a b f.cja f.cjb l) f.sh⟩,
   ⟨.pierVrmul, 0x19, 4, fun a b f l => rnd f.rnd (a l * b l) f.sh⟩]

/-- A row with a bitwise result. -/
structure BitwiseRow where
  cmd : Fin 64 → Fin 2 → Fin 3 → Instr
  op : Nat
  bit : Bool → Bool → Bool

def bitwiseRows : List BitwiseRow :=
  [⟨.pierVand, 0x08, fun a b => a && b⟩, ⟨.pierVor, 0x09, fun a b => a || b⟩,
   ⟨.pierVxor, 0x0A, fun a b => a != b⟩, ⟨.pierVandn, 0x0B, fun a b => a && !b⟩]

/-- A pending value for a vector register of 32 elements of `w` bits: a mask that covers the elements whose guard bit is 1, and a value. -/
def Covers (w g m : Nat) : Prop := ∀ j, m.testBit j = (decide (j < 32 * w) && g.testBit (j / w))

/-- The SAT bits `q` are `b` where a lane under the guard clips to `n` bits, else 0. -/
def SatBits (n g b q : Nat) (lane : Nat → Int) : Prop :=
  ((∃ l < 64, g.testBit (l / 2) ∧ satN n (lane l) ≠ lane l) → q = b) ∧
  ((∀ l < 64, g.testBit (l / 2) → satN n (lane l) = lane l) → q = 0)

/-- The hypotheses of a VA operation: it issues now from slot `va`, and its guard lets some element through. -/
structure VaIssues (s : State) (p : Fin 64) (va : Fin 2) (op : Nat) : Prop where
  canonical : s.canonical = true
  ready : s.pierReady p.val va.val op = true
  guard : gReg s p (vaF (wordOf s p va.val)).g % 2 ^ 32 ≠ 0

end Sys2Proof.Claims

open Sys2Proof Sys2Proof.Machine Sys2Proof.Claims

/-- R196: the scalar operations with a result in S(D): the result comes to S(D) after the row's latency. R182, R196: ADDS and SUBS write the clipped
result and set SAT bit 3 exactly when they clip. R196: the compares write all ones or 0 to G(D); GAND, GOR and GNOT combine guards. -/
def Obligations.ScalarResultsAndGuardsAreWritten : Prop :=
  (∀ e ∈ scalarRows, ∀ (p : Fin 64) (s : State),
    s.canonical = true → s.pierReady p.val 5 e.op = true → (gReg s p (scF (wordOf s p 5)).g).testBit 0 = true →
    let f := scF (wordOf s p 5)
    let v := e.res (sReg s p f.a) (sReg s p f.b) (sReg s p f.d) (BitVec.ofNat 16 f.imm)
    Completes (e.cmd p 0) s fun t =>
      Pends s t p e.lat 5 [(kS (s.pier p.val).bank f.d, .put 0xFFFFFFFF v.toNat, 0)])
    ∧ (∀ (p : Fin 64) (s : State), s.canonical = true →
    let f := scF (wordOf s p 5)
    let x := s.pier p.val
    (gReg s p f.g).testBit 0 = true →
    (∀ (sub : Bool), s.pierReady p.val 5 (if sub then 4 else 3) = true →
      let a := (sReg s p f.a).toInt
      let b := (sReg s p f.b).toInt
      let v := if sub then a - b else a + b
      let c := if v < -2147483648 then -2147483648 else if 2147483647 < v then 2147483647 else v
      Completes (if sub then .pierSubs p 0 else .pierAdds p 0) s fun t =>
        Pends s t p 1 5 [(kS x.bank f.d, .put 0xFFFFFFFF (BitVec.ofInt 32 c).toNat, if c = v then 0 else 8)]))
    ∧ (∀ (p : Fin 64) (s : State), s.canonical = true →
    let f := scF (wordOf s p 5)
    let k := kG (s.pier p.val).bank f.d
    (gReg s p f.g).testBit 0 = true →
    (∀ e ∈ compareRows, s.pierReady p.val 5 e.op = true →
      Completes (e.cmd p 0) s fun t => Pends s t p 1 5
        [(k, .put 0xFFFFFFFF (if e.holds (sReg s p f.a) (sReg s p f.b) (BitVec.ofNat 16 f.imm) then 0xFFFFFFFF else 0), 0)])
    ∧ (s.pierReady p.val 5 0x2C = true → Completes (.pierGand p 0) s fun t =>
        Pends s t p 1 5 [(k, .put 0xFFFFFFFF (gReg s p f.a &&& gReg s p f.b), 0)])
    ∧ (s.pierReady p.val 5 0x2D = true → Completes (.pierGor p 0) s fun t =>
        Pends s t p 1 5 [(k, .put 0xFFFFFFFF (gReg s p f.a ||| gReg s p f.b), 0)])
    ∧ (s.pierReady p.val 5 0x2E = true → Completes (.pierGnot p 0) s fun t =>
        Pends s t p 1 5 [(k, .put 0xFFFFFFFF (0xFFFFFFFF - gReg s p f.a), 0)]))

/-- R149, R147, R165, R152, R196–R199: what follows a control transfer that acts, and what one whose guard bit is 0 leaves: two delay slots and no
jump; REP sets up its loop; MOVR copies between classes. -/
def Obligations.ControlOperationTakesEffect : Prop :=
  ∀ (p : Fin 64) (s : State), s.canonical = true →
    let x := s.pier p.val
    let w := wordOf s p 5
    let f := scF w
    let acts := (gReg s p f.g).testBit 0
    (∀ c ∈ [((.pierBr : Fin 64 → Fin 3 → Instr), 0xC0, PierJump.to (w % 4096 * 32)), (.pierBrl, 0xC1, .to (w % 4096 * 32)),
        (.pierBrr, 0xC2, .to ((sReg s p f.a).toNat / 32 % 4096 * 32)), (.pierRte, 0xC8, .rte), (.pierEnd, 0xC9, .fin)],
      s.pierReady p.val 5 c.2.1 = true →
      Completes (c.1 p 0) s fun t => (t.pier p.val).turn = true ∧ (t.pier p.val).pc = x.pc
        ∧ (t.pier p.val).jump = (if acts then c.2.2 else .stay)
        ∧ Pends s t p 1 5 (if c.2.1 = 0xC1 ∧ acts then [(kS x.bank f.d, .put 0xFFFFFFFF (x.pc + 96), 0)] else []))
    ∧ (s.pierReady p.val 5 0xE0 = true →
        Completes (.pierRep p 0) s fun t => (t.pier p.val).rep
          = some (w / 2 ^ 35 % 4, if w.testBit 34 then (sReg s p (w % 32)).toNat % 65536 else w % 65536, w / 2 ^ 16 % 4096 * 32))
    ∧ (s.pierReady p.val 5 0x38 = true → acts = true →
        Completes (.pierMovr p 0) s fun t => Pends s t p 1 5
          [(classKey x.bank f.dcl f.d, .put 0xFFFFFFFF
            (if f.acl = 7 then x.lc.getD f.a 0 else if f.acl = 6 then s.classRead p.val x 6 f.a else x.reg (classKey x.bank f.acl f.a)), 0)])

/-- R181–R185: a V result: every lane under the guard gets its saturated value after the row's latency; SAT bit VA is set where a lane clips. VCLIP
and VSRA never clip. R185: VBFLY and VBFLYJ write the sums to V(d) and the differences to V(d + 1). -/
def Obligations.VectorResultsAreWritten : Prop :=
  (∀ (p : Fin 64) (va : Fin 2) (s : State),
    let f := vaF (wordOf s p va.val)
    let g := gReg s p f.g
    (∀ e ∈ vectorRows, VaIssues s p va e.op →
      let lane := e.lane (vLane s p f.a) (bLane s p f) f
      Completes (e.cmd p va 0) s fun t => ∃ m v q, Pends s t p e.lat va.val [(kV f.d, .put m v, q)]
        ∧ Covers 32 g m ∧ (∀ l < 64, toInt 16 (v >>> (16 * l)) = satN 16 (lane l)) ∧ SatBits 16 g (2 ^ va.val) q lane)
    ∧ (∀ e ∈ bitwiseRows, VaIssues s p va e.op →
      Completes (e.cmd p va 0) s fun t => ∃ m v, Pends s t p 2 va.val [(kV f.d, .put m v, 0)] ∧ Covers 32 g m
        ∧ ∀ j < 1024, v.testBit j = e.bit ((s.pier p.val).reg (kV f.a) |>.testBit j)
            (if f.bs then (sReg s p f.b).toNat.testBit (j % 32) else ((s.pier p.val).reg (kV f.b)).testBit j)))
    ∧ (∀ (p : Fin 64) (va : Fin 2) (s : State) (j : Bool), VaIssues s p va (if j then 0x11 else 0x10) →
    let f := vaF (wordOf s p va.val)
    let b := bLane s p f
    let b' := fun l => if j then (if l % 2 = 0 then b (l + 1) else -(b (l - 1))) else b l
    let sum := fun l => rnd f.rnd (vLane s p f.a l + b' l) f.sh
    let dif := fun l => rnd f.rnd (vLane s p f.a l - b' l) f.sh
    let g := gReg s p f.g
    Completes (if j then .pierVbflyj p va 0 else .pierVbfly p va 0) s fun t => ∃ m v q v' q',
      Pends s t p 2 va.val [(kV f.d, .put m v, q), (kV (f.d + 1), .put m v', q')] ∧ Covers 32 g m
      ∧ (∀ l < 64, toInt 16 (v >>> (16 * l)) = satN 16 (sum l) ∧ toInt 16 (v' >>> (16 * l)) = satN 16 (dif l))
      ∧ SatBits 16 g (2 ^ va.val) q sum ∧ SatBits 16 g (2 ^ va.val) q' dif)

/-- R140, R185: the accumulating operations give the lanes to add; VCMACZ, VRMACZ, VWSET, VWADD and VWSUB give W its saturated lanes; VRDO reads W
out, with SAT bit 2. -/
def Obligations.AccumulatorOperands : Prop :=
  ∀ (p : Fin 64) (va : Fin 2) (s : State),
    let f := vaF (wordOf s p va.val)
    let g := gReg s p f.g
    let a := vLane s p f.a
    let b := bLane s p f
    let sign := fun (neg : Bool) (x : Int) => if neg then -x else x
    (∀ c ∈ [((.pierVcmac : Fin 64 → Fin 2 → Fin 3 → Instr), 0x20, fun l => productLane a b f.cja f.cjb l),
        (.pierVcmacn, 0x21, fun l => sign true (productLane a b f.cja f.cjb l)), (.pierVrmac, 0x23, fun l => a l * b l)],
      VaIssues s p va c.2.1 →
      Completes (c.1 p va 0) s fun t => ∃ m add, Pends s t p 5 va.val [(kW f.d, .mac m add, 2 ^ va.val)]
        ∧ Covers 64 g m ∧ add.length = 64 ∧ ∀ l < 64, add[l]? = some (c.2.2 l))
    ∧ (∀ c ∈ [((.pierVcmacz : Fin 64 → Fin 2 → Fin 3 → Instr), 0x22, 5, fun l => productLane a b f.cja f.cjb l),
        (.pierVrmacz, 0x24, 5, fun l => a l * b l), (.pierVwset, 0x29, 2, fun l => a l * (2 ^ f.sh : Nat)),
        (.pierVwadd, 0x2A, 2, fun l => wLane s p f.a l + wLane s p f.b l), (.pierVwsub, 0x2B, 2, fun l => wLane s p f.a l - wLane s p f.b l)],
      VaIssues s p va c.2.1 →
      Completes (c.1 p va 0) s fun t => ∃ m v q, Pends s t p c.2.2.1 va.val [(kW f.d, .put m v, q)] ∧ Covers 64 g m
        ∧ (∀ l < 64, toInt 32 (v >>> (32 * l)) = satN 32 (c.2.2.2 l)) ∧ SatBits 32 g (2 ^ va.val) q c.2.2.2)
    ∧ (VaIssues s p va 0x28 →
      let sh := if f.bs then (sReg s p f.b).toNat % 32 else f.sh
      let lane := fun l => rnd f.rnd (wLane s p f.a l) sh
      Completes (.pierVrdo p va 0) s fun t => ∃ m v q, Pends s t p 3 va.val [(kV f.d, .put m v, q)] ∧ Covers 32 g m
        ∧ (∀ l < 64, toInt 16 (v >>> (16 * l)) = satN 16 (lane l)) ∧ SatBits 16 g 4 q lane)

namespace Sys2Proof.Claims
open Sys2Proof.Machine

/-- A row of R188 that computes every element of V(D): from the elements of Va, Vb, Vc, the words Sa and Sb, and IMM. -/
structure PermuteRow where
  cmd : Fin 64 → Fin 3 → Instr
  op : Nat
  elem : (a b c : Nat → Nat) → (sa sb imm e : Nat) → Nat

/-- The 16-bit half `i` of a register given by its elements. -/
def half (a : Nat → Nat) (i : Nat) : Nat := if i % 2 = 0 then a (i / 2) % 65536 else a (i / 2) / 65536 % 65536

/-- An element from its two halves. -/
def pair (i q : Nat) : Nat := i % 65536 + q % 65536 * 65536

/-- The 64 elements (Va‖Vb). -/
def joined (a b : Nat → Nat) (i : Nat) : Nat := if i < 32 then a i else if i < 64 then b (i - 32) else 0

def permuteRows : List PermuteRow :=
  [⟨.pierVperm, 0x01, fun a b c _ _ _ e => joined a b (c e % 64)⟩,
   ⟨.pierVrot, 0x02, fun a _ _ _ _ i e => a ((e + i) % 32)⟩,
   ⟨.pierValign, 0x03, fun a b _ _ _ i e => joined a b (e + i)⟩,
   ⟨.pierVdeint, 0x04, fun a b _ _ _ i e =>
      let n := i % 8
      let o := i / 16 % 8
      let h := fun j => if n * j + o < 128 then half (joined a b) (n * j + o) else 0
      if i.testBit 16 then pair (h (2 * e)) (h (2 * e + 1)) else joined a b (n * e + o)⟩,
   ⟨.pierVintl, 0x05, fun a b _ _ _ i e => if e % 2 = 0 then a (e / 2 + 16 * i) else b (e / 2 + 16 * i)⟩,
   ⟨.pierVbcast, 0x06, fun a _ _ _ sb i _ => if i.testBit 16 then sb else a i⟩,
   ⟨.pierVins, 0x08, fun a _ _ _ sb i e => if e = i then sb else a e⟩,
   ⟨.pierVsign, 0x09, fun a b _ _ _ i e =>
      let neg := fun l => (b ((64 * i + l) / 32)).testBit ((64 * i + l) % 32)
      let h := fun l => if neg l then ofInt 16 (satN 16 (-(toInt 16 (half a l)))) else half a l
      pair (h (2 * e)) (h (2 * e + 1))⟩,
   ⟨.pierVramp, 0x0A, fun _ _ _ sa _ i e =>
      if i.testBit 16 then pair (sa + 2 * e * (i % 65536)) (sa + (2 * e + 1) * (i % 65536)) else (sa + e * (i % 65536)) % 65536⟩]

/-- The hypotheses of an operation of slot VP: it issues now. -/
structure VpIssues (s : State) (p : Fin 64) (op : Nat) : Prop where
  canonical : s.canonical = true
  ready : s.pierReady p.val 2 op = true

/-- The sequences of R191: a state of 31 bits grows by the recurrence of its register. -/
def Sequence1 (x : Nat → Bool) (start : Nat) : Prop := (∀ n, x (n + 31) = (x (n + 3) != x n)) ∧ ∀ i < 31, x i = start.testBit i

def Sequence2 (x : Nat → Bool) (start : Nat) : Prop :=
  (∀ n, x (n + 31) = ((x (n + 3) != x (n + 2)) != (x (n + 1) != x n))) ∧ ∀ i < 31, x i = start.testBit i

/-- The 31 bits of a sequence from position `n` on, as a number. -/
def IsState (v : Nat) (x : Nat → Bool) (n : Nat) : Prop := v < 2 ^ 31 ∧ ∀ i < 31, v.testBit i = x (n + i)

/-- Element `e` of a V value. -/
def elemOf (v e : Nat) : Nat := v >>> (32 * e) % 2 ^ 32

/-- The lanes that take part in a search (R189): all whose element the mask holds (H = 1), or the I halves by their element. -/
def TakesPart (h : Bool) (mask l : Nat) : Prop := if h then l < 64 ∧ mask.testBit (l / 2) else l < 32 ∧ mask.testBit l

/-- The value of lane `l` of a search. -/
def searchLane (s : State) (p : Fin 64) (r : Nat) (h : Bool) (l : Nat) : Int := if h then vLane s p r l else vLane s p r (2 * l)

/-- The result of one search (R189), before ACC: value, index and none bit. -/
def SearchResult (s : State) (p : Fin 64) (f : VpF) (less : Bool) (r : Nat) : Prop :=
  let h := f.imm.testBit 16
  let m := gReg s p f.c
  let v := searchLane s p f.a h
  let better := fun (x y : Int) => if less then x < y else y < x
  (∀ l, TakesPart h m l → (∀ j, TakesPart h m j → ¬ better (v j) (v l)) → (∀ j, TakesPart h m j → j < l → better (v l) (v j)) →
      r = ofInt 16 (v l) + (f.imm % 2048 + l) % 2048 * 65536)
  ∧ ((∀ l, ¬ TakesPart h m l) → r = (if less then 0x7FFF else 0x8000) + 2 ^ 31)

/-- The headroom of the lanes of `w` bits that take part (R189): every one of them can be shifted left by `r`, and by no more. -/
def IsHeadroom (w mask r : Nat) (v : Nat → Int) : Prop :=
  r ≤ w - 1
  ∧ (∀ l < 64, mask.testBit (l / 2) → -(2 ^ (w - 1) : Nat) ≤ v l * (2 ^ r : Nat) ∧ v l * (2 ^ r : Nat) < (2 ^ (w - 1) : Nat))
  ∧ (r < w - 1 → ∃ l < 64, mask.testBit (l / 2) ∧
      ¬ (-(2 ^ (w - 1) : Nat) ≤ v l * (2 ^ (r + 1) : Nat) ∧ v l * (2 ^ (r + 1) : Nat) < (2 ^ (w - 1) : Nat)))

/-- A row of R193 that loads: opcode, width, and the destination key with the pending value for the bytes read. -/
structure LoadRow where
  cmd : Fin 64 → Fin 2 → Fin 3 → Instr
  op : Nat
  width : Nat
  dest : (bank : Nat) → LsF → (data : Nat) → Nat × PierVal

def loadRows : List LoadRow :=
  [⟨.pierLdv, 0x01, 128, fun _ f d => (kV f.r, .put (2 ^ 1024 - 1) d)⟩,
   ⟨.pierLdh, 0x02, 64, fun _ f d => (kV f.r, .put (2 ^ 512 - 1) d)⟩,
   ⟨.pierLds, 0x03, 4, fun b f d => (kS b f.r, .put 0xFFFFFFFF d)⟩,
   ⟨.pierLde, 0x04, 4, fun _ f d => (kV f.r, .put (0xFFFFFFFF <<< (32 * f.e)) (d <<< (32 * f.e)))⟩,
   ⟨.pierLdb, 0x05, 4, fun _ f d => (kV f.r, .put (2 ^ 1024 - 1) (broadcast d))⟩]

/-- A row of R193 that stores: opcode, width, and the bytes stored as a number. -/
structure StoreRow where
  cmd : Fin 64 → Fin 2 → Fin 3 → Instr
  op : Nat
  width : Nat
  data : State → Fin 64 → LsF → Nat

def storeRows : List StoreRow :=
  [⟨.pierStv, 0x08, 128, fun s p f => (s.pier p.val).reg (kV f.r)⟩,
   ⟨.pierSth, 0x09, 64, fun s p f => (s.pier p.val).reg (kV f.r) % 2 ^ 512⟩,
   ⟨.pierSts, 0x0A, 4, fun s p f => (sReg s p f.r).toNat⟩,
   ⟨.pierSte, 0x0B, 4, fun s p f => vElem s p f.r f.e⟩]

/-- An LX (bus 0) or LY (bus 1) operation issues now with its guard bit 1: `a` is its effective address, `upd` the new address register. -/
structure LsIssues (s : State) (p : Fin 64) (bus : Fin 2) (op w : Nat) : Prop where
  canonical : s.canonical = true
  ready : s.pierReady p.val (3 + bus.val) op = true
  guard : (gReg s p (lsF (wordOf s p (3 + bus.val))).g).testBit 0 = true
  aligned : op = 0x10 ∨ (addrMode (s.pier p.val) (lsF (wordOf s p (3 + bus.val))) bus.val w).1 % w = 0
  updates : (addrMode (s.pier p.val) (lsF (wordOf s p (3 + bus.val))) bus.val w).2 ≠ some none

/-- The effective address of an LX or LY operation (R161). -/
def effAddr (s : State) (p : Fin 64) (bus : Fin 2) (w : Nat) : Nat :=
  (addrMode (s.pier p.val) (lsF (wordOf s p (3 + bus.val))) bus.val w).1

/-- The address register's new value as a pending write, due one deck cycle later (R161). -/
def addrWrites (s : State) (p : Fin 64) (bus : Fin 2) (w : Nat) : List PierWr :=
  let f := lsF (wordOf s p (3 + bus.val))
  let x := s.pier p.val
  match (addrMode x f bus.val w).2 with
  | some (some v) =>
    [⟨s.uptime + s.deckK, s.uptime, 3 + bus.val, if bus.val = 0 then kX x.bank f.a else kY x.bank f.a, .put 0xFFFFFFFF v, 0⟩]
  | _ => []

/-- No other access has taken the bank of an address in this cycle, and no word there reads other than clean (R101, R156, R416). -/
def ServesNow (s : State) (a w : Nat) : Prop :=
  (∀ e ∈ s.mu.ports, ¬ (e.bank = bankOf a ∧ e.at_ = s.uptime + 1)) ∧ eccHits s a w = [] ∧ s.ts.hits = []

end Sys2Proof.Claims

/-- R191: VSEQI starts the two sequences and runs on 1,600 steps; VSEQA runs on IMM steps; VSEQ gives 1,024 bits of their sum. R188, R189: VEXT reads
an element out; VMAX and VMIN find the first greatest or least taking-part lane, and with ACC keep an earlier result that is not worse; VBEXP and
VBEXPW give the headroom. -/
def Obligations.SequencesAndReductionsGiveTheirResults : Prop :=
  (∀ (p : Fin 64) (s : State) (x y : Nat → Bool),
    let f := vpF (wordOf s p 2)
    let g := gReg s p f.g
    let wr := fun (t : State) (v : Nat) => ∃ m, Pends s t p 3 2 [(kV f.d, .put m v, 0)] ∧ Covers 32 g m
    let from2 := Sequence1 x (vElem s p f.a 0) ∧ Sequence2 y (vElem s p f.a 1)
    g ≠ 0 →
    (VpIssues s p 0x10 → Sequence1 x 1 → Sequence2 y (sReg s p f.b).toNat →
      Completes (.pierVseqi p 0) s fun t => ∃ v, wr t v ∧ IsState (elemOf v 0) x 1600 ∧ IsState (elemOf v 1) y 1600
        ∧ ∀ e, 2 ≤ e → elemOf v e = 0)
    ∧ (VpIssues s p 0x11 → from2 → Completes (.pierVseq p 0) s fun t => ∃ v, wr t v ∧ ∀ k < 1024, v.testBit k = (x k != y k))
    ∧ (VpIssues s p 0x12 → from2 →
      Completes (.pierVseqa p 0) s fun t => ∃ v, wr t v ∧ IsState (elemOf v 0) x f.imm ∧ IsState (elemOf v 1) y f.imm
        ∧ ∀ e, 2 ≤ e → elemOf v e = 0))
    ∧ (∀ (p : Fin 64) (s : State),
    let f := vpF (wordOf s p 2)
    let x := s.pier p.val
    let old := (sReg s p f.d).toNat
    let acc := f.imm.testBit 15
    let gives := fun (lat : Nat) (t : State) (v : Nat) => Pends s t p lat 2 [(kS x.bank f.d, .put 0xFFFFFFFF v, 0)]
    (gReg s p f.g).testBit 0 = true →
    (VpIssues s p 0x07 → Completes (.pierVext p 0) s fun t => gives 3 t (vElem s p f.a f.imm))
    ∧ (∀ less : Bool, VpIssues s p (if less then 0x19 else 0x18) →
      let worse := fun (r : Nat) => if less then decide (toInt 16 old ≤ toInt 16 r) else decide (toInt 16 r ≤ toInt 16 old)
      Completes (if less then .pierVmin p 0 else .pierVmax p 0) s fun t => ∃ r, SearchResult s p f less r
        ∧ gives 4 t (if acc && !old.testBit 31 && (r.testBit 31 || worse r) then old else r))
    ∧ (∀ wide : Bool, VpIssues s p (if wide then 0x1B else 0x1A) →
      Completes (if wide then .pierVbexpw p 0 else .pierVbexp p 0) s fun t => ∃ r,
        gives 4 t (if acc then min r (old % 32) else r)
        ∧ IsHeadroom (if wide then 32 else 16) (gReg s p f.c) r (if wide then wLane s p f.a else vLane s p f.a)))

/-- R183, R188, R190: the element operations of slot VP: every element under the guard gets its value three deck cycles later. R183, R188: a vector
compare writes the guard's bits under the operation's guard, two deck cycles later. -/
def Obligations.PermutedElementsAndVectorGuardsAreWritten : Prop :=
  (∀ e ∈ permuteRows, ∀ (p : Fin 64) (s : State), VpIssues s p e.op →
    let f := vpF (wordOf s p 2)
    let g := gReg s p f.g
    g ≠ 0 →
    Completes (e.cmd p 0) s fun t => ∃ m v, Pends s t p 3 2 [(kV f.d, .put m v, 0)] ∧ Covers 32 g m
      ∧ ∀ i < 32, elemOf v i
          = e.elem (vElem s p f.a) (vElem s p f.b) (vElem s p f.c) (sReg s p f.a).toNat (sReg s p f.b).toNat f.imm i)
    ∧ (∀ (p : Fin 64) (s : State),
    let f := vpF (wordOf s p 2)
    let g := gReg s p f.g
    g ≠ 0 →
    ∀ c ∈ [((.pierVcmpeq : Fin 64 → Fin 3 → Instr), 0x20, fun (a b : Int) => decide (a = b)),
        (.pierVcmplt, 0x21, fun a b => decide (a < b)), (.pierVcmple, 0x22, fun a b => decide (a ≤ b))],
      VpIssues s p c.2.1 →
      Completes (c.1 p 0) s fun t => ∃ v, Pends s t p 2 2 [(kG (s.pier p.val).bank f.d, .put g v, 0)]
        ∧ ∀ e < 32, v.testBit e = c.2.2 (vLane s p f.a (2 * e)) (vLane s p f.b (2 * e)))

/-- R139, R154, R161, R193, R194: a store to XM, YM or the bay schedules its bytes at the effective address, visible 2 or 4 deck cycles later, and
nothing else; it updates the address register. -/
def Obligations.PierStoreSchedulesItsBytes : Prop :=
  ∀ (p : Fin 64) (bus : Fin 2) (s : State), ∀ e ∈ storeRows, LsIssues s p bus e.op e.width →
    let f := lsF (wordOf s p (3 + bus.val))
    let x := s.pier p.val
    let a := effAddr s p bus e.width
    let pl := pierPlace bus.val a e.width true
    let sys := pierSys p.val a
    pl ≠ .bad → pl ≠ .remote → ServesNow s sys e.width →
    let lat := if pl = .bay then 4 else 2
    Completes (e.cmd p bus 0) s fun t =>
      (t.pier p.val).writes = x.writes ++ addrWrites s p bus e.width
      ∧ t.mu.later = s.mu.later
          ++ [⟨s.uptime + s.deckK * lat, 0x2000 + p.val, p.val, 0, .bytes sys (bytesOf e.width (e.data s p f)) false⟩]
      ∧ t.mem = s.mem ∧ t.mu.ecc = s.mu.ecc

namespace Sys2Proof.Claims
open Sys2Proof.Machine

/-- The operations of slots VP and SC. -/
def slotCommands : List (Fin 64 → Fin 3 → Instr) :=
  scalarRows.map (·.cmd) ++ compareRows.map (·.cmd) ++ permuteRows.map (·.cmd)
    ++ [.pierAdds, .pierSubs, .pierGand, .pierGor, .pierGnot, .pierMovr, .pierBr, .pierBrl, .pierBrr, .pierRte, .pierEnd, .pierRep]
    ++ [.pierVseqi, .pierVseq, .pierVseqa, .pierVext, .pierVmax, .pierVmin, .pierVbexp, .pierVbexpw, .pierVcmpeq, .pierVcmplt, .pierVcmple]

/-- The operations of slots VA0 and VA1. -/
def vaCommands : List (Fin 64 → Fin 2 → Fin 3 → Instr) :=
  vectorRows.map (·.cmd) ++ bitwiseRows.map (·.cmd)
    ++ [.pierVbfly, .pierVbflyj, .pierVcmac, .pierVcmacn, .pierVcmacz, .pierVrmac, .pierVrmacz, .pierVrdo, .pierVwset, .pierVwadd, .pierVwsub]

/-- A compute operation of pier `p` touches the pier, without its registers and its pc, and the counters' samples, and nothing else. -/
def ComputeFrame (s : State) (p : Fin 64) (i : Instr) : Prop :=
  exec i s = .next s ∨ ∃ x l, exec i s = .next { s with piers := Sparse.set pier0 s.piers p.val x, samples := l ++ s.samples }
    ∧ x.regs = (s.pier p.val).regs ∧ x.pc = (s.pier p.val).pc ∧ x.running = (s.pier p.val).running

end Sys2Proof.Claims

/-- R139, R154, R161, R193, R194: a load from XM, YM, the PSTAT line or the bay gives the bytes at the effective address to its register, 4 or 8 deck
cycles later, and updates the address register; AUPD only updates. Memory keeps every byte. R154: a load or store outside the map, on the wrong bus or
against its direction raises ADDR; a misaligned one raises ALIGN. Neither takes place. -/
def Obligations.PierLoadsReadMemoryOrFault : Prop :=
  (∀ (p : Fin 64) (bus : Fin 2) (s : State),
    let f := lsF (wordOf s p (3 + bus.val))
    let x := s.pier p.val
    (∀ e ∈ loadRows, LsIssues s p bus e.op e.width →
      let a := effAddr s p bus e.width
      let pl := pierPlace bus.val a e.width false
      let sys := pierSys p.val a
      pl ≠ .bad → pl ≠ .remote → ServesNow s sys e.width →
      let d := e.dest x.bank f (s.load sys e.width)
      let lat := if pl = .bay then 8 else 4
      Completes (e.cmd p bus 0) s fun t =>
        (t.pier p.val).writes = x.writes ++ [⟨s.uptime + s.deckK * lat, s.uptime, 3 + bus.val, d.1, d.2, 0⟩] ++ addrWrites s p bus e.width
        ∧ t.mem = s.mem ∧ t.mu.ecc = s.mu.ecc)
    ∧ (LsIssues s p bus 0x10 128 →
      Completes (.pierAupd p bus 0) s fun t =>
        (t.pier p.val).writes = x.writes ++ addrWrites s p bus 128 ∧ t.mem = s.mem ∧ t.mu = s.mu))
    ∧ (∀ (p : Fin 64) (bus : Fin 2) (s : State), s.canonical = true →
    ∀ r ∈ (loadRows.map fun e => (e.cmd, e.op, e.width, false)) ++ (storeRows.map fun e => (e.cmd, e.op, e.width, true)),
      s.pierReady p.val (3 + bus.val) r.2.1 = true → (gReg s p (lsF (wordOf s p (3 + bus.val))).g).testBit 0 = true →
      let a := effAddr s p bus r.2.2.1
      let pl := pierPlace bus.val a r.2.2.1 r.2.2.2
      let x := s.pier p.val
      (pl = .bad ∨ a % r.2.2.1 ≠ 0) →
      Completes (r.1 p bus 0) s fun t => t.mem = s.mem ∧ t.mu = s.mu ∧ (t.pier p.val).writes = x.writes
        ∧ (t.pier p.val).traps = x.traps ++ [⟨s.uptime, if pl = .bad then Ev.ADDR else Ev.ALIGN, x.pc⟩])

/-- R138, R140: a due write of a V, W, S, X, Y, N or M register is visible from its cycle on; a due accumulation adds lane by lane, saturating, under
its mask. G0 always reads all ones (R135). R149: two bundles issue after a control transfer, at the next two addresses, before it takes effect; a
branch then goes on at its target, RTE at the saved address in the main bank, and END ends the program. -/
def Obligations.WritesSettleAndTransfersHaveDelaySlots : Prop :=
  (∀ (x : Pier) (now : Nat) (w : PierWr), x.writes = [w] → w.due ≤ now →
    let y := x.settle now
    y.writes = []
    ∧ (∀ k v, w.key = k → (k < 192 ∨ k = kG 0 1 ∨ k = kG 1 1) → w.val = .put (2 ^ keyWidth k - 1) v → w.sat = 0 →
        y.reg k = v % 2 ^ keyWidth k)
    ∧ (∀ r g m add, r < 8 → w.key = kW r → w.val = .mac m add → Covers 64 g m → add.length = 64 →
        ∀ l < 64, toInt 32 (y.reg (kW r) >>> (32 * l))
          = if g.testBit (l / 2) then satN 32 (toInt 32 (x.reg (kW r) >>> (32 * l)) + add.getD l 0) else toInt 32 (x.reg (kW r) >>> (32 * l)))
    ∧ y.reg (kG 0 0) = 0xFFFFFFFF ∧ y.reg (kG 1 0) = 0xFFFFFFFF)
    ∧ (∀ (x : Pier) (k b1 b2 b3 : Nat), x.turn = true →
    ∃ y z, x.advance k b1 = some y ∧ y.pc = x.pc + 32 ∧ y.at_ = x.at_ + k
      ∧ y.advance k b2 = some z ∧ z.pc = x.pc + 64 ∧ z.at_ = x.at_ + 2 * k
      ∧ (∀ t, x.jump = .to t → ∃ u, z.advance k b3 = some u ∧ u.pc = t ∧ u.at_ = x.at_ + 3 * k)
      ∧ (x.jump = .stay → ∃ u, z.advance k b3 = some u ∧ u.pc = x.pc + 96)
      ∧ (x.jump = .rte → ∃ u, z.advance k b3 = some u ∧ u.pc = x.evret ∧ u.shadow = false)
      ∧ (x.jump = .fin → z.advance k b3 = none))

/-- R163–R165: EV0 is raised by the pier's deck signal line and EV1 at its span offset; PIER_EVENT_TAKE enters the handler in the shadow bank, EV0
first, and saves the address of the bundle that did not issue. -/
def Obligations.PierEventsAreRaisedAndTaken : Prop :=
  ∀ (p : Fin 64) (s : State), s.canonical = true →
    let x := s.pier p.val
    x.running = true →
    ((x.reg (kC 2)).testBit 0 = true → x.ev0 = none →
      (∃ o ∈ s.py.trigOut, o.action = 8 ∧ o.due = s.uptime ∧ o.arg % 256 = x.reg (kC 3) % 256) →
      Completes (.ev0 p) s fun t => (t.pier p.val).ev0 = some s.uptime ∧ (t.pier p.val).pc = x.pc)
    ∧ ((x.reg (kC 2)).testBit 1 = true → x.ev1 = none → x.arm1 = true → x.reg (kC 4) < spanCy →
        x.reg (kC 4) ≤ s.spanOfs → s.spanOfs < x.reg (kC 4) + s.deckK →
        Completes (.ev1 p) s fun t => (t.pier p.val).ev1 = some s.uptime ∧ (t.pier p.val).arm1 = false)
    ∧ (∀ c, x.ev0 = some c → c < s.uptime → s.pierIssues p.val = true → x.shadow = false → x.delay = 0 → x.issued = [] →
        Completes (.pierEventTake p) s fun t => (t.pier p.val).shadow = true ∧ (t.pier p.val).evret = x.pc
          ∧ (t.pier p.val).pc = x.reg (kC 5) ∧ (t.pier p.val).ev0 = none ∧ (t.pier p.val).ev1 = x.ev1
          ∧ (t.pier p.val).at_ = x.at_ + 3 * s.deckK)
    ∧ (∀ c, x.ev0 = none → x.ev1 = some c → c < s.uptime → s.pierIssues p.val = true → x.shadow = false → x.delay = 0 → x.issued = [] →
        Completes (.pierEventTake p) s fun t => (t.pier p.val).shadow = true ∧ (t.pier p.val).evret = x.pc
          ∧ (t.pier p.val).pc = x.reg (kC 6) ∧ (t.pier p.val).ev1 = none)

namespace Sys2Proof.Claims
open Sys2Proof.Machine

/-! ## Accesses and the deck -/

/-- The state in which a register command acts once its access is admitted (R694): the answer is 0 and the domain's idle timer restarts. -/
def begun (s : State) (p : Nat) : State :=
  match pageOf p with
  | some (k, i) => (s.answer 0 0).touch (pageDomain k i)
  | none => s

/-- An entry of the table in force, or of a replay, is due now and meets nothing that suppresses it (R101, R119, R131). -/
structure SlotDue (s : State) (o r i : Nat) (e : SlotEntry) (ctx : Nat) : Prop where
  due : s.entryDue r i = some (e, ctx)
  op : e.op = o
  fenced : s.fenced e.unit = false
  free : s.occupied e.unit = false
  on : o = 10 ∨ s.domOn (unitDomain e.unit) = true

/-- The operation of an entry is in flight: its unit, operation, argument, CTX, issue, and how long it occupies its unit and takes. -/
def InFlight (s t : State) (e : SlotEntry) (op ctx : Nat) (times : Option (Nat × Nat)) : Prop :=
  ∃ j ∈ t.dk.jobs, j.unit = e.unit ∧ j.op = op ∧ j.arg = e.arg ∧ j.ctx = ctx ∧ j.issue = s.uptime
    ∧ ∀ x, times = some x → j.free = s.uptime + x.1 ∧ j.fin = s.uptime + x.2

end Sys2Proof.Claims

/-- R121, R122, R126, R132: what an accepted deck command leaves: LOAD copies, ARM holds the plan and its instant and sets the grid, DISARM drops it,
STOP keeps its instant, UNLOAD empties its slot. R122: ARM is refused with the event of the first row of its table that applies: DK_RESULT shows it,
and no plan is armed by it. -/
def Obligations.DeckCommandsTakeEffectOrAreRefused : Prop :=
  (∀ (w : Who) (n : Fin 2) (s : State), s.canonical = true → s.reaches w pgDeck 0x104 true = true → s.flag pgDeck Rg.DK_STAT_PEND = false →
    let at_ := s.get64 pgDeck Rg.DK_ARM_LO
    let held := s.dk.run = some n.val ∨ s.dk.isArmedSlot n.val = true
    (∀ p, ¬ held → checkImage (begun s pgDeck) (s.get64 pgDeck Rg.DK_IMG_LO) = .good p →
      Completes (.load w n) s fun t => t.dk.loading = some (n.val, p) ∧ t.get pgDeck Rg.DK_STAT_PEND = 1)
    ∧ (armRefusal (begun s pgDeck) n.val = none →
      Completes (.arm w n) s fun t => t.dk.armed = some ⟨n.val, at_, s.get pgDeck Rg.DK_ARM_CFG_VAR0, s.get pgDeck Rg.DK_ARM_CFG_VAR1,
          s.get pgDeck Rg.DK_ARM_CFG_PHASE, false⟩
        ∧ t.get pgDeck Rg.DK_STAT_GRID_V = 1 ∧ (s.flag pgDeck Rg.DK_STAT_GRID_V = false → t.get64 pgDeck Rg.DK_ORG_LO = at_)
        ∧ t.get pgDeck Rg.DK_RESULT_OK = 1)
    ∧ (∀ a, s.dk.armed = some a → a.committed = false → s.now + spanCy < a.s →
      Completes (.disarm w) s fun t => t.dk.armed = none ∧ t.get pgDeck Rg.DK_RESULT_OK = 1)
    ∧ (s.dk.run.isSome = true → (∀ a, s.dk.armed = some a → a.s ≠ at_) → s.get64 pgDeck Rg.DK_ORG_LO ≤ at_ →
        (at_ - s.get64 pgDeck Rg.DK_ORG_LO) % spanCy = 0 → s.now + spanCy < at_ →
      Completes (.stop w) s fun t => t.dk.stopAt = some at_ ∧ t.get pgDeck Rg.DK_RESULT_OK = 1)
    ∧ (¬ held → Completes (.unload w n) s fun t => t.dk.slot n.val = none ∧ t.get pgDeck Rg.DK_RESULT_OK = 1))
    ∧ (∀ (w : Who) (n : Fin 2) (s : State), s.canonical = true → s.reaches w pgDeck 0x104 true = true → s.flag pgDeck Rg.DK_STAT_PEND = false →
    ∀ ev a d, armRefusal (begun s pgDeck) n.val = some (ev, a, d) →
      Completes (.arm w n) s fun t => t.dk.armed = s.dk.armed ∧ t.dk.slot0 = s.dk.slot0 ∧ t.dk.slot1 = s.dk.slot1
        ∧ t.get pgDeck Rg.DK_RESULT_OK = 0 ∧ t.get pgDeck Rg.DK_RESULT_EVENT = ev % 65536 ∧ t.mem = s.mem ∧ t.piers = s.piers)

/-- R115, R117–R119, R123, R126: at its instants the deck latches, commits, starts and stops plans. R118, R121, R128–R130: selecting a variant, ending
a LOAD, the lease, and the FAILED set. -/
def Obligations.DeckBoundariesAndUpkeep : Prop :=
  (∀ (s : State), s.canonical = true →
    let a := s.spanStart + spanCy
    (∀ p, s.plan = some p → a ≤ s.now → s.dk.endsAt a = false → s.dk.startsAt a = false →
      Completes .variantLatch s fun t => t.dk.cur = s.dk.next ∧ t.get64 pgDeck Rg.DK_SPAN_LO = a % 2 ^ 64
        ∧ t.get pgDeck Rg.DK_POS = posAt s.dk p a % 65536 ∧ t.dk.run = s.dk.run)
    ∧ (∀ x b, s.dk.armed = some x → s.dk.slot x.slot = some b → x.committed = false → x.s ≤ s.now + spanCy →
        (s.plan = none ∨ ∃ p v, s.plan = some p ∧ a = x.s ∧ p.variants[s.dk.cur.var]? = some v ∧ v.drained = true) →
      Completes .swapCommit s fun t => t.dk.armed = some { x with committed := true } ∧ t.dk.run = s.dk.run)
    ∧ (∀ x p v, s.dk.armed = some x → x.committed = false → x.s ≤ s.now + spanCy → s.plan = some p → a = x.s →
        p.variants[s.dk.cur.var]? = some v → v.drained = false →
      Completes .swapCommit s fun t => t.dk.armed = none ∧ t.dk.slot x.slot = s.dk.slot x.slot)
    ∧ (∀ x b, s.dk.armed = some x → s.dk.slot x.slot = some b → x.committed = true → x.s ≤ s.now →
      Completes .planStart s fun t => t.dk.run = some x.slot ∧ t.dk.armed = none ∧ t.dk.cur = s.dk.next
        ∧ t.get64 pgDeck Rg.DK_SPAN_LO = x.s % 2 ^ 64)
    ∧ (∀ n, s.dk.run = some n → s.dk.endsAt a = true → s.dk.startsAt a = false → a ≤ s.now →
      Completes .planStop s fun t => t.dk.run = none ∧ t.dk.slot n = none ∧ t.dk.cur = InForce.zero
        ∧ (s.dk.armed = none → t.get pgDeck Rg.DK_STAT_GRID_V = 0)))
    ∧ (∀ (w : Who) (value : Nat) (s : State), s.canonical = true → value < 2 ^ 32 →
    (s.reaches w pgVar 0x100 true = true →
      Completes (.variantSelect w value) s fun t => t.dk.selected = true ∧ t.get pgVar Rg.DV_SEL_VAR = bits value Rg.DV_SEL_VAR.hi Rg.DV_SEL_VAR.lo)
    ∧ (∀ n p, s.dk.loading = some (n, p) →
      Completes .planLoadDone s fun t => t.dk.loading = none ∧ t.dk.slot n = some p ∧ t.get pgDeck Rg.DK_RESULT_OK = 1)
    ∧ (s.reaches w pgDeck 0x150 true = true → value % 2 = 1 → s.dk.run.isSome = true →
      Completes (.leaseRenew w value) s fun t => t.get64 pgDeck Rg.DK_LEASE_END_LO = (s.spanStart + 16 * 983040) % 2 ^ 64
        ∧ t.get pgDeck Rg.DK_LEASE_STAT = 0)
    ∧ (s.dk.run.isSome = true → s.get64 pgDeck Rg.DK_LEASE_END_LO ≤ s.now → s.flag pgDeck Rg.DK_LEASE_STAT = false →
      Completes .leaseLapse s fun t => t.get pgDeck Rg.DK_LEASE_STAT = 1 ∧ t.get pgDeck Rg.PG_ERR_CAP0_VALID = 1 ∧ t.dk = s.dk)
    ∧ (∀ n, s.reaches w pgDeck 0x168 true = true → (s.failedUnits.contains (value % 65536)) = false → s.dk.overflow.contains (value % 65536) = false →
        (∀ m < n, s.flag pgDeck Rg.DK_FAIL_VALID m = true) → n < 8 → s.flag pgDeck Rg.DK_FAIL_VALID n = false →
      Completes (.failSet w value) s fun t => t.get pgDeck Rg.DK_FAIL_VALID n = 1 ∧ t.get pgDeck Rg.DK_FAIL_UNIT n = value % 65536)
    ∧ (∀ n : Fin 8, s.reaches w pgDeck (0x180 + 4 * n.val) true = true → value.testBit 31 = true → s.flag pgDeck Rg.DK_FAIL_VALID n.val = true →
      Completes (.failRemove w n value) s fun t => n.val ∈ t.dk.failDrop)
    ∧ (∀ (u : Fin 65536) j, s.jobOf u.val = some j → j.replay = false → j.repl = false →
      Completes (.unitFault u) s fun t => t.dk.faults.head? = some (j.unit, s.spanNo s.spanStart))
    ∧ (∀ (win : Fin 8) r, r ∈ s.dk.replays → r.win = win.val → r.start ≤ s.spanOfs →
      Completes (.replayRun win) s fun t => { r with begun := true } ∈ t.dk.replays))

namespace Sys2Proof.Claims
open Sys2Proof.Machine

/-! ## Registers -/

/-- PG_IRQ shows source `b` of page `p` as pending (R28). -/
def irqSet (s : State) (p b : Nat) : Bool := (s.reg p 0x018).getLsbD b

/-- Page `p` holds a first-error capture of an event, and its PG_IRQ source 31 is pending; a capture that was held before stays (R30). -/
def records (s t : State) (p code : Nat) : Bool :=
  t.flag p Rg.PG_ERR_CAP0_VALID && irqSet t p 31
    && (s.flag p Rg.PG_ERR_CAP0_VALID || t.get p Rg.PG_ERR_CAP0_EVENT == code % 65536)

/-- The pages whose registers change with a write and with nothing else: no command, no port and no perturbation channel follows it. -/
def plainPage (k : PageKind) (off : Nat) : Bool :=
  !(k == .cp || k == .lane || k == .cluster || k == .eventHub || k == .parapet || k == .debug || k == .trestle3 || k == .keystone)
    && decide (off < 0xF00) && !([0x008, 0x018, 0x01C, 0x020].contains off)

/-- What a write of `v` leaves of a field of code `a` that held `old` (R8, R9, R27, R33). -/
def afterCode (a : Acc) (en locked : Bool) (old v w : Nat) : Nat :=
  match a with
  | .ro | .rsv | .wo => old
  | .rw => v
  | .w1c => old &&& (2 ^ w - 1 - v)
  | .w1s => old ||| v
  | .rwl => if locked then old else v
  | .rwd => if en || locked then old else v

end Sys2Proof.Claims

/-- The model's own rule (log entry 1): a step runs the command at the front of the queue with the queue's rest; on an empty queue one cy passes. -/
def Obligations.StepRunsFrontCommand : Prop :=
  (∀ (c : Instr) (rest : List Instr) (s : State), step { s with pending := c :: rest } = exec c { s with pending := rest })
    ∧ ∀ s : State, s.pending = [] → step s = .next s.tick

/-- The model's own claim: no command faults and none is refused: the spec gives every one of them an effect. -/
def Obligations.EveryCommandEndsInANextState : Prop :=
  ∀ (c : Instr) (s : State), ∃ t, exec c s = .next t

/-- The reset state is in canonical form and its queue is empty. -/
def Obligations.ResetIsCanonical : Prop :=
  State.reset.canonical = true ∧ State.reset.pending = [] ∧ State.reset.uptime = 0

/-- Every step keeps the canonical form of registers, latches, memory and piers. -/
def Obligations.EveryStepKeepsCanonical : Prop :=
  ∀ s t : State, s.canonical = true → step s = .next t → t.canonical = true

/-- R138: an operation of the vector, permute and scalar slots changes no register, no byte of memory and no other unit when it issues: its results
are pending writes of its own pier. Every command of a pier's vector, permute and scalar slots keeps the canonical form. -/
def Obligations.PierComputeKeepsTheRest : Prop :=
  (∀ (p : Fin 64) (chk : Fin 3) (s : State), s.canonical = true →
    (∀ c ∈ slotCommands, ComputeFrame s p (c p chk)) ∧ ∀ (va : Fin 2), ∀ c ∈ vaCommands, ComputeFrame s p (c p va chk))
    ∧ (∀ (p : Fin 64) (chk : Fin 3) (va : Fin 2) (s t : State), s.canonical = true →
    (∀ c ∈ slotCommands, exec (c p chk) s = .next t → t.canonical = true)
    ∧ ∀ c ∈ vaCommands, exec (c p va chk) s = .next t → t.canonical = true)

/-- R8, R9, R27, R33, R34: a write of a register with no step of its own sets each field by its access code, changes no other register and no block; a
frozen field that it would change records FROZEN_WRITE. R11: a read of a _LO register answers its value and latches the upper half, which a read of
_HI answers whatever was written between. -/
def Obligations.RegisterAccessFollowsTheCodes : Prop :=
  (∀ (w : Who) (p : Fin 4096) (k : PageKind) (inst off : Nat) (d : RegDef) (v : BitVec 32) (s : State), s.canonical = true →
    checkPage s w p.val off 4 true false = .reg p.val k inst off d → off % 4 = 0 → off < 4096 →
    plainPage k off = true → ownWrite w p.val k inst off v.toNat = none → d.pair = false → isHiHalf k inst off = false → d ∈ regDefs k inst →
    let en := s.enabled p.val
    let locked := s.locked p.val
    let frozen := (writeFields en locked d.flds (s.reg p.val off).toNat v.toNat).2
    Completes (.registerWrite w (BitVec.ofNat 48 (pagesBase + p.val * 4096 + off)) 4 (v.zeroExtend 64)) s fun t =>
      (∀ f ∈ d.flds, bits (t.reg p.val off).toNat f.hi f.lo
        = afterCode f.acc en locked (bits (s.reg p.val off).toNat f.hi f.lo) (bits v.toNat f.hi f.lo) (f.hi + 1 - f.lo))
      ∧ KeepsRegsBut s t (fun pg o => (pg = p.val ∧ o / 4 = off / 4) ∨ (frozen = true ∧ pg = pgSys)) ∧ KeepsBlocks s t
      ∧ (frozen = true → records s t pgSys Ev.FROZEN_WRITE = true) ∧ t.rsp = ⟨0, 0⟩)
    ∧ (∀ (w : Who) (p : Fin 4096) (k : PageKind) (inst off : Nat) (d : RegDef) (s : State), s.canonical = true →
    checkPage s w p.val off 4 false false = .reg p.val k inst off d → off % 4 = 0 → off + 4 < 4096 →
    0x100 ≤ off → d.pair = true → ownRead w k inst off = none → k ≠ .keeper → k ≠ .lane → k ≠ .bay →
    Completes (.loReadLatch w (BitVec.ofNat 48 (pagesBase + p.val * 4096 + off)) 4) s fun t =>
      t.rsp = ⟨0, (s.reg p.val off).toNat⟩ ∧ t.regs = s.regs
      ∧ (Sparse.get resetVal t.hiLatch (regKey p.val (off + 4))) = s.reg p.val (off + 4))

/-- R27–R30, R33: ENABLE and OUT_EN of a page; forcing interrupts in DIAGNOSTIC only; clearing the capture; locking a page for good. R41, R44, R694: a
register access that fails a check changes nothing but the SYS page's record of it, and is answered with its status; a host write is discarded without
an answer. -/
def Obligations.CommonPageCommandsAndRefusals : Prop :=
  (∀ (w : Who) (p : Fin 4096) (value : BitVec 32) (key : BitVec 16) (s : State), s.canonical = true →
    (∀ k inst, pageOf p.val = some (k, inst) → s.reaches w p.val 0x008 true = true → enWritable k = true →
        !([PageKind.lane, .em, .lk, .cp, .pool].contains k) → s.locked p.val = false →
      Completes (.pgCtrlWrite w p value) s fun t => t.enabled p.val = value.getLsbD 0 ∧ t.mem = s.mem ∧ t.dk = s.dk)
    ∧ (s.reaches w p.val 0x01C true = true →
      Completes (.pgIrqForceWrite w p value) s fun t =>
        (s.mode = modeDiag → t.reg p.val 0x018 = s.reg p.val 0x018 ||| value)
        ∧ (s.mode ≠ modeDiag → KeepsRegsBut s t (fun pg _ => pg = pgSys) ∧ KeepsBlocks s t ∧ records s t pgSys Ev.FORCE_DENIED = true))
    ∧ (s.reaches w p.val 0x020 true = true →
      Completes (.errCapClear w p) s fun t => t.reg p.val 0x020 = 0 ∧ t.reg p.val 0x024 = 0 ∧ t.reg p.val 0x028 = 0 ∧ t.reg p.val 0x02C = 0
        ∧ KeepsRegsBut s t (fun pg o => pg = p.val ∧ 0x020 ≤ o ∧ o < 0x030) ∧ KeepsBlocks s t)
    ∧ (s.reaches w p.val 0xFF0 true = true →
      Completes (.pageLock w p key) s fun t => (key = 0xA5C3 → t.locked p.val = true)
        ∧ (key ≠ 0xA5C3 → t.locked p.val = s.locked p.val ∧ records s t pgSys Ev.LOCK_KEY = true)))
    ∧ (∀ (w : Who) (addr : BitVec 48) (width : Fin 17) (value : BitVec 64) (st ev : Nat) (s : State), s.canonical = true →
    ∀ p off, place addr.toNat = .pages p off →
    (checkPage s w p off width.val true false = .denied st ev →
      Completes (.registerWrite w addr width value) s fun t => t.rsp = ⟨if w.source = 233 then 0 else st, 0⟩
        ∧ KeepsRegsBut s t (fun pg _ => pg = pgSys) ∧ KeepsBlocks s t ∧ t.pw = s.pw)
    ∧ (checkPage s w p off width.val false false = .denied st ev →
      Completes (.loReadLatch w addr width) s fun t => t.rsp = ⟨st, 0⟩
        ∧ KeepsRegsBut s t (fun pg _ => pg = pgSys) ∧ KeepsBlocks s t ∧ t.hiLatch = s.hiLatch))

/-- R50, R54, R55, R81: reading PY_AIR_LO latches the air count, PTP time and every timebase; a coarse step moves the air count and disarms every
trigger, or is denied; a ToD label is committed to the next edge. R65, R79, R80, R83: an accepted marking edge is captured and measured, one within
half a second of the last is not; missing and stuck PPS_IN; the pulses of PPS_OUT and SYNC_OUT. -/
def Obligations.AirTimeAndPulses : Prop :=
  (∀ (w : Who) (value n : Nat) (s : State), s.canonical = true → Sparse.wf (fun _ => Trig.zero) s.py.trigs = true →
    let ofs := value % 2 ^ 32 * 2 ^ 32 + (Sparse.get resetVal s.loStage (regKey pgPylon 0x138)).toNat
    (s.reaches w pgPylon 0x108 false = true →
      Completes (.pyAirRead w) s fun t => t.rsp = ⟨0, s.now % 2 ^ 32⟩ ∧ t.get64 pgPylon Rg.PY_AIR_LO = s.now
        ∧ t.get64 pgPylon Rg.PY_SEC_LO = 315964819 + s.now / secondCy ∧ t.get pgPylon Rg.PY_NS * 2 ^ 32 + t.get pgPylon Rg.PY_FRAC = ptpNs32 s.now
        ∧ (Sparse.get resetVal t.hiLatch (regKey pgPylon 0x10C)).toNat = s.now / 2 ^ 32
        ∧ (n < 16 → t.get pgPylon Rg.TB_NOW n = tbNow (s.get pgPylon Rg.TB_CFG_KIND n) (s.get pgPylon Rg.TB_CFG_MU n)
            (s.get64 pgPylon Rg.TB_ORG_LO n) s.now % 2 ^ 32))
    ∧ (s.reaches w pgPylon 0x13C true = true →
      Completes (.coarseStep w value) s fun t =>
        (s.get pgPylon Rg.PY_STATE_STATE ≤ 1 → s.planBusy = false →
          t.air = s.air + BitVec.ofNat 64 ofs ∧ t.py.stepped = true ∧ (t.trig n).armed = false ∧ records s t pgPylon Ev.TIME_STEP = true)
        ∧ (2 ≤ s.get pgPylon Rg.PY_STATE_STATE ∨ s.planBusy = true →
          t.air = s.air ∧ t.py = s.py ∧ records s t pgPylon Ev.COARSE_DENIED = true))
    ∧ (s.reaches w pgPylon 0x1D4 true = true →
      Completes (.todLabelWrite w value) s fun t => t.flag pgPylon Rg.PPS_STAT_TOD_PEND = true
        ∧ t.get64 pgPylon Rg.TOD_LO = value % 2 ^ 16 * 2 ^ 32 + (Sparse.get resetVal s.loStage (regKey pgPylon 0x1D0)).toNat))
    ∧ (∀ (demand : Int) (out : Fin 4) (pl : SyncPulse) (s : State), s.canonical = true → s.domOn 1 = true →
    let cap : Int := (s.now : Int) - s.get pgPylon Rg.PPS_CFG_FILT - toInt 32 (s.get pgPylon Rg.PPS_DELAY)
    let ph := fromSecond cap * 256
    let early := s.py.ppsEdge ≠ 0 ∧ s.uptime + 1 - s.py.ppsEdge < 983040000
    Completes (.ppsInEdge demand) s (fun t => t.get pgPylon Rg.PPS_STAT_LEVEL = 1 - s.get pgPylon Rg.PPS_CFG_POL
        ∧ t.flag pgPylon Rg.PPS_STAT_STUCK = false
        ∧ (early → t.py.ppsEdge = s.py.ppsEdge ∧ t.air = s.air ∧ records s t pgPylon Ev.PPS_FAST = true)
        ∧ (¬ early → t.py.ppsEdge = s.uptime + 1 ∧ t.py.ppsMisses = 0 ∧ t.get64 pgPylon Rg.PPS_CAP_LO = ofInt 64 cap)
        ∧ (¬ early → s.flag pgPylon Rg.PY_STATE_TSEL_V = true → (s.slot (s.get pgPylon Rg.PY_STATE_TSEL)).kind = 2 →
            s.flag pgPylon Rg.PPS_STAT_TOD_PEND = false →
            (stepAllowed s ph = false → t.air = s.air ∧ t.get pgPylon Rg.PY_PHASE = ofInt 32 ph)
            ∧ (stepAllowed s ph = true → t.air = s.air + BitVec.ofInt 64 (-(roundEven ph 256)))))
    ∧ Completes .ppsAcceptedChange s (fun t => t.get pgPylon Rg.PPS_STAT_LEVEL = s.get pgPylon Rg.PPS_CFG_POL
        ∧ t.flag pgPylon Rg.PPS_STAT_STUCK = false ∧ t.py.ppsChange = s.uptime)
    ∧ (s.py.ppsEdge ≠ 0 → 2949120000 + s.py.ppsMisses * secondCy ≤ s.uptime + 1 - s.py.ppsEdge →
      Completes .ppsMiss s fun t => t.py.ppsMisses = s.py.ppsMisses + 1 ∧ records s t pgPylon Ev.PPS_MISS = true)
    ∧ (3932160000 ≤ s.uptime - s.py.ppsChange → s.flag pgPylon Rg.PPS_STAT_STUCK = false →
      Completes .ppsStuck s fun t => t.flag pgPylon Rg.PPS_STAT_STUCK = true ∧ records s t pgPylon Ev.PPS_STUCK = true)
    ∧ (s.airValid = true → (s.now + s.get pgPylon Rg.OUT_ADV0_PPSO_ADV) % secondCy = 0 → s.flag pgPylon Rg.PPSO_CFG = true →
      Completes .ppsOutPulse s fun t => t.py.ppsOutEnd = s.uptime + s.get pgPylon Rg.PPSO_CFG * 1024 + 1)
    ∧ (s.py.ppsOutEnd ≤ s.uptime + 1 → Completes .ppsOutEnd s fun t => t.py.ppsOutEnd = 0 ∧ t.regs = s.regs)
    ∧ Completes (.syncOutPulseEnd out) s (fun t => pl ∈ t.py.pulses ↔ pl ∈ s.py.pulses ∧ ¬ (pl.out = out.val ∧ pl.fin ≤ s.uptime)))

/-- R69–R72: a reference slot enters QUALIFYING with its latched KIND and SRC, leaves to OFF, is disqualified at a loss of signal, commits PTP
offsets, and qualifies at a whole second. R73–R75, R77: a drift window's result is posted 1 ms after its end, and a drifting oscillator loses its
model; learning updates the model at the end of a 256 s window. -/
def Obligations.ReferencesAndHoldover : Prop :=
  (∀ (w : Who) (n : Fin 8) (value : Nat) (demand : Int) (y1 y16 y256 : List Int) (die : BitVec 16) (back : BitVec 8) (s : State),
    s.canonical = true → Sparse.wf (fun _ => RefSlot.zero) s.py.slots = true →
    let kind := (s.slot n.val).kind
    let ofs := 0x100 + 0x20 * n.val
    (s.reaches w pgRef ofs true = true → s.flag pgRef Rg.REF_CFG_EN n.val = false →
      Completes (.refSlotEnable w n value) s fun t => t.get pgRef Rg.REF_STAT_STATE n.val = 1
        ∧ t.slot n.val = ⟨bits value 3 1, bits value 14 8, false, s.now, 0, s.uptime⟩ ∧ t.flag pgRef Rg.REF_CFG_EN n.val = true)
    ∧ (s.reaches w pgRef ofs true = true →
      Completes (.refSlotDisable w n value) s fun t => t.get pgRef Rg.REF_STAT_STATE n.val = 0 ∧ t.flag pgRef Rg.REF_CFG_EN n.val = false)
    ∧ (s.domOn 1 = true → lossHolds s n.val = true → 1 ≤ slotState s n.val → slotState s n.val ≤ 3 →
      Completes (.refLossOfSignal n) s fun t => t.get pgRef Rg.REF_STAT_STATE n.val = 4
        ∧ t.get pgRef Rg.REF_STAT_CAUSE n.val = (if kind = 2 then 3 else if kind = 3 then 2 else 1)
        ∧ t.get pgRef Rg.REF_STAT_WTR_LEFT n.val = s.get pgRef Rg.QUAL_TIME_WTR
        ∧ (s.flag pgRef Rg.REF_STAT_SEL_T n.val = true → s.flag pgPylon Rg.PY_STATE_TSEL_V = true → s.get pgPylon Rg.PY_STATE_STATE = 2 →
            t.get pgPylon Rg.PY_STATE_STATE = 3 ∧ t.flag pgPylon Rg.PY_STATE_TSEL_V = false ∧ t.get64 pgPylon Rg.PY_HOLD_AIR_LO = s.now))
    ∧ (s.reaches w pgRef (0x10C + 0x20 * n.val) true = true → s.flag pgRef Rg.REF_CFG_EN n.val = true → kind = 3 →
        (s.now % 2 ^ 32 + 2 ^ 32 - value % 2 ^ 32) % 2 ^ 32 ≤ secondCy → s.flag pgRef Rg.REF_STAT_SEL_T n.val = false →
      Completes (.refOfsCommit w n value demand) s fun t => (t.slot n.val).commit = s.uptime
        ∧ t.get pgRef Rg.REF_OFS_AIR n.val = value % 2 ^ 32 ∧ t.air = s.air)
    ∧ (s.domOn 1 = true → s.now % secondCy = 0 → (∀ y ∈ y1, -(2 ^ 31) ≤ y ∧ y < 2 ^ 31) →
      Completes (.refSecondBoundary y1 y16 y256 die back) s fun t => t.get pgPylon Rg.HM_TDIE = die.toNat
        ∧ t.get pgRef Rg.REF_Y1 n.val = ofInt 32 (y1.getD n.val 0) ∧ t.get pgRef Rg.LO_Y1 = ofInt 32 (y1.getD 8 0)
        ∧ (slotState s n.val = 1 → 1 ≤ windowsSince (s.slot n.val).from0 s.now →
            s.get pgRef Rg.QUAL_TIME_QUAL ≤ windowsSince (s.slot n.val).from0 s.now →
            (y1.getD n.val 0 - y1.getD 8 0).natAbs ≤ s.get pgRef Rg.QUAL_TH * 1000 → slotState t n.val = 2 ∨ slotState t n.val = 3)
        ∧ (slotState s n.val = 1 → 1 ≤ windowsSince (s.slot n.val).from0 s.now →
            s.get pgRef Rg.QUAL_TH * 1000 < (y1.getD n.val 0 - y1.getD 8 0).natAbs →
            slotState t n.val = 4 ∧ t.get pgRef Rg.REF_STAT_CAUSE n.val = 5)))
    ∧ (∀ (offset : Int) (s : State), s.canonical = true → s.domOn 1 = true →
    let w := s.now - 1966080
    let r := driftEval (driftMembers s w secondCy) (fun i => if i = 8 then toInt 32 (s.get pgRef Rg.LO_Y1) else toInt 32 (s.get pgRef Rg.REF_Y1 i))
      (s.get pgRef Rg.DRIFT_TH1)
    (1966080 ≤ s.now → w % secondCy = 0 →
      Completes .driftResultPost s fun t => t.get pgRef Rg.DRIFT_W1_DIS = r.2
        ∧ (r.1 = .quiet → t.get pgRef Rg.DRIFT_W1_RESULT = 0)
        ∧ (∀ i < 9, r.1 = .drifter i → t.get pgRef Rg.DRIFT_W1_RESULT = 1 ∧ t.get pgRef Rg.DRIFT_W1_WHO = i
            ∧ (i = 8 → t.get pgPylon Rg.HM_CTL_MODEL_V = 0)))
    ∧ (s.now % (256 * secondCy) = 0 → s.get pgPylon Rg.PY_STATE_STATE = 2 → s.flag pgPylon Rg.HM_CTL_LEARN = true →
      Completes (.holdoverModelUpdate offset) s fun t => t.py.learnS = s.py.learnS + 256
        ∧ t.get pgPylon Rg.HM_CTL_LEARN_H = min 65535 ((s.py.learnS + 256) / 3600)
        ∧ (86400 ≤ s.py.learnS + 256 → t.get pgPylon Rg.HM_CTL_MODEL_V = 1 ∧ t.get pgPylon Rg.PY_STATE_MODEL_V = 1)))

/-- R63–R66, R92: the trigger table: selecting, arming, disarming and firing entries. R85–R88: a pin's accepted level, its capture and GLITCH; STUCK;
the capture queue. -/
def Obligations.TriggersAndPins : Prop :=
  (∀ (w : Who) (value : Nat) (idx : Fin 1024) (s : State), s.canonical = true → Sparse.wf (fun _ => Trig.zero) s.py.trigs = true →
    let i := s.get pgTrig Rg.TRG_IDX
    let tgt := s.get64 pgTrig Rg.TRG_TGT_LO
    let per := s.get pgTrig Rg.TRG_PER
    let act := s.get pgTrig Rg.TRG_CTL_ACTION
    let arg := s.get pgTrig Rg.TRG_ARG
    let cnt := s.get pgTrig Rg.TRG_CTL_COUNT
    let e := s.trig idx.val
    (s.reaches w pgTrig 0x100 true = true →
      Completes (.trgIdxWrite w value) s fun t => t.get pgTrig Rg.TRG_IDX = value % 1024
        ∧ t.get64 pgTrig Rg.TRG_TGT_LO = (s.trig (value % 1024)).tgt % 2 ^ 64 ∧ t.get pgTrig Rg.TRG_PER = (s.trig (value % 1024)).per % 2 ^ 32
        ∧ t.get pgTrig Rg.TRG_ARG = (s.trig (value % 1024)).arg % 2 ^ 32 ∧ t.py = s.py)
    ∧ (s.reaches w pgTrig 0x118 true = true →
      Completes (.trgArm w) s fun t =>
        (i < 768 → armRefused per act arg = false → s.now < tgt → tgt - s.now < 2 ^ 31 →
          t.trig i = ⟨true, false, false, tgt, per, cnt, act, arg, 0, 0⟩)
        ∧ (i < 768 → armRefused per act arg = false → tgt ≤ s.now → s.now - tgt < 2 ^ 31 →
          (t.trig i).fired = 1 ∧ (t.trig i).late = true ∧ (t.trig i).last = s.now ∧ (t.trig i).armed = (per != 0 && cnt != 1)
            ∧ records s t pgTrig Ev.TRIG_LATE = true)
        ∧ (768 ≤ i → t.py = s.py ∧ records s t pgTrig Ev.TRIG_OWNER = true)
        ∧ (i < 768 → trigDue s (s.trig i) = false → armRefused per act arg = true → t.py = s.py ∧ records s t pgTrig Ev.TRIG_RANGE = true))
    ∧ (s.reaches w pgTrig 0x118 true = true → i < 768 → Completes (.trgDisarm w) s fun t => (t.trig i).armed = false)
    ∧ (s.domOn 1 = true → e.armed = true → trigDue s e = true →
      Completes (.triggerFire idx) s fun t => (t.trig idx.val).fired = min (e.fired + 1) 0xFFFF ∧ (t.trig idx.val).last = s.now
        ∧ (t.trig idx.val).armed = (e.per != 0 && (e.count == 0 || decide (min (e.fired + 1) 0xFFFF < e.count)))
        ∧ (∀ c ∈ [(1, 8), (3, 6), (4, 4), (5, 4), (6, 8), (7, 4), (8, 2)], e.action = c.1 →
            ⟨s.uptime + c.2, s.now, idx.val, e.action, e.arg⟩ ∈ t.py.trigOut)
        ∧ (e.action = 2 → t.py.pulses = s.py.pulses ++ [⟨e.arg % 4, s.uptime + 6 - syncAdv s (e.arg % 4), s.uptime + 6 - syncAdv s (e.arg % 4) + e.arg / 4⟩]))
    ∧ (trigDue s e = false → exec (.triggerFire idx) s = .next s))
    ∧ (∀ (w : Who) (pin : Fin 48) (level : Bool) (c : GpioCap) (q : List GpioCap) (s : State), s.canonical = true →
    let n := pin.val
    let e := s.get pgGpio Rg.GPIO_CFG_EDGE n
    let act := level != s.flag pgGpio Rg.GPIO_CFG_INV n
    let since := Sparse.get (fun _ => 0) s.gp.high n
    (s.domOn 1 = true → gpioIn s n ≠ level →
      Completes (.gpioInputChange pin level true) s fun t => gpioIn t n = level
        ∧ ((e = 3 ∨ (e = 1 ∧ act = true) ∨ (e = 2 ∧ act = false)) → s.flag pgGpio Rg.GPIO_CFG_CAP n = true →
            s.get pgGpio Rg.GPIO_LIM_RATE n = 0 → s.gp.queue.length < 64 →
            t.gp.queue = s.gp.queue ++ [⟨(s.now + 2 ^ 64 - gpioFilter s n) % 2 ^ 64, n, act⟩] ∧ irqSet t pgGpio 0 = true)
        ∧ (e = 0 → t.gp.queue = s.gp.queue))
    ∧ (s.domOn 1 = true → gpioIn s n ≠ level →
      Completes (.gpioInputChange pin level false) s fun t => gpioIn t n = gpioIn s n ∧ t.gp = s.gp ∧ records s t pgGpio Ev.GLITCH = true)
    ∧ (s.domOn 1 = true → since ≠ 0 → s.get pgGpio Rg.GPIO_LIM_STUCK n ≠ 0 →
        s.get pgGpio Rg.GPIO_LIM_STUCK n * 1966080 ≤ s.uptime + 1 - since →
        bits (s.reg pgGpio (0x298 + 4 * (n / 32))).toNat (n % 32) (n % 32) = 0 →
      Completes (.stuck pin) s fun t => bits (t.reg pgGpio (0x298 + 4 * (n / 32))).toNat (n % 32) (n % 32) = 1
        ∧ records s t pgGpio Ev.STUCK = true)
    ∧ (s.reaches w pgGpio 0x2A0 false = true → s.gp.queue = c :: q →
      Completes (.gpioCapPop w) s fun t => t.gp.queue = q ∧ t.get64 pgGpio Rg.GPIO_CAP_LO = c.air % 2 ^ 64
        ∧ t.rsp = ⟨0, 2 ^ 31 + c.rising.toNat * 2 ^ 16 + q.length * 2 ^ 8 + c.pin⟩)
    ∧ (s.reaches w pgGpio 0x2A0 false = true → s.gp.queue = [] → Completes (.gpioCapPop w) s fun t => t.rsp = ⟨0, 0⟩ ∧ t.gp = s.gp))

/-- R419, R421, R438, R439: initialization of a bay's memories and of bulk memory: BUSY while it runs, zeros and DONE at its end. R432–R435: a
scrubber reads the next line, ends its lap, writes a corrected line back or defers it; the corrected-error log is popped by a read. R116, R428–R431,
R437: refresh by the controller, a missed plan refresh, releasing a halt, the stacks' temperature, training, self-refresh and parity errors. -/
def Obligations.MemoryEnginesAndBulkUpkeep : Prop :=
  (∀ (w : Who) (b : Fin 8) (k : Fin 4) (value a g : Nat) (i : MemInit) (lo n : Nat) (s : State), s.canonical = true →
    let p := page .bay b.val
    let q := page .bm k.val
    (s.reaches w p 0x218 true = true → value.testBit 31 = true → value % 16 < 13 → s.flag p Rg.MEM_INIT_STAT_BUSY = false →
      Completes (.memInitStart w b value) s fun t => t.flag p Rg.MEM_INIT_STAT_BUSY = true ∧ ⟨p, value % 16, s.uptime⟩ ∈ t.mu.inits)
    ∧ (s.initOf p = some i → initRange b.val i.sel = some (lo, n) → i.up0 + initLines i.sel * s.deckK ≤ s.uptime → s.domOn (memDomain lo) = true →
      Completes (.memInitDone b) s fun t => t.flag p Rg.MEM_INIT_STAT_BUSY = false ∧ t.flag p Rg.MEM_INIT_STAT_DONE = true ∧ irqSet t p 5 = true
        ∧ (lo ≤ a → a < lo + n → t.byte a = 0) ∧ (a < lo ∨ lo + n ≤ a → t.byte a = s.byte a))
    ∧ (s.reaches w q 0x10C true = true → value % 65536 ≠ 0 → s.flag q Rg.BM_INIT_STAT_BUSY = false →
      Completes (.bmInitStart w k value) s fun t => t.flag q Rg.BM_INIT_STAT_BUSY = true ∧ ⟨q, value % 65536, s.uptime⟩ ∈ t.mu.inits)
    ∧ (s.initOf q = some i → i.up0 + (initPcs s k.val i.sel).length * 3145728 ≤ s.uptime →
      Completes (.initDone k) s fun t => t.flag q Rg.BM_INIT_STAT_BUSY = false ∧ t.flag q Rg.BM_INIT_STAT_DONE = true ∧ irqSet t q 4 = true
        ∧ (g / 16 = k.val → i.sel.testBit (g % 16) = true → s.planPc g = false → a / 0x30000000 = g → t.byte a = 0)
        ∧ (a / 0x30000000 = g → s.planPc g = true ∨ i.sel.testBit (g % 16) = false ∨ g / 16 ≠ k.val → t.byte a = s.byte a)))
    ∧ (∀ (w : Who) (b : Fin 8) (k : Fin 4) (u : Fin 12) (a n wd : Nat) (hit : Bool) (rest : List (Nat × Nat × Bool)) (e : CelEntry)
    (es : List CelEntry) (s : State), s.canonical = true → Sparse.wf ecc0 s.mu.ecc = true → Sparse.wf scrub0 s.mu.scrubs = true →
    Sparse.wf cel0 s.mu.cel = true →
    let p := page .bay b.val
    let q := page .bm k.val
    let r := scrubPage u.val
    let off := if u.val < 8 then 0x220 else 0x240
    (s.flag p Rg.MEM_SCR_CFG_EN = true → s.asleep (48 + b.val) = false →
        (s.scrubOf p).last = 0 ∨ (s.scrubOf p).last + max 1 (s.get p Rg.MEM_SCR_CFG_INT) * s.deckK ≤ s.uptime + 1 →
      Completes (.scrubRead b) s fun t => t.mem = s.mem ∧ (t.scrubOf p).last = s.uptime + 1
        ∧ ((s.scrubOf p).pos + 1 < 237560 → (t.scrubOf p).pos = (s.scrubOf p).pos + 1)
        ∧ ((s.scrubOf p).pos + 1 = 237560 → (t.scrubOf p).pos = 0
            ∧ t.get p Rg.MEM_SCR_STAT_LAPS = min (s.get p Rg.MEM_SCR_STAT_LAPS + 1) 65535
            ∧ t.get64 p Rg.MEM_LAP_AIR_LO = (s.scrubOf p).air0 % 2 ^ 64))
    ∧ (s.flag q Rg.BM_CFG_SCR_EN = true → s.domOn (12 + k.val) = true →
        (s.scrubOf q).last = 0 ∨ (s.scrubOf q).last + max 1 (s.get q Rg.BM_SCR_INT) ≤ s.uptime + 1 →
        s.pcHalted ((k.val * 0x300000000 + 256 * (s.scrubOf q).pos) / 0x30000000) = false →
      Completes (.bmScrubRead k) s fun t => t.mem = s.mem ∧ (t.scrubOf q).last = s.uptime + 1
        ∧ ((s.scrubOf q).pos + 1 < 50331648 → (t.scrubOf q).pos = (s.scrubOf q).pos + 1)
        ∧ ((s.scrubOf q).pos + 1 = 50331648 → (t.scrubOf q).pos = 0
            ∧ t.get q Rg.BM_SCR_STAT_LAPS = min (s.get q Rg.BM_SCR_STAT_LAPS + 1) 65535))
    ∧ ((s.scrubOf r).back = (a, n, hit) :: rest →
      Completes (.scrubWriteback u) s fun t => (t.scrubOf r).back = rest ∧ t.mem = s.mem ∧ t.regs = s.regs
        ∧ (hit = true → t.mu.ecc = s.mu.ecc ∧ (t.scrubOf r).defer = (s.scrubOf r).defer + 1)
        ∧ (hit = false → wd ∈ correctable s a n → Sparse.get ecc0 t.mu.ecc wd = Ecc.clean))
    ∧ (s.reaches w r off false = true → Sparse.get cel0 s.mu.cel r = e :: es →
      Completes (.celPop w u) s fun t => Sparse.get cel0 t.mu.cel r = es
        ∧ t.rsp = ⟨0, 2 ^ 31 + e.scrub.toNat * 2 ^ 30 + es.length * 2 ^ 24 + e.count * 2 ^ 16 + e.synd % 65536⟩
        ∧ (t.reg r (off + 4)).toNat = e.addr % 2 ^ 32 ∧ (t.reg r (off + 12)).toNat = e.air % 2 ^ 32)
    ∧ (s.reaches w r off false = true → Sparse.get cel0 s.mu.cel r = [] → Completes (.celPop w u) s fun t => t.rsp = ⟨0, 0⟩))
    ∧ (∀ (w : Who) (g : Fin 64) (k : Fin 4) (n : Fin 2) (value : Nat) (good : Bool) (t0 t1 : Option (Fin 100)) (s : State), s.canonical = true →
    let p := page .bm k.val
    let temp := fun (x : Option (Fin 100)) => match x with
      | some v => v.val
      | none => 105
    let last := Sparse.get (fun _ => 0) s.mu.refAt g.val
    let hot := Sparse.get (fun _ => 0) s.mu.refHot g.val == 1
    let training := if n.val = 0 then s.mu.train0 else s.mu.train1
    (s.planPc g.val = false → s.domOn (12 + g.val / 16) = true →
      Completes (.controllerRefresh g) s fun t => Sparse.get (fun _ => 0) t.mu.refAt g.val = s.uptime + 1
        ∧ Sparse.get (fun _ => 0) t.mu.refBusy g.val = s.uptime + 563 ∧ t.regs = s.regs)
    ∧ (s.planPc g.val = true → last + (if hot then 1916 else 7667) ≤ s.uptime + 1 →
      Completes (.refreshMiss g) s fun t => Sparse.get (fun _ => 0) t.mu.refAt g.val = s.uptime + 1
        ∧ t.get (page .bm (g.val / 16)) Rg.BM_REF_STAT_MISS = min (s.get (page .bm (g.val / 16)) Rg.BM_REF_STAT_MISS + 1) 65535
        ∧ records s t pgDeck Ev.REFRESH_MISS = true ∧ (s.dk.run.isSome = true → t.dk.stopping = true))
    ∧ (s.reaches w p 0x108 true = true →
      Completes (.bmRelease w k value) s fun t => t.get p Rg.BM_STAT_HALT = s.get p Rg.BM_STAT_HALT &&& (65535 - value % 65536))
    ∧ (s.domOn 12 = true →
      Completes (.hbmTempRead (t0.map fun v => (v.val : Int)) (t1.map fun v => (v.val : Int))) s fun t =>
        t.get pgPhy Rg.HBM_T0 = temp t0 * 256 ∧ t.get pgPhy Rg.HBM_T1 = temp t1 * 256
        ∧ t.get pgDeck Rg.DK_THERM_HBM_T = max (temp t0) (temp t1) * 256
        ∧ (t0 = none ∨ t1 = none → records s t pgPhy Ev.TEMP_FAIL = true))
    ∧ (s.reaches w pgPhy 0x104 true = true → value.testBit n.val = true →
      Completes (.phyTrain w value) s fun t => (if n.val = 0 then t.mu.train0 else t.mu.train1) = s.uptime + 1)
    ∧ (training ≠ 0 →
      Completes (.trainComplete n good) s fun t => (if n.val = 0 then t.mu.train0 else t.mu.train1) = 0
        ∧ (good = true → s.uptime + 1 ≤ training + 39321600 → (t.get pgPhy Rg.PHY_STAT_TRAINED).testBit n.val = true)
        ∧ (good = false ∨ training + 39321600 < s.uptime + 1 →
            t.get pgPhy Rg.PHY_STAT_TRAINED = s.get pgPhy Rg.PHY_STAT_TRAINED ∧ records s t pgPhy Ev.TRAIN_FAIL = true))
    ∧ (s.reaches w pgPhy 0x104 true = true →
      Completes (.srefRequest w value) s fun t =>
        (value.testBit (4 + n.val) = true → (∀ i < 32, s.planPc (32 * n.val + i) = false) →
          (t.get pgPhy Rg.PHY_STAT_SREF).testBit n.val = true)
        ∧ (value.testBit (4 + n.val) = true → (∃ i < 32, s.planPc (32 * n.val + i) = true) →
          (t.get pgPhy Rg.PHY_STAT_SREF).testBit n.val = (s.get pgPhy Rg.PHY_STAT_SREF).testBit n.val ∧ records s t pgPhy Ev.SREF_DENIED = true)
        ∧ (value.testBit (4 + n.val) = false → (s.get pgPhy Rg.PHY_CMD_SREF).testBit n.val = true →
          (t.get pgPhy Rg.PHY_STAT_SREF).testBit n.val = false ∧ (if n.val = 0 then t.mu.wake0 else t.mu.wake1) = s.uptime + 3933))
    ∧ (s.domOn (12 + 2 * n.val) = true →
      Completes (.caParity n) s fun t => t.get pgPhy Rg.PHY_ERR = min (s.get pgPhy Rg.PHY_ERR + 1) 65535 ∧ records s t pgPhy Ev.CA_PARITY = true))

/-- R388, R395, R399, R400, R402, R404, R406: routing by dimension order, forwarding, bad headers, dead targets, timeouts, the monitors. -/
def Obligations.TrussCommands : Prop :=
  ∀ (w : Who) (r : Fin 100) (port out : Fin 5) (pk : Packet) (b : Buffered) (q : Request) (att : Fin 128) (m : Fin 4) (value i : Nat) (s : State),
    s.canonical = true →
    let pg := page .router r.val
    let word := 0x140 + 4 * (att.val / 32)
    let n := s.deckK * (dataUnits b.pkt + 1)
    (s.domOn (pageDomain .router r.val) = true → s.ts.hits = [] → headerOk pk = true → pk.cls ≠ 0 →
      Completes (.trussPacketRoute r port pk 0 0) s fun t => t.nt.bufs = s.nt.bufs ++ [⟨r.val, port.val, pk, s.uptime, false,
        if r.val % 10 < pk.dx then 1 else if pk.dx < r.val % 10 then 3 else if r.val / 10 < pk.dy then 2 else if pk.dy < r.val / 10 then 0 else 4⟩])
    ∧ (s.domOn (pageDomain .router r.val) = true → s.ts.hits = [] → pk.cls ≠ 0 →
      Completes (.trussPacketRoute r port pk 0 2) s fun t => t.nt.bufs = s.nt.bufs ∧ records s t pg Ev.HDR_UNCORR = true)
    ∧ (s.domOn (pageDomain .router r.val) = true → s.ts.hits = [] → pk.cls ≠ 0 → headerOk pk = false →
      Completes (.trussPacketRoute r port pk 0 0) s fun t => t.nt.bufs = s.nt.bufs ∧ records s t pg Ev.BAD_HEADER = true)
    ∧ (s.nt.bufs = [b] → b.router = r.val → b.out = out.val → b.since ≤ s.uptime → s.roomAhead b = true → s.clearAhead b = true →
        Sparse.get (fun _ => 0) s.nt.portEnd (5 * r.val + out.val) ≤ s.uptime + 1 →
      Completes (.dynamicPacketForward r out) s fun t => Sparse.get (fun _ => 0) t.nt.portEnd (5 * r.val + out.val) = s.uptime + 1 + n
        ∧ (out.val ≠ 4 → t.nt.bufs = [⟨nextRouter r.val out.val, entryPort out.val, b.pkt, s.uptime + s.deckK, b.poison,
            outPort (nextRouter r.val out.val) b.pkt.dx b.pkt.dy⟩])
        ∧ (out.val = 4 → t.nt.bufs = []))
    ∧ (s.nt.bufs = [b] → b.router = r.val → b.out = 4 → isResponse b.pkt = false → packetAttach r.val b.pkt = some att.val →
        b.since + s.get pgTruss Rg.TR_TMO_DEAD_TO * 1024 ≤ s.uptime →
        (match place b.pkt.addr with
          | .pages _ _ => false
          | _ => true) = true → s.asleep (memDomain b.pkt.addr) = false →
      Completes (.targetDead r att) s fun t => (t.reg pg word).toNat.testBit (att.val % 32) = true ∧ t.get pg Rg.RT_STAT_ANY_DEAD = 1
        ∧ records s t pg Ev.TARGET_DEAD = true)
    ∧ (s.reaches w pg 0x108 true = true → value.testBit 31 = true → value % 128 = att.val →
      Completes (.rtRevive w r value) s fun t => (t.reg pg word).toNat.testBit (att.val % 32) = false
        ∧ (i < 32 → i ≠ att.val % 32 → (t.reg pg word).toNat.testBit i = (s.reg pg word).toNat.testBit i))
    ∧ (s.nt.reqs = [q] → q.since + s.get pgTruss Rg.TR_TMO_RSP_TO * 1024 ≤ s.uptime → q.source < 256 →
      Completes (.rspTimeout (Fin.ofNat 256 q.source) q.tag) s fun t => t.nt.reqs = [] ∧ t.rsp = ⟨7, 0⟩
        ∧ (q.router < 100 → records s t (page .router q.router) Ev.RSP_TIMEOUT = true))
    ∧ (s.now % (max 1 (s.get pgTruss Rg.TR_WIN) * spanCy) = 0 → s.domOn 2 = true →
      Completes (.trussMonitorWindow m) s fun t =>
        t.get pgTruss Rg.TR_MON_REQ m.val = min ((Sparse.get (fun _ => []) s.nt.mon m.val).getD 0 0) 0xFFFFFFFF
        ∧ t.get pgTruss Rg.TR_MON_LAT_MAX m.val = min ((Sparse.get (fun _ => []) s.nt.mon m.val).getD 3 0) 0xFFFFFFFF
        ∧ t.get pgTruss Rg.TR_MON_TAG m.val = s.now / spanCy % 65536 ∧ irqSet t pgTruss 0 = true)
    ∧ (s.reaches w pg 0x130 true = true → value % 2 = 1 →
      Completes (.rtClr w r value) s fun t => (∀ i < 5, t.get pg Rg.RT_HOLD i = 0) ∧ t.get pg Rg.RT_WAIT_MAX = 0 ∧ t.get pg Rg.RT_C0_UNITS = 0
        ∧ t.get pg Rg.RT_ERR_ECC_CORR = 0 ∧ t.get pg Rg.RT_ERR_POISON = 0)

namespace Sys2Proof.Claims
open Sys2Proof.Machine

/-! ## The engines -/

/-- A row that issues an engine operation: its family, the descriptors that are its own, and what makes one sound (R207). -/
structure EngineRow where
  cmd : IssueBy → Instr
  kind : EngKind
  mine : List Nat → Bool
  ok : List Nat → State → Bool

/-- The rows of the engine families; a descriptor whose OP or mode its family does not define is refused by the family's first row. -/
def engineRows : List EngineRow :=
  [⟨.engFft, .fe, fun _ => true, fftOk⟩,
   ⟨.engGemm, .me, fun w => !(isOp 2 w || isOp 3 w || isOp 4 w), meOk⟩, ⟨.engGram, .me, isOp 2, meOk⟩, ⟨.engSolve, .me, isOp 3, meOk⟩,
   ⟨.engApply, .me, isOp 4, meOk⟩,
   ⟨.engDetectPrach, .ad, fun w => !(inRange 3 5 (df w 4 3 0)), adOk⟩, ⟨.engDetectNprach, .ad, fun w => df w 4 3 0 = 3, adOk⟩,
   ⟨.engDetectUmtsRach, .ad, fun w => df w 4 3 0 = 4, adOk⟩, ⟨.engDetectGsmAccess, .ad, fun w => df w 4 3 0 = 5, adOk⟩] ++
  [⟨.engLdpcDecode, .ld, fun _ => true, ldOk⟩, ⟨.engLdpcEncode, .le, fun _ => true, leOk⟩,
   ⟨.engPolarEncode, .pe, fun w => !(isOp 2 w), peOk⟩, ⟨.engPolarDecode, .pe, isOp 2, peOk⟩,
   ⟨.engTurboDecode, .td, fun _ => true, tdOk⟩, ⟨.engTrellisDecode, .vd, fun _ => true, vdOk⟩] ++
  [⟨.engCombine, .hq, fun w => !(isOp 2 w || isOp 3 w), hqOk⟩, ⟨.engSelect, .hq, isOp 2, hqOk⟩, ⟨.engStore, .hq, isOp 3, hqOk⟩,
   ⟨.engDespread, .xc, fun w => !(isOp 2 w || isOp 3 w), xcOk⟩, ⟨.engSearch, .xc, isOp 2, xcOk⟩, ⟨.engSpread, .xc, isOp 3, xcOk⟩,
   ⟨.engEqualize, .nb, fun w => !(isOp 2 w), nbOk⟩, ⟨.engMeasure, .nb, isOp 2, nbOk⟩]

/-- R202, R203, R207: the descriptor of an entry lies in the engine buffers and is sound. -/
def descriptorGood (s : State) (e : EngineRow) (a : Nat) : Bool :=
  a % 64 == 0 && decide (sliceBase ≤ a) && decide (a < sliceEnd) && commonOk (s.descWords a) && e.ok (s.descWords a) s

end Sys2Proof.Claims

/-- R99, R201–R207, R239: a due slot-table entry of an engine with a sound descriptor puts its operation in flight for the occupancy and the latency
of R99; its status record is still to come. R207, R208: an operation with an unsound descriptor does nothing but occupy its unit for 4 c, count in
ENG_ERRS and raise DESC_INVALID; an entry whose descriptor belongs to another row of the table is left to it. -/
def Obligations.EngineOperationIssuesOrIsRefused : Prop :=
  (∀ e ∈ engineRows, ∀ (r i : Nat) (x : SlotEntry) (ctx : Nat) (s : State), s.canonical = true → SlotDue s 2 r i x ctx →
    classEng (x.unit / 256) = some e.kind → (unitPage x.unit).isSome = true → e.mine (s.descWords x.arg) = true →
    descriptorGood s e x.arg = true →
    let w := s.descWords x.arg
    let tm := engTiming e.kind w s.deckK
    Completes (e.cmd (.table r i)) s fun t => InFlight s t x 2 ctx (some (tm.2, tm.1))
      ∧ (∃ q ∈ t.en.runs, q.job.unit = x.unit ∧ q.job.ctx = ctx ∧ q.job.fin = s.uptime + tm.1 ∧ q.status = deckOf (dw w 2) ∧ q.user = dw w 3
          ∧ q.tag = s.spanTag ∧ q.dyn = false ∧ q.code = 0)
      ∧ t.get (engPage x.unit) Rg.ENG_STAT_BUSY = 1 ∧ t.get (engPage x.unit) Rg.ENG_LAST_DESC = x.arg % 2 ^ 32
      ∧ t.get (engPage x.unit) Rg.ENG_STAT_TAG = s.spanTag % 65536)
    ∧ (∀ e ∈ engineRows, ∀ (r i : Nat) (x : SlotEntry) (ctx : Nat) (s : State), s.canonical = true → SlotDue s 2 r i x ctx →
    classEng (x.unit / 256) = some e.kind → (unitPage x.unit).isSome = true →
    (e.mine (s.descWords x.arg) = true → descriptorGood s e x.arg = false →
      Completes (e.cmd (.table r i)) s fun t => InFlight s t x 2 ctx (some (4 * s.deckK, 5 * s.deckK)) ∧ t.mem = s.mem ∧ t.en.runs = s.en.runs
        ∧ t.get (engPage x.unit) Rg.ENG_ERRS_DESC = min (s.get (engPage x.unit) Rg.ENG_ERRS_DESC + 1) 65535
        ∧ irqSet t (engPage x.unit) 1 = true ∧ t.get (engPage x.unit) Rg.ENG_STAT_LAST_STATE = 4)
    ∧ (e.mine (s.descWords x.arg) = false → exec (e.cmd (.table r i)) s = .next s))

/-- R206, R208, R215, R221, R237: an item completes and counts; a parity mismatch in it is a checked fault; the operation completes with its status
record. -/
def Obligations.EngineItemsAndCompletion : Prop :=
  ∀ (u : Fin 65536) (j : Fin 64) (up : Bool) (it : EngItem) (q : EngRun) (s : State), s.canonical = true → s.en.runs = [q] → q.job.unit = u.val →
    (unitPage u.val).isSome = true →
    let pg := engPage u.val
    (∀ c ∈ [((.fftTransformComplete u j up : Instr), EngKind.fe), (.matrixItemComplete u (j.castLE (by decide)) (if up then 2 else 0), .me)],
      classEng (u.val / 256) = some c.2 → q.items[j.val]? = some it → it.done = false → it.due ≤ s.uptime → it.codes = [] → q.code = 0 →
      Completes c.1 s fun t => ∃ z, t.en.runs = [z] ∧ z.items = q.items.set j.val { it with done := true }
        ∧ z.code = (if up then u.val / 256 * 256 + 4 else 0) ∧ t.get pg Rg.ENG_ACT_ITEMS = min (s.get pg Rg.ENG_ACT_ITEMS + it.count) 65535
        ∧ t.get pg Rg.ENG_FAULTS_FAULT = min (s.get pg Rg.ENG_FAULTS_FAULT + up.toNat) 65535)
    ∧ ((classEng (u.val / 256)).isSome = true → q.job.fin ≤ s.uptime → (q.items.all fun x => x.done) = true → q.dyn = false → q.code = 0 →
        tabOk (q.status - pierBase) = true →
      Completes (.engineOpComplete u 0) s fun t => t.en.runs = [] ∧ t.load q.status 4 = 2 ^ 28 + q.tag % 65536
        ∧ t.load (q.status + 4) 4 = q.user % 2 ^ 32 ∧ t.load (q.status + 8) 4 = q.qual % 65536 * 65536
        ∧ t.get pg Rg.ENG_STAT_LAST_STATE = 1 ∧ t.get pg Rg.ENG_STAT_BUSY = 0)

/-- R272, R278: a flush takes the context, or all, to the next epoch 2 c later; a write of HQ_EPOCH sets the selected context's. -/
def Obligations.HarqEpochs : Prop :=
  ∀ (w : Who) (value : Nat) (s : State), s.canonical = true → Sparse.wf (fun _ => 0) s.en.epochs = true →
    let p := page (.eng .hq) 0
    let c := s.get p Rg.HQ_EPOCH_IDX
    (s.reaches w p 0x148 true = true →
      Completes (.hqFlush w value) s fun t =>
        t.en.changes = s.en.changes ++ [⟨s.uptime + 2 * s.deckK, if value.testBit 31 then 4096 else value % 4096, none⟩]
        ∧ t.get p Rg.HQ_FLUSH_CNT = min (s.get p Rg.HQ_FLUSH_CNT + 1) (2 ^ 32 - 1)
        ∧ (s.en.changes = [] → value.testBit 31 = true ∨ value % 4096 = c → t.get p Rg.HQ_EPOCH = (s.epoch c + 1) % 65536))
    ∧ (s.reaches w p 0x144 true = true →
      Completes (.hqEpochWrite w value) s fun t => t.en.changes = s.en.changes ++ [⟨s.uptime + 2 * s.deckK, c, some (value % 65536)⟩]
        ∧ (s.en.changes = [] → t.get p Rg.HQ_EPOCH = value % 65536) ∧ t.get p Rg.HQ_FLUSH_CNT = s.get p Rg.HQ_FLUSH_CNT)

/-- R315–R321, R331, R336: what a lane's receiver gains and loses: block, marker and CDR lock, HI_BER, HI_SER, the FEC counts, signal detect,
adaptation, the PRBS checker; and the clearing of its counters. R324–R330, R333, R335: eye scans, lane sleep and wake, the quads' PLLs, and ENABLED.
-/
def Obligations.LaneCommandsTakeEffect : Prop :=
  (∀ (w : Who) (lane : Fin 128) (value slips bad n : Nat) (errs : List Nat) (var : BitVec 16) (s : State), s.canonical = true →
    Sparse.wf (fun _ => Lane.zero) s.lanes = true → s.laneOn lane.val = true →
    let p := pgLane lane.val
    let nrz := s.get p Rg.LN_CFG_PERS ≠ 3
    let h := s.hber lane.val
    let total := (errs.take 8).foldl (· + ·) 0
    (nrz → s.rxRuns lane.val = true → s.flag p Rg.LN_STAT_BLOCK_LOCK = false →
      Completes (.blockLockAcquired lane slips var) s fun t => t.flag p Rg.LN_STAT_BLOCK_LOCK = true ∧ t.get p Rg.LN_RX_VAR = var.toNat
        ∧ (t.lane lane.val).win = s.uptime)
    ∧ (nrz → s.flag p Rg.LN_STAT_BLOCK_LOCK = true →
      Completes (.lockLoss lane bad) s fun t => t.flag p Rg.LN_STAT_BLOCK_LOCK = false
        ∧ t.get p Rg.LN_BADHDR = min (s.get p Rg.LN_BADHDR + max bad 16) (2 ^ 32 - 1)
        ∧ t.get p Rg.LN_LOCKEV_LOCKLOSS = min (s.get p Rg.LN_LOCKEV_LOCKLOSS + 1) 65535 ∧ records s t p Ev.LOCK_LOSS = true)
    ∧ (nrz → s.flag p Rg.LN_STAT_BLOCK_LOCK = true → (s.lane lane.val).win + h.2 ≤ s.uptime →
      Completes (.hiBer lane bad) s fun t => t.flag p Rg.LN_STAT_HI_BER = decide (h.1 ≤ bad)
        ∧ t.get p Rg.LN_BADHDR = min (s.get p Rg.LN_BADHDR + bad) (2 ^ 32 - 1) ∧ (t.lane lane.val).win = (s.lane lane.val).win + h.2
        ∧ (h.1 ≤ bad → s.flag p Rg.LN_STAT_HI_BER = false → records s t p Ev.HI_BER = true))
    ∧ (¬ nrz → s.rxRuns lane.val = true → s.flag p Rg.LN_STAT_AM_LOCK = false →
      Completes (.amLockChange lane true var) s fun t => t.flag p Rg.LN_STAT_AM_LOCK = true ∧ t.get p Rg.LN_RX_VAR = var.toNat)
    ∧ (¬ nrz → s.flag p Rg.LN_STAT_AM_LOCK = true →
      Completes (.amLockChange lane false var) s fun t => t.flag p Rg.LN_STAT_AM_LOCK = false ∧ records s t p Ev.LOCK_LOSS = true)
    ∧ (¬ nrz → s.flag p Rg.LN_STAT_AM_LOCK = true →
      Completes (.fecCodewordDecode lane errs) s fun t =>
        (1 ≤ total → total ≤ 15 → t.get64 p Rg.LN_FEC_CORR_LO = (s.get64 p Rg.LN_FEC_CORR_LO + 1) % 2 ^ 64
          ∧ t.get p Rg.LN_FEC_SYM = min (s.get p Rg.LN_FEC_SYM + errs.headD 0) (2 ^ 32 - 1) ∧ t.get p Rg.LN_FEC_UNC = s.get p Rg.LN_FEC_UNC)
        ∧ (16 ≤ total → t.get p Rg.LN_FEC_UNC = min (s.get p Rg.LN_FEC_UNC + 1) (2 ^ 32 - 1) ∧ irqSet t p 2 = true
          ∧ t.get64 p Rg.LN_FEC_CORR_LO = s.get64 p Rg.LN_FEC_CORR_LO)
        ∧ ((if s.get p Rg.LN_HSER_TH = 0 then 417 else s.get p Rg.LN_HSER_TH) < (s.lane lane.val).serErr + total →
          t.flag p Rg.LN_STAT_HI_SER = true))
    ∧ (s.flag p Rg.LN_STAT_SD = false → Completes (.signalDetectChange lane true) s fun t => t.flag p Rg.LN_STAT_SD = true)
    ∧ (s.flag p Rg.LN_STAT_SD = true →
      Completes (.signalDetectChange lane false) s fun t => t.flag p Rg.LN_STAT_SD = false ∧ t.flag p Rg.LN_STAT_CDR_LOCK = false
        ∧ t.get p Rg.LN_LOCKEV_LOS = min (s.get p Rg.LN_LOCKEV_LOS + 1) 65535 ∧ records s t p Ev.LOS = true)
    ∧ (s.rxRuns lane.val = true → s.flag p Rg.LN_STAT_SD = true →
      Completes (.cdrLockAcquired lane) s fun t => t.flag p Rg.LN_STAT_CDR_LOCK = true)
    ∧ (s.flag p Rg.LN_STAT_CDR_LOCK = true →
      Completes (.cdrUnlock lane) s fun t => t.flag p Rg.LN_STAT_CDR_LOCK = false ∧ records s t p Ev.CDR_UNLOCK = true)
    ∧ (s.rxRuns lane.val = true → Completes (.adaptDone lane) s fun t => t.flag p Rg.LN_STAT_ADAPT_DONE = true)
    ∧ (s.flag p Rg.LN_STAT_ADAPT_DONE = false → (s.lane lane.val).timedOut = false →
        (s.lane lane.val).cold + (if nrz then 98304000 else 196608000) ≤ s.uptime →
      Completes (.adaptTimeout lane) s fun t => (t.lane lane.val).timedOut = true ∧ records s t p Ev.ADAPT_TIMEOUT = true)
    ∧ (s.reaches w p 0x144 true = true →
      Completes (.adaptRestart w lane value) s fun t => t.flag p Rg.LN_STAT_ADAPT_DONE = false ∧ (t.lane lane.val).cold = s.uptime
        ∧ (t.lane lane.val).timedOut = false)
    ∧ (s.rxRuns lane.val = true → 1 ≤ s.get p Rg.LN_PRBS_RX_PAT → s.get p Rg.LN_PRBS_RX_PAT ≤ 8 →
      Completes (.prbsLockAcquired lane n) s fun t => t.flag p Rg.LN_STAT_PRBS_LOCK = true
        ∧ t.get p Rg.LN_PRBS_ERR = min (s.get p Rg.LN_PRBS_ERR + n) (2 ^ 32 - 1))
    ∧ (s.reaches w p 0x11C true = true →
      Completes (.lnCntClear w lane) s fun t => t.get p Rg.LN_BADHDR = 0 ∧ t.get p Rg.LN_LOCKEV_LOS = 0 ∧ t.get p Rg.LN_LOCKEV_LOCKLOSS = 0
        ∧ t.get p Rg.LN_FEC_SYM = 0 ∧ t.get64 p Rg.LN_FEC_CORR_LO = 0 ∧ t.get p Rg.LN_FEC_UNC = 0 ∧ t.get p Rg.LN_PRBS_ERR = 0
        ∧ t.get p Rg.LN_INJ_CNT = 0 ∧ t.lanes = s.lanes))
    ∧ (∀ (w : Who) (lane : Fin 128) (quad : Fin 32) (cpri : Bool) (value samples errs : Nat) (s : State), s.canonical = true →
    Sparse.wf (fun _ => Lane.zero) s.lanes = true → s.laneOn lane.val = true →
    let n := lane.val
    let p := pgLane n
    let x := s.lane n
    let mine := n / 4 = quad.val ∧ usesCpri (s.pers n) = cpri
    (s.reaches w p 0x188 true = true → s.flag p Rg.LN_ES_STAT_BUSY = false →
      Completes (.eyeScanStart w lane) s fun t =>
        (s.flag p Rg.LN_STAT_CDR_LOCK = true → t.flag p Rg.LN_ES_STAT_BUSY = true ∧ (t.lane n).scan = s.uptime)
        ∧ (s.flag p Rg.LN_STAT_CDR_LOCK = false → t.flag p Rg.LN_ES_STAT_BUSY = false ∧ t.get p Rg.LN_ES_STAT_RESULT = 2))
    ∧ (s.flag p Rg.LN_ES_STAT_BUSY = true → x.scan + 2048 + s.get p Rg.LN_ES_DWELL * 1024 ≤ s.uptime →
      Completes (.eyeScanDone lane samples errs) s fun t => t.flag p Rg.LN_ES_STAT_BUSY = false ∧ t.flag p Rg.LN_ES_STAT_DONE = true
        ∧ t.get p Rg.LN_ES_STAT_RESULT = 0 ∧ t.get p Rg.LN_ES_SAMP_LO + t.get p Rg.LN_ES_SAMP_HI * 2 ^ 32 = samples % 2 ^ 48
        ∧ t.get p Rg.LN_ES_ERR = min errs (2 ^ 32 - 1) ∧ irqSet t p 4 = true)
    ∧ (s.reaches w p 0x188 true = true → s.flag p Rg.LN_ES_STAT_BUSY = true →
      Completes (.eyeScanAbort w lane samples errs) s fun t => t.flag p Rg.LN_ES_STAT_BUSY = false ∧ t.get p Rg.LN_ES_STAT_RESULT = 1
        ∧ t.get p Rg.LN_ES_ERR = min errs (2 ^ 32 - 1))
    ∧ (s.reaches w p 0x150 true = true →
      Completes (.laneSleepRequest w lane value) s fun t =>
        (value.testBit 0 = true → x.burst ≤ s.uptime → t.get p Rg.LN_STAT_TX_STATE = 2)
        ∧ (value.testBit 0 = false → s.get p Rg.LN_STAT_TX_STATE = 2 → t.get p Rg.LN_STAT_TX_STATE = 3 ∧ (t.lane n).txWake = true)
        ∧ (bits value 5 4 = 1 → t.get p Rg.LN_STAT_RX_STATE = 2)
        ∧ (bits value 5 4 = 2 → t.get p Rg.LN_STAT_RX_STATE = 3 ∧ t.flag p Rg.LN_STAT_CDR_LOCK = false)
        ∧ (bits value 5 4 = 0 → 2 ≤ s.get p Rg.LN_STAT_RX_STATE → (t.lane n).rxWake = true ∧ t.flag p Rg.LN_SLEEP_STAT_BUSY = true))
    ∧ (s.flag p Rg.LN_SLEEP_WAKE_OS_EN = true → s.get p Rg.LN_STAT_RX_STATE = 2 →
      Completes (.wakeOs lane) s fun t => records s t p Ev.WAKE_OS = true ∧ t.get p Rg.LN_SLEEP_STAT_LAST_WAKE = 1 ∧ irqSet t p 3 = true
        ∧ (s.flag p Rg.LN_SLEEP_WAKE_AUTO = true → t.get p Rg.LN_SLEEP_RX_REQ = 0 ∧ t.get p Rg.LN_SLEEP_TX_REQ = 0 ∧ (t.lane n).rxWake = true))
    ∧ (x.txWake = true → s.pllLocked (n / 4) (usesCpri (s.pers n)) = true →
      Completes (.laneWakeComplete lane true) s fun t => t.get p Rg.LN_STAT_TX_STATE = 1 ∧ (t.lane n).txWake = false)
    ∧ (x.rxWake = true → s.get p Rg.LN_STAT_RX_STATE = 2 →
      Completes (.laneWakeComplete lane false) s fun t => t.get p Rg.LN_STAT_RX_STATE = 1 ∧ (t.lane n).rxWake = false)
    ∧ (s.reaches w p 0x158 true = true → s.get p Rg.LN_STAT_TX_STATE = 1 →
      Completes (.wakeOsSend w lane value) s fun t => t.get p Rg.LN_WAKE_OS_SENT = min (s.get p Rg.LN_WAKE_OS_SENT + 1) 65535
        ∧ (t.lane n).burst = max s.uptime x.burst + burstCy (s.pers n) (bits value 15 8))
    ∧ (mine → s.pllLocked quad.val cpri = true →
      Completes (.pllUnlock quad cpri) s fun t => t.pllLocked quad.val cpri = false ∧ t.flag p Rg.LN_STAT_QPLL_LOCK = false
        ∧ t.get p Rg.LN_STAT_TX_STATE = 0 ∧ t.flag p Rg.LN_STAT_CDR_LOCK = false ∧ records s t p Ev.PLL_UNLOCK = true)
    ∧ (mine → s.pllLocked quad.val cpri = false →
        (if cpri then (s.lane (4 * quad.val)).cpriOff else (s.lane (4 * quad.val)).ethOff) = false →
      Completes (.qpllLock quad cpri) s fun t => t.pllLocked quad.val cpri = true ∧ t.flag p Rg.LN_STAT_QPLL_LOCK = true
        ∧ (s.get p Rg.LN_STAT_TX_STATE = 0 → s.flag p Rg.LN_SLEEP_TX_REQ = false → t.get p Rg.LN_STAT_TX_STATE = 1))
    ∧ (s.flag p Rg.LN_STAT_QPLL_LOCK = true → Completes (.enabled lane) s fun t => t.reg p 0x00C = 1 ∧ t.lanes = s.lanes))

namespace Sys2Proof.Claims
open Sys2Proof.Machine

/-- A 32-bit counter of page `p` has counted one more; it saturates (R376). -/
def counted (s t : State) (p : Nat) (f : Fld) (n : Nat := 0) : Bool := t.get p f n == min (s.get p f n + 1) (2 ^ 32 - 1)

/-- Counter `j` of a flow has counted one more. -/
def flowCounted (s t : State) (au i j : Nat) : Bool := (t.flow au i).cnt.getD j 0 == min ((s.flow au i).cnt.getD j 0 + 1) (2 ^ 32 - 1)

end Sys2Proof.Claims

/-- R341–R343, R349–R354: a received frame is dropped and counted by the first check that it fails, or counted in EM_RX_OK and, as U-plane of a known
flow, waits; a waiting frame is judged and placed, or counted as corrupt, early or late. -/
def Obligations.EthernetReception : Prop :=
  ∀ (port : Fin 64) (bytes : List (Fin 256)) (bad : Bool) (au : Fin 8) (i : Ingress) (fl : Nat) (x : RxBuf) (l : List USec) (s : State),
    s.canonical = true → s.ts.hits = [] →
    let p := port.val
    let g := pgEm p
    let b := bytes.map (·.val)
    let n := b.length + 4
    let ok := 64 ≤ n ∧ n ≤ s.maxLen p ∧ bad = false ∧ etherType b ≠ 0x8808 ∧ s.daOk p (beN (b.take 6)) = true
    let f := s.flow i.au i.flow
    let key := uKey (payload i.bytes)
    (s.enabled g = true → s.domOn (72 + p / 8) = true → s.flag g Rg.EM_STAT_LOCAL_FAULT = false → (s.em p).rxLpi = false →
      Completes (.frameReceive port bytes bad) s fun t =>
        (n ≤ 63 → counted s t g Rg.EM_RUNT = true) ∧ (64 ≤ n → s.maxLen p < n → counted s t g Rg.EM_LONG = true)
        ∧ (64 ≤ n → n ≤ s.maxLen p → bad = true → counted s t g Rg.EM_FCS = true)
        ∧ (64 ≤ n → n ≤ s.maxLen p → bad = false → etherType b = 0x8808 → counted s t g Rg.EM_MACCTL = true)
        ∧ (64 ≤ n → n ≤ s.maxLen p → bad = false → etherType b ≠ 0x8808 → s.daOk p (beN (b.take 6)) = false → counted s t g Rg.EM_DA_DROP = true)
        ∧ (¬ ok → t.fh.ingress = s.fh.ingress ∧ t.get64 g Rg.EM_RX_OK_LO = s.get64 g Rg.EM_RX_OK_LO)
        ∧ (ok → s.flag g Rg.EM_SEC_CTL = false → t.get64 g Rg.EM_RX_OK_LO = min (s.get64 g Rg.EM_RX_OK_LO + 1) (2 ^ 64 - 1))
        ∧ (ok → s.flag g Rg.EM_SEC_CTL = false → etherType b = 0xAEFE → (payload b).getD 1 0 = 0 →
            s.rxFlow (p / 8) p (beN (((payload b).drop 4).take 2)) = some fl → s.ingressUsed (p / 8) + n ≤ 262144 →
            t.fh.ingress.map (fun y => (y.au, y.port, y.flow, y.bytes)) = s.fh.ingress.map (fun y => (y.au, y.port, y.flow, y.bytes)) ++ [(p / 8, p, fl, b)]))
    ∧ (s.fh.ingress = [i] → i.au = au.val → i.tEnd + 2048 ≤ s.now → f.cnt.length = 9 →
      Completes (.uplanePlace au) s fun t => t.fh.ingress = []
        ∧ (uCheck f i.bytes = none → flowCounted s t i.au i.flow 6 = true ∧ t.mem = s.mem)
        ∧ (uCheck f i.bytes = some l → s.fh.rx = [] → s.fh.closed = [] → flowCounted s t i.au i.flow 1 = true ∧ t.mem = s.mem)
        ∧ (uCheck f i.bytes = some l → s.fh.rx = [] → s.fh.closed = [⟨i.au, i.port, i.flow, key, s.uptime⟩] →
            flowCounted s t i.au i.flow 2 = true ∧ t.mem = s.mem)
        ∧ (uCheck f i.bytes = some l → s.fh.rx = [x] → x.holds i.au i.port i.flow key = true → x.openAir ≤ i.tEnd →
            flowCounted s t i.au i.flow 0 = true))

/-- R347, R361–R363, R377: the frame that is due leaves, late frames are moved, blocked ones are dropped; dynamic frames leave in the gaps; timestamps
are popped. -/
def Obligations.EthernetDeparture : Prop :=
  ∀ (w : Who) (port : Fin 64) (bytes : List (Fin 256)) (mark : Fin 3) (tag : BitVec 16) (f : TxFrame) (rest : List TxFrame) (d : DynFrame)
    (ds : List DynFrame) (a c : Nat) (ts : List (Nat × Nat)) (s : State), s.canonical = true → Sparse.wf em0 s.fh.em = true →
    let p := port.val
    let g := pgEm p
    let x := s.em p
    let b := match f.flow with
      | some i => patch f.bytes (typeAt f.bytes + 8) [(s.flow (p / 8) i).seqTx]
      | none => f.bytes
    let pad := d.bytes ++ List.replicate (60 - d.bytes.length) 0
    (x.det = f :: rest → f.due ≤ s.uptime →
      Completes (.frameDepart port) s fun t =>
        (f.due < x.free → (t.em p).det = { f with due := x.free } :: rest ∧ records s t (pgAu (p / 8)) Ev.TX_OVERLAP = true)
        ∧ (x.free ≤ f.due → s.txBlocked p f = true → (t.em p).det = rest ∧ counted s t g Rg.EM_TX_DROP = true ∧ (t.em p).line = x.line)
        ∧ (x.free ≤ f.due → s.txBlocked p f = false → s.flag g Rg.EM_SEC_CTL = false → b.length + 4 ≤ s.maxLen p → f.tsrec = 0 →
            (t.em p).det = rest ∧ (t.em p).line = b ∧ (t.em p).sent = f.due
            ∧ t.get64 g Rg.EM_TX_OK_LO = min (s.get64 g Rg.EM_TX_OK_LO + 1) (2 ^ 64 - 1)))
    ∧ (x.det = [] → x.dyn = d :: ds → x.lpi = false → x.free ≤ s.uptime → s.emFault p = false → s.portDrives g (72 + p / 8) = true →
        s.detWithin p (byteCy (max 60 d.bytes.length + 56) (s.emRate p)) = false → s.flag g Rg.EM_SEC_CTL = false → pad.length + 4 ≤ s.maxLen p →
      Completes (.frameDepart port) s fun t => (t.em p).dyn = ds ∧ (t.em p).sent = s.uptime
        ∧ (d.mark = 0 → (t.em p).line = pad ∧ (t.em p).ts = x.ts)
        ∧ (d.mark = 1 → x.ts.length < 16 → (t.em p).line = pad ∧ (t.em p).ts = x.ts ++ [(s.now, d.tag % 65536)]))
    ∧ (s.enabled g = true →
      Completes (.dynamicFrameSend port bytes mark tag) s fun t => (t.em p).dyn = x.dyn ++ [⟨bytes.map (·.val), mark.val, tag.toNat⟩]
        ∧ t.regs = s.regs)
    ∧ (s.reaches w g 0x170 false = true → x.ts = (a, c) :: ts →
      Completes (.tsPop w port) s fun t => (t.em p).ts = ts ∧ t.rsp = ⟨0, 2 ^ 31 + c⟩ ∧ t.get64 g Rg.EM_TS_LO = a % 2 ^ 64)
    ∧ (s.reaches w g 0x170 false = true → x.ts = [] → Completes (.tsPop w port) s fun t => t.rsp = ⟨0, 0⟩ ∧ t.em p = x)

/-- R344–R346, R373, R376: link state, low-power idle, partners, and the staging registers of flows and partners. -/
def Obligations.EthernetLinksAndTables : Prop :=
  ∀ (w : Who) (link : Fin 80) (port : Fin 64) (au : Fin 8) (k : Fin 32) (value j : Nat) (s : State), s.canonical = true →
    Sparse.wf em0 s.fh.em = true → Sparse.wf flow0 s.fh.flows = true → Sparse.wf partner0 s.fh.partners = true →
    let q := pgEm link.val
    let p := port.val
    let e := s.em p
    let lane := pgLane (s.emLanes p).1
    let g := pgAu au.val
    let x := s.partner au.val k.val
    let fi := s.get g Rg.AU_FLOW_IDX
    let pi := s.get g Rg.AU_PT_IDX
    let fl := s.flow au.val (value % 512)
    (s.enabled q = true → s.flag q (fldRemote link.val) = false →
      Completes (.remoteFault link true) s fun t => t.flag q (fldRemote link.val) = true ∧ t.flag q (fldLink link.val) = false)
    ∧ (s.enabled q = true → s.flag q (fldRemote link.val) = true →
      Completes (.remoteFault link false) s fun t => t.flag q (fldRemote link.val) = false ∧ (t.em link.val).clean = s.uptime)
    ∧ (s.enabled q = true → s.emFault link.val = false → (s.em link.val).clean + 1966080 ≤ s.uptime →
      Completes (.linkUp link) s fun t => t.flag q (fldLink link.val) = true)
    ∧ (s.enabled (pgEm p) = true → s.flag (pgEm p) Rg.EM_EEE_EN = true → e.lpi = false → e.dyn = [] →
        max e.sent e.free + s.get (pgEm p) Rg.EM_EEE_IDLE * 1024 ≤ s.uptime → s.detWithin p 4096 = false →
      Completes (.lpiEnter port) s fun t => (t.em p).lpi = true ∧ t.get lane Rg.LN_SLEEP_TX_REQ = 1)
    ∧ (e.lpi = true → (e.dyn ≠ [] ∨ s.detWithin p 2049 = true) →
      Completes (.lpiExit port) s fun t => (t.em p).lpi = false ∧ t.get lane Rg.LN_SLEEP_TX_REQ = 0)
    ∧ (s.enabled (pgEm p) = true → s.flag (pgEm p) Rg.EM_EEE_EN = true → e.rxLpi = false →
      Completes (.lpiReceived port true) s fun t => (t.em p).rxLpi = true ∧ t.get lane Rg.LN_SLEEP_RX_REQ = 1)
    ∧ (s.enabled (pgEm p) = true → e.rxLpi = true →
      Completes (.lpiReceived port false) s fun t => (t.em p).rxLpi = false ∧ t.get lane Rg.LN_SLEEP_RX_REQ = 0)
    ∧ (bits x.ctl 31 30 = 2 → x.ctl < 2 ^ 32 → x.last + s.get g Rg.AU_PCFG_LOSS * spanCy ≤ s.uptime →
      Completes (.partnerLost au k) s fun t => bits (t.partner au.val k.val).ctl 31 30 = 3 ∧ records s t g Ev.PARTNER_LOST = true)
    ∧ (s.reaches w g 0x110 true = true → fl.cnt.length = 9 →
      Completes (.auFlowIdxWrite w au value) s fun t => t.get g Rg.AU_FLOW_IDX = value % 512 ∧ t.fh = s.fh
        ∧ (t.reg g 0x114, t.reg g 0x118, t.reg g 0x11C, t.reg g 0x120, t.reg g 0x124)
          = (BitVec.ofNat 32 fl.w0, BitVec.ofNat 32 fl.w1, BitVec.ofNat 32 fl.w2, BitVec.ofNat 32 fl.w3, BitVec.ofNat 32 fl.w4)
        ∧ (j < 9 → t.get g Rg.AU_FCNT j = fl.cnt.getD j 0 % 2 ^ 32))
    ∧ (s.reaches w g 0x128 true = true → value % 2 = 1 →
      Completes (.auFlowWrite w au value) s fun t => t.regs = s.regs
        ∧ ((t.flow au.val fi).w0, (t.flow au.val fi).w1, (t.flow au.val fi).w2, (t.flow au.val fi).w3, (t.flow au.val fi).w4)
          = ((s.reg g 0x114).toNat, (s.reg g 0x118).toNat, (s.reg g 0x11C).toNat, (s.reg g 0x120).toNat, (s.reg g 0x124).toNat)
        ∧ (t.flow au.val fi).cnt = (s.flow au.val fi).cnt)
    ∧ (s.reaches w g 0x160 true = true →
      Completes (.auPtIdxWrite w au value) s fun t => t.get g Rg.AU_PT_IDX = value % 32 ∧ t.fh = s.fh
        ∧ t.get64 g Rg.AU_PT_MAC_LO = (s.partner au.val (value % 32)).mac % 2 ^ 64
        ∧ t.reg g 0x16C = BitVec.ofNat 32 (s.partner au.val (value % 32)).ctl)
    ∧ (s.reaches w g 0x170 true = true → value % 2 = 1 →
      Completes (.auPtWrite w au value) s fun t =>
        t.partner au.val pi = ⟨s.get64 g Rg.AU_PT_MAC_LO % 2 ^ 48, (s.reg g 0x16C).toNat, s.uptime⟩)

/-- R368–R372, R374, R378: CPRI start-up state by state, basic frames received and sent, connection pages, defects. -/
def Obligations.CpriCommands : Prop :=
  ∀ (w : Who) (port : Fin 32) (ofs data : BitVec 32) (value bad iq : Nat) (lead : Option Nat) (rai sdi : Bool) (x : RxBuf) (a : Nat)
    (c : Nat × Nat × Nat) (d : CpData) (s : State),
    s.canonical = true → Sparse.wf cp0 s.fh.cp = true →
    let p := port.val
    let g := pgCp p
    let st := s.get g Rg.CP_STAT_STATE
    let k := s.cp p
    let on := s.enabled g = true ∧ s.domOn (72 + p / 4) = true
    let act := s.get g Rg.CP_STAT_ACT_PAGE
    let rx := s.gridPos p - (s.get g Rg.CP_RXDLY : Nat)
    (st = 1 → Completes (.cpriHfSync port ofs) s fun t => t.get g Rg.CP_STAT_STATE = 2 ∧ t.get g Rg.CP_RXOFS = ofs.toNat
      ∧ (t.get g Rg.CP_STAT_DEF).testBit 1 = false)
    ∧ (1 < st → Completes (.cpriHfSyncLoss port) s fun t => t.get g Rg.CP_STAT_STATE = 1 ∧ (t.get g Rg.CP_STAT_DEF).testBit 1 = true)
    ∧ (st = 2 → Completes (.cpriProtocolSetup port) s fun t => t.get g Rg.CP_STAT_STATE = 3)
    ∧ (st = 3 → Completes (.cpriCmSetup port (Fin.ofNat 64 (s.get g Rg.CP_CM))) s fun t => t.get g Rg.CP_STAT_STATE = 4)
    ∧ (st = 4 → s.reaches w g 0x104 true = true → value % 2 = 1 →
      Completes (.cpriGoF w port value) s fun t => t.get g Rg.CP_STAT_STATE = 5 ∧ irqSet t g 1 = true)
    ∧ (on → rx % 512 = 0 → s.ts.hits = [] →
      Completes (.cpriBasicFrameRelease port lead iq) s fun t =>
        (2 ≤ st → lead = none → records s t g Ev.RX_LATE = true ∧ counted s t g Rg.CP_CNT 1 = true ∧ counted s t g Rg.CP_CNT 0 = true)
        ∧ (st = 5 → k.subst = false → lead = some a → a ≤ 32768 → t.get g Rg.CP_CNT 0 = s.get g Rg.CP_CNT 0)
        ∧ (2 ≤ st → lead = some a → 32768 < a → records s t g Ev.RX_EARLY = true ∧ counted s t g Rg.CP_CNT 2 = true)
        ∧ (s.fh.rx = [x] → x.kind = 2 → x.port = p → x.openAir ≤ s.now → x.next < x.count →
            t.fh.rx.map (fun y => (y.next, y.pend.length)) = [(x.next + 1, x.pend.length + 1)]))
    ∧ (on → s.gridPos p % 512 = 0 →
      Completes (.cpriBasicFrameSend port) s fun t => (t.cp p).sdi = !s.leaseHolds
        ∧ ((st ≠ 5 ∨ s.leaseHolds = false ∨ s.planTx = false) → (t.cp p).line = 0)
        ∧ (st = 5 → s.leaseHolds = true → s.planTx = true → s.portDrives g (72 + p / 4) = true → s.containers p true act = [c] →
            stEn (s.cpStream p true c.1) = true → k.data = [d] → d.stream = c.1 → d.grid = s.now → d.stands + 1024 ≤ s.now →
            (t.cp p).line = containerBits (stW (s.cpStream p true c.1)) c.2.1 d.samples ∧ (t.cp p).data = []))
    ∧ (s.reaches w g 0x124 true = true → value % 2 = 1 → Completes (.cpriTsiSwitchRequest w port value) s fun t => (t.cp p).tsi = some s.now)
    ∧ (k.tsi = some a → a + 1024 ≤ s.now → s.gridPos p % 131072 = 0 →
      Completes (.pageSwitched port) s fun t => (t.cp p).tsi = none
        ∧ (s.pageOk p false (1 - act) = true → s.pageOk p true (1 - act) = true → t.get g Rg.CP_STAT_ACT_PAGE = 1 - act
            ∧ t.get64 g Rg.CP_TSI_AIR_LO = s.now ∧ (t.cp p).rxSwitch = some s.now ∧ records s t g Ev.PAGE_SWITCHED = true)
        ∧ (s.pageOk p false (1 - act) = false ∨ s.pageOk p true (1 - act) = false → t.get g Rg.CP_STAT_ACT_PAGE = act
            ∧ records s t g Ev.PAGE_BAD = true))
    ∧ (s.enabled g = true → k.deg + s.get g Rg.CP_DEG_WIN * 19660800 ≤ s.now →
      Completes (.cpDeg port bad) s fun t => (t.get g Rg.CP_STAT_DEF).testBit 2 = decide (s.degLimit p < bad) ∧ (t.cp p).deg = s.now)
    ∧ (2 ≤ st →
      Completes (.cpriControlWordReceive port rai sdi data) s fun t => t.get g Rg.CP_CW_RX = data.toNat
        ∧ (t.get g Rg.CP_STAT_DEF).testBit 3 = rai ∧ (t.cp p).sdiIn = sdi
        ∧ (rai = false → sdi = true → k.sdiIn = false → records s t g Ev.CP_SDI = true))
    ∧ (k.subst = true → s.cpDefect p = false → k.clear + s.get g Rg.CP_DEG_HOLD * 131072 ≤ s.now → rx % 131072 = 0 →
      Completes (.cpriSubstEnd port) s fun t => (t.cp p).subst = false ∧ t.regs = s.regs)
    ∧ (k.fault = some a → k.lost = false → a + s.get g Rg.CP_LOSTMS * 1966080 ≤ s.uptime →
      Completes (.cpPartnerLost port) s fun t => (t.cp p).lost = true ∧ records s t g Ev.CP_PARTNER_LOST = true)

namespace Sys2Proof.Claims
open Sys2Proof.Machine

/-! ## The Trestle -/

/-- The Trestle's own stores stand in their canonical form. -/
def trCanonical (s : State) : Bool :=
  Sparse.wf ring0 s.tr.rings && Sparse.wf queue0 s.tr.queues && Sparse.wf temp0 s.tr.temps && Sparse.wf host0 s.tr.hosts
    && Sparse.wf pool0 s.tr.pools && Sparse.wf vf0 s.tr.vfs

/-- No perturbation awaits the next token. -/
def tokensPass (s : State) : Bool := !s.ts.hits.any fun h => h.page = pgTr0 && h.kind = 3

/-- What the admission of token `k` brings about (R482, R488–R490): an event; a ready task of a template with one operand; a new entry of
the matching store; the entry's last operand makes a task. -/
def Admits (s t : State) (k : Token) : Prop :=
  let sel := tokenSel (s.queue k.queue) k.words
  let tm := s.temp sel.1
  let c := s.tokenCheck k
  let key := k.words.getD 1 0
  let w := s.stamp k.words
  let task := fun (ops : List (List Nat)) => (⟨sel.1, key, k.ctx, 0, tm.flowOf key ((ops.getD 0 []).getD 0 0), ops, s.now⟩ : Task)
  t.tr.lastAdmit = s.uptime + 1
  ∧ (c ≠ 0 → records s t pgTr0 c = true ∧ t.tr.ready = s.tr.ready ∧ t.tr.entries = s.tr.entries)
  ∧ (c = 0 → (t.queue k.queue).count = min (2 ^ 32 - 1) ((s.queue k.queue).count + 1))
  ∧ (c = 0 → s.matchOf sel.1 key k.ctx = none →
      (tm.nops = 1 → t.tr.ready = s.tr.ready ++ [task [w]] ∧ t.tr.entries = s.tr.entries)
      ∧ (tm.nops ≠ 1 → t.tr.ready = s.tr.ready
        ∧ t.tr.entries = s.tr.entries ++ [⟨sel.1, key, k.ctx, (List.replicate tm.nops []).set sel.2 w, s.now⟩]))
  ∧ (∀ e, c = 0 → s.matchOf sel.1 key k.ctx = some e → e.ops.getD sel.2 [] = [] → (∀ o ∈ e.ops.set sel.2 w, o ≠ []) →
      t.tr.ready = s.tr.ready ++ [task (e.ops.set sel.2 w)] ∧ e ∉ t.tr.entries)

end Sys2Proof.Claims

/-- R480–R483, R488–R491: a token is taken from the internal buffer first, then from a ring or from the arrivals; what its admission brings about; a
staging area's TR_SEND queues one. -/
def Obligations.TokensAreAdmitted : Prop :=
  ∀ (w : Who) (value n : Nat) (k : Token) (l : List Token) (s : State), s.canonical = true → trCanonical s = true →
    (s.domOn 3 = true → s.tr.lastAdmit + 1 ≤ s.uptime → tokensPass s = true → s.tokenHeld k = false →
      (s.tr.internal = k :: l → Completes .tokenAdmit s fun t => t.tr.internal = l ∧ t.tr.fifo = s.tr.fifo ∧ Admits s t k)
      ∧ (s.tr.internal = [] → s.tr.fifo = k :: l → s.ringTurn = none →
        Completes .tokenAdmit s fun t => t.tr.fifo = l ∧ t.tr.rings = s.tr.rings ∧ Admits s t k)
      ∧ (s.tr.internal = [] → s.tr.fifo = [] → s.ringTurn = some n → s.ringHead n = some k →
        Completes .tokenAdmit s fun t => (Sparse.get ring0 t.tr.rings n).items = (Sparse.get ring0 s.tr.rings n).items.drop 1
          ∧ t.tr.lastRing = n ∧ Admits s t k))
    ∧ (s.reaches w pgTr0 0x140 true = true →
      Completes (.trSend w value) s fun t =>
        (216 ≤ w.source → w.source ≤ 233 → t.tr.fifo = s.tr.fifo ++ [⟨value % 4096, w.ctx,
            (List.range 16).map (fun i => (s.reg pgTr0 (0x400 + 0x40 * (w.source - 216) + 4 * i)).toNat), w.source, none⟩])
        ∧ (w.source < 216 ∨ 233 < w.source → t.tr.fifo = s.tr.fifo ∧ records s t pgTr0 Ev.BAD_TOKEN = true))
    ∧ (s.domOn 3 = true → s.now % spanCy = 0 →
      let old := fun (e : MatchEntry) => (s.temp e.tt).tmo ≠ 0 ∧ e.first + (s.temp e.tt).tmo * spanCy ≤ s.now
      Completes .matchExpiry s fun t => t.tr.entries = s.tr.entries.filter (fun e => ¬ old e)
        ∧ ∀ e ∈ s.tr.entries, old e →
          ((s.temp e.tt).partial_ = true → ∃ x ∈ t.tr.ready, x.tt = e.tt ∧ x.key = e.key ∧ x.ctx = e.ctx ∧ x.ops = e.ops)
          ∧ ((s.temp e.tt).partial_ = false → records s t pgTr1 Ev.EXPIRED = true))

/-- R492–R497, R500: the first ready task whose flow is free is placed; a core pops its oldest task, ends one with TR_DONE, or loses all. -/
def Obligations.TasksArePlacedAndEnded : Prop :=
  ∀ (w : Who) (n : Fin 16) (value : Nat) (task : Task) (h : Held) (l : List Held) (s : State), s.canonical = true → trCanonical s = true →
    (s.domOn 3 = true →
      (∀ u fin, s.nextTask s.tr.ready [] = some (task, .eng u fin) → Completes .taskPlace s fun t =>
        t.tr.ready = s.tr.ready.erase task ∧ t.tr.jobs = s.tr.jobs ++ [⟨u, fin, task⟩])
      ∧ (∀ o, s.nextTask s.tr.ready [] = some (task, .host o) → Completes .taskPlace s fun t =>
        t.tr.ready = s.tr.ready.erase task ∧ (t.hostRing o).pidx = ((s.hostRing o).pidx + 1) % 65536
          ∧ (t.hostRing o).items = (s.hostRing o).items ++ [((s.hostRing o).pidx, task)])
      ∧ (∀ c, s.nextTask s.tr.ready [] = some (task, .core c) →
        (let slot := s.freeSlot c
         let a := s.get64 pgTr2 Rg.TR_C_AREA_LO c / 512 * 512 + 512 * slot
         (s.dynWrite ⟨234, 0, task.ctx, 0⟩ a (s.taskRecord task (c <<< 6 + slot))).1 = true →
         Completes .taskPlace s fun t => t.tr.ready = s.tr.ready.erase task ∧ t.tr.held = s.tr.held ++ [⟨c, slot, false, s.uptime, task⟩])))
    ∧ (s.reaches w pgTr2 (0x10C + 0x10 * n.val) false = true →
      (s.listOf n.val = [] → Completes (.taskPop w n) s fun t => t.rsp = ⟨0, 0⟩ ∧ t.tr = s.tr)
      ∧ (s.listOf n.val = h :: l → Completes (.taskPop w n) s fun t =>
        t.rsp = ⟨0, 2 ^ 31 + l.length * 2 ^ 16 + n.val * 64 + h.slot⟩ ∧ { h with popped := true } ∈ t.tr.held ∧ h ∉ t.tr.held))
    ∧ (s.reaches w pgTr2 0x200 true = true →
      let f := s.tr.held.find? fun x => x.core = bits value 9 6 && x.slot = bits value 5 0
      (f = some h → (w.ctx = 0 ∨ w.ctx = h.task.ctx) → Completes (.trDone w value) s fun t => t.tr.held = s.tr.held.filter (fun x => x ≠ h)
        ∧ t.get pgTr2 Rg.TR_C_DONE (bits value 9 6) = min (s.get pgTr2 Rg.TR_C_DONE (bits value 9 6) + 1) (2 ^ 32 - 1))
      ∧ (f = none ∨ (f = some h ∧ w.ctx ≠ 0 ∧ w.ctx ≠ h.task.ctx) →
        Completes (.trDone w value) s fun t => t.tr = s.tr ∧ records s t pgTr2 Ev.BAD_DONE = true))
    ∧ (s.reaches w pgTr2 0x204 true = true →
      Completes (.trCFlush w value) s fun t => (∀ x ∈ t.tr.held, x.core < 16 → value.testBit x.core = false)
        ∧ ∀ x ∈ s.tr.held, x.core < 16 → value.testBit x.core = true →
          (x.popped = false → x.task ∈ t.tr.ready) ∧ (x.popped = true → records s t pgTr2 Ev.TASK_DROP = true))
    ∧ (s.reaches w pgTr2 (0x280 + 4 * n.val) false = true →
      Completes (.trWaitRead w n) s fun t => t.rsp = ⟨0, s.get pgTr2 Rg.TR_C_WAIT n.val⟩ ∧ t.get pgTr2 Rg.TR_C_WAIT n.val = 0)

/-- R502–R505: the lowest-numbered free buffer is allocated; a handle is freed or given by its owner or by context 0 only; a pool is set up only while
all its buffers are free. -/
def Obligations.BufferLedger : Prop :=
  ∀ (w : Who) (p : Fin 16) (value : Nat) (s : State), s.canonical = true → trCanonical s = true →
    Sparse.wf nat0 (s.pool p.val).owner = true →
    let x := s.pool p.val
    let i := value % 65536
    let mine := bits value 19 16 = p.val
    let good := x.valid = true ∧ i < x.count
    let o := Sparse.get nat0 x.owner i
    let own := w.ctx = 0 ∨ w.ctx + 1 = o
    (s.reaches w pgTr3 (0x200 + 4 * p.val) false = true →
      (x.valid = true → 0 < x.free → Completes (.bufferAlloc w p) s fun t => ∃ b, t.rsp = ⟨0, 2 ^ 31 + p.val * 65536 + b⟩
        ∧ Sparse.get nat0 x.owner b = 0 ∧ (∀ c < b, Sparse.get nat0 x.owner c ≠ 0)
        ∧ Sparse.get nat0 (t.pool p.val).owner b = w.ctx + 1 ∧ ∀ c, c ≠ b → Sparse.get nat0 (t.pool p.val).owner c = Sparse.get nat0 x.owner c)
      ∧ (x.valid = false ∨ x.free = 0 → Completes (.bufferAlloc w p) s fun t => t.rsp = ⟨0, 0⟩ ∧ t.tr = s.tr
        ∧ irqSet t pgTr3 1 = true))
    ∧ (s.reaches w pgTr3 0x240 true = true → mine →
      (good → o ≠ 0 → own → Completes (.bufferFree w value) s fun t => Sparse.get nat0 (t.pool p.val).owner i = 0)
      ∧ (¬ good → Completes (.bufferFree w value) s fun t => t.tr = s.tr ∧ records s t pgTr3 Ev.BAD_HANDLE = true)
      ∧ (good → o = 0 → Completes (.bufferFree w value) s fun t => t.tr = s.tr ∧ records s t pgTr3 Ev.DOUBLE_FREE = true)
      ∧ (good → o ≠ 0 → ¬ own → Completes (.bufferFree w value) s fun t => t.tr = s.tr ∧ records s t pgTr3 Ev.FOREIGN_FREE = true))
    ∧ (s.reaches w pgTr3 0x244 true = true → mine →
      (good → o ≠ 0 → own → Completes (.bufferGive w value) s fun t => Sparse.get nat0 (t.pool p.val).owner i = bits value 31 20 + 1)
      ∧ (¬ good → Completes (.bufferGive w value) s fun t => t.tr = s.tr ∧ records s t pgTr3 Ev.BAD_HANDLE = true)
      ∧ (good → o = 0 → Completes (.bufferGive w value) s fun t => t.tr = s.tr ∧ records s t pgTr3 Ev.DOUBLE_FREE = true)
      ∧ (good → o ≠ 0 → ¬ own → Completes (.bufferGive w value) s fun t => t.tr = s.tr ∧ records s t pgTr3 Ev.FOREIGN_FREE = true))
    ∧ (s.reaches w pgTr3 (0x108 + 0x10 * p.val) true = true →
      (x.owner = [] → Completes (.trPoolCfgWrite w p value) s fun t => (t.pool p.val).valid = value.testBit 31
        ∧ (t.pool p.val).count = value % 65536 ∧ (t.pool p.val).size = 64 * 2 ^ bits value 27 24)
      ∧ (x.owner ≠ [] → Completes (.trPoolCfgWrite w p value) s fun t => (t.pool p.val).cfg = x.cfg
        ∧ t.reg pgTr3 (0x108 + 0x10 * p.val) = BitVec.ofNat 32 x.cfg))

namespace Sys2Proof.Claims
open Sys2Proof.Machine

/-! ## Tables behind an index register -/

/-- A whole register. -/
def whole (off : Nat) : Fld := ⟨off, 31, 0, .rw, 0, 0⟩

/-- The two halves of a 64-bit register and what they show of a value. -/
def halves (off v : Nat) : List (Fld × Nat) := [(whole off, v), (whole (off + 4), v / 2 ^ 32)]

/-- A write of an index register: command, page, offset, width, and the fields that then show entry `n`. -/
structure IndexRow where
  cmd : Who → Nat → Instr
  page : Nat
  off : Nat
  width : Nat
  shows : State → Nat → List (Fld × Nat)

/-- The index registers. -/
def IndexRows (e : IndexRow) : Prop := e ∈
  [(⟨.trQIdxWrite, pgTr0, 0x100, 12, fun s n => [(whole 0x104, (s.queue n).cfg), (whole 0x10C, (s.queue n).count)]⟩ : IndexRow),
   ⟨.trRIdxWrite, pgTr0, 0x110, 8, fun s n => let r := Sparse.get ring0 s.tr.rings n
     [(Rg.TR_R_CFG_SIZE, r.size), (Rg.TR_R_CFG_BASE, r.base), (Rg.TR_R_Q, r.queue), (Rg.TR_R_STAT_FILL, r.items.length),
       (Rg.TR_R_STAT_OVF, r.ovf)]⟩,
   ⟨.trTIdxWrite, pgTr1, 0x100, 8, fun s n => let x := s.temp n
     [(whole 0x104, x.cfg), (whole 0x108, x.flow), (whole 0x10C, x.emask), (whole 0x110, x.doneq), (whole 0x114, x.h), (whole 0x118, x.max),
       (Rg.TR_T_STAT_ENTRIES, s.entriesOf n), (Rg.TR_T_STAT_READY, s.readyOf n)]⟩,
   ⟨.trFIdxWrite, pgTr2, 0x300, 12, fun s n => [(Rg.TR_F_STAT_BUSY, (s.flowBusy n).toNat)]⟩,
   ⟨.trLIdxWrite, pgTr3, 0x248, 20, fun s n => let o := Sparse.get nat0 (s.pool (n / 65536)).owner (n % 65536)
     [(Rg.TR_L_STAT_OWNED, if o = 0 then 0 else 1), (Rg.TR_L_STAT_CTX, o - 1)]⟩,
   ⟨.trHIdxWrite, pgTr3, 0x300, 7, fun s n => let h := s.hostRing n
     halves 0x304 h.base ++ halves 0x30C h.pidxAt ++ [(whole 0x314, h.cfg), (Rg.TR_H_IDXS_CIDX, h.cidx), (Rg.TR_H_IDXS_PIDX, h.pidx)]⟩,
   ⟨.trVIdxWrite, pgTr3, 0x340, 6, fun s n => let v := s.vfWin n
     [(whole 0x344, v.q0), (whole 0x348, v.q1), (whole 0x34C, v.q2), (whole 0x350, v.q3), (Rg.TR_V_DROP, v.drop)]⟩] ++
  [⟨.ehIdxWrite, pgHub, 0x100, 13, fun s n => [(whole 0x104, s.route n), (Rg.EH_SRC_STAT_PEND, (s.hubPend n).toNat),
     (Rg.EH_SRC_STAT_INSVC, (s.hubBusy n).toNat)]⟩,
   ⟨.pcieVfIdxWrite, pgPcie, 0x120, 6, fun s n => (Rg.PCIE_VF_CTX, Sparse.get nat0 s.ab.pcie.ctx n)
     :: (List.range 4).map fun i => (whole (0x128 + 4 * i), Sparse.get nat0 s.ab.pcie.wins (4 * n + i))⟩,
   ⟨.ksSegIdxWrite, pgKeystone, 0x1A0, 9, fun s n => [(Rg.KS_SEG_STAT_STATE, (s.seg n).state), (Rg.KS_SEG_STAT_LIVE, s.segLive n),
     (Rg.KS_SEG_ERASES, (s.seg n).erases)]⟩,
   ⟨.ksPartIdxWrite, pgKeystone, 0x1B0, 3, fun s n => [(Rg.KS_PART_STAT_LIVE_KIB, ceilDiv (s.liveBytes n) 1024)]⟩,
   ⟨.poolMIdxWrite, pgPool, 0x160, 11, fun s n => let x := s.peer n
     [(Rg.POOL_M_STAT_FAILED, x.failed.toNat), (Rg.POOL_M_STAT_SUSPECT, x.suspect.toNat), (Rg.POOL_M_STAT_DISC, if x.disc = 0 then 0 else 1),
       (Rg.POOL_M_STAT_LINK, x.link), (Rg.POOL_M_STAT_MISS, x.miss), (Rg.POOL_M_STAT_LAST, x.last - 1)]⟩,
   ⟨.poolGIdxWrite, pgPool, 0x170, 8, fun s n => let g := s.guard n
     [(whole 0x174, g.cfg), (Rg.POOL_G_SIZE, g.size)] ++ halves 0x178 g.mir ++ halves 0x180 g.stg ++ halves 0x18C g.h ++
       [(Rg.POOL_G_STAT_FENCED, g.fenced.toNat), (Rg.POOL_G_STAT_NEED_FULL, g.needFull.toNat), (Rg.POOL_G_STAT_TAKEN, g.taken.toNat),
         (Rg.POOL_G_STAT_FCAUSE, g.fcause), (Rg.POOL_G_STAT_FCOND, g.fcond)]⟩,
   ⟨.poolOpIdxWrite, pgPool, 0x1C0, 8, fun s n => let x := s.opSlot n
     [(whole 0x1C4, x.cfg), (whole 0x1DC, x.stat)] ++ halves 0x1C8 x.t ++ halves 0x1D0 x.pay⟩] ++
  [⟨.ppKidxWrite, pgParapet, 0x168, 10, fun s n => match s.keyOf n with
     | some k => [(Rg.PP_KSTAT_VALID, 1), (Rg.PP_KSTAT_USE, k.use)]
     | none => [(Rg.PP_KSTAT_VALID, 0)]⟩,
   ⟨.ppSaIdxWrite, pgParapet, 0x170, 14, fun s n =>
     let a := s.sa (bits n 13 8) (n % 32)
     [(whole 0x174, a.cfg), (Rg.PP_SA_PN, a.pn)] ++ halves 0x178 a.sci⟩,
   ⟨.ppPkIdxWrite, pgParapet, 0x190, 4, fun s n => let k := s.key n
     [(Rg.PP_PK_STAT_VALID, k.used.toNat), (Rg.PP_PK_STAT_REVOKED, k.revoked.toNat), (Rg.PP_PK_STAT_PURPOSE, k.purpose), (Rg.PP_PK_ID, k.id)]⟩,
   ⟨.tsSlotIdxWrite, pgToll, 0x110, 8, fun s n => let x := s.tsSlot n
     [(whole 0x114, x.cfg), (Rg.TS_SLOT_DEPTH_DEPTH, x.depth), (Rg.TS_SLOT_DEPTH_WIDX, x.widx), (Rg.TS_SLOT_SEQ, x.seq)]
       ++ halves 0x118 x.list ++ halves 0x120 x.dst⟩]

/-- A command that applies staged registers to the entry that an index register names: the values of its operand for which it does, and what
it stores. -/
structure ApplyRow where
  cmd : Who → Nat → Instr
  page : Nat
  off : Nat
  when_ : Nat → State → Prop
  stores : Nat → State → State → Prop

/-- The commands that apply staged words. -/
def ApplyRows (e : ApplyRow) : Prop := e ∈
  [(⟨fun w _ => .trQWrite w, pgTr0, 0x108, fun _ _ => True, fun _ s t => let n := s.get pgTr0 Rg.TR_Q_IDX
     (t.queue n).cfg = (s.reg pgTr0 0x104).toNat ∧ (t.queue n).count = (s.queue n).count⟩ : ApplyRow),
   ⟨fun w _ => .trRWrite w, pgTr0, 0x11C,
     fun _ s => let n := s.get pgTr0 Rg.TR_R_IDX
       let b := s.get pgTr0 Rg.TR_R_CFG_BASE
       let z := s.get pgTr0 Rg.TR_R_CFG_SIZE
       s.planRings.contains n = false ∧ b + z ≤ 65536
         ∧ ∀ r ∈ s.tr.rings, r.1 = n ∨ r.2.size = 0 ∨ r.2.base + r.2.size ≤ b ∨ b + z ≤ r.2.base,
     fun _ s t => let r := Sparse.get ring0 t.tr.rings (s.get pgTr0 Rg.TR_R_IDX)
       r.base = s.get pgTr0 Rg.TR_R_CFG_BASE ∧ r.size = s.get pgTr0 Rg.TR_R_CFG_SIZE ∧ r.queue = s.get pgTr0 Rg.TR_R_Q⟩,
   ⟨fun w _ => .trRWrite w, pgTr0, 0x11C, fun _ s => s.planRings.contains (s.get pgTr0 Rg.TR_R_IDX) = true,
     fun _ s t => t.tr = s.tr ∧ records s t pgTr0 Ev.RING_CFG = true⟩,
   ⟨fun w _ => .trTWrite w, pgTr1, 0x11C,
     fun _ s => s.entriesOf (s.get pgTr1 Rg.TR_T_IDX) = 0 ∧ s.readyOf (s.get pgTr1 Rg.TR_T_IDX) = 0,
     fun _ s t => let r := fun o => (s.reg pgTr1 o).toNat
       t.temp (s.get pgTr1 Rg.TR_T_IDX) = ⟨r 0x104, r 0x108, r 0x10C, r 0x110, r 0x114, r 0x118⟩⟩,
   ⟨fun w _ => .trTWrite w, pgTr1, 0x11C, fun _ s => s.entriesOf (s.get pgTr1 Rg.TR_T_IDX) ≠ 0 ∨ s.readyOf (s.get pgTr1 Rg.TR_T_IDX) ≠ 0,
     fun _ s t => t.tr = s.tr ∧ records s t pgTr1 Ev.TT_BUSY = true⟩,
   ⟨fun w _ => .trHWrite w, pgTr3, 0x318, fun _ _ => True, fun _ s t => let h := t.hostRing (s.get pgTr3 Rg.TR_H_IDX)
     h.base = s.get64 pgTr3 Rg.TR_H_BASE_LO / 512 * 512 ∧ h.pidxAt = s.get64 pgTr3 Rg.TR_H_PIDX_LO / 4 * 4
       ∧ h.cfg = (s.reg pgTr3 0x314).toNat⟩,
   ⟨fun w _ => .trVWrite w, pgTr3, 0x354, fun _ s => s.get pgTr3 Rg.TR_V_IDX ≠ 0, fun _ s t =>
     ∀ j < 4, (t.vfWin (s.get pgTr3 Rg.TR_V_IDX)).q j = (s.reg pgTr3 (0x344 + 4 * j)).toNat⟩] ++
  [⟨.ehRouteWrite, pgHub, 0x104, fun _ s => s.get pgHub Rg.EH_IDX < 4416, fun v s t => let r := t.route (s.get pgHub Rg.EH_IDX)
     bits r 31 20 = bits v 31 20 ∧ bits r 10 0 = bits v 10 0⟩,
   ⟨fun w _ => .pcieVfWrite w, pgPcie, 0x138, fun _ s => s.get pgPcie Rg.PCIE_VF_IDX ≠ 0, fun _ s t => let f := s.get pgPcie Rg.PCIE_VF_IDX
     Sparse.get nat0 t.ab.pcie.ctx f = s.get pgPcie Rg.PCIE_VF_CTX
       ∧ ∀ i < 4, Sparse.get nat0 t.ab.pcie.wins (4 * f + i) = (s.reg pgPcie (0x128 + 4 * i)).toNat⟩,
   ⟨fun w _ => .poolGWrite w, pgPool, 0x19C, fun _ _ => True, fun _ s t =>
     let g := s.guard (s.get pgPool Rg.POOL_G_IDX)
     let h := t.guard (s.get pgPool Rg.POOL_G_IDX)
     h.cfg = (s.reg pgPool 0x174).toNat ∧ h.mir = s.get64 pgPool Rg.POOL_G_MIR_LO / 64 * 64
       ∧ h.stg = s.get64 pgPool Rg.POOL_G_STG_LO / 64 * 64 ∧ h.size = s.get pgPool Rg.POOL_G_SIZE ∧ h.h = s.get64 pgPool Rg.POOL_G_H_LO
       ∧ (h.cfg = g.cfg → g.alone = false → h.fenced = g.fenced ∧ h.committed = g.committed ∧ h.acked = g.acked)⟩,
   ⟨.poolOpWrite, pgPool, 0x1D8, fun v _ => v % 4 = 1, fun _ s t => let x := t.opSlot (s.get pgPool Rg.POOL_OP_IDX)
     x.cfg = (s.reg pgPool 0x1C4).toNat ∧ x.t = s.get64 pgPool Rg.POOL_OP_T_LO ∧ x.pay = s.get64 pgPool Rg.POOL_OP_PAY_LO⟩,
   ⟨.saWrite, pgParapet, 0x184, fun v _ => v % 2 = 1, fun _ s t =>
     t.sa s.saIdx.1 s.saIdx.2 = ⟨(s.reg pgParapet 0x174).toNat, s.get64 pgParapet Rg.PP_SA_SCI_LO, s.get pgParapet Rg.PP_SA_PN⟩⟩,
   ⟨.tsSlotWrite, pgToll, 0x130, fun v s => v % 2 = 1 ∧ ∀ r, s.ts.run = some r → r.slot ≠ s.get pgToll Rg.TS_SLOT_IDX, fun _ s t =>
     let x := t.tsSlot (s.get pgToll Rg.TS_SLOT_IDX)
     x.cfg = (s.reg pgToll 0x114).toNat ∧ x.list = s.get64 pgToll Rg.TS_SLOT_LIST_LO / 4 * 4
       ∧ x.dst = s.get64 pgToll Rg.TS_SLOT_DST_LO / 64 * 64 ∧ x.depth = s.get pgToll Rg.TS_SLOT_DEPTH_DEPTH ∧ x.widx = 0⟩]

/-- The tables stand in their canonical form. -/
def tablesCanonical (s : State) : Bool :=
  trCanonical s && Sparse.wf nat0 s.ab.hub.routes && Sparse.wf nat0 s.ab.pcie.ctx && Sparse.wf nat0 s.ab.pcie.wins
    && Sparse.wf guard0 s.pl.guards && Sparse.wf opSlot0 s.pl.slots && Sparse.wf sa0 s.sec.sas && Sparse.wf tsSlot0 s.ts.slots

end Sys2Proof.Claims

/-- R477, R478, R508–R512, R543, R577, R640, R660: a write of an index register loads its entry's words and status into the staging registers. R477,
R478, R485, R486, R508–R512, R577, R640, R660: a table's command register applies the staged words to the entry of the index register, or refuses
where the rule says so. -/
def Obligations.IndexedTablesShowAndApply : Prop :=
  (∀ e, IndexRows e → ∀ (w : Who) (value : Nat) (s : State), s.canonical = true → s.reaches w e.page e.off true = true →
    let n := value % 2 ^ e.width
    Completes (e.cmd w value) s fun t => ∀ f ∈ e.shows s n, t.get e.page f.1 = f.2 % 2 ^ (f.1.hi + 1 - f.1.lo))
    ∧ (∀ e, ApplyRows e → ∀ (w : Who) (value : Nat) (s : State), s.canonical = true → tablesCanonical s = true →
    s.reaches w e.page e.off true = true → e.when_ value s → Completes (e.cmd w value) s fun t => e.stores value s t)

namespace Sys2Proof.Claims
open Sys2Proof.Machine

/-! ## The short-vector extension -/

/-- Hart `h` runs: it executes the next instruction. -/
structure HartRuns (s : State) (h : Nat) : Prop where
  canonical : s.canonical = true
  qs : Sparse.wf nat0 (s.hart h).q = true
  xs : Sparse.wf nat0 (s.hart h).x = true
  csrs : Sparse.wf csrReset (s.hart h).csr = true
  runs : (s.hart h).running = true ∧ (s.hart h).wfi = false ∧ s.domOn (8 + h / 4) = true

/-- Element `i` of a register, `w` bits wide. -/
def elemAt (w v i : Nat) : Nat := v / 2 ^ (w * i) % 2 ^ w

/-- The operand b (R457). -/
def xsvOperand (x : Hart) (w fmt s2 i : Nat) : Nat :=
  if fmt = 0 then elemAt w (x.vec s2) i else if fmt = 1 then x.reg s2 % 2 ^ w else ofInt w (toInt 5 s2)

/-- What the next state holds after an instruction that writes qd: its elements, XSVSAT, FS, and everything else as before. -/
def WritesQ (s t : State) (h w d : Nat) (elem : Nat → Nat) (sat : Bool) : Prop :=
  let x := s.hart h
  let y := t.hart h
  (∀ i < 128 / w, elemAt w (y.vec d) i = elem i) ∧ (∀ r, r ≠ d → y.vec r = x.vec r) ∧ y.x = x.x ∧ y.pc = (x.pc + 4) % 2 ^ 64 ∧ y.fs = 3
    ∧ y.get csrXsvsat = (if sat then 1 else x.get csrXsvsat) ∧ y.get csrXsvstart = 0 ∧ t.mem = s.mem ∧ t.regs = s.regs
    ∧ ∀ k, k ≠ h → t.hart k = s.hart k

/-- A row of R458 that writes qd: the EW, FMT and S2 that it admits; an element from a, b, the old qd, x[rs1] and S2; the exact value
that is clipped to give it, where it is. -/
structure XsvRow where
  cmd : Fin 16 → Fin 4 → Fin 8 → Fin 32 → Fin 32 → Fin 32 → Instr
  ok : Nat → Nat → Nat → Bool
  elem : (w : Nat) → (a b d : Nat → Nat) → (x1 s2 i : Nat) → Nat
  exact_ : Option ((w : Nat) → (a b : Nat → Nat) → Nat → Int)

/-- A row whose element is a function of a and b. -/
def xsvEach (cmd : Fin 16 → Fin 4 → Fin 8 → Fin 32 → Fin 32 → Fin 32 → Instr) (f : Nat → Nat → Nat → Nat) : XsvRow :=
  ⟨cmd, fun _ fmt _ => decide (fmt ≤ 2), fun w a b _ _ _ i => f w (a i) (b i), none⟩

/-- A row whose element is an exact value clipped to the signed range. -/
def xsvClipped (cmd : Fin 16 → Fin 4 → Fin 8 → Fin 32 → Fin 32 → Fin 32 → Instr) (ok : Nat → Nat → Nat → Bool)
    (f : Nat → (Nat → Nat) → (Nat → Nat) → Nat → Int) : XsvRow :=
  ⟨cmd, ok, fun w a b _ _ _ i => ofInt w (satN w (f w a b i)), some f⟩

/-- The halves of a complex product (R458), with b conjugated or not. -/
def xsvProduct (conj : Bool) (w : Nat) (a b : Nat → Nat) (i : Nat) : Int :=
  let e := i / 2 * 2
  let t := fun (v : Nat → Nat) (k : Nat) => toInt w (v k)
  let bq := if conj then -(t b (e + 1)) else t b (e + 1)
  rnd 1 (if i % 2 = 0 then t a e * t b e - t a (e + 1) * bq else t a e * bq + t a (e + 1) * t b e) (w - 1)

def ones (w : Nat) (p : Bool) : Nat := if p then 2 ^ w - 1 else 0

/-- The rows of R458 that write qd. -/
def XsvRows (e : XsvRow) : Prop := e ∈
  [xsvEach .xsvVadd fun w a b => (a + b) % 2 ^ w,
   xsvEach .xsvVsub fun w a b => (a + 2 ^ w - b) % 2 ^ w,
   xsvEach .xsvVmul fun w a b => a * b % 2 ^ w,
   xsvEach .xsvVmulh fun w a b => ofInt w (toInt w a * toInt w b / (2 ^ w : Nat)),
   xsvEach .xsvVmin fun w a b => if toInt w a ≤ toInt w b then a else b,
   xsvEach .xsvVmax fun w a b => if toInt w a ≤ toInt w b then b else a,
   xsvEach .xsvVminu fun _ a b => min a b,
   xsvEach .xsvVmaxu fun _ a b => max a b,
   xsvEach .xsvVand fun _ a b => a &&& b,
   xsvEach .xsvVor fun _ a b => a ||| b,
   xsvEach .xsvVxor fun _ a b => a ^^^ b,
   xsvEach .xsvVsll fun w a b => a * 2 ^ (b % w) % 2 ^ w,
   xsvEach .xsvVsrl fun w a b => a / 2 ^ (b % w),
   xsvEach .xsvVsra fun w a b => ofInt w (toInt w a / (2 ^ (b % w) : Nat)),
   xsvEach .xsvVseq fun w a b => ones w (a == b),
   xsvEach .xsvVslt fun w a b => ones w (decide (toInt w a < toInt w b)),
   xsvEach .xsvVsltu fun w a b => ones w (decide (a < b))] ++
  [xsvClipped .xsvVadds (fun _ fmt _ => decide (fmt ≤ 2)) fun w a b i => toInt w (a i) + toInt w (b i),
   xsvClipped .xsvVsubs (fun _ fmt _ => decide (fmt ≤ 2)) fun w a b i => toInt w (a i) - toInt w (b i),
   xsvClipped .xsvVmulq (fun ew fmt _ => decide (fmt ≤ 2) && (ew == 1 || ew == 2)) fun w a b i =>
     rnd 1 (toInt w (a i) * toInt w (b i)) (w - 1),
   xsvClipped .xsvVcmulq (fun ew fmt _ => fmt == 0 && (ew == 1 || ew == 2)) (xsvProduct false),
   xsvClipped .xsvVcmulqj (fun ew fmt _ => fmt == 0 && (ew == 1 || ew == 2)) (xsvProduct true),
   ⟨.xsvVsel, fun ew fmt _ => ew == 0 && fmt == 0, fun w a b d _ _ i => (d i &&& a i) ||| ((2 ^ w - 1 - d i) &&& b i), none⟩,
   ⟨.xsvVredsum, fun _ fmt s2 => fmt == 0 && s2 == 0, fun w a _ _ _ _ i =>
     if i = 0 then ((List.range (128 / w)).map a).sum % 2 ^ w else 0, none⟩,
   ⟨.xsvVperm, fun ew fmt _ => ew == 0 && fmt == 0, fun _ a b _ _ _ i => if (b i).testBit 7 then 0 else a (b i % 16), none⟩,
   ⟨.xsvVmvqx, fun ew fmt s2 => fmt == 3 && decide (s2 < 16 / 2 ^ ew), fun w _ _ d x1 s2 i => if i = s2 then x1 % 2 ^ w else d i, none⟩,
   ⟨.xsvVdup, fun _ fmt s2 => fmt == 3 && s2 == 0, fun w _ _ _ x1 _ _ => x1 % 2 ^ w, none⟩]

end Sys2Proof.Claims

/-- R455–R459: every XSV arithmetic instruction writes the elements of its row, and XSVSAT where something is clipped; an EW, FMT or S2 that the row
does not list, FS = Off and XSVSTART ≠ 0 raise an illegal-instruction exception and write no register (the trap's form is the model's, log entry 23).
-/
def Obligations.ShortVectorElements : Prop :=
  ∀ (h : Fin 16) (ew : Fin 4) (fmt : Fin 8) (s2 s1 d : Fin 32) (s : State), HartRuns s h.val →
    let x := s.hart h.val
    let w := 8 * 2 ^ ew.val
    let a := elemAt w (x.vec s1.val)
    let b := xsvOperand x w fmt.val s2.val
    let go := x.fs ≠ 0 ∧ x.get csrXsvstart = 0
    let illegal := fun (t : State) => (t.hart h.val).q = x.q ∧ (t.hart h.val).x = x.x ∧ t.mem = s.mem
      ∧ (x.priv = 3 → (t.hart h.val).get csrMcause = 2 ∧ (t.hart h.val).get csrMepc = x.pc % 2 ^ 64
        ∧ (t.hart h.val).pc = x.get csrMtvec / 4 * 4)
    (∀ e, XsvRows e →
      (go → e.ok ew.val fmt.val s2.val = true → Completes (e.cmd h ew fmt s2 s1 d) s fun t =>
        ∀ sat, (sat = match e.exact_ with
          | some f => (List.range (128 / w)).any fun i => clips w (f w a b i)
          | none => false) →
        WritesQ s t h.val w d.val (e.elem w a b (elemAt w (x.vec d.val)) (x.reg s1.val) s2.val) sat)
      ∧ (¬ go ∨ e.ok ew.val fmt.val s2.val = false → Completes (e.cmd h ew fmt s2 s1 d) s illegal))
    ∧ (go → fmt.val = 3 → s2.val < 128 / w → Completes (.xsvVmvxq h ew fmt s2 s1 d) s fun t =>
        (t.hart h.val).q = x.q ∧ (t.hart h.val).pc = (x.pc + 4) % 2 ^ 64 ∧ ∀ r < 32, (t.hart h.val).reg r
          = if r = 0 then 0 else if r = d.val then ofInt 64 (toInt w (a s2.val)) else x.reg r)
    ∧ (¬ go ∨ fmt.val ≠ 3 ∨ 128 / w ≤ s2.val → Completes (.xsvVmvxq h ew fmt s2 s1 d) s illegal)

namespace Sys2Proof.Claims
open Sys2Proof.Machine

/-! ## Accesses of harts, of the host and of blocks -/

/-- Memory without an error in any word, and no perturbation that awaits a word. -/
def noErrors (s : State) : Bool := s.mu.ecc.isEmpty && s.ts.hits.isEmpty

/-- The next state's memory holds the low bytes of `v` at the `n` bytes from `a` on, and its old bytes elsewhere. -/
def Stores (s t : State) (a n v : Nat) : Prop :=
  ∀ b, t.byte b = if a ≤ b ∧ b < a + n then BitVec.ofNat 8 (v / 256 ^ (b - a)) else s.byte b

/-- A hart whose loads and stores use physical addresses without a check: M-mode, MPRV = 0, no PMP entry. -/
structure Bare (x : Hart) : Prop where
  m : x.priv = 3
  mprv : (x.get csrMstatus).testBit 17 = false
  pmp : ∀ i < 16, x.pmpcfg i = 0

end Sys2Proof.Claims

/-- R411–R415, R420, R424, R450: a memory refuses a dynamic access with its status and no effect, or queues its lines; the oldest line whose bank is
free is served: a read answers the bytes, a write stores them, an AMO answers the old word and stores the new one. -/
def Obligations.DynamicAccesses : Prop :=
  ∀ (w : Who) (addr : BitVec 48) (len : Fin 1025) (kind : DynKind) (data : Nat) (poison : Bool) (d : DynLine) (l : List DynLine) (s : State),
    s.canonical = true → tablesCanonical s = true →
    let a := addr.toNat
    let r := s.dynRefusal w a len.val kind
    let lines := dynLines w kind poison s.uptime 64 a len.val data
    ((isBulk a || inDeck a) = true → r.1 ≠ 0 → Completes (.dynamicMemoryAccess w addr len kind data poison) s fun t =>
      t.rsp = ⟨r.1, 0⟩ ∧ t.mem = s.mem ∧ t.mu = s.mu ∧ (r.2 ≠ 0 → records s t pgSys r.2 = true))
    ∧ ((isBulk a || inDeck a) = true → r.1 = 0 → (kind = .read ∨ kind = .write) → (∀ x ∈ lines, s.bankWait (bankOf x.addr) < 4) →
      Completes (.dynamicMemoryAccess w addr len kind data poison) s fun t => t.mu.dyn = s.mu.dyn ++ lines ∧ t.mem = s.mem)
    ∧ (s.mu.dyn = d :: l → d.since ≤ s.uptime → s.bankTaken d.addr = false → s.asleep (memDomain d.addr) = false → noErrors s = true →
        d.poison = false →
      Completes .dynamicAccessServed s fun t => t.mu.dyn.map (·.addr) = l.map (·.addr)
        ∧ (d.kind = .read → t.rsp = ⟨0, s.load d.addr d.len⟩ ∧ t.mem = s.mem)
        ∧ (d.kind = .write → t.rsp = ⟨0, 0⟩ ∧ Stores s t d.addr d.len d.data)
        ∧ ∀ aop c, d.kind = .amo aop c → t.rsp = ⟨0, s.load d.addr d.len⟩
            ∧ Stores s t d.addr d.len (amoNew aop d.len (s.load d.addr d.len) (d.data % 2 ^ (8 * d.len)) c))

/-- R443, R446, R448–R450, R461: a hart's reservation, atomic, fence, wait, cache-block and structure accesses on cached bulk memory. The base
architecture's instructions have the form that log entry 23 presumes. -/
def Obligations.HartMemoryInstructions : Prop :=
  ∀ (h : Fin 16) (wide : Bool) (aop : Fin 9) (op : Fin 3) (rs1 rs2 rd : Fin 32) (nf ew : Fin 4) (pi : Bool) (q : Fin 32) (c : CacheLine) (s : State),
    HartRuns s h.val → Bare (s.hart h.val) → s.canonical = true →
    let x := s.hart h.val
    let va := x.reg rs1.val
    let n := if wide then 8 else 4
    let me := 216 + h.val
    let v := x.reg rs2.val % 2 ^ (8 * n)
    let old := s.peek va n
    let done := fun (t : State) (r : Nat) => (t.hart h.val).pc = (x.pc + 4) % 2 ^ 64
      ∧ ∀ k < 32, (t.hart h.val).reg k = if k = 0 then 0 else if k = rd.val then r else x.reg k
    (va % n = 0 → isBulk va = true → s.cached va = some c →
      Completes (.lrSc h false wide rs1 rs2 rd) s (fun t => done t (ofInt 64 (toInt (8 * n) old)) ∧ (me, va / 64) ∈ t.mu.resv
        ∧ t.mem = s.mem ∧ t.ab.cache = s.ab.cache)
      ∧ Completes (.lrSc h true wide rs1 rs2 rd) s (fun t => (∀ r ∈ t.mu.resv, r.1 ≠ me) ∧ t.mem = s.mem
        ∧ ((me, va / 64) ∈ s.mu.resv → done t 0 ∧ t.peek va n = v ∧ ∀ r ∈ t.mu.resv, r.2 ≠ c.line)
        ∧ ((me, va / 64) ∉ s.mu.resv → done t 1 ∧ t.ab.cache = s.ab.cache))
      ∧ Completes (.coreAmo h aop wide rs1 rs2 rd) s (fun t => done t (ofInt 64 (toInt (8 * n) old)) ∧ t.mem = s.mem
        ∧ t.peek va n = amoNew aop.val n old v 0 % 2 ^ (8 * n)))
    ∧ (va % n ≠ 0 → Completes (.coreAmo h aop wide rs1 rs2 rd) s fun t => (t.hart h.val).get csrMcause = 6
        ∧ (t.hart h.val).get csrMtval = va % 2 ^ 64 ∧ t.mem = s.mem ∧ t.ab.cache = s.ab.cache)
    ∧ (isBulk va = true → s.cached va = some c → c.line = va / 64 → Completes (.cbo h op rs1) s fun t => (t.hart h.val).pc = (x.pc + 4) % 2 ^ 64
        ∧ (op.val = 0 → t.mem = s.mem) ∧ (op.val ≠ 1 → t.cached va = none)
        ∧ (op.val = 1 → ∃ y, t.cached va = some y ∧ y.dirty = false ∧ y.data = c.data))
    ∧ Completes (.fence h) s (fun t => (t.hart h.val).pc = (x.pc + 4) % 2 ^ 64 ∧ t.mem = s.mem ∧ t.ab.cache = s.ab.cache ∧ t.regs = s.regs)
    ∧ Completes (.wfi h) s (fun t => (t.hart h.val).pc = (x.pc + 4) % 2 ^ 64
        ∧ (t.hart h.val).wfi = decide (s.mip h.val &&& x.get csrMie = 0) ∧ t.mem = s.mem)
    ∧ (let w := 8 * 2 ^ ew.val
       let f := nf.val + 1
       q.val + nf.val ≤ 31 → ¬ (pi = true ∧ rs1.val = 0) → x.fs ≠ 0 → x.get csrXsvstart = 0 → va % 2 ^ ew.val = 0 → s.cached va = some c →
       c.line = va / 64 → (va + 16 * f - 1) / 64 = va / 64 → isBulk va = true →
       let moved := fun (t : State) => (t.hart h.val).get csrXsvstart = 0 ∧ (t.hart h.val).pc = (x.pc + 4) % 2 ^ 64
         ∧ (rs1.val ≠ 0 → (t.hart h.val).reg rs1.val = if pi then (va + 16 * f) % 2 ^ 64 else va)
       Completes (.xsvLoad h nf pi ew 0 rs1 0 q) s (fun t => moved t ∧ t.mem = s.mem ∧ t.ab.cache = s.ab.cache
         ∧ ∀ k < f, ∀ j < 128 / w, elemAt w ((t.hart h.val).vec (q.val + k)) j = s.peek (va + (j * f + k) * 2 ^ ew.val) (2 ^ ew.val))
       ∧ Completes (.xsvStore h nf pi ew 0 rs1 0 q) s (fun t => moved t ∧ t.mem = s.mem
         ∧ ∀ k < f, ∀ j < 128 / w, t.peek (va + (j * f + k) * 2 ^ ew.val) (2 ^ ew.val) = elemAt w (x.vec (q.val + k)) j))

/-- R443, R444, R452, R454: cores are held in reset and start at CL_BOOT; the timer line follows the compare register; a cluster changes its
performance level. -/
def Obligations.CoresAndClusters : Prop :=
  ∀ (w : Who) (h : Fin 16) (c : Fin 4) (value : Nat) (s : State), s.canonical = true →
    let g := pgCluster (h.val / 4)
    let p := pgCluster c.val
    (s.reaches w g 0x104 true = true →
      ((s.hart h.val).running = true → Completes (.coreHold w h) s fun t => (t.hart h.val).running = false
        ∧ (t.get g Rg.CL_RST).testBit (h.val % 4) = true ∧ ∀ r ∈ t.mu.resv, r.1 ≠ 216 + h.val)
      ∧ ((s.hart h.val).running = false → s.domOn (8 + h.val / 4) = true → Completes (.coreRelease w h) s fun t =>
        (t.hart h.val).running = true ∧ (t.hart h.val).pc = s.get64 g Rg.CL_BOOT_LO / 4 * 4 ∧ (t.hart h.val).priv = 3
          ∧ (t.get g Rg.CL_RST).testBit (h.val % 4) = false ∧ (t.hart h.val).x = []))
    ∧ (s.domOn (8 + h.val / 4) = true → Completes (.mtimecmpMatch h) s fun t =>
        (t.hart h.val).mti = decide (s.get64 g Rg.CL_MTIMECMP_LO (h.val % 4) ≤ s.now) ∧ t.regs = s.regs)
    ∧ (s.reaches w p 0x110 true = true → s.flag p Rg.CL_PLEVEL_BUSY = false → Completes (.clusterPlevelRequest w c value) s fun t =>
        t.get p Rg.CL_PLEVEL_REQ = value % 8 ∧ t.flag p Rg.CL_PLEVEL_BUSY = decide (value % 8 ≠ s.get p Rg.CL_PLEVEL_CUR)
          ∧ t.get p Rg.CL_PLEVEL_CUR = s.get p Rg.CL_PLEVEL_CUR)
    ∧ (s.domOn (8 + c.val) = true → s.flag p Rg.CL_PLEVEL_BUSY = true → Completes (.plevelDone c) s fun t =>
        t.get p Rg.CL_PLEVEL_CUR = Sparse.get nat0 s.ab.target c.val % 8
          ∧ t.flag p Rg.CL_PLEVEL_BUSY = decide (s.get p Rg.CL_PLEVEL_REQ ≠ Sparse.get nat0 s.ab.target c.val % 8))

/-- R464–R468: level and edge sources become pending; a source routed to the host sends its MSI-X message once; contexts claim and complete. R466,
R467: the source that a context claims is one that it may claim, and none that it may claim precedes it. -/
def Obligations.EventHubDeliversAndClaims : Prop :=
  (∀ (w : Who) (src : Fin 4096) (value n : Nat) (k : Fin 32) (s : State), s.canonical = true → Sparse.wf nat0 s.ab.hub.pend = true →
    Sparse.wf nat0 s.ab.hub.insvc = true → Sparse.wf nat0 s.ab.pcie.pba = true →
    let toHost := fun (m : Nat) => routeEn (s.route m) = true ∧ (routeKind (s.route m) = 1 ∨ routeKind (s.route m) = 2)
    let line := s.irqLine src.val
    (s.domOn 2 = true → s.domOn 3 = true → line ≠ s.hubPend src.val → Completes (.eventMessage src) s fun t =>
      t.hubPend src.val = line ∧ (∀ m, m ≠ src.val → t.hubPend m = s.hubPend m) ∧ t.ab.hub.insvc = s.ab.hub.insvc
      ∧ (¬ toHost src.val → t.ab.pcie = s.ab.pcie)
      ∧ (toHost src.val → line = true →
        let f := if routeKind (s.route src.val) = 1 then 0 else bits (s.route src.val) 25 20
        let v := bits (s.route src.val) 10 0
        let i := 4 * (2048 * f + v)
        let x := Sparse.get msix0 s.ab.pcie.msix
        s.linkUp = true → Sparse.get nat0 s.ab.pcie.bme f ≠ 0 → (f = 0 ∨ (s.ab.pcie.sriov = true ∧ v < 64)) →
          ((x (i + 3)).testBit 0 = true → Sparse.get nat0 t.ab.pcie.pba (2048 * f + v) = 1 ∧ t.ab.pcie.sent = s.ab.pcie.sent)
          ∧ ((x (i + 3)).testBit 0 = false → t.ab.pcie.sent = some (x i + 2 ^ 32 * x (i + 1), bytesOf 4 (x (i + 2))))))
    ∧ (s.reaches w pgHub 0x10C true = true → s.domOn 3 = true → ¬ toHost (4352 + value % 64) → Completes (.ehDoorbell w value) s fun t =>
        t.hubPend (4352 + value % 64) = true ∧ ∀ m, m ≠ 4352 + value % 64 → t.hubPend m = s.hubPend m)
    ∧ (s.reaches w pgHub (0x204 + 8 * k.val) false = true →
      (s.hubBest k.val = none → Completes (.ehClaim w k) s fun t => t.rsp = ⟨0, 0⟩ ∧ t.ab = s.ab)
      ∧ (s.hubBest k.val = some n → Completes (.ehClaim w k) s fun t => t.rsp = ⟨0, 2 ^ 31 + n⟩ ∧ t.hubBusy n = true
        ∧ t.hubPend n = (s.hubPend n && decide (n < 4096))))
    ∧ (s.reaches w pgHub (0x204 + 8 * k.val) true = true →
      let m := bits value 12 0
      let mine := s.hubBusy m = true ∧ routeKind (s.route m) = 0 ∧ bits (s.route m) 10 0 = k.val
      (mine → Completes (.ehComplete w k value) s fun t => t.hubBusy m = false ∧ t.ab.hub.pend = s.ab.hub.pend)
      ∧ (¬ mine → Completes (.ehComplete w k value) s fun t => t.ab.hub = s.ab.hub ∧ records s t pgHub Ev.BAD_COMPLETE = true)))
    ∧ (∀ (k : Fin 32) (n : Nat) (s : State), Sparse.wf nat0 s.ab.hub.pend = true →
    let may := fun (m : Nat) => s.hubPend m = true ∧ s.hubBusy m = false ∧ routeEn (s.route m) = true ∧ routeKind (s.route m) = 0
      ∧ bits (s.route m) 10 0 = k.val ∧ s.get pgHub Rg.EH_THR k.val < routePrio (s.route m)
    (s.hubBest k.val = some n → may n ∧ ∀ m, may m → routePrio (s.route m) < routePrio (s.route n)
      ∨ (routePrio (s.route m) = routePrio (s.route n) ∧ n ≤ m))
    ∧ (s.hubBest k.val = none → ∀ m, ¬ may m))

/-- R473, R499, R501: a virtual function's token and consumer-index writes, or their drop; a function-level reset. R468–R472, R636, R666: outbound
accesses, completions that do not come, the link, PE_PERST_N, requests of the host, and the debug port. -/
def Obligations.HostRequestsAndFunctions : Prop :=
  (∀ (f : Fin 64) (j : Fin 4) (off : Fin 4096) (second : Bool) (data : List Nat) (s : State), s.canonical = true → trCanonical s = true →
    let q := (s.vfWin f.val).q j.val
    let dropped := fun (t : State) => t.tr.fifo = s.tr.fifo ∧ (t.vfWin f.val).drop = min (2 ^ 32 - 1) ((s.vfWin f.val).drop + 1)
      ∧ records s t pgTr3 Ev.VF_DROP = true
    (s.vfLive f.val = true →
      (data.length = 64 → off.val = 0 → q.testBit 31 = true → Completes (.vfTokenWrite f j off data) s fun t =>
        t.tr.fifo = s.tr.fifo ++ [⟨q % 4096, Sparse.get nat0 s.ab.pcie.ctx f.val,
          (List.range 16).map (fun i => ofBytes ((data.drop (4 * i)).take 4)), 233, none⟩])
      ∧ (data.length ≠ 64 ∨ off.val ≠ 0 ∨ q.testBit 31 = false → Completes (.vfTokenWrite f j off data) s dropped)
      ∧ (data.length = 4 → Completes (.vfCidxWrite f second data) s fun t =>
        (t.hostRing (2 * f.val + second.toNat)).cidx = ofBytes data % 65536
          ∧ (t.hostRing (2 * f.val + second.toNat)).pidx = (s.hostRing (2 * f.val + second.toNat)).pidx)
      ∧ (data.length ≠ 4 → Completes (.vfCidxWrite f second data) s dropped))
    ∧ (s.linkUp = true → Completes (.flr f) s fun t => records s t pgPcie Ev.FLR = true
        ∧ ∀ k < 64, f.val = 0 ∨ k = f.val → Sparse.get nat0 t.ab.pcie.bme k = 0
          ∧ (∀ v < 2048, Sparse.get nat0 t.ab.pcie.pba (2048 * k + v) = 0)
          ∧ (∀ o, o = 2 * k ∨ o = 2 * k + 1 → (t.hostRing o).items = [] ∧ (t.hostRing o).cidx = 0 ∧ (t.hostRing o).pidx = 0
            ∧ (t.hostRing o).cfg.testBit 31 = false)
          ∧ (k ≠ 0 → ∀ j < 4, ((t.vfWin k).q j).testBit 31 = false)))
    ∧ (∀ (source a len wid speed : Nat) (d : List Nat) (st v : Nat) (r : OutRead) (l : List OutRead) (fn : Fin 64) (off : BitVec 36)
      (n : Fin 65) (x : BitVec 32) (addr : BitVec 48) (m : Fin 9) (m' : Fin 17) (y : BitVec 64) (s : State),
    s.canonical = true → Sparse.wf msix0 s.ab.pcie.msix = true →
    let o := off.toNat
    let host := (s.get64 pgPcie Rg.PCIE_OB_XLAT_LO + (a - outboundBase)) % 2 ^ 64
    let dbg : Who := ⟨235, 3, 0, 0⟩
    (outboundBase ≤ a → a < outboundBase + 0x1000000000 → s.asleep 5 = false →
      (s.linkUp = true → Completes (.outboundRequest source a (some d) len none) s (fun t => t.rsp = ⟨0, 0⟩ ∧ t.ab.pcie.sent = some (host, d))
        ∧ Completes (.outboundRequest source a none len (some (0, v))) s (fun t => t.rsp = ⟨0, v⟩)
        ∧ (st ≠ 0 → st ≠ 8 → Completes (.outboundRequest source a none len (some (st, v))) s fun t => t.rsp.status = 1)
        ∧ Completes (.outboundRequest source a none len none) s (fun t => t.ab.pcie.reads = s.ab.pcie.reads ++ [⟨source, a, len⟩]))
      ∧ (s.linkUp = false → Completes (.outboundRequest source a (some d) len none) s (fun t => t.rsp = ⟨0, 0⟩ ∧ t.ab = s.ab)
        ∧ Completes (.outboundRequest source a none len none) s (fun t => t.rsp = ⟨7, 0⟩ ∧ t.ab = s.ab)))
    ∧ (s.ab.pcie.reads = r :: l → Completes .cplTimeout s fun t => t.ab.pcie.reads = l ∧ t.rsp = ⟨7, 0⟩
        ∧ t.get pgPcie Rg.PCIE_ERRCNT_CTO = min (s.get pgPcie Rg.PCIE_ERRCNT_CTO + 1) (2 ^ (Rg.PCIE_ERRCNT_CTO.hi + 1 - Rg.PCIE_ERRCNT_CTO.lo) - 1)
        ∧ records s t pgPcie Ev.CPL_TIMEOUT = true)
    ∧ (s.domOn 5 = true → s.ab.pcie.perst = false →
      (s.flag pgPcie Rg.PCIE_STAT_LINK_UP = false → 1 ≤ speed → speed ≤ 5 → wid ≤ 16 → Completes (.pcieLinkChange true wid speed) s fun t =>
        t.linkUp = true ∧ t.get pgPcie Rg.PCIE_STAT_WIDTH = wid ∧ t.get pgPcie Rg.PCIE_STAT_SPEED = speed ∧ records s t pgPcie Ev.LINK_UP_59 = true)
      ∧ (s.flag pgPcie Rg.PCIE_STAT_LINK_UP = true → Completes (.pcieLinkChange false wid speed) s fun t =>
        t.linkUp = false ∧ t.ab.pcie.reads = [] ∧ records s t pgPcie Ev.LINK_DOWN = true))
    ∧ Completes .pciePerst s (fun t => t.linkUp = false ∧ t.ab.pcie.perst = true ∧ t.ab.pcie.bme = [] ∧ t.ab.pcie.sriov = false
        ∧ t.ab.pcie.wins = s.ab.pcie.wins)
    ∧ Completes .pePerstRelease s (fun t => t.ab.pcie.perst = false ∧ t.regs = s.regs)
    ∧ (s.linkUp = true →
      (o % 4 = 0 → o < 0x8000 → Completes (.hostRequest 0 4 off 4 none) s (fun t => t.rsp = ⟨0, Sparse.get msix0 s.ab.pcie.msix (o / 4)⟩)
        ∧ Completes (.hostRequest 0 4 off 4 (some x.toNat)) s (fun t => Sparse.get msix0 t.ab.pcie.msix (o / 4) = x.toNat))
      ∧ (isBulk o = true → s.dynRefusal (s.hostWho 0) o n.val .read = (0, 0) → noErrors s = true →
        Completes (.hostRequest 0 2 off n none) s fun t => t.rsp = ⟨0, s.load o n.val⟩ ∧ t.mem = s.mem)
      ∧ (isBulk o = true → s.dynRefusal (s.hostWho 0) o n.val .write = (0, 0) → noErrors s = true → s.ab.cache = [] →
        Completes (.hostRequest 0 2 off n (some v)) s fun t => t.rsp = ⟨0, 0⟩ ∧ Stores s t o n.val v)
      ∧ (fn.val ≠ 0 → s.ab.pcie.sriov = true → (Sparse.get nat0 s.ab.pcie.wins (4 * fn.val + o / 2 ^ 30)).testBit 31 = false →
        Completes (.hostRequest fn 2 off n (some v)) s fun t => t.rsp = ⟨1, 0⟩ ∧ t.mem = s.mem ∧ t.regs = s.regs))
    ∧ (isBulk addr.toNat = true →
      (s.debugMemory = true → s.dynRefusal dbg addr.toNat m.val .read = (0, 0) → noErrors s = true →
        Completes (.debugAccess addr m none) s fun t => t.rsp = ⟨0, s.load addr.toNat m.val⟩ ∧ t.mem = s.mem)
      ∧ (s.debugMemory = false → Completes (.debugAccess addr m (some y)) s fun t => t.rsp = ⟨4, 0⟩ ∧ t.mem = s.mem
        ∧ records s t pgSys Ev.PRIVILEGE = true))
    ∧ (m'.val = m.val → pagesBase ≤ addr.toNat → addr.toNat < pagesBase + 0x1000000 →
      exec (.debugAccess addr m none) s = exec (.loReadLatch dbg addr m') s
        ∧ exec (.debugAccess addr m (some y)) s = exec (.registerWrite dbg addr m' y) s))

namespace Sys2Proof.Claims
open Sys2Proof.Machine

/-- The commands of the Keystone's mailbox with their OP and the value of KS_CMD (R540). -/
def KeystoneRows (e : (Who → Instr) × Nat) (part : Fin 8) (flat : Bool) : Prop := e ∈
  [((fun w => Instr.ksWrite w part), 1 + part.val * 256), (fun w => .ksDelete w part, 2 + part.val * 256),
   (fun w => .ksLookup w part, 3 + part.val * 256), (fun w => .ksNext w part, 4 + part.val * 256),
   (fun w => .epochOpen w flat, 5 + flat.toNat * 32768), (fun w => .epochCommit w, 6), (fun w => .epochDiscard w, 7),
   (fun w => .trialBegin w, 8), (fun w => .confirm w, 9), (fun w => .abandon w, 10), (fun w => .rollback w, 11), (fun w => .ksCompact w, 12)]

/-- What the end of a refused Keystone command leaves: RESULT with OK = 0 and the event, and the array as it was. -/
def KsRefused (s t : State) (ev : Nat) : Prop :=
  t.flag pgKeystone Rg.KS_RESULT_DONE = true ∧ t.flag pgKeystone Rg.KS_RESULT_OK = false ∧ t.get pgKeystone Rg.KS_RESULT_EVENT = ev
    ∧ t.ks.words = s.ks.words ∧ t.ks.boot = s.ks.boot ∧ t.ks.cmd = none ∧ t.flag pgKeystone Rg.KS_STAT_BUSY = false
    ∧ records s t pgKeystone ev = true

end Sys2Proof.Claims

/-- R538, R540: a command of the mailbox begins: BUSY is set and the result cleared; one written while BUSY = 1 or READY = 0 is refused. R524, R528,
R535, R538, R540: the command in progress ends with its result: a key that firmware may not write, an epoch that is not open, a boot command out of
place are refused and leave the array; LOOKUP answers the address and SEQ of the record it finds. -/
def Obligations.KeystoneCommandsBeginAndEnd : Prop :=
  (∀ (e : (Who → Instr) × Nat) (w : Who) (part : Fin 8) (flat : Bool) (s : State), KeystoneRows e part flat → s.canonical = true →
    s.reaches w pgKeystone 0x104 true = true →
    let open_ := s.flag pgKeystone Rg.KS_STAT_BUSY = false ∧ s.flag pgKeystone Rg.KS_STAT_READY = true
    (open_ → Completes (e.1 w) s fun t => t.flag pgKeystone Rg.KS_STAT_BUSY = true ∧ (t.reg pgKeystone 0x130).toNat = 0
      ∧ t.ks.cmd = some ⟨e.2, s.uptime⟩ ∧ t.ks.words = s.ks.words)
    ∧ (¬ open_ → Completes (e.1 w) s fun t => t.ks = s.ks ∧ records s t pgKeystone Ev.BAD_CMD_08 = true
      ∧ t.flag pgKeystone Rg.KS_STAT_BUSY = s.flag pgKeystone Rg.KS_STAT_BUSY))
    ∧ (∀ (c : KsCmd) (r : KsRec) (n : Nat) (s : State), s.canonical = true → s.ks.cmd = some c → c.start + s.ksLeast c.value ≤ s.uptime →
    s.flag pgKeystone Rg.KS_TEAR_ARM = false →
    let op := c.value % 256
    let part := bits c.value 10 8
    let b := s.ks.boot
    let e := s.ksArg 3
    (op = 1 ∨ op = 2 → s.mayWrite part (s.ksArg 0) (if part = 0 then e else 0) = false →
      Completes .ksCommandComplete s fun t => KsRefused s t Ev.BAD_CMD_08)
    ∧ (op = 3 → s.searchRefusal part s.searched = 0 → s.findKey part (s.ksArg 0) (s.ksArg 1) (s.searchList part s.searched) = (some r, n) →
        n < 4 → Completes .ksCommandComplete s fun t => t.get pgKeystone Rg.KS_RES 0 + 2 ^ 32 * t.get pgKeystone Rg.KS_RES 1
            = (keystoneBase + 8 * r.at_) % 2 ^ 32 + 2 ^ 32 * ((keystoneBase + 8 * r.at_) / 2 ^ 32 % 2 ^ 32)
          ∧ t.get pgKeystone Rg.KS_RES 2 = r.seq % 2 ^ 32 ∧ t.flag pgKeystone Rg.KS_RESULT_OK = true
          ∧ t.flag pgKeystone Rg.KS_RESULT_OLDER = n.testBit 1 ∧ t.ks.words = s.ks.words ∧ t.ks.recs = s.ks.recs)
    ∧ (op = 6 ∨ op = 7 → s.epochState e ≠ 1 → Completes .ksCommandComplete s fun t => KsRefused s t Ev.BAD_CMD_08)
    ∧ (op = 8 → b.state ≠ 0 ∨ 1 < s.ksArg 6 ∨ s.ksArg 6 = b.confSlot → Completes .ksCommandComplete s fun t => KsRefused s t Ev.BAD_CMD_08)
    ∧ (op = 9 → b.state ≠ 1 → Completes .ksCommandComplete s fun t => KsRefused s t Ev.BAD_CMD_08)
    ∧ (op = 10 → b.state ≠ 1 → Completes .ksCommandComplete s fun t => KsRefused s t Ev.BAD_CMD_08)
    ∧ (op = 11 → b.state ≠ 0 ∨ b.prevV = false → Completes .ksCommandComplete s fun t => KsRefused s t Ev.BAD_CMD_08))

/-- R515–R518, R521, R522, R527, R528: the scan makes the Keystone ready; with few free segments a spent one is erased and gets its header; the patrol
marks a corrected word's segment and reports an uncorrectable one. -/
def Obligations.KeystoneUpkeep : Prop :=
  ∀ (n : Fin 512) (i : Fin 8192) (s : State), s.canonical = true → Sparse.wf ksSeg0 s.ks.segs = true → Sparse.wf ksWord0 s.ks.words = true →
    let a := 8192 * n.val + i.val
    let ready := s.ks.cmd = none ∧ s.flag pgKeystone Rg.KS_STAT_READY = true
    (s.ks.scan = true → Completes .keystoneScan s fun t => t.flag pgKeystone Rg.KS_STAT_READY = true ∧ t.ks.scan = false ∧ irqSet t pgKeystone 1 = true
      ∧ (s.sec.crash = [] → t.ks.words = s.ks.words))
    ∧ (ready → s.ks.torn = false → s.ks.tear = none → s.wearVictim = none → s.freeSegs.length < 32 →
        (s.seg n.val).state = 2 → (∀ m < n.val, (s.seg m).state ≠ 0 ∧ (s.seg m).state ≠ 2) →
      Completes .backgroundCompaction s fun t => (t.seg n.val).state = 1 ∧ (t.seg n.val).erases = (s.seg n.val).erases + 1
        ∧ (4 ≤ i.val → t.ksRaw a = 2 ^ 64 - 1) ∧ t.ksRaw (8192 * n.val) % 2 ^ 32 = ((s.seg n.val).erases + 1) % 2 ^ 32
        ∧ ∀ b, b / 8192 ≠ n.val → t.ksRaw b = s.ksRaw b)
    ∧ (ready → 3 ≤ (s.seg n.val).state →
      (s.ksKind a = 0 → Completes (.patrolRead n i) s fun t => t.ks = s.ks ∧ t.regs = s.regs)
      ∧ (s.ksKind a = 1 → Completes (.patrolRead n i) s fun t => (t.seg n.val).mark = true ∧ t.ks.words = s.ks.words)
      ∧ (2 ≤ s.ksKind a → Completes (.patrolRead n i) s fun t => irqSet t pgKeystone 31 = true ∧ t.ks.words = s.ks.words
        ∧ ∀ r ∈ t.ks.recs, r.at_ ≤ a → a < r.at_ + 6 + ceilDiv r.len 8 → r.corrupt = true))

namespace Sys2Proof.Claims
open Sys2Proof.Machine

/-- A domain shows a transition to `st`, which ends `len` cy from now. -/
def Passes (s t : State) (d req via len st : Nat) : Prop :=
  t.flag (pgDom d) Rg.D_STAT_BUSY = true ∧ t.get (pgDom d) Rg.D_STAT_TARGET = st ∧ t.domCur d = s.domCur d
    ∧ t.transOf d = some ⟨d, req, via, len, some (s.uptime + len)⟩

/-- The request for state `st` finds the domain at rest in a state that needs no limit on wakes, and nothing refuses it. -/
def MayPass (s : State) (d st req : Nat) : Prop :=
  s.refuser d st req = none ∧ s.flag (pgDom d) Rg.D_STAT_BUSY = false ∧ st ≠ s.get (pgDom d) Rg.D_STAT_TARGET
    ∧ (s.domCur d < 2 ∨ s.domCur d < st)

/-- The Keeper is able to act. -/
def KeeperActs (s : State) : Prop := s.pw.down = false ∧ s.pw.porst = false ∧ s.pw.warmPin = false

/-- A warm reset has taken place: its cause, the air count, and the domains, of which bring-up has asked none but D01. -/
def WarmReset (s t : State) (cause : Nat) : Prop :=
  t.mode = modeBringup ∧ t.air = 0 ∧ (t.reg pgPwr 0x120).toNat = 2 ^ cause
    ∧ (∀ d : Fin 80, d.val ≠ 0 → t.domCur d.val = 3) ∧ (∀ a, isBulk a = true ∨ inDeck a = true → memDomain a ≠ 0 → t.byte a = 0)
    ∧ t.ks.words = s.ks.words ∧ t.sec.fuses = s.sec.fuses ∧ t.pending = s.pending

end Sys2Proof.Claims

/-- R585–R589, R593: a request refused, begun, deferred or that aborts an entry; the beginning of a deferred wake; the end of a transition; the idle
timer. -/
def Obligations.DomainTransitions : Prop :=
  ∀ (w : Who) (d : Fin 80) (value : Nat) (o : TrigOut) (tr : Trans) (u : Nat) (s : State), s.canonical = true → d.val ≠ 0 →
    let g := pgDom d.val
    let st := value % 4
    (s.reaches w g 0x100 true = true →
      (st = s.get g Rg.D_STAT_TARGET → Completes (.domainRequest w 0 d value) s fun t => t.reg g 0x104 = s.reg g 0x104 ∧ t.pw.trans = s.pw.trans)
      ∧ (∀ r, st ≠ s.get g Rg.D_STAT_TARGET → s.refuser d.val st 0 = some r → Completes (.domainRequest w 0 d value) s fun t =>
          t.reg g 0x104 = s.reg g 0x104 ∧ t.get g Rg.D_REFUSE_REFUSER = r ∧ t.get g Rg.D_REFUSE_REQUESTER = 0
            ∧ t.get g Rg.D_REFUSE_COUNT = min (s.get g Rg.D_REFUSE_COUNT + 1) 65535 ∧ records s t g Ev.REFUSED = true ∧ irqSet t g 0 = true)
      ∧ (MayPass s d.val st 0 → Completes (.domainRequest w 0 d value) s fun t =>
          Passes s t d.val 0 (max (s.domCur d.val) st) (changeCy d.val (s.domCur d.val) st) st)
      ∧ (s.refuser d.val st 0 = none → s.flag g Rg.D_STAT_BUSY = false → st ≠ s.get g Rg.D_STAT_TARGET → 2 ≤ s.domCur d.val → st < s.domCur d.val →
          s.wakeFits (changeCy d.val (s.domCur d.val) st) (s.domCur d.val = 3) = false → Completes (.domainRequest w 0 d value) s fun t =>
            t.get g Rg.D_DEFER = min (s.get g Rg.D_DEFER + 1) 65535 ∧ t.domCur d.val = s.domCur d.val
              ∧ (t.transOf d.val).map Trans.due = some none)
      ∧ (s.refuser d.val st 0 = none → s.flag g Rg.D_STAT_BUSY = true → st ≠ s.get g Rg.D_STAT_TARGET → Completes (.domainRequest w 0 d value) s fun t =>
          Passes s t d.val 0 (s.get g Rg.D_STAT_TARGET) (wakeCy d.val (s.get g Rg.D_STAT_TARGET)) 0
            ∧ t.get g Rg.D_ABORT_COUNT = min (s.get g Rg.D_ABORT_COUNT + 1) 65535 ∧ records s t g Ev.ABORTED = true))
    ∧ (s.py.trigOut.find? (fun o => o.action = 5 && decide (o.due ≤ s.uptime)) = some o → o.arg % 128 = d.val →
        MayPass s d.val (bits o.arg 9 8) 2 → Completes (.domainRequest w 1 d value) s fun t =>
          Passes s t d.val 2 (max (s.domCur d.val) (bits o.arg 9 8)) (changeCy d.val (s.domCur d.val) (bits o.arg 9 8)) (bits o.arg 9 8)
            ∧ t.py.trigOut = s.py.trigOut.erase o)
    ∧ (s.domCur d.val = 1 → s.flag g Rg.D_STAT_IDLE = true → MayPass s d.val 0 5 → Completes (.domainRequest w 2 d value) s fun t =>
        Passes s t d.val 5 1 2 0)
    ∧ (s.transOf d.val = some tr → tr.due = none → s.wakeFits tr.len (s.domCur d.val = 3) = true → Completes (.deferredWakeStart d) s fun t =>
        t.transOf d.val = some { tr with due := some (s.uptime + tr.len) }
          ∧ t.pw.begun.getLast? = some ⟨d.val, s.uptime, s.uptime + tr.len, s.domCur d.val = 3⟩)
    ∧ (s.transOf d.val = some tr → tr.due = some u → u ≤ s.uptime → s.pw.seq = KSeq.none → Completes (.domainTransitionDone d) s fun t =>
        t.domCur d.val = s.get g Rg.D_STAT_TARGET ∧ t.flag g Rg.D_STAT_BUSY = false ∧ t.transOf d.val = none
          ∧ (s.domCur d.val ≠ s.get g Rg.D_STAT_TARGET → t.get g Rg.D_STAT_LAST_REQ = tr.req % 16 ∧ irqSet t g 2 = true)
          ∧ (s.get g Rg.D_STAT_TARGET = 3 → s.domCur d.val ≠ 3 → ∀ a, isBulk a = true ∨ inDeck a = true → memDomain a = d.val → t.byte a = 0)
          ∧ (∀ a, isBulk a = true ∨ inDeck a = true → memDomain a ≠ d.val → t.byte a = s.byte a))
    ∧ (idleDomain d.val = true → s.flag g Rg.D_CFG_IDLE_EN = true → s.planDomain d.val = false →
        (8 ≤ d.val → d.val ≤ 11 → ∀ i : Fin 4, (s.hart (4 * (d.val - 8) + i.val)).running = true → (s.hart (4 * (d.val - 8) + i.val)).wfi = true) →
        Sparse.get (fun _ => 0) s.pw.act d.val + s.get g Rg.D_CFG_IDLE_T * 1024 ≤ s.uptime + 1 → s.domOn d.val = true → s.get g Rg.D_STAT_TARGET = 0 →
      (s.get g Rg.D_CFG_IDLE_ST ≠ 2 → s.refuser d.val 1 4 = none → Completes (.idleTimerExpiry d) s fun t => Passes s t d.val 4 1 2 1)
      ∧ (s.get g Rg.D_CFG_IDLE_ST = 2 → 16 ≤ d.val → s.refuser d.val 2 4 = none → Completes (.idleTimerExpiry d) s fun t => Passes s t d.val 4 2 64 2))

/-- R596, R597, R611: the pads of a domain follow their block again; the deck level changes outside plans; a PMBus transaction begins and ends. -/
def Obligations.PadsLevelsAndPmbus : Prop :=
  ∀ (w : Who) (d : Fin 80) (value l : Nat) (nack late badPec : Bool) (data : BitVec 32) (s : State), s.canonical = true →
    (s.reaches w (pgDom d.val) 0x10C true = true →
      (value % 2 = 1 → s.domOn d.val = true → Completes (.padRelease w d value) s fun t => t.flag (pgDom d.val) Rg.D_STAT_LATCHED = false)
      ∧ (value % 2 = 0 ∨ s.domOn d.val = false → Completes (.padRelease w d value) s fun t => t.reg (pgDom d.val) 0x104 = s.reg (pgDom d.val) 0x104))
    ∧ (s.reaches w pgPwr 0x100 true = true →
      (s.planBusy = true → Completes (.deckLevelRequest w value) s fun t =>
        t.reg pgPwr 0x100 = s.reg pgPwr 0x100 ∧ records s t pgPwr Ev.PLEVEL_REFUSED = true ∧ irqSet t pgPwr 2 = true)
      ∧ (s.planBusy = false → Completes (.deckLevelRequest w value) s fun t =>
          t.get pgPwr Rg.PWR_DECK_REQ = value % 4 ∧ t.get pgPwr Rg.PWR_DECK_CUR = s.get pgPwr Rg.PWR_DECK_CUR
            ∧ (s.flag pgPwr Rg.PWR_DECK_BUSY = true → t.pw.level = s.pw.level)
            ∧ (s.flag pgPwr Rg.PWR_DECK_BUSY = false →
              t.flag pgPwr Rg.PWR_DECK_BUSY = decide (min 2 (value % 4) ≠ s.get pgPwr Rg.PWR_DECK_CUR)
              ∧ t.pw.level = if min 2 (value % 4) = s.get pgPwr Rg.PWR_DECK_CUR then none else some (min 2 (value % 4)))))
    ∧ (s.pw.level = some l → l ≤ 2 → s.now % 4 = 0 → s.pw.down = false → Completes .deckPlevelDone s fun t =>
        t.get pgPwr Rg.PWR_DECK_CUR = l ∧ irqSet t pgPwr 2 = true ∧ t.pw.level = (if s.levelReq = l then none else some s.levelReq)
          ∧ t.flag pgPwr Rg.PWR_DECK_BUSY = decide (s.levelReq ≠ l))
    ∧ (s.reaches w pgPm 0x104 true = true →
      (bits value 31 31 = 1 → s.flag pgPm Rg.PM_STAT_BUSY = false → Completes (.pmbusTransaction w value) s fun t =>
        t.flag pgPm Rg.PM_STAT_BUSY = true ∧ t.pw.pm = some (value % 2 ^ 32))
      ∧ (bits value 31 31 = 0 → Completes (.pmbusTransaction w value) s fun t => t.pw.pm = s.pw.pm ∧ t.reg pgPm 0x10C = s.reg pgPm 0x10C))
    ∧ (s.pw.pm = some value → s.pw.seq.steps = [] → badPec = false → Completes (.pmbusDone nack late badPec data) s fun t =>
        t.pw.pm = none ∧ t.flag pgPm Rg.PM_STAT_BUSY = false ∧ t.flag pgPm Rg.PM_STAT_NACK = nack ∧ t.flag pgPm Rg.PM_STAT_TIMEOUT = late
          ∧ irqSet t pgPm 0 = true ∧ (nack = true → irqSet t pgPm 1 = true)
          ∧ t.get pgPm Rg.PM_DATA = if bits value 30 30 = 1 ∧ nack = false ∧ late = false then data.toNat % 2 ^ (8 * min 4 (bits value 28 26))
            else s.get pgPm Rg.PM_DATA)

/-- R582, R599, R604, R605, R623, R625: PORST_N, its release, the self-test, a rail's reading, WARMRST_N. -/
def Obligations.ResetsAndRails : Prop :=
  ∀ (strap : Fin 8) (refosc : Fin 4) (n : Fin 16) (rest : List KStep) (word : BitVec 16) (s : State), s.canonical = true →
    let pairs := fun (m : Nat) => bits s.sec.fuses (2 * m - 1) (2 * m - 2)
    (s.ks.cmd = none → Completes .porst s fun t =>
      t.pw = Power.zero ∧ t.mem = [] ∧ t.piers = [] ∧ t.keys = s.keys ∧ t.ks.words = s.ks.words ∧ t.sec.fuses = s.sec.fuses ∧ t.pending = s.pending
        ∧ ∀ pg off, off < 4096 → pg ≠ pgParapet → pg ≠ pgSys → pg ≠ pgDebug → t.reg pg off = resetVal (regKey pg off))
    ∧ (s.pw.porst = true → Completes (.porstRelease strap refosc) s fun t =>
        t.pw.porst = false ∧ t.uptime = 0 ∧ t.get pgSys Rg.SYS_MODE_STRAP = strap.val ∧ t.flag pgKeeper Rg.KP_STAT_KEEPER_UP = true
          ∧ t.pw.test = (refosc.val != 3 && strap.val != 2 && decide (strap.val < 4))
          ∧ (4 ≤ strap.val ∨ refosc.val = 3 → records s t pgPwr Ev.STRAP_BAD = true)
          ∧ (refosc.val = 3 → t.flag pgParapet Rg.PP_FAULT_STRAP = true)
          ∧ t.flag pgParapet Rg.PP_CAISSON_WIPING = true
          ∧ ∀ a, caissonBase ≤ a → a < caissonBase + 0x400000 → t.byte a = 0)
    ∧ (s.pw.test = true → KeeperActs s →
      ((∀ m, 1 ≤ m → m ≤ 4 → pairs m = 0 ∨ pairs m = 3) →
        (s.get pgParapet Rg.PP_LC_LC = 4 → Completes .selfTestDone s fun t => t = s)
        ∧ (s.get pgParapet Rg.PP_LC_LC ≠ 4 → s.flag pgKeystone Rg.KS_STAT_READY = false → Completes .selfTestDone s fun t =>
            t.mode = modeBringup ∧ t.pw.test = false ∧ t.ks.scan = true ∧ t.pw.seq.kind = 1 ∧ t.pw.seq.steps = .scan :: bringUpSteps
              ∧ irqSet t pgPwr 0 = true))
      ∧ (pairs 1 = 1 ∨ pairs 1 = 2 → s.flag pgKeystone Rg.KS_STAT_READY = false → Completes .selfTestDone s fun t =>
          t.sec.fuses = s.sec.fuses ||| 3 ∧ t.flag pgParapet Rg.PP_LC_TORN = true ∧ irqSet t pgParapet 3 = true))
    ∧ (s.pw.seq.steps = .rail n.val :: rest → s.pw.seq.begun = true → s.pw.seq.good = none → s.pw.seq.poll ≤ s.uptime → s.pw.down = false →
      let end_ := s.pw.seq.at_ + s.get pgPwr Rg.PWR_RAIL_B_TMO n.val * 1966080
      (word &&& 0xE03C ≠ 0 → Completes (.railPoll (some word)) s fun t => t.mode = modeInert ∧ t.get pgPwr Rg.PWR_RAIL_STAT_FAIL = n.val
        ∧ t.get pgPwr Rg.PWR_RAIL_STAT_ON = 0 ∧ t.pw.seq.steps = [] ∧ records s t pgPwr Ev.RAIL_FAULT = true)
      ∧ (word &&& 0xE03C = 0 → word.getLsbD 11 = false → s.get pgPwr Rg.PWR_RAIL_B_DELAY n.val ≠ 0 → Completes (.railPoll (some word)) s fun t =>
          t.get pgPwr Rg.PWR_RAIL_STAT_ON = s.get pgPwr Rg.PWR_RAIL_STAT_ON ||| 2 ^ n.val ∧ t.pw.seq.good = some s.uptime)
      ∧ (word &&& 0xE03C = 0 → word.getLsbD 11 = true → end_ ≤ s.uptime → Completes (.railPoll (some word)) s fun t =>
          t.mode = modeInert ∧ t.get pgPwr Rg.PWR_RAIL_STAT_FAIL = n.val ∧ records s t pgPwr Ev.RAIL_TIMEOUT = true)
      ∧ (s.uptime < end_ → Completes (.railPoll none) s fun t => t.mode = s.mode ∧ t.pw.seq.poll = s.uptime + 196608 ∧ irqSet t pgPm 1 = true))
    ∧ (s.pw.porst = false → s.pw.warmPin = false → Completes .warmrst s fun t => WarmReset s t 1 ∧ t.pw.warmPin = true ∧ t.pw.seq = KSeq.none)
    ∧ (s.pw.warmPin = true → s.pw.down = false → s.pw.porst = false → s.domCur 1 = 3 → s.refuser 1 0 1 = none →
        s.flag (pgDom 1) Rg.D_STAT_BUSY = false → s.get (pgDom 1) Rg.D_STAT_TARGET = 3 → Completes .warmrstRelease s fun t =>
          t.pw.warmPin = false ∧ t.pw.seq.kind = 1 ∧ t.pw.seq.steps = bringUpSteps ∧ t.get (pgDom 1) Rg.D_STAT_TARGET = 0
            ∧ t.flag (pgDom 1) Rg.D_STAT_BUSY = true)

/-- R536, R599, R602, R604, R606, R608: MODE_SET refused, begun and done; the wake from QUIET; the internal warm resets, of which those of a trial
image's limits have cause CONFIRM. -/
def Obligations.ModesAndWarmResets : Prop :=
  ∀ (w : Who) (rest : List KStep) (x : WakeSrc) (s : State), s.canonical = true → KeeperActs s →
    let m := s.get pgKeeper Rg.KP_ARG % 8
    let due := s.get64 pgKeystone Rg.KS_DEADLINE_LO
    (s.reaches w pgKeeper 0x100 true = true →
      (s.flag pgKeeper Rg.KP_STAT_BUSY = true →
        (Completes (.modeSet w) s fun t => records s t pgKeeper Ev.BAD_CMD_01 = true ∧ t.pw.mail = s.pw.mail ∧ t.mode = s.mode)
        ∧ Completes (.warmReset w) s fun t => records s t pgKeeper Ev.BAD_CMD_01 = true ∧ t.pw.mail = s.pw.mail ∧ t.mode = s.mode)
      ∧ (s.flag pgKeeper Rg.KP_STAT_BUSY = false →
        (s.modeCause m ≠ 0 → Completes (.modeSet w) s fun t => t.reg pgSys 0x110 = s.reg pgSys 0x110 ∧ t.pw.mail = none
          ∧ t.get pgKeeper Rg.KP_RESULT_CAUSE = s.modeCause m ∧ t.flag pgKeeper Rg.KP_RESULT_OK = false ∧ t.flag pgKeeper Rg.KP_RESULT_DONE = true
          ∧ t.get pgKeeper Rg.KP_RESULT_EVENT = Ev.MODE_REFUSED ∧ t.flag pgKeeper Rg.KP_STAT_BUSY = false)
        ∧ (s.modeCause m = 0 → m ≠ modeInert → m ≠ modeQuiet → Completes (.modeSet w) s fun t => t.mode = s.mode ∧ t.get pgSys Rg.SYS_MODE_TARGET = m
          ∧ t.flag pgSys Rg.SYS_MODE_BUSY = true ∧ t.flag pgKeeper Rg.KP_STAT_BUSY = true ∧ t.pw.mail = some 1)
        ∧ (s.domOn 0 = true → Completes (.warmReset w) s fun t => WarmReset s t 2 ∧ t.pw.seq.kind = 1)))
    ∧ (s.pw.mail = some 1 → s.flag pgSys Rg.SYS_MODE_BUSY = true → s.pw.seq.kind < 2 → Completes .modeDone s fun t =>
        t.mode = s.get pgSys Rg.SYS_MODE_TARGET ∧ t.flag pgSys Rg.SYS_MODE_BUSY = false ∧ t.flag pgKeeper Rg.KP_RESULT_OK = true
          ∧ t.flag pgKeeper Rg.KP_STAT_BUSY = false ∧ irqSet t pgPwr 0 = true ∧ irqSet t pgKeeper 0 = true)
    ∧ (s.pw.wake = some x → s.mode = modeQuiet → s.flag pgSys Rg.SYS_MODE_BUSY = false → s.wakeSteps = .domains [(1, 0)] :: rest →
        s.domCur 1 = 3 → s.refuser 1 0 1 = none → s.flag (pgDom 1) Rg.D_STAT_BUSY = false → s.get (pgDom 1) Rg.D_STAT_TARGET = 3 →
        Completes .quietWake s fun t => t.get pgSys Rg.SYS_MODE_TARGET = modeBringup ∧ t.flag pgSys Rg.SYS_MODE_BUSY = true ∧ t.pw.seq.kind = 3
          ∧ t.get (pgDom 1) Rg.D_STAT_TARGET = 0 ∧ t.flag (pgDom 1) Rg.D_STAT_BUSY = true)
    ∧ (s.trialRuns = true → s.domOn 0 = true →
      (due ≠ 0 → due ≤ s.now → Completes .confirmExpired s fun t => WarmReset s t 3 ∧ irqSet t pgKeystone 4 = true)
      ∧ (due = 0 → s.ks.trialAt + 2359296000000 ≤ s.uptime → Completes .trialBringupLimit s fun t =>
          WarmReset s t 3 ∧ irqSet t pgKeystone 4 = true)
      ∧ (due = 0 ∨ s.now < due → Completes .confirmExpired s fun t => t = s))

namespace Sys2Proof.Claims
open Sys2Proof.Machine

/-- The tables of the POOL block stand in their canonical form. -/
def poolCanonical (s : State) : Bool :=
  s.canonical && Sparse.wf peer0 s.pl.peers && Sparse.wf guard0 s.pl.guards && Sparse.wf opSlot0 s.pl.slots
    && Sparse.wf (fun _ => 0) s.pl.seq && Sparse.wf (fun _ => 0) s.pl.timeAt

/-- How many links carry a frame to every member. -/
def groupLinks (s : State) : Nat := ((List.range 16).filter fun n => s.enabled (pgLk n) && s.flag (pgLk n) Rg.LK_CFG_MC).length

/-- The frames that a command has put on the links: `n` of them, each with a TYPE and a destination. -/
def Sends (s t : State) (n type dst : Nat) : Prop :=
  ∃ l, t.pl.out = s.pl.out ++ l ∧ l.length = n ∧ ∀ f ∈ l, f.type = type ∧ f.dst = dst

/-- The oldest received frame of a TYPE, which the block takes. -/
def Waits (s : State) (type : Nat) (r : Ronris) : Prop := s.pl.inbox.find? (fun r => r.type = type) = some r ∧ s.poolOn = true

end Sys2Proof.Claims

/-- R549–R558: HELLO and firmware's frames are sent; the discovery table, SEEKING, views and heartbeats change the chip's state. -/
def Obligations.PoolMembership : Prop :=
  ∀ (w : Who) (value m : Nat) (chip : Fin 2048) (r : Ronris) (x : NextView) (s : State), poolCanonical s = true →
    let own := s.get64 pgSys Rg.SYS_UID_LO
    let uid := beAt r.body 0 8
    let n := s.get pgPool Rg.POOL_SEND_LEN
    let at_ := s.get64 pgPool Rg.POOL_VS_AIR_LO
    (s.reaches w pgPool 0x120 true = true →
      (value % 2 = 1 → s.poolActs = true → Completes (.helloSend w value) s fun t => Sends s t (groupLinks s) 1 0x8000)
      ∧ (value % 2 = 0 ∨ s.poolActs = false → Completes (.helloSend w value) s fun t => t.pl = s.pl))
    ∧ (Waits s 1 r →
      (r.src ≠ s.chipId → Completes .hello s fun t => (t.peer r.src).disc = s.uptime + 1 ∧ (t.peer r.src).uid = uid ∧ (t.peer r.src).mac = r.mac
        ∧ (t.peer r.src).link = r.link ∧ t.plState = s.plState)
      ∧ (r.src = s.chipId → uid ≠ own → Completes .hello s fun t => irqSet t pgPool 3 = true ∧ t.pl.peers = s.pl.peers
        ∧ t.plState = if uid < own ∧ s.poolActs = true then plConflict else s.plState))
    ∧ (s.poolOn = true → (s.peer chip.val).disc ≠ 0 → (s.peer chip.val).disc + 128 * spanCy ≤ s.uptime + 1 →
        Completes (.discoveryExpiry chip) s fun t => (t.peer chip.val).disc = 0 ∧ ∀ c, c ≠ chip.val → t.peer c = s.peer c)
    ∧ (s.poolActs = true → s.plState = plSeeking → s.discEmpty = true → s.pl.seekAt + s.get pgPool Rg.POOL_CFG3_SEEK * spanCy ≤ s.uptime →
        Completes .seekTimeout s fun t => t.plState = plAlone ∧ t.get pgPool Rg.POOL_VIEW = 0 ∧ t.get pgPool Rg.POOL_STAT_N = 0
          ∧ t.pl.active = some ⟨0, [s.chipId]⟩ ∧ irqSet t pgPool 4 = true)
    ∧ (s.reaches w pgPool 0x124 true = true →
      (fwType (bits value 31 24) = false ∨ 9130 < n → Completes (.poolSend w value) s fun t => t.pl = s.pl ∧ irqSet t pgPool 9 = true)
      ∧ (fwType (bits value 31 24) = true → n ≤ 9130 → s.poolActs = true → s.plState ≠ plConflict → 0x8000 ≤ bits value 15 0 →
          Completes (.poolSend w value) s fun t => t.pl.out = s.pl.out ∨ Sends s t (groupLinks s) (bits value 31 24) 0x8000))
    ∧ (s.reaches w pgPool 0x150 true = true →
      (s.poolActs = false → Completes (.viewLoad w) s (fun t => t.pl = s.pl) ∧ Completes (.viewWithdraw w) s fun t => t.pl = s.pl)
      ∧ (s.poolActs = true → at_ % spanCy ≠ 0 ∨ at_ < s.now + spanCy →
          Completes (.viewLoad w) s (fun t => t.pl = s.pl ∧ irqSet t pgPool 5 = true)
          ∧ Completes (.viewWithdraw w) s fun t => t.pl = s.pl ∧ irqSet t pgPool 5 = true)
      ∧ (∀ v s1, s.poolActs = true → at_ % spanCy = 0 → s.now + spanCy ≤ at_ → s.pl.active = none →
          ((s.answer 0 0).touch 4).dynRead ⟨236, 2, 0, 0⟩ (s.get64 pgPool Rg.POOL_VS_ADDR_LO) (2 * (s.get pgPool Rg.POOL_VS_CNT + 1)) = (some v, s1) →
          let l := (List.range (s.get pgPool Rg.POOL_VS_CNT + 1)).map fun i => v / 2 ^ (16 * i) % 65536
          rising l = true → (∀ c ∈ l, c < 2048) →
            (s.chipId ∈ l → Completes (.viewLoad w) s fun t => t.pl.loaded = some ⟨at_, ⟨s.get pgPool Rg.POOL_VS_NUM, l⟩, false⟩)
            ∧ (s.chipId ∉ l → Completes (.viewWithdraw w) s fun t => t.pl.loaded = some ⟨at_, ⟨s.get pgPool Rg.POOL_VS_NUM, l⟩, true⟩)))
    ∧ (s.poolActs = true → s.pl.loaded = some x → x.at_ ≤ s.now →
      (x.withdraw = true → Completes .viewActive s fun t => t.plState = plSeeking ∧ t.pl.active = none ∧ t.pl.prev = s.pl.active ∧ t.pl.loaded = none)
      ∧ (x.withdraw = false → Completes .viewActive s fun t => t.pl.active = some x.view ∧ t.pl.prev = s.pl.active ∧ t.pl.loaded = none
          ∧ irqSet t pgPool 6 = true
          ∧ (x.view.members.length = 1 → t.plState = plAlone)
          ∧ (x.view.members.length ≠ 1 → t.plState = plMember ∧ t.get pgPool Rg.POOL_VIEW = x.view.num % 2 ^ 32
            ∧ t.get pgPool Rg.POOL_STAT_N = (x.view.members.length - 1) % 4096)))
    ∧ (s.reaches w pgPool 0x11C true = true → value % 2 = 1 → s.poolActs = true → s.plState = plAlone ∨ s.plState = plMember →
      (s.pl.beat = s.poolSpan + 1 → Completes (.beat w value) s fun t => t.pl = s.pl ∧ irqSet t pgPool 7 = true)
      ∧ (s.pl.beat ≠ s.poolSpan + 1 → Completes (.beat w value) s fun t => t.pl.beat = s.poolSpan + 1 ∧ Sends s t (groupLinks s) 2 0x8000))
    ∧ (Waits s 2 r → s.evalDue = false → r.src ≠ s.chipId → Completes .heartbeat s fun t => (t.peer r.src).mac = r.mac
        ∧ (t.peer r.src).link = r.link ∧ (t.peer r.src).last = if s.others.contains r.src then
          max (s.peer r.src).last (s.fullSpan (beAt r.body 0 4) + 1) else (s.peer r.src).last)
    ∧ (s.evalDue = true → s.others.Nodup → Completes .peerEvaluation s fun t => t.pl.evalAt = s.poolSpan + 1
        ∧ t.get pgPool Rg.POOL_STAT_OWN_MISS = (if s.pl.beat = s.poolSpan then 0 else min 15 (s.get pgPool Rg.POOL_STAT_OWN_MISS + 1))
        ∧ (m ∈ s.others →
          let miss := if s.poolSpan < (s.peer m).last + 2 then 0 else min 255 (s.poolSpan - 1 - (s.peer m).last)
          (t.peer m).miss = miss
            ∧ ((s.peer m).failed = false → s.failN ≤ miss → (t.peer m).failed = true ∧ (t.peer m).failedAt = s.now ∧ irqSet t pgPool 1 = true)
            ∧ ((s.peer m).failed = false → miss < s.failN → (t.peer m).failed = false ∧ (t.peer m).suspect = decide (s.failN - 1 ≤ miss))
            ∧ ((s.peer m).failed = true → (s.peer m).back = false → (t.peer m).failed = true)
            ∧ ((s.peer m).failed = true → (s.peer m).back = true → (t.peer m).failed = false ∧ irqSet t pgPool 2 = true)))

/-- R559, R570, R571, R573: the commands of a guard entry: TAKE waits, is refused or is accepted; UNFENCE; HANDOVER and its effect; the quorum at the
effect of a takeover. -/
def Obligations.GuardCommands : Prop :=
  ∀ (w : Who) (k : Fin 256) (h at_ : Nat) (s : State), poolCanonical s = true →
    let i := s.get pgPool Rg.POOL_G_IDX
    let g := s.guard i
    let x := s.guard k.val
    (s.reaches w pgPool 0x19C true = true →
      (s.poolActs = true → g.valid = true → g.standby = true → g.take = none →
        (g.copy ≠ none → Completes (.take w) s fun t => t.guard i = { g with takeWait := true })
        ∧ (g.copy = none →
          ((s.peer g.partner).failed = false → g.final = none → Completes (.take w) s fun t =>
            (t.guard i).fcause = 1 ∧ (t.guard i).take = none ∧ irqSet t pgPool 10 = true)
          ∧ ((s.peer g.partner).failed = true ∨ g.final ≠ none →
            (g.committed = none → Completes (.take w) s fun t => (t.guard i).fcause = 2 ∧ (t.guard i).take = none ∧ irqSet t pgPool 10 = true)
            ∧ (g.committed ≠ none → s.offGrid = true → Completes (.take w) s fun t => (t.guard i).fcause = 3 ∧ (t.guard i).take = none)
            ∧ (g.committed ≠ none → s.offGrid = false → Completes (.take w) s fun t => (t.guard i).fenced = true
              ∧ ((s.peer g.partner).failed = false → (t.guard i).take = g.final.map fun h => (h, true))
              ∧ ((s.peer g.partner).failed = true → (t.guard i).take
                  = some (ceilDiv (max ((s.peer g.partner).failedAt + 1966080) s.now) spanCy * spanCy, false))))))
      ∧ (g.standby = false ∨ g.valid = false → Completes (.take w) s fun t => t.pl = s.pl)
      ∧ (g.fenced = false → Completes (.unfence w) s fun t => t.pl = s.pl)
      ∧ (g.fenced = true → g.take = none → g.standby = true ∨ s.fenceCond g = 0 → Completes (.unfence w) s fun t =>
          t.guard i = { g with fenced := false, fcond := 0 } ∧ ∀ j, j ≠ i → t.guard j = s.guard j)
      ∧ (g.fenced = true → g.take ≠ none ∨ (g.standby = false ∧ s.fenceCond g ≠ 0) → Completes (.unfence w) s fun t =>
          t.pl = s.pl ∧ irqSet t pgPool 10 = true)
      ∧ (s.poolActs = true → g.valid = true → g.standby = false → Completes (.handover w) s fun t =>
          t.guard i = { g with move := some g.h } ∧ ∀ j, j ≠ i → t.guard j = s.guard j))
    ∧ (s.poolActs = true → x.move = some h →
      (x.finalAcked = false → h ≤ s.now + spanCy → Completes (.handoverLate k) s fun t => t.guard k.val = { x with move := none } ∧ irqSet t pgPool 22 = true)
      ∧ (x.finalAcked = true → h ≤ s.now → x.fenced = false → Completes (.handoverEffect k) s fun t =>
          t.guard k.val = { x with move := none, fenced := true, fcond := 4 } ∧ irqSet t pgPool 8 = true))
    ∧ (s.poolActs = true → x.move = none → x.take = some (at_, true) → at_ ≤ s.now → Completes (.handoverEffect k) s fun t =>
        (t.guard k.val).fenced = false ∧ (t.guard k.val).taken = true ∧ (t.guard k.val).alone = true ∧ (t.guard k.val).take = none
          ∧ irqSet t pgPool 11 = true)
    ∧ (s.poolActs = true → x.take = some (at_, false) → at_ ≤ s.now →
      let q := s.quorum x
      let sus := (s.others.filter fun m => m ≠ x.partner && (s.peer m).miss = 0 && (s.peer m).lists.contains x.partner).length
      ((s.peer x.partner).failed = false → Completes (.takeoverEffect k) s fun t =>
          (t.guard k.val).fcause = 1 ∧ (t.guard k.val).take = none ∧ (t.guard k.val).fenced = x.fenced ∧ irqSet t pgPool 10 = true)
      ∧ ((s.peer x.partner).failed = true → q.1 ≤ 2 * q.2 → q.2 ≤ 2 * sus → Completes (.takeoverEffect k) s fun t =>
          (t.guard k.val).fenced = false ∧ (t.guard k.val).taken = true ∧ irqSet t pgPool 11 = true)
      ∧ ((s.peer x.partner).failed = true → 2 * q.2 < q.1 ∨ 2 * sus < q.2 → Completes (.takeoverEffect k) s fun t =>
          (t.guard k.val).fcause = 4 ∧ (t.guard k.val).fenced = x.fenced ∧ irqSet t pgPool 10 = true))

/-- R566–R569: an epoch is sent, or refused; its DELTAs and COMMIT are staged at the standby; a whole epoch is copied and acknowledged, a failed one
is not. -/
def Obligations.CheckpointEpochs : Prop :=
  ∀ (w : Who) (value : Nat) (k : Fin 256) (r : Ronris) (i e : Nat) (g x : Guard) (c : Copying) (ds : List (Nat × Nat × List Nat)) (s s1 : State),
    poolCanonical s = true →
    let n := bits value 7 0
    let a := s.guard n
    let full := bits value 8 8 = 1
    let count := beAt r.body 8 4
    (s.reaches w pgPool 0x1AC true = true → s.poolActs = true → a.valid = true → a.standby = false →
      (s.plState ≠ plMember ∨ a.alone = true ∨ a.partner ∉ s.others → Completes (.ckGo w value) s fun t => t.pl = s.pl ∧ irqSet t pgPool 15 = true)
      ∧ (s.plState = plMember → a.alone = false → a.partner ∈ s.others →
        (s.uptime < a.sendEnd → Completes (.ckGo w value) s fun t => t.pl = s.pl ∧ irqSet t pgPool 13 = true)
        ∧ (a.sendEnd ≤ s.uptime → a.needFull = true → ¬ full → Completes (.ckGo w value) s fun t => t.pl = s.pl ∧ irqSet t pgPool 14 = true)
        ∧ (a.sendEnd ≤ s.uptime → a.needFull = false ∨ full → Completes (.ckGo w value) s fun t => (t.guard n).sent = (a.sent + 1) % 2 ^ 32
          ∧ (t.guard n).sentFinal = decide (bits value 9 9 = 1) ∧ (t.guard n).finalAcked = false ∧ (t.guard n).needFull = false
          ∧ (t.guard n).acked = a.acked)))
    ∧ (Waits s 8 r → e = beAt r.body 0 4 →
      (s.standbyOf (beAt r.body 4 2 % 4096) = none → Completes .delta s fun t => t.pl.guards = s.pl.guards ∧ t.mem = s.mem)
      ∧ (s.standbyOf (beAt r.body 4 2 % 4096) = some (i, g) →
        (g.rx = none → g.committed = some e → Completes .delta s fun t => t.pl.guards = s.pl.guards ∧ t.mem = s.mem)
        ∧ (g.rx = some e → r.src ≠ g.partner ∨ g.size * 64 < beAt r.body 8 4 + (r.body.drop 16).length → Completes .delta s fun t =>
            (t.guard i).bad = true ∧ (t.guard i).rx = some e ∧ (t.guard i).deadline = s.ckDeadline ∧ t.mem = s.mem)
        ∧ (g.rx = some e → g.commit = none → r.src = g.partner → beAt r.body 8 4 + (r.body.drop 16).length ≤ g.size * 64 →
          Completes .delta s fun t => (t.guard i).deltas = g.deltas ++ [(beAt r.body 6 2, beAt r.body 8 4, r.body)]
            ∧ (t.guard i).deadline = s.ckDeadline ∧ (t.guard i).commit = none)))
    ∧ (Waits s 9 r → s.standbyOf (beAt r.body 4 2 % 4096) = some (i, g) →
      (r.src ≠ g.partner → Completes .commit s fun t => t.pl.guards = s.pl.guards)
      ∧ (r.src = g.partner → g.rx = some (beAt r.body 0 4) → g.bad = false →
          (List.range count).map (fun k => g.deltas.find? fun d => d.1 = k) = ds.map some →
          crc32c (ds.flatMap (·.2.2)) = beAt r.body 12 4 → beAt r.body 6 2 % 2 = 1 → Completes .commit s fun t =>
            (t.guard i).rx = none ∧ (t.guard i).deltas = [] ∧ (t.guard i).copy = some ⟨s.uptime + (ds.map fun d => ceilDiv (d.2.2.length - 16) 64).sum + 4096,
              beAt r.body 0 4, if beAt r.body 6 2 / 2 % 2 = 1 then some (beAt r.body 16 8) else none,
              ds.map fun d => (d.2.1, d.2.2.length - 16)⟩)
      ∧ (r.src = g.partner → g.rx = some (beAt r.body 0 4) → (∃ k < count, ∀ d ∈ g.deltas, d.1 ≠ k) → Completes .commit s fun t =>
          (t.guard i).commit = some (beAt r.body 6 2, count, beAt r.body 12 4, beAt r.body 16 8) ∧ (t.guard i).rx = g.rx
            ∧ (t.guard i).deltas = g.deltas ∧ (t.guard i).deadline = s.ckDeadline))
    ∧ (s.poolOn = true → x = s.guard k.val → x.copy = some c → c.due ≤ s.uptime → x.takeWait = false →
      (s.ckCopy x c.ranges = (true, s1) → Completes (.checkpointCopyDone k) s fun t => (t.guard k.val).copy = none
        ∧ (t.guard k.val).committed = some c.epoch ∧ (t.guard k.val).final = c.final.or x.final ∧ t.mem = s1.mem)
      ∧ (s.ckCopy x c.ranges = (false, s1) → Completes (.checkpointCopyDone k) s fun t => (t.guard k.val).copy = none
        ∧ (t.guard k.val).committed = x.committed ∧ irqSet t pgPool 12 = true))
    ∧ (s.poolActs = true → (s.guard k.val).rx ≠ none → (s.guard k.val).deadline ≤ s.now → Completes (.ckBad k) s fun t =>
        (t.guard k.val).rx = none ∧ (t.guard k.val).deltas = [] ∧ (t.guard k.val).committed = (s.guard k.val).committed ∧ irqSet t pgPool 12 = true
          ∧ t.mem = s.mem)
    ∧ (Waits s 0xA r → s.pl.guards.find? (fun x => x.2.valid && !x.2.standby && !x.2.alone && x.2.ctx = beAt r.body 4 2 && x.2.partner = r.src) = some (i, g) →
      (beAt r.body 6 2 % 2 = 1 → Completes .ack s fun t => t.guard i = { g with needFull := true })
      ∧ (beAt r.body 6 2 % 2 = 0 → Completes .ack s fun t => t.guard i
          = { g with acked := beAt r.body 0 4, finalAcked := g.finalAcked || (g.sentFinal && decide (beAt r.body 0 4 = g.sent)) }))

namespace Sys2Proof.Claims
open Sys2Proof.Machine

/-- The view in which this chip issues an operation (R561). -/
def issueView (s : State) : Option View :=
  if s.plState = plAlone then some ⟨0, [s.chipId]⟩ else if s.plState = plMember then s.pl.active else none

/-- The lead that an operation of a KIND needs in a view (R563). -/
def leadOf (s : State) (kind : Nat) (v : View) : Nat :=
  (if kind = 1 then 3 else 1) * treeD s.fanout v.members.length * s.hop + 65536

end Sys2Proof.Claims

/-- R546–R549: what a pool link counts, drops and hands to the block. R560: the exchanges of pool time: begun, answered, accepted or rejected, and
ended without an answer. -/
def Obligations.PoolFramesAndTime : Prop :=
  (∀ (link : Fin 16) (bytes : List (Fin 256)) (bad : Bool) (s : State), poolCanonical s = true → s.ts.hits = [] →
    let b := bytes.map (·.val)
    let g := pgLk link.val
    let h := (payload b).take 32
    let body := ((payload b).drop 32).take (beAt h 24 2)
    (s.enabled g = false ∨ s.domOn 4 = false → Completes (.ronrisReceive link bytes bad) s fun t => t = s)
    ∧ (s.enabled g = true → s.domOn 4 = true → s.flag g Rg.LK_STAT_LOCAL_FAULT = false →
      (b.length < 60 → Completes (.ronrisReceive link bytes bad) s fun t => counted s t g Rg.LK_RUNT = true ∧ t.pl = s.pl)
      ∧ (9212 < b.length → Completes (.ronrisReceive link bytes bad) s fun t => counted s t g Rg.LK_LONG = true ∧ t.pl = s.pl)
      ∧ (60 ≤ b.length → b.length ≤ 9212 →
        (bad = true → Completes (.ronrisReceive link bytes bad) s fun t => counted s t g Rg.LK_FCS = true ∧ t.pl = s.pl)
        ∧ (bad = false → etherType b ≠ 0x8808 →
          (s.lkDaOk link.val (beN (b.take 6)) = false → Completes (.ronrisReceive link bytes bad) s fun t =>
            counted s t g Rg.LK_DA_DROP = true ∧ t.pl = s.pl)
          ∧ (s.lkDaOk link.val (beN (b.take 6)) = true → s.poolOn = true → etherType b = s.get pgPool Rg.POOL_CFG2_ETYPE → 32 ≤ (payload b).length →
            (s.badRonris h ((payload b).drop 32) = true → Completes (.ronrisReceive link bytes bad) s fun t =>
              counted s t g Rg.LK_BAD_RONRIS = true ∧ t.pl = s.pl)
            ∧ (s.badRonris h ((payload b).drop 32) = false →
              ((beAt h 4 2, h.getD 1 0, beAt h 12 4) ∈ s.pl.seen → Completes (.ronrisReceive link bytes bad) s fun t =>
                counted s t g Rg.LK_DUP = true ∧ t.pl = s.pl)
              ∧ ((beAt h 4 2, h.getD 1 0, beAt h 12 4) ∉ s.pl.seen → fwType (h.getD 1 0) = false → beAt h 6 2 = s.chipId ∨ 0x8000 ≤ beAt h 6 2 →
                Completes (.ronrisReceive link bytes bad) s fun t => ∃ r, t.pl.inbox = s.pl.inbox ++ [r] ∧ r.link = link.val ∧ r.type = h.getD 1 0
                  ∧ r.src = beAt h 4 2 ∧ r.mac = beAt b 6 6 ∧ r.seq = beAt h 12 4 ∧ r.body = body ∧ r.up = s.uptime)))))))
    ∧ (∀ (slot : Fin 8) (demand : Int) (r : Ronris) (x : TimeX) (s : State), poolCanonical s = true →
    let n := slot.val
    let last := Sparse.get (fun _ => 0) s.pl.timeAt n
    let p := s.peer (s.get pgPool Rg.POOL_TIME)
    let t1 : Int := beAt r.body 0 8
    let t2 : Int := beAt r.body 8 8
    let t3 : Int := beAt r.body 16 8
    let t4 : Int := r.tin
    let ofs := ((t4 - t3) - (t2 - t1)) * 128 + toInt 32 (s.get (pgLk r.link) Rg.LK_ASYM)
    (s.poolOn = true → s.poolSlot n = true → s.plState ≠ plConflict → p ≠ Peer.zero → s.timeOf n = none →
      (last = 0 ∨ last + max 1 (s.get pgPool Rg.POOL_TIME2_INT) * spanCy ≤ s.uptime + 1 → Completes (.timeExchangeStart slot) s fun t =>
        t.timeOf n = some ⟨n, (s.slot n).src % 16, 0, s.uptime⟩ ∧ Sends s t 1 6 (s.get pgPool Rg.POOL_TIME))
      ∧ (last ≠ 0 → s.uptime + 1 < last + max 1 (s.get pgPool Rg.POOL_TIME2_INT) * spanCy → Completes (.timeExchangeStart slot) s fun t => t = s))
    ∧ (Waits s 6 r → s.poolActs = true → s.plState ≠ plConflict → Completes .timeReq s fun t => Sends s t 1 7 (r.src % 2048))
    ∧ (Waits s 7 r → s.pl.time.find? (fun t => t.link = r.link && t.t1 = beAt r.body 0 8) = some x → r.src = s.get pgPool Rg.POOL_TIME →
      ((s.get pgPool Rg.POOL_TIME2_RTT_MAX : Int) < (t4 - t1) - (t3 - t2) → Completes (.timeRsp demand) s fun t =>
        counted s t pgPool Rg.POOL_TIME_FAIL = true ∧ t.timeOf x.slot = none ∧ t.air = s.air)
      ∧ ((t4 - t1) - (t3 - t2) ≤ (s.get pgPool Rg.POOL_TIME2_RTT_MAX : Int) → s.poolSlot x.slot = true → -(2 ^ 31) ≤ ofs → ofs < 2 ^ 31 →
          Completes (.timeRsp demand) s fun t => t.get pgPool Rg.POOL_TIME_OFS = ofInt 32 ofs ∧ t.timeOf x.slot = none
            ∧ t.get pgPool Rg.POOL_TIME_FAIL = s.get pgPool Rg.POOL_TIME_FAIL))
    ∧ (s.timeOf n = some x → s.poolOn = true →
      (x.up + spanCy ≤ s.uptime → Completes (.timeExchangeTimeout slot) s fun t => counted s t pgPool Rg.POOL_TIME_FAIL = true ∧ t.timeOf n = none)
      ∧ (s.uptime < x.up + spanCy → Completes (.timeExchangeTimeout slot) s fun t => t = s)))

/-- R561–R565: an operation is issued or refused, travels down the tree, gathers its arrivals, answers its result, and is delivered at T. -/
def Obligations.PoolOperations : Prop :=
  ∀ (w : Who) (value : Nat) (v : View) (o : OpRun) (r : Ronris) (f : TrigOut) (s : State), poolCanonical s = true →
    let h := s.get pgPool Rg.POOL_OP_IDX
    let x := s.opSlot h
    let y := s.opSlot (f.arg % 256)
    let kind := bits x.cfg 2 0
    let op := Config.poolFields 3 r.body
    let ar := Config.poolFields 4 r.body
    let rs := Config.poolFields 5 r.body
    let init := bits value 26 16
    (s.reaches w pgPool 0x1D8 true = true → value % 4 = 2 → s.poolActs = true → 1 ≤ kind → kind ≤ 4 →
      (issueView s = none → Completes (.opIssue w false value) s fun t => t.pl = s.pl ∧ irqSet t pgPool 17 = true)
      ∧ (issueView s = some v →
        (s.now + 2 ^ 31 ≤ x.t → Completes (.opIssue w false value) s fun t => t.pl = s.pl ∧ irqSet t pgPool 17 = true)
        ∧ (x.t < s.now + 2 ^ 31 → x.t < s.now + leadOf s kind v → Completes (.opIssue w false value) s fun t => t.pl = s.pl ∧ irqSet t pgPool 16 = true)
        ∧ (x.t < s.now + 2 ^ 31 → s.now + leadOf s kind v ≤ x.t → Completes (.opIssue w false value) s fun t => ∃ q, t.pl.runs = s.pl.runs ++ [q]
          ∧ q.init = s.chipId ∧ q.h = h ∧ q.kind = kind ∧ q.t = x.t ∧ q.view = v ∧ q.arg = bits x.cfg 31 16 ∧ (t.opSlot h).stat = 2 ^ 30
            ∧ q.mine = decide ((s.chipId, h) ∈ s.pl.held))))
    ∧ (s.py.trigOut.find? (fun o => o.action = 7 && decide (o.due ≤ s.uptime)) = some f → s.poolActs = true → bits f.arg 15 8 = 0 →
        issueView s = some v → 1 ≤ bits y.cfg 2 0 → bits y.cfg 2 0 ≤ 4 → y.t < s.now + 2 ^ 31 → s.now + leadOf s (bits y.cfg 2 0) v ≤ y.t →
        Completes (.opIssue w true value) s fun t => ∃ q, t.pl.runs = s.pl.runs ++ [q] ∧ q.init = s.chipId ∧ q.h = f.arg % 256 ∧ q.t = y.t
          ∧ t.py.trigOut = s.py.trigOut.erase f)
    ∧ (Waits s 3 r → s.poolActs = true →
      (s.heldView (op.getD 4 0 % 2 ^ 32) = none → Completes .op s fun t => t.pl.runs = s.pl.runs ∧ irqSet t pgPool 20 = true)
      ∧ (s.heldView (op.getD 4 0 % 2 ^ 32) = some v → Completes .op s fun t => ∃ q, t.pl.runs = s.pl.runs ++ [q] ∧ q.view = v
          ∧ q.init = op.getD 0 0 % 2048 ∧ q.h = op.getD 1 0 % 256 ∧ q.t = op.getD 3 0 % 2 ^ 64 ∧ q.late = decide (q.t < s.now + 65536)
          ∧ (q.late = true → irqSet t pgPool 18 = true)))
    ∧ (s.reaches w pgPool 0x1E0 true = true → s.poolActs = true →
      (s.findRun init (bits value 7 0) = some o →
        ((s.now : Int) < s.runU o (s.runDepth o) → Completes (.poolArrive w value) s fun t =>
          t.findRun init (bits value 7 0) = some { o with mine := true })
        ∧ (s.runU o (s.runDepth o) ≤ (s.now : Int) → Completes (.poolArrive w value) s fun t => t.pl = s.pl))
      ∧ (s.findRun init (bits value 7 0) = none → (init, bits value 7 0) ∉ s.pl.held →
        (s.pl.held.length < 64 → Completes (.poolArrive w value) s fun t => t.pl.held = s.pl.held ++ [(init, bits value 7 0)])
        ∧ (64 ≤ s.pl.held.length → Completes (.poolArrive w value) s fun t => t.pl = s.pl)))
    ∧ (s.dueRun false = some o → s.poolActs = true → Completes .arriveSend s fun t => t.findRun o.init o.h = some { o with sent := true }
        ∧ (s.plState ≠ plConflict → s.peer (o.view.parent s.fanout o.init s.chipId) ≠ Peer.zero →
            Sends s t 1 4 (o.view.parent s.fanout o.init s.chipId)))
    ∧ (Waits s 4 r → s.poolActs = true →
      (s.heldView (ar.getD 2 0 % 2 ^ 32) = none → Completes .arrive s fun t => t.pl.runs = s.pl.runs ∧ irqSet t pgPool 20 = true)
      ∧ (s.heldView (ar.getD 2 0 % 2 ^ 32) ≠ none → s.findRun (ar.getD 0 0 % 2048) (ar.getD 1 0 % 256) = some o →
        ((s.now : Int) ≤ s.runU o (s.runDepth o) → o.sent = false → Completes .arrive s fun t =>
          t.findRun o.init o.h = some { o with count := o.count + ar.getD 3 0 % 4096 })
        ∧ (s.runU o (s.runDepth o) < (s.now : Int) ∨ o.sent = true → Completes .arrive s fun t => t.pl.runs = s.pl.runs ∧ irqSet t pgPool 19 = true)))
    ∧ (s.dueRun true = some o → s.poolActs = true → Completes .resultSend s fun t =>
        t.findRun o.init o.h = some { o with sent := true, result := some o.arrived })
    ∧ (Waits s 5 r → s.poolActs = true →
      (s.heldView (rs.getD 2 0 % 2 ^ 32) = none → Completes .result s fun t => t.pl.runs = s.pl.runs ∧ irqSet t pgPool 20 = true)
      ∧ (s.heldView (rs.getD 2 0 % 2 ^ 32) ≠ none → s.findRun (rs.getD 0 0 % 2048) (rs.getD 1 0 % 256) = some o → Completes .result s fun t =>
          t.findRun o.init o.h = some { o with result := some (rs.getD 3 0 % 4096) }))
    ∧ (s.pl.runs.find? (fun o => decide (o.t ≤ s.now)) = some o → s.poolActs = true → KeeperActs s → s.domOn 0 = true →
      let members := o.view.members.length
      let all := o.kind = 1 ∧ o.late = false ∧ o.result = some members
      let short := o.kind = 1 ∧ o.late = false ∧ ∃ c, o.result = some c ∧ c ≠ members ∧ c < 4096
      let granted := o.kind = 4 ∧ o.late = false ∧ namesChip o.payload s.chipId = true ∧ s.flag pgPool Rg.POOL_CFG2_RESET_EN = true
      let refused := o.kind = 4 ∧ o.late = false ∧ namesChip o.payload s.chipId = true ∧ s.flag pgPool Rg.POOL_CFG2_RESET_EN = false
      (granted → Completes .opDeliver s fun t => WarmReset s t 4)
      ∧ (¬ granted → Completes .opDeliver s fun t => t.pl.runs = s.pl.runs.erase o
        ∧ (s.domOn 3 = true → s.internalUsed < 64 → t.tr.internal.length = s.tr.internal.length + 1)
        ∧ (o.kind = 3 → o.late = false → t.py.trigOut = s.py.trigOut ++ [⟨s.uptime, o.t, 1024, 4, o.arg % 256⟩])
        ∧ (refused → irqSet t pgPool 21 = true)
        ∧ (o.init = s.chipId →
          (all → (t.opSlot o.h).stat = 2 ^ 31 + members % 4096)
          ∧ (short → ∃ c, o.result = some c ∧ (t.opSlot o.h).stat = 2 ^ 31 + 2 ^ 28 + c)
          ∧ (refused → bits (t.opSlot o.h).stat 29 28 = 3)
          ∧ (o.kind ≠ 1 → o.late = true → bits (t.opSlot o.h).stat 29 28 = 2))))

namespace Sys2Proof.Claims
open Sys2Proof.Machine

/-- No pair of life-cycle fuses is half programmed (R623). -/
def fusesWhole (s : State) : Prop :=
  ∀ n, 1 ≤ n → n ≤ 4 → bits s.sec.fuses (2 * n - 1) (2 * n - 2) = 0 ∨ bits s.sec.fuses (2 * n - 1) (2 * n - 2) = 3

/-- The mailbox has answered a command: OK, EVENT, and DONE with BUSY = 0 (R608). -/
def Answers (t : State) (ok : Bool) (ev : Nat) : Prop :=
  t.flag pgKeeper Rg.KP_RESULT_DONE = true ∧ t.flag pgKeeper Rg.KP_RESULT_OK = ok ∧ t.get pgKeeper Rg.KP_RESULT_EVENT = ev
    ∧ t.flag pgKeeper Rg.KP_STAT_BUSY = false ∧ t.pw.mail = none

/-- How long hart `h` has not kicked at a period boundary `n` periods after the last (R618). -/
def silence (s : State) (n h : Nat) : Nat :=
  if (s.get pgParapet Rg.KW_MASK).testBit h && !s.sec.kicks.testBit h then Sparse.get (fun _ => 0) s.sec.silent h + n else 0

/-- Every byte of the Caisson reads 0 (R625). -/
def Wiped (t : State) : Prop := ∀ a, caissonBase ≤ a → a < caissonBase + 0x400000 → t.byte a = 0

end Sys2Proof.Claims

/-- R535, R604, R615–R620, R626, R633: the Keeper's self-resets, the ladder, the watchdog timer, the tamper inputs and the boot of the golden image.
-/
def Obligations.KeeperRecovery : Prop :=
  ∀ (w : Who) (value op : Nat) (n : Fin 4) (a b golden : List (Fin 256)) (octal : Bool) (rest : List KStep) (s : State), s.canonical = true →
    Sparse.wf (fun _ => 0) s.sec.silent = true → s.pw.porst = false →
    let g := pgParapet
    let p := s.uptime / spanCy
    let past := s.pw.resets.filter fun t => decide (s.uptime < t + secondCy)
    let tmo := max 1 (s.get g Rg.KW_CFG_HART_TMO)
    let h := w.source - 216
    let img := golden.map (·.val)
    (s.pw.down = false → s.ks.cmd = none → Completes .keeperSelfReset s fun t =>
      t.pw.down = true ∧ t.pw.resets = past ++ [s.uptime] ∧ t.flag pgKeeper Rg.KP_STAT_KEEPER_UP = false
        ∧ t.get g Rg.KW_CNT_KRST = min (s.get g Rg.KW_CNT_KRST + 1) 255
        ∧ (3 ≤ past.length → t.flag g Rg.KW_STAT_KEEPER_HALTED = true ∧ irqSet t g 3 = true)
        ∧ (s.pw.mail = some op → Answers t false Ev.CMD_ABORTED)
        ∧ (s.pw.mail = some 1 → t.flag pgSys Rg.SYS_MODE_BUSY = false ∧ t.get pgSys Rg.SYS_MODE_TARGET = s.mode ∧ t.mode = s.mode))
    ∧ (s.pw.down = true → s.pw.seq = KSeq.none → fusesWhole s →
      (s.flag g Rg.KW_STAT_KEEPER_HALTED = true → Completes .keeperRestart s fun t => t = s)
      ∧ (s.flag g Rg.KW_STAT_KEEPER_HALTED = false → Completes .keeperRestart s fun t => t.pw.down = false
        ∧ t.flag pgKeeper Rg.KP_STAT_KEEPER_UP = true ∧ t.ks.scan = true ∧ t.flag pgKeystone Rg.KS_STAT_READY = false ∧ irqSet t g 3 = true))
    ∧ (s.reaches w g 0x1C8 true = true →
      (216 ≤ w.source → w.source < 232 → value.testBit h = true → Completes (.kwKick w value) s fun t =>
        t.sec.kicks = s.sec.kicks ||| 2 ^ h ∧ (t.get g Rg.KW_STAT_MISSED).testBit h = false)
      ∧ (value.testBit h = false → Completes (.kwKick w value) s fun t => t.sec = s.sec ∧ t.reg g 0x1CC = s.reg g 0x1CC))
    ∧ (s.pw.down = false → s.sec.spent = false → s.pw.rung = 0 → s.uptime % spanCy = 0 → s.sec.period < p → Completes .ladderEvaluation s fun t =>
        t.sec.period = p ∧ t.sec.kicks = 0 ∧ t.get g Rg.KW_STAT_MISSED = 0xFFFF
          ∧ (∀ k < 16, Sparse.get (fun _ => 0) t.sec.silent k = silence s (p - s.sec.period) k)
          ∧ ((∀ k < 16, silence s (p - s.sec.period) k < tmo) → t.pw.rung = 0)
          ∧ (∀ k < 16, tmo ≤ silence s (p - s.sec.period) k → 1 ≤ t.pw.rung ∧ t.pw.rung ≤ 4 ∧ t.flag g Rg.KW_STAT_RUNG_PEND = true
            ∧ (t.pw.rung = 1 → t.pw.rungHarts.testBit k = true)))
    ∧ (s.flag g Rg.KW_STAT_WDT_EXPIRED = false →
      (s.sec.wdog + 31457280 ≤ s.uptime → Completes .wdogExpired s fun t => t.flag g Rg.KW_STAT_WDT_EXPIRED = true
        ∧ t.flag g Rg.PP_FAULT_WDOG = true ∧ records s t g Ev.WDOG_EXPIRED = true)
      ∧ (s.uptime < s.sec.wdog + 31457280 → Completes .wdogExpired s fun t => t = s))
    ∧ (s.flag g Rg.PP_TAMP_CFG_EN n = true → (s.get g Rg.PP_TAMP_STAT_ACTIVE).testBit n = false →
      let act := s.get g Rg.PP_TAMP_CFG_ACTION n
      Completes (.tamper n false) s fun t => (t.get g Rg.PP_TAMP_STAT_ACTIVE).testBit n = true ∧ (t.get g Rg.PP_TAMP_STAT_LATCH).testBit n = true
        ∧ t.get64 g Rg.PP_TAMP_UP_LO = s.uptime % 2 ^ 64 ∧ irqSet t g 0 = true
        ∧ (act ≠ 0 → s.flag g Rg.PP_CAISSON_WIPING = false → Wiped t ∧ t.flag g Rg.PP_CAISSON_WIPING = true)
        ∧ (act ≠ 0 → t.flag g Rg.PP_CAISSON_LOCKED = true)
        ∧ (act = 3 → t.mode = modeBringup ∧ (t.reg pgPwr 0x120).toNat = 0)
        ∧ (act ≠ 3 → t.mode = s.mode))
    ∧ ((s.get g Rg.PP_TAMP_STAT_ACTIVE).testBit n = true → Completes (.tamperInactive n) s fun t =>
        (t.get g Rg.PP_TAMP_STAT_ACTIVE).testBit n = false ∧ t.get g Rg.PP_TAMP_STAT_LATCH = s.get g Rg.PP_TAMP_STAT_LATCH
          ∧ (s.sec.lock = true → t.flag g Rg.PP_CAISSON_LOCKED = true)
          ∧ (s.sec.lock = false → (∀ m, m ≠ n.val → (s.get g Rg.PP_TAMP_STAT_ACTIVE).testBit m = false) → t.flag g Rg.PP_CAISSON_LOCKED = false))
    ∧ (s.reaches w g 0x108 true = true → Completes (.ppFaultSet w value) s fun t =>
        t.flag g Rg.PP_FAULT_FW = (value.testBit 7 || s.flag g Rg.PP_FAULT_FW))
    ∧ (s.pw.seq.steps = .boot :: rest → s.pw.down = false → s.pw.warmPin = false → s.flag pgKeystone Rg.KS_STAT_READY = true → s.ks.cmd = none →
        s.get pgSys Rg.SYS_MODE_STRAP = 1 → s.imageFits img = true →
      (s.imageCheck 2 img ≠ 0 → Completes (.bootImageLoad a b golden octal) s fun t => t.pw.seq = KSeq.none
        ∧ t.get g Rg.PP_BOOT_REASON = s.imageCheck 2 img ∧ bits (t.get g Rg.PP_BOOT_RES) 5 4 = 2 ∧ irqSet t g 2 = true ∧ t.mem = s.mem)
      ∧ (s.imageCheck 2 img = 0 → hdr img 0x20 8 ≤ (img.drop 256).length →
          Config.sha384 ((img.drop 256).take (hdr img 0x20 8)) = beNat ((img.drop 0x28).take 48) →
          Completes (.bootImageLoad a b golden octal) s fun t => t.get pgKeystone Rg.KS_BOOT0_BOOTED = 2
            ∧ t.flag pgKeystone Rg.KS_BOOT0_AS_TRIAL = false ∧ bits (t.get g Rg.PP_BOOT_RES) 5 4 = 1 ∧ t.pw.entry = hdr img 0x18 8
            ∧ t.sec.svn = hdr img 0x0A 1))

/-- R623, R627–R630, R635, R637: what the Keeper's mailbox refuses of the life cycle and of keys, and what it does; handles are loaded and erased.
R600, R636, R640, R682: a random word is read; the debug port's authentication, its lockout and the release of a HALT strap; the test access port. -/
def Obligations.LifeCycleKeysAndDebug : Prop :=
  (∀ (w : Who) (fails : Bool) (use : Fin 4) (handle : Fin 1024) (k : KeyHandle) (s : State), s.canonical = true →
    Sparse.wf (fun _ => KeySlot.empty) s.keys = true → Sparse.wf (fun _ => none) s.sec.handles = true →
    let n := s.arg 0 % 16
    let l := s.arg 0 % 8
    let v := s.arg 0 % 64
    let h := s.arg 0 % 1024
    (s.reaches w pgKeeper 0x100 true = true → s.flag pgKeeper Rg.KP_STAT_BUSY = false →
      (l ≤ s.lc ∨ 4 < l ∨ s.arg 1 ≠ Nat.xor (s.get pgSys Rg.SYS_UID_LO) 0x4C435F41 → Completes (.lcAdvance w) s fun t =>
          Answers t false Ev.LC_REFUSED ∧ t.sec = s.sec ∧ t.mem = s.mem)
      ∧ (s.lc < l → l ≤ 4 → s.arg 1 = Nat.xor (s.get pgSys Rg.SYS_UID_LO) 0x4C435F41 → l ≠ 1 → Completes (.lcAdvance w) s fun t =>
          t.sec.fuses = s.sec.fuses ||| 2 ^ (2 * l - 2) ∧ Wiped t ∧ t.flag pgKeeper Rg.KP_STAT_BUSY = true ∧ t.pw.mail = some 0x40
            ∧ t.flag pgKeeper Rg.KP_RESULT_DONE = false)
      ∧ (1 < s.lc ∨ (s.key n).used = true → Completes (.keyFuse w fails) s fun t => Answers t false Ev.KEY_REFUSED ∧ t.keys = s.keys)
      ∧ (s.lc ≤ 1 → (s.key n).used = false → Completes (.keyFuse w fails) s fun t =>
          (Answers t false Ev.KEY_REFUSED ∧ t.keys = s.keys)
          ∨ ((t.key n).used = true ∧ (t.key n).id = s.arg 1 ∧ (t.key n).purpose = bits (s.arg 0) 10 8
            ∧ (t.key n).revoked = (fails || (s.key n).revoked) ∧ t.flag pgKeeper Rg.KP_RESULT_OK = !fails ∧ ∀ m, m ≠ n → t.key m = s.key m))
      ∧ (2 < s.lc ∨ (s.fwKey n = true ∧ ∀ m < 16, m ≠ n → s.fwKey m = false) → Completes (.keyRevoke w) s fun t =>
          Answers t false Ev.KEY_REFUSED ∧ t.keys = s.keys)
      ∧ (s.lc ≤ 2 → s.fwKey n = false ∨ (∃ m < 16, m ≠ n ∧ s.fwKey m = true) → Completes (.keyRevoke w) s fun t =>
          Answers t true 0 ∧ t.key n = { s.key n with revoked := true } ∧ ∀ m, m ≠ n → t.key m = s.key m)
      ∧ (s.ks.boot.state ≠ 0 ∨ s.sec.svn < v ∨ v < s.sec.minver → Completes (.minverAdvance w) s fun t =>
          Answers t false Ev.KEY_REFUSED ∧ t.sec.minver = s.sec.minver)
      ∧ (s.ks.boot.state = 0 → v ≤ s.sec.svn → s.sec.minver ≤ v → Completes (.minverAdvance w) s fun t =>
          Answers t true 0 ∧ t.sec.minver = v ∧ t.get pgParapet Rg.PP_MINVER = v)
      ∧ (s.keyOf h = none → Completes (.wrap w) s fun t => Answers t false Ev.KEY_HANDLE ∧ t.mem = s.mem)
      ∧ (s.keyOf h = some k → Completes (.wrap w) s fun t => Answers t true 0 ∧ t.sec = s.sec ∧ s.free < t.free)
      ∧ (s.flag pgParapet Rg.PP_CAISSON_LOCKED = true → Completes (.unwrap w) s fun t => Answers t false Ev.CAISSON_LOCKED ∧ t.sec = s.sec)
      ∧ (s.flag pgParapet Rg.PP_CAISSON_LOCKED = false → s.flag pgParapet Rg.PP_CAISSON_WIPING = false → Completes (.unwrap w) s fun t =>
          (Answers t false Ev.KEY_UNWRAP_FAIL ∧ t.sec = s.sec) ∨ (Answers t true 0 ∧ t.keyOf h ≠ none ∧ ∀ m, m ≠ h → t.keyOf m = s.keyOf m)))
    ∧ (s.reaches w pgParapet 0x160 true = true →
      (s.flag pgParapet Rg.PP_CAISSON_LOCKED = true → Completes (.keyLoad w use handle) s fun t =>
          t.sec.handles = s.sec.handles ∧ t.sec.kdata = List.replicate 8 0 ∧ records s t pgParapet Ev.CAISSON_LOCKED = true)
      ∧ (s.flag pgParapet Rg.PP_CAISSON_LOCKED = false → s.flag pgParapet Rg.PP_CAISSON_WIPING = false → Completes (.keyLoad w use handle) s fun t =>
          t.keyOf handle.val = some ⟨use.val, ofBytes (s.sec.kdata.flatMap (bytesOf 4))⟩ ∧ t.sec.kdata = List.replicate 8 0
            ∧ ∀ m, m ≠ handle.val → t.keyOf m = s.keyOf m)
      ∧ Completes (.keyErase w handle) s fun t => t.keyOf handle.val = none ∧ ∀ m, m ≠ handle.val → t.keyOf m = s.keyOf m))
    ∧ (∀ (w : Who) (levels out oe : Nat) (s : State), s.canonical = true →
    let g := pgDebug
    let msg := ((List.range 12).flatMap fun i => bytesOf 4 (s.get g Rg.DBG_CHAL i)) ++ bytesOf 8 (s.get64 pgSys Rg.SYS_UID_LO)
    let sig := s.sec.resp.flatMap (bytesOf 4)
    let good := s.sec.nonce = true ∧ signatureOk s (s.get g Rg.DBG_KEY) 2 msg (beNat (sig.take 48)) (beNat (sig.drop 48)) = true
    (s.reaches w pgParapet 0x1A0 false = true → Completes (.rngRead w) s fun t =>
      t.rsp.status = 0 ∧ t.get pgParapet Rg.PP_RNG = t.rsp.data ∧ t.free = s.free + 1)
    ∧ (s.reaches w g 0x1A0 true = true →
      Completes (.dbgNew w) s (fun t => t.sec.nonce = true ∧ t.free = s.free + 1 ∧ t.reg g 0x100 = s.reg g 0x100)
      ∧ (s.flag g Rg.DBG_STAT_LOCKOUT = true → Completes (.dbgVerify w) s fun t => t.sec = s.sec ∧ t.regs = s.regs)
      ∧ (s.flag g Rg.DBG_STAT_LOCKOUT = false → good → Completes (.dbgVerify w) s fun t =>
          t.flag g Rg.DBG_STAT_AUTH = true ∧ t.sec.nonce = false ∧ t.get g Rg.DBG_STAT_FAILS = s.get g Rg.DBG_STAT_FAILS ∧ irqSet t g 0 = true)
      ∧ (s.flag g Rg.DBG_STAT_LOCKOUT = false → ¬ good → Completes (.dbgVerify w) s fun t =>
          t.flag g Rg.DBG_STAT_AUTH = s.flag g Rg.DBG_STAT_AUTH ∧ t.sec.nonce = false
            ∧ t.get g Rg.DBG_STAT_FAILS = min (s.get g Rg.DBG_STAT_FAILS + 1) 15
            ∧ t.flag g Rg.DBG_STAT_LOCKOUT = decide (s.get g Rg.DBG_STAT_FAILS = 7) ∧ records s t g Ev.DBG_AUTH_FAIL = true)
      ∧ Completes (.dbgDeauth w) s (fun t => t.flag g Rg.DBG_STAT_AUTH = false
        ∧ t.get g Rg.DBG_STAT_ACCESS = if s.lc = 4 ∨ s.lc = 2 then 0 else 2)
      ∧ (s.pw.halted = true → s.mayRelease = true → KeeperActs s → fusesWhole s → s.flag pgKeystone Rg.KS_STAT_READY = false →
          Completes (.releaseHalt w) s fun t => t.mode = modeBringup ∧ t.pw.halted = false ∧ t.ks.scan = true
            ∧ t.pw.seq.steps = .scan :: bringUpSteps)
      ∧ (s.pw.halted = false ∨ s.mayRelease = false → Completes (.releaseHalt w) s fun t => t.mode = s.mode ∧ t.pw.halted = s.pw.halted
        ∧ t.regs = s.regs))
    ∧ (s.scanAllowed = true →
      Completes (.extest levels out oe) s (fun t => t.io.tap = ⟨0, levels % 2 ^ 94, out % 2 ^ 94, oe % 2 ^ 94⟩ ∧ t.rsp = ⟨0, levels % 2 ^ 94⟩
        ∧ t.regs = s.regs)
      ∧ Completes (.samplePreload levels out oe) s (fun t => t.io.tap = ⟨2, levels % 2 ^ 94, out % 2 ^ 94, oe % 2 ^ 94⟩
        ∧ t.rsp = ⟨0, levels % 2 ^ 94⟩ ∧ t.regs = s.regs))
    ∧ Completes .idcode s (fun t => t.rsp = ⟨0, 0x177200FF⟩ ∧ t.io.tap = { s.io.tap with ir := 1 } ∧ t.regs = s.regs)
    ∧ Completes .bypass s (fun t => t.rsp = ⟨0, 0⟩ ∧ t.io.tap = { s.io.tap with ir := 0xFF } ∧ t.regs = s.regs))

namespace Sys2Proof.Claims
open Sys2Proof.Machine

/-- The Tollhouse's and perturbation's tables stand in their canonical form. -/
def tollCanonical (s : State) : Bool :=
  s.canonical && Sparse.wf tsSlot0 s.ts.slots && Sparse.wf bw0 s.ts.bw && Sparse.wf (fun _ => 1) s.ts.lfsr && Sparse.wf ptChan0 s.ts.chans
    && Sparse.wf (fun _ => 0) s.ts.press

/-- A snapshot shows as BUSY with the slot it reads out (R649). -/
def ReadsOut (t : State) (slot : Nat) : Prop :=
  t.flag pgToll Rg.TS_STAT_BUSY = true ∧ t.get pgToll Rg.TS_STAT_SLOT = slot ∧ ∃ r, t.ts.run = some r ∧ r.slot = slot

/-- The readout has ended: TS_STAT shows none. -/
def ReadoutOver (t : State) : Prop := t.ts.run = none ∧ t.flag pgToll Rg.TS_STAT_BUSY = false

end Sys2Proof.Claims

/-- R646–R652: a counter's wrap sets OVF and carries; snapshots are taken, refused, answered page by page and written; a bandwidth window ends. -/
def Obligations.CountersSnapshotsAndBandwidth : Prop :=
  ∀ (w : Who) (value : Nat) (p : Fin 4096) (i : Fin 8) (j : Fin 1024) (m : Fin 32) (c slot old new : Nat) (r : Snap) (x : SnapPage) (s : State),
    tollCanonical s = true →
    let n := m.val
    let cfg := (s.tsSlot slot).cfg
    let width := s.bwSpans n * spanCy
    let fin := s.now / width * width
    let bytes := (new + 2 ^ 48 - old) % 2 ^ 48 * s.get pgToll Rg.TS_BW_WIN_SCALE n
    let rate := min (bytes * 16 / s.bwSpans n) (2 ^ 32 - 1)
    (s.ts.wraps = [(p.val, i.val)] → Completes (.counterWrap p i) s fun t =>
        t.flag p.val Rg.CNT_SEL_OVF i.val = true
          ∧ (i.val < 7 → s.cntOf p.val (i.val + 1) < 2 ^ 48 - 1 → t.cntOf p.val (i.val + 1)
            = s.cntOf p.val (i.val + 1) + (s.get p.val Rg.CNT_SEL_CHAIN i.val)))
    ∧ (s.reaches w pgToll 0x100 true = true → Completes (.snapTake w value) s fun t =>
        t.ts.takes = s.ts.takes ++ if bits value 31 31 = 1 then [((s.now + 16) % 2 ^ 64, value % 256)] else [])
    ∧ (s.domOn 4 = true → (∀ o ∈ s.py.trigOut, o.action ≠ 4) → s.ts.takes = [(c, slot)] → slot < 256 → c ≤ s.now →
      (s.ts.run ≠ none → Completes .snapshotCapture s fun t => t.ts.run = s.ts.run ∧ t.ts.takes = [] ∧ irqSet t pgToll 1 = true
        ∧ t.get pgToll Rg.TS_STAT_OVERRUN = min (s.get pgToll Rg.TS_STAT_OVERRUN + 1) (2 ^ (Rg.TS_STAT_OVERRUN.hi + 1 - Rg.TS_STAT_OVERRUN.lo) - 1))
      ∧ (s.ts.run = none → bits cfg 31 31 = 0 ∨ bulkEnd < (s.tsSlot slot).list + 2 * (s.tsSlot slot).pages → Completes .snapshotCapture s fun t =>
          t.ts.run = none ∧ t.ts.takes = [] ∧ irqSet t pgToll 1 = true)
      ∧ (∀ v s1 q k inst, s.ts.run = none → bits cfg 31 31 = 1 → (s.tsSlot slot).list + 2 * (s.tsSlot slot).pages ≤ bulkEnd →
          (s.setToll { s.ts with takes := [] }).dynRead ⟨236, 2, 0, 0⟩ (s.tsSlot slot).list (2 * (s.tsSlot slot).pages) = (some v, s1) →
          s.ts.wraps = [] → q < (s.tsSlot slot).pages → pageOf (bits v (16 * q + 11) (16 * q)) = some (k, inst) → capCnt k = true →
          s.asleep (pageDomain k inst) = false → Completes .snapshotCapture s fun t => ReadsOut t slot ∧ t.ts.takes = []))
    ∧ (s.ts.run = some r → s.domOn 2 = true → r.pages[j.val]? = some x → x.here = false →
        (∀ k inst, pageOf x.page = some (k, inst) → pageDead s x.page k inst = false) →
        (∃ k : Fin 1024, k ≠ j ∧ ∃ y, r.pages[k.val]? = some y ∧ y.here = false) → Completes (.snapshotPageReply j) s fun t =>
          t.ts.run = some { r with pages := r.pages.set j.val { x with here := true } } ∧ t.regs = s.regs ∧ t.mem = s.mem)
    ∧ (s.ts.run = some r →
      (s.uptime < r.up + s.get pgToll Rg.TS_TMO * 1024 → Completes .snapPartial s fun t => t = s)
      ∧ (r.up + s.get pgToll Rg.TS_TMO * 1024 ≤ s.uptime → (∃ y ∈ r.pages, y.here = false) → Completes .snapPartial s fun t =>
          ReadoutOver t ∧ irqSet t pgToll 1 = true
            ∧ ((t.tsSlot r.slot = s.tsSlot r.slot) ∨ ((t.tsSlot r.slot).seq = ((s.tsSlot r.slot).seq + 1) % 2 ^ 32
              ∧ (t.tsSlot r.slot).widx = ((s.tsSlot r.slot).widx + 1) % (s.tsSlot r.slot).ring ∧ t.get64 pgToll Rg.TS_LAST_AIR_LO = r.c % 2 ^ 64
              ∧ irqSet t pgToll 0 = true))))
    ∧ (s.reaches w pgToll (0x200 + 0x20 * n) true = true → Completes (.bwCfgWrite w m value) s fun t =>
        t.get pgToll Rg.TS_BW_MAX n = 0 ∧ t.bwMon n = ⟨none, false, s.now, s.uptime⟩ ∧ ∀ k, k ≠ n → t.bwMon k = s.bwMon k)
    ∧ (s.domOn 4 = true → s.flag pgToll Rg.TS_BW_CFG_EN n = true →
      (fin ≤ (s.bwMon n).last → Completes (.bandwidthWindow m) s fun t => t = s)
      ∧ ((s.bwMon n).last < fin → Completes (.bandwidthWindow m) s fun t =>
          t.bwMon n = ⟨s.bwRead n, false, s.now, s.uptime⟩ ∧ (∀ k, k ≠ n → t.bwMon k = s.bwMon k)
            ∧ ((s.bwMon n).old = some old → s.bwRead n = some new → (s.bwMon n).spoilt = false → s.py.stepUp ≤ (s.bwMon n).up →
              t.get pgToll Rg.TS_BW_RATE n = rate ∧ t.get64 pgToll Rg.TS_BW_BYTES_LO n = bytes % 2 ^ 64
                ∧ t.get pgToll Rg.TS_BW_MAX n = max rate (s.get pgToll Rg.TS_BW_MAX n) ∧ t.flag pgToll Rg.TS_BW_TAG_VALID n = true
                ∧ t.flag pgToll Rg.TS_BW_TAG_ABOVE n = decide (s.get pgToll Rg.TS_BW_THR n < rate)
                ∧ (s.get pgToll Rg.TS_BW_THR n < rate → irqSet t pgToll 2 = true))
            ∧ ((s.bwMon n).old = none ∨ s.bwRead n = none ∨ (s.bwMon n).spoilt = true ∨ (s.bwMon n).up < s.py.stepUp →
              t.flag pgToll Rg.TS_BW_TAG_VALID n = false ∧ t.get pgToll Rg.TS_BW_RATE n = s.get pgToll Rg.TS_BW_RATE n)))

/-- R653–R657: perturbation is armed in DIAGNOSTIC only and starts at AT; its channels count the items they see and act on them by their rate; a held
frame is released. -/
def Obligations.PerturbationChannels : Prop :=
  ∀ (w : Who) (p ctx : Fin 4096) (source : Fin 256) (addr value inst : Nat) (k : PageKind) (x : PtHeld) (s : State),
    tollCanonical s = true → pageOf p.val = some (k, inst) → capPt k = true →
    let g := p.val
    let kind := s.get g Rg.PT_CFG_KIND 0
    let ch := s.ptChan g 0
    let lim := s.get g Rg.PT_RATE_N 0
    let acts := s.domOn (pageDomain k inst) = true ∧ s.mode = modeDiag ∧ s.flag g Rg.PT_CTL_ACTIVE = true
    (s.reaches w g 0xF00 true = true →
      (s.mode ≠ modeDiag → bits value 31 31 = 1 ∨ bits value 3 0 ≠ 0 → Completes (.ptArm w p value) s fun t =>
        t.reg g 0xF00 = s.reg g 0xF00 ∧ t.get pgToll Rg.TS_PT_DENIED = min (s.get pgToll Rg.TS_PT_DENIED + 1)
          (2 ^ (Rg.TS_PT_DENIED.hi + 1 - Rg.TS_PT_DENIED.lo) - 1) ∧ irqSet t pgToll 3 = true ∧ t.ts = s.ts)
      ∧ (s.mode = modeDiag → bits value 31 31 = 0 → Completes (.ptArm w p value) s fun t =>
          t.flag g Rg.PT_CTL_ARM = false ∧ t.flag g Rg.PT_CTL_ACTIVE = false)
      ∧ (s.mode = modeDiag → bits value 31 31 = 1 → Completes (.ptArm w p value) s fun t =>
          t.flag g Rg.PT_CTL_ARM = true ∧ t.get g Rg.PT_CTL_EN = bits value 3 0 ∧ t.get g Rg.PT_CTL_ACTIVE = s.get g Rg.PT_CTL_ACTIVE))
    ∧ (s.domOn (pageDomain k inst) = true → s.mode = modeDiag → s.flag g Rg.PT_CTL_ARM = true → s.flag g Rg.PT_CTL_ACTIVE = false →
      ((s.now + 2 ^ 64 - s.get64 g Rg.PT_AT_LO) % 2 ^ 32 < 2 ^ 31 → Completes (.ptStart p) s fun t =>
          t.flag g Rg.PT_CTL_ACTIVE = true ∧ ∀ n < 4, t.ptChan g n = PtChan.zero)
      ∧ (2 ^ 31 ≤ (s.now + 2 ^ 64 - s.get64 g Rg.PT_AT_LO) % 2 ^ 32 → Completes (.ptStart p) s fun t => t = s))
    ∧ (s.reaches w g 0xF0C true = true → Completes (.ptSeedWrite w p value) s fun t =>
        t.lfsr g = max 1 (value % 2 ^ 32) ∧ ∀ q, q ≠ g → t.lfsr q = s.lfsr q)
    ∧ (¬ acts → Completes (.ptAction p ctx source addr) s fun t => t = s)
    ∧ (acts → s.get g Rg.PT_CTL_EN = 1 → ptSupports k kind (s.get g Rg.PT_PARAM 0) = true → s.flag g Rg.PT_RATE_RANDOM 0 = false →
        s.flag g Rg.PT_MATCH_CTX_EN 0 = false → s.flag g Rg.PT_MATCH_SRC_EN 0 = false → s.get g Rg.PT_CFG_COUNT 0 = 0 →
      (ch.items < lim → Completes (.ptAction p ctx source addr) s fun t => counted s t g Rg.PT_SEEN = true
        ∧ t.get g Rg.PT_HIT = s.get g Rg.PT_HIT ∧ t.ptChan g 0 = { ch with items := ch.items + 1 } ∧ t.ts.hits = s.ts.hits ∧ t.mem = s.mem)
      ∧ (lim ≤ ch.items → Completes (.ptAction p ctx source addr) s fun t => counted s t g Rg.PT_SEEN = true ∧ counted s t g Rg.PT_HIT = true
        ∧ t.ptChan g 0 = ⟨0, ch.acts + 1⟩
        ∧ (k = .em ∨ k = .au ∨ k = .lk ∨ k = .cp ∨ k = .keystone → t.ts.hits = s.ts.hits ++ [⟨g, kind, s.get g Rg.PT_PARAM 0⟩])
        ∧ (k = .router → kind = 2 → Sparse.get (fun _ => 0) t.ts.press g = s.uptime + s.get g Rg.PT_PARAM 0 % 2 ^ 24)))
    ∧ (s.ts.held.find? (fun h => h.page = g && decide (h.due ≤ s.uptime)) = some x → k = .lk → s.enabled (pgLk x.port) = true → s.domOn 4 = true →
        s.flag (pgLk x.port) Rg.LK_STAT_LOCAL_FAULT = false → x.bytes.length < 60 →
        Completes (.ptDelayRelease p) s fun t => t.ts.held = s.ts.held.erase x ∧ counted s t (pgLk x.port) Rg.LK_RUNT = true)

namespace Sys2Proof.Claims
open Sys2Proof.Machine

/-- The four commands of the xSPI port with their KIND (R688). -/
def XsRows (w : Who) (value : Nat) (e : Instr × Nat) : Prop :=
  e ∈ [(Instr.xsRead w value, 0), (.xsProgram w value, 1), (.xsErase w value, 2), (.xsRegister w value, 3)]

/-- The flags with which an xSPI command has ended (R688). -/
def XsEnds (t : State) (ev : Nat) : Prop :=
  t.io.xs = none ∧ t.flag pgXspi Rg.XS_STAT_BUSY = false ∧ t.flag pgXspi Rg.XS_STAT_DONE = true
    ∧ t.flag pgXspi Rg.XS_STAT_ERR = decide (ev ≠ 0) ∧ t.get pgXspi Rg.XS_STAT_EVENT = ev ∧ irqSet t pgXspi 0 = true

end Sys2Proof.Claims

/-- R688–R691: an xSPI command begins, is refused by the protection of DEPLOYED, and ends. R681, R690, R692: a character is queued, sent, received
with its errors, and read. R579, R674: what a loss of power or of REFOSC leaves: the Keystone's words and their check bits, the fuses and the keys;
the queue of commands is the sender's. Every other value is free. -/
def Obligations.SlowInterfacesAndLoss : Prop :=
  (∀ (w : Who) (value : Nat) (e : Instr × Nat) (flash : List (Fin 256)) (x : XsCmd) (s : State), XsRows w value e → s.canonical = true →
    let next : XsCmd := ⟨2 ^ 31 + e.2 * 2 ^ 29 + value % 2 ^ 29, s.get pgXspi Rg.XS_ADDR, s.get pgXspi Rg.XS_LEN, s.get64 pgXspi Rg.XS_BUF_LO,
      s.get64 pgXspi Rg.XS_DATA_LO⟩
    let kind := bits x.cmd 30 29
    (s.reaches w pgXspi 0x104 true = true →
      (s.flag pgXspi Rg.XS_STAT_BUSY = true → Completes e.1 s fun t => t.io = s.io ∧ t.reg pgXspi 0x104 = s.reg pgXspi 0x104)
      ∧ (s.flag pgXspi Rg.XS_STAT_BUSY = false →
        (s.xsProtected next = false → Completes e.1 s fun t => t.io.xs = some next ∧ t.flag pgXspi Rg.XS_STAT_BUSY = true ∧ t.mem = s.mem)
        ∧ (s.xsProtected next = true → Completes e.1 s fun t => XsEnds t Ev.XS_PROTECT ∧ records s t pgXspi Ev.XS_PROTECT = true ∧ t.mem = s.mem)))
    ∧ (s.io.xs = some x → s.domOn 6 = true →
      (kind = 0 ∨ (kind = 3 ∧ bits x.cmd 28 28 = 1) → s.flag pgXspi Rg.XS_CFG_OCTAL = true → Completes (.xsDone flash true) s fun t =>
          XsEnds t Ev.XS_DQS ∧ t.mem = s.mem)
      ∧ (kind = 0 → Completes (.xsDone flash false) s fun t => XsEnds t 0 ∨ XsEnds t Ev.XS_BUF_ERR)
      ∧ (kind = 1 → Completes (.xsDone flash false) s fun t => t.mem = s.mem ∧ (XsEnds t 0 ∨ XsEnds t Ev.XS_BUF_ERR))
      ∧ (kind = 2 ∨ (kind = 3 ∧ bits x.cmd 28 28 = 0) → Completes (.xsDone flash false) s fun t => XsEnds t 0 ∧ t.mem = s.mem)
      ∧ (kind = 3 → bits x.cmd 28 28 = 1 → x.len ≤ 8 → x.len ≤ flash.length → x.data < 2 ^ 64 → Completes (.xsDone flash false) s fun t =>
          XsEnds t 0 ∧ t.mem = s.mem ∧ t.get64 pgXspi Rg.XS_DATA_LO
            = x.data / 256 ^ x.len * 256 ^ x.len + ofBytes ((flash.take x.len).map (·.val)))))
    ∧ (∀ (w : Who) (u : Fin 2) (value : Nat) (data : Fin 256) (parity stop ctsLow : Bool) (c : Nat) (r : UChar) (l : List Nat) (q : List UChar) (s : State),
    s.canonical = true →
    let n := u.val
    let x := s.uart n
    let seven := s.get pgUart Rg.U_CFG_BITS n = 1
    let mode := s.get pgUart Rg.U_CFG_PARITY n
    let d := if seven then data.val % 128 else data.val
    let odd := (((List.range 8).filter fun i => d.testBit i).length + parity.toNat) % 2 = 1
    let perr := (mode = 1 ∧ odd) ∨ (mode = 2 ∧ ¬ odd)
    (s.reaches w pgUart (0x108 + 0x40 * n) true = true →
      (x.tx.length < 64 → Completes (.uartTxWrite w u value) s fun t => (t.uart n).tx = x.tx ++ [value % 256]
        ∧ t.get pgUart Rg.U_STAT_TXCNT n = x.tx.length + 1 ∧ t.uart (1 - n) = s.uart (1 - n))
      ∧ (64 ≤ x.tx.length → Completes (.uartTxWrite w u value) s fun t => t.io = s.io ∧ t.flag pgUart Rg.U_STAT_OVF n = true
        ∧ records s t pgUart Ev.TX_OVF = true))
    ∧ (s.domOn 6 = true → s.enabled pgUart = true →
      (x.txEnd ≤ s.uptime → s.flag pgUart Rg.U_CFG_FLOW n = false ∨ ctsLow = true → x.tx = c :: l → l.length < 64 →
        Completes (.uartCharSend u ctsLow) s fun t => (t.uart n).tx = l ∧ (t.uart n).txEnd = s.uptime + s.charCy n
          ∧ t.get pgUart Rg.U_STAT_TXCNT n = l.length ∧ (s.outEn pgUart = true → (t.uart n).line = if seven then c % 128 else c))
      ∧ (s.uptime < x.txEnd ∨ (s.flag pgUart Rg.U_CFG_FLOW n = true ∧ ctsLow = false) → Completes (.uartCharSend u ctsLow) s fun t => t = s)
      ∧ (x.rxEnd ≤ s.uptime → Completes (.uartCharReceive u data parity stop) s fun t =>
          (t.uart n).rxEnd = s.uptime + s.charCy n
            ∧ (x.rx.length < 64 → (t.uart n).rx = x.rx ++ [⟨d, !stop, decide perr⟩] ∧ t.get pgUart Rg.U_STAT_RXCNT n = x.rx.length + 1
              ∧ irqSet t pgUart (4 * n) = true)
            ∧ (64 ≤ x.rx.length → (t.uart n).rx = x.rx ∧ t.flag pgUart Rg.U_STAT_OVF n = true ∧ irqSet t pgUart (4 * n + 2) = true)
            ∧ (stop = false → t.flag pgUart Rg.U_STAT_FERR n = true ∧ irqSet t pgUart (4 * n + 2) = true)
            ∧ (perr → t.flag pgUart Rg.U_STAT_PERR n = true)
            ∧ (x.rxEnd + 2 * s.charCy n ≤ s.uptime → t.get64 pgUart Rg.U_RXAIR_LO n = s.airIfValid % 2 ^ 64)
            ∧ (s.uptime < x.rxEnd + 2 * s.charCy n → t.get64 pgUart Rg.U_RXAIR_LO n = s.get64 pgUart Rg.U_RXAIR_LO n))
      ∧ (s.uptime < x.rxEnd → Completes (.uartCharReceive u data parity stop) s fun t => t = s))
    ∧ (s.reaches w pgUart (0x10C + 0x40 * n) false = true →
      (x.rx = [] → Completes (.uartRxPop w u) s fun t => t.rsp = ⟨0, 0⟩ ∧ t.io = s.io)
      ∧ (x.rx = r :: q → q.length < 64 → Completes (.uartRxPop w u) s fun t => (t.uart n).rx = q
          ∧ t.rsp = ⟨0, 2 ^ 31 + r.perr.toNat * 512 + r.ferr.toNat * 256 + r.data⟩ ∧ t.get pgUart Rg.U_STAT_RXCNT n = q.length)))
    ∧ (∀ (i : Instr) (s : State), i ∈ [Instr.lossOfPower, .refoscStop] → s.canonical = true → Sparse.wf ecc0 s.mu.ecc = true → s.ks.cmd = none →
    Completes i s fun t => t.ks.words = s.ks.words ∧ (∀ a < 0x400000, t.mu.ecc.lookup (ksEcc0 + a) = s.mu.ecc.lookup (ksEcc0 + a))
      ∧ t.sec.fuses = s.sec.fuses ∧ t.sec.minver = s.sec.minver ∧ t.keys = s.keys ∧ t.pending = s.pending ∧ t.canonical = true)

namespace Sys2Proof.Claims
open Sys2Proof.Machine

/-- The commands with a path on which a byte of memory changes: stores, transfers, the results of engines, and every access of a register that may have a command's effect. -/
def MayReachMemory : Instr → Prop
  | .registerWrite .. | .loReadLatch .. | .pgCtrlWrite .. | .pgIrqForceWrite .. | .errCapClear .. | .pageLock .. | .planLoadDone ..
  | .slotAuRxOpen .. | .slotAuRxClose .. | .slotBmXfer .. | .slotDeckXfer .. | .pierLdv .. | .pierLdh .. | .pierLds .. | .pierLde ..
  | .pierLdb .. | .pierStv .. | .pierSth .. | .pierSts .. | .pierSte .. | .pierAupd .. | .engFft .. | .engGemm .. | .engGram ..
  | .engSolve .. | .engApply .. | .engDetectPrach .. | .engDetectNprach .. | .engDetectUmtsRach .. | .engDetectGsmAccess ..
  | .engLdpcDecode .. | .engLdpcEncode .. | .engPolarEncode .. | .engPolarDecode .. | .engTurboDecode .. | .engTrellisDecode ..
  | .engCombine .. | .engSelect .. | .engStore .. | .engDespread .. | .engSearch .. | .engSpread .. | .engEqualize .. | .engineOpComplete ..
  | .frameReceive .. | .uplanePlace .. | .frameDepart .. | .dynamicMemoryAccess .. | .dynamicAccessServed .. | .memInitDone ..
  | .initDone .. | .coreHold .. | .coreRelease .. | .cbo .. | .coreAmo .. | .xsvLoad .. | .xsvStore .. | .hostRequest .. | .taskPlace ..
  | .confirmExpired .. | .trialBringupLimit .. | .ronrisReceive .. | .delta .. | .checkpointCopyDone .. | .opDeliver .. | .porstRelease ..
  | .selfTestDone .. | .railPoll .. | .bootImageLoad .. | .warmrst .. | .warmrstRelease .. | .modeSet .. | .warmReset .. | .quietWake ..
  | .domainTransitionDone .. | .keeperRestart .. | .tamper .. | .lcAdvance .. | .wrap .. | .releaseHalt .. | .debugAccess ..
  | .snapshotCapture .. | .snapshotPageReply .. | .snapPartial .. | .ptAction .. | .ptDelayRelease .. | .xsDone .. | .lossOfPower ..
  | .refoscStop .. => True
  | _ => False

/-- The commands with a path on which a key changes. -/
def MayReachKeys : Instr → Prop
  | .registerWrite .. | .loReadLatch .. | .pgCtrlWrite .. | .pgIrqForceWrite .. | .errCapClear .. | .pageLock .. | .dynamicMemoryAccess ..
  | .coreAmo .. | .xsvLoad .. | .xsvStore .. | .hostRequest .. | .keyFuse .. | .keyRevoke .. | .debugAccess .. | .lossOfPower ..
  | .refoscStop .. => True
  | _ => False

/-- The commands with a path on which the pylon's air count changes. -/
def MayReachAir : Instr → Prop
  | .registerWrite .. | .loReadLatch .. | .pgCtrlWrite .. | .pgIrqForceWrite .. | .errCapClear .. | .pageLock .. | .ppsInEdge ..
  | .coarseStep .. | .refOfsCommit .. | .dynamicMemoryAccess .. | .coreAmo .. | .xsvLoad .. | .xsvStore .. | .hostRequest ..
  | .confirmExpired .. | .trialBringupLimit .. | .timeRsp .. | .opDeliver .. | .warmrst .. | .warmReset .. | .domainTransitionDone ..
  | .tamper .. | .debugAccess .. | .lossOfPower .. | .refoscStop .. => True
  | _ => False

end Sys2Proof.Claims

/-- The frames of all commands: none changes the queue but by leaving it as it stands; uptime moves by no command but the end of PORST and a loss of
power or of REFOSC; every byte of memory, every key and the air count stay as they are under every command that is not named for them. -/
def Obligations.CommandsKeepWhatTheyDoNotReach : Prop :=
  ∀ (i : Instr) (s t : State), exec i s = .next t →
    t.pending = s.pending
    ∧ ((∀ strap refosc, i ≠ .porstRelease strap refosc) → i ≠ .lossOfPower → i ≠ .refoscStop → t.uptime = s.uptime)
    ∧ (¬ Sys2Proof.Claims.MayReachMemory i → ∀ a, t.byte a = s.byte a)
    ∧ (¬ Sys2Proof.Claims.MayReachKeys i → t.keys = s.keys)
    ∧ (¬ Sys2Proof.Claims.MayReachAir i → t.air = s.air)

/-- R99, R108, R114, R115: a due slot-table entry that nothing suppresses issues: its operation occupies its unit from now for its time. PIER_START
lets the pier's first bundle issue 4 c later at its entry; NOP does nothing. R101, R131: an entry due at a unit that is still occupied is suppressed:
it leaves no operation behind and records COLL_UNIT, COLL_PORT for RING_WRITE; an entry that is not due has no effect. R101, R131, R384, R389–R391,
R413: a due DECK_XFER sets its mover to read unit 0 in cycle t + 2. The unit read in a cycle goes out to be delivered h + 2 cycles later, with the
bytes that its source held in the cycle of the read, and the next unit is read in the next cycle; a delivered unit stands in memory from the next
cycle on, and nothing else changes there. Of two accesses to one bank in one cycle the lower SOURCE, then the lower TAG, is served, and the plan stops
at the end of the span. -/
def Obligations.SlotEntriesIssueAndMoversMove : Prop :=
  (∀ (r i : Nat) (e : SlotEntry) (ctx : Nat) (s : State), s.canonical = true →
    let k := s.deckK
    let ws := s.descWords e.arg
    let n := ws.getD 3 0 % 256
    (SlotDue s 1 r i e ctx → Completes (.slotPierStart r i) s fun t =>
      let x := t.pier (e.unit % 64)
      x.running = true ∧ x.pc = e.arg % 2 ^ 32 ∧ x.at_ = s.uptime + 4 * k ∧ x.ctx = ctx ∧ x.tag = s.spanTag ∧ InFlight s t e 1 ctx none)
    ∧ (SlotDue s 3 r i e ctx → e.unit / 256 = 0x40 → e.unit % 256 < 8 → rxDescOk (e.unit % 256) e.arg ws = true →
      Completes (.slotAuRxOpen r i) s fun t => InFlight s t e 3 ctx none)
    ∧ (SlotDue s 4 r i e ctx → e.unit / 256 = 0x40 → e.unit % 256 < 8 → rxDescOk (e.unit % 256) e.arg ws = true →
      Completes (.slotAuRxClose r i) s fun t => InFlight s t e 4 ctx none)
    ∧ (SlotDue s 5 r i e ctx → e.unit / 256 = 0x40 → e.unit % 256 < 8 →
        s.txDescOk e.arg (e.unit % 256) ws = true →
      Completes (.slotAuTxSend (.table r i)) s fun t => InFlight s t e 5 ctx none)
    ∧ (SlotDue s 6 r i e ctx → Completes (.slotBmXfer r i) s fun t => InFlight s t e 6 ctx none)
    ∧ (SlotDue s 7 r i e ctx → Completes (.slotBmRefresh r i) s fun t => InFlight s t e 7 ctx (some (8 * k, 8 * k)))
    ∧ (SlotDue s 8 r i e ctx → Completes (.slotRingWrite r i) s fun t => InFlight s t e 8 ctx (some (k, 4 * k))
      ∧ ⟨s.uptime + 4 * k, e.unit, 238, 0, .token (e.unit % 256) ctx (s.words e.arg 16)⟩ ∈ t.mu.later)
    ∧ (SlotDue s 9 r i e ctx → e.arg % 2 ^ 20 ≠ 0 → Completes (.slotLend r i) s fun t =>
      (e.unit, s.uptime, s.uptime + e.arg % 2 ^ 20) ∈ t.dk.lent)
    ∧ (SlotDue s 10 r i e ctx → e.arg % 4 ≠ s.get (pgDom (e.unit % 256)) Rg.D_STAT_TARGET →
      Completes (.slotPower r i) s fun t => InFlight s t e 10 ctx none)
    ∧ (SlotDue s 11 r i e ctx → moverOk (e.unit % 256) e.arg ws = true →
      Completes (.slotDeckXfer r i) s fun t => InFlight s t e 11 ctx
        (some (k * n, k * (4 + hops (e.unit % 256) (memRouter (deckAddr (ws.getD 2 0))) + n))))
    ∧ (SlotDue s 12 r i e ctx → exec (.slotNop r i) s = .next s))
    ∧ (∀ (r i : Nat) (s : State),
    ∀ c ∈ [((.slotPierStart : Nat → Nat → Instr), 1), (.slotAuRxOpen, 3), (.slotAuRxClose, 4), (fun r i => .slotAuTxSend (.table r i), 5),
        (.slotBmXfer, 6), (.slotBmRefresh, 7), (.slotRingWrite, 8), (.slotLend, 9), (.slotPower, 10), (.slotDeckXfer, 11)],
      (s.entryDue r i = none → exec (c.1 r i) s = .next s)
      ∧ (∀ e ctx, s.entryDue r i = some (e, ctx) → e.op = c.2 → s.fenced e.unit = false → s.occupied e.unit = true →
          exec (c.1 r i) s = .next (if c.2 = 8 then s.deckEvent Ev.COLL_PORT e.arg e.unit ctx else s.deckEvent Ev.COLL_UNIT e.ofs e.unit ctx)))
    ∧ ((∀ (r i : Nat) (e : SlotEntry) (ctx : Nat) (s : State), s.canonical = true → SlotDue s 11 r i e ctx →
    let ws := s.descWords e.arg
    let rt := e.unit % 256
    let n := ws.getD 3 0 % 256
    let src := deckAddr (ws.getD 1 0)
    let dst := deckAddr (ws.getD 2 0)
    moverOk rt e.arg ws = true → s.domOn (memDomain dst) = true → s.inFoot dst (64 * n) = true →
    (∀ x ∈ s.mu.ports, ¬ (x.bank = bankOf e.arg ∧ x.at_ = s.uptime + 1)) →
    Completes (.slotDeckXfer r i) s fun t =>
      ⟨s.uptime + 3 * s.deckK, e.unit, 240, rt, .copy src dst (hops rt (memRouter dst)) n ctx false false⟩ ∈ t.mu.later)
    ∧ (∀ (s : State) (u tag src dst h n ctx : Nat), s.mu.later = [⟨s.uptime, u, 240, tag, .copy src dst h n ctx false false⟩] →
    eccHits s src 64 = [] → s.ts.hits = [] →
    let k := s.deckK
    s.landDue.mem = s.mem
      ∧ s.landDue.mu.later = ⟨s.uptime + k * (2 + h), u, 240, tag, .deliver dst (bytesOf 64 (s.load src 64)) false⟩
          :: (if 1 < n then [⟨s.uptime + k, u, 240, tag, .copy (src + 64) (dst + 64) h (n - 1) ctx false false⟩] else []))
    ∧ (∀ (s : State) (u q tag dst v : Nat) (m : Nat), memWf s.mem = true → s.mu.later = [⟨s.uptime, u, q, tag, .deliver dst (bytesOf (m + 1) v) false⟩] →
    inPm dst = false → eccHits s dst (m + 1) = [] → Stores s s.landDue dst (m + 1) v ∧ s.landDue.mu.later = [])
    ∧ (∀ (s : State) (x e : PortUse), s.canonical = true → s.mu.ports = [x] → x.at_ = s.uptime + 1 → e.at_ = s.uptime + 1 →
    let t := s.takePort e
    (e.bank ≠ x.bank → t.1 = true ∧ e ∈ t.2.mu.ports ∧ t.2.dk = s.dk)
      ∧ (e.bank = x.bank → t.1 = (decide (e.src < x.src) || (e.src == x.src && decide (e.tag < x.tag)))
          ∧ t.2.mu.ports = [if t.1 then e else x] ∧ (s.dk.run.isSome = true → t.2.dk.stopping = true)
          ∧ records s t.2 pgDeck Ev.COLL_PORT = true))
)
end

