-- ==== Sys2Proof/Laws/Sparse.lean ====
section
/-! SUPPORT. What a sparse store gives after a write, and that every operation keeps the canonical form. -/
namespace Sys2Proof.Sparse

theorem get_of_lt {α : Type} [DecidableEq α] (d : Nat → α) :
    ∀ (l : List (Nat × α)) (lo k : Nat), wfFrom d lo l = true → k < lo → get d l k = d k
  | [], _, _, _, _ => rfl
  | (k', _) :: l, lo, k, h, hk => by
    simp only [wfFrom, Bool.and_eq_true, decide_eq_true_eq] at h
    have : ¬ k = k' := by omega
    simp only [get, this, if_false]
    exact get_of_lt d l (k' + 1) k h.2 (by omega)

theorem wfFrom_le {α : Type} [DecidableEq α] (d : Nat → α) {lo lo' : Nat} {l : List (Nat × α)} (h : wfFrom d lo l = true) (hl : lo' ≤ lo) :
    wfFrom d lo' l = true := by
  cases l with
  | nil => rfl
  | cons e l =>
    simp only [wfFrom, Bool.and_eq_true, decide_eq_true_eq] at h ⊢
    exact ⟨⟨by omega, h.1.2⟩, h.2⟩

theorem set_wfFrom {α : Type} [DecidableEq α] (d : Nat → α) (k : Nat) (v : α) :
    ∀ (l : List (Nat × α)) (lo : Nat), wfFrom d lo l = true → lo ≤ k → wfFrom d lo (set d l k v) = true
  | [], lo, _, hk => by
    unfold set
    split
    · rfl
    · next hv => simp [wfFrom, hk, hv]
  | (k', v') :: l, lo, h, hk => by
    have h0 := h
    simp only [wfFrom, Bool.and_eq_true, decide_eq_true_eq] at h
    unfold set
    split
    · next hlt =>
      split
      · exact h0
      · next hv =>
        simp only [wfFrom, Bool.and_eq_true, decide_eq_true_eq]
        exact ⟨⟨hk, hv⟩, ⟨⟨by omega, h.1.2⟩, h.2⟩⟩
    · split
      · next hlt heq =>
        subst heq
        split
        · exact wfFrom_le d h.2 (by omega)
        · next hv =>
          simp only [wfFrom, Bool.and_eq_true, decide_eq_true_eq]
          exact ⟨⟨hk, hv⟩, h.2⟩
      · next hlt hne =>
        simp only [wfFrom, Bool.and_eq_true, decide_eq_true_eq]
        exact ⟨h.1, set_wfFrom d k v l (k' + 1) h.2 (by omega)⟩

/-- A write keeps the canonical form. -/
theorem set_wf {α : Type} [DecidableEq α] {d : Nat → α} {l : List (Nat × α)} (k : Nat) (v : α) (h : wf d l = true) :
    wf d (set d l k v) = true := set_wfFrom d k v l 0 h (Nat.zero_le k)

theorem drop_wfFrom {α : Type} [DecidableEq α] (d : Nat → α) (p : Nat → Bool) :
    ∀ (l : List (Nat × α)) (lo : Nat), wfFrom d lo l = true → wfFrom d lo (drop p l) = true
  | [], _, _ => rfl
  | (k, v) :: l, lo, h => by
    simp only [wfFrom, Bool.and_eq_true, decide_eq_true_eq] at h
    have ih := drop_wfFrom d p l (k + 1) h.2
    unfold drop at ih ⊢
    rw [List.filter_cons]
    split
    · simp only [wfFrom, Bool.and_eq_true, decide_eq_true_eq]
      exact ⟨h.1, ih⟩
    · exact wfFrom_le d ih (by omega)

/-- Forgetting keys keeps the canonical form. -/
theorem drop_wf {α : Type} [DecidableEq α] {d : Nat → α} {l : List (Nat × α)} (p : Nat → Bool) (h : wf d l = true) :
    wf d (drop p l) = true := drop_wfFrom d p l 0 h

/-- A key just written reads as the value written. -/
theorem get_set_same {α : Type} [DecidableEq α] (d : Nat → α) (k : Nat) (v : α) :
    ∀ (l : List (Nat × α)) (lo : Nat), wfFrom d lo l = true → get d (set d l k v) k = v
  | [], _, _ => by
    unfold set
    split
    · next hv => simp [get, hv]
    · simp [get]
  | (k', v') :: l, lo, h => by
    have h0 := h
    simp only [wfFrom, Bool.and_eq_true, decide_eq_true_eq] at h
    unfold set
    split
    · next hlt =>
      split
      · next hv =>
        have : ¬ k = k' := by omega
        simp only [get, this, if_false]
        rw [get_of_lt d l (k' + 1) k h.2 (by omega), hv]
      · simp [get]
    · split
      · next heq =>
        split
        · next hv =>
          rw [get_of_lt d l (k' + 1) k h.2 (by omega), hv]
        · simp [get]
      · next hne =>
        simp only [get, hne, if_false]
        exact get_set_same d k v l (k' + 1) h.2

/-- Every other key reads as before. -/
theorem get_set_other {α : Type} [DecidableEq α] (d : Nat → α) {k j : Nat} (v : α) (hj : j ≠ k) :
    ∀ (l : List (Nat × α)), get d (set d l k v) j = get d l j
  | [] => by
    unfold set
    split <;> simp [get, hj]
  | (k', v') :: l => by
    unfold set
    split
    · split
      · rfl
      · simp [get, hj]
    · split
      · next heq =>
        subst heq
        split <;> simp [get, hj]
      · simp only [get, get_set_other d v hj l]

end Sys2Proof.Sparse
end

