-- ==== Sys2Proof/Laws/State.lean ====
section
/-! SUPPORT. What each update of the state leaves as it was: one lemma per field and update. -/
namespace Sys2Proof.Machine

@[simp] theorem State.setReg_uptime (s : State) (p off : Nat) (v : Word) : (s.setReg p off v).uptime = s.uptime := rfl
@[simp] theorem State.setReg_air (s : State) (p off : Nat) (v : Word) : (s.setReg p off v).air = s.air := rfl
@[simp] theorem State.setReg_free (s : State) (p off : Nat) (v : Word) : (s.setReg p off v).free = s.free := rfl
@[simp] theorem State.setReg_rsp (s : State) (p off : Nat) (v : Word) : (s.setReg p off v).rsp = s.rsp := rfl
@[simp] theorem State.setReg_hiLatch (s : State) (p off : Nat) (v : Word) : (s.setReg p off v).hiLatch = s.hiLatch := rfl
@[simp] theorem State.setReg_loStage (s : State) (p off : Nat) (v : Word) : (s.setReg p off v).loStage = s.loStage := rfl
@[simp] theorem State.setReg_capCy (s : State) (p off : Nat) (v : Word) : (s.setReg p off v).capCy = s.capCy := rfl
@[simp] theorem State.setReg_samples (s : State) (p off : Nat) (v : Word) : (s.setReg p off v).samples = s.samples := rfl
@[simp] theorem State.setReg_mem (s : State) (p off : Nat) (v : Word) : (s.setReg p off v).mem = s.mem := rfl
@[simp] theorem State.setReg_py (s : State) (p off : Nat) (v : Word) : (s.setReg p off v).py = s.py := rfl
@[simp] theorem State.setReg_gp (s : State) (p off : Nat) (v : Word) : (s.setReg p off v).gp = s.gp := rfl
@[simp] theorem State.setReg_mu (s : State) (p off : Nat) (v : Word) : (s.setReg p off v).mu = s.mu := rfl
@[simp] theorem State.setReg_nt (s : State) (p off : Nat) (v : Word) : (s.setReg p off v).nt = s.nt := rfl
@[simp] theorem State.setReg_dk (s : State) (p off : Nat) (v : Word) : (s.setReg p off v).dk = s.dk := rfl
@[simp] theorem State.setReg_keys (s : State) (p off : Nat) (v : Word) : (s.setReg p off v).keys = s.keys := rfl
@[simp] theorem State.setReg_tr (s : State) (p off : Nat) (v : Word) : (s.setReg p off v).tr = s.tr := rfl
@[simp] theorem State.setReg_piers (s : State) (p off : Nat) (v : Word) : (s.setReg p off v).piers = s.piers := rfl
@[simp] theorem State.setReg_en (s : State) (p off : Nat) (v : Word) : (s.setReg p off v).en = s.en := rfl
@[simp] theorem State.setReg_lanes (s : State) (p off : Nat) (v : Word) : (s.setReg p off v).lanes = s.lanes := rfl
@[simp] theorem State.setReg_pw (s : State) (p off : Nat) (v : Word) : (s.setReg p off v).pw = s.pw := rfl
@[simp] theorem State.setReg_ab (s : State) (p off : Nat) (v : Word) : (s.setReg p off v).ab = s.ab := rfl
@[simp] theorem State.setReg_fh (s : State) (p off : Nat) (v : Word) : (s.setReg p off v).fh = s.fh := rfl
@[simp] theorem State.setReg_ks (s : State) (p off : Nat) (v : Word) : (s.setReg p off v).ks = s.ks := rfl
@[simp] theorem State.setReg_pl (s : State) (p off : Nat) (v : Word) : (s.setReg p off v).pl = s.pl := rfl
@[simp] theorem State.setReg_sec (s : State) (p off : Nat) (v : Word) : (s.setReg p off v).sec = s.sec := rfl
@[simp] theorem State.setReg_ts (s : State) (p off : Nat) (v : Word) : (s.setReg p off v).ts = s.ts := rfl
@[simp] theorem State.setReg_io (s : State) (p off : Nat) (v : Word) : (s.setReg p off v).io = s.io := rfl
@[simp] theorem State.setReg_pending (s : State) (p off : Nat) (v : Word) : (s.setReg p off v).pending = s.pending := rfl

@[simp] theorem State.put_uptime (s : State) (p : Nat) (f : Fld) (v n : Nat) : (s.put p f v n).uptime = s.uptime := rfl
@[simp] theorem State.put_air (s : State) (p : Nat) (f : Fld) (v n : Nat) : (s.put p f v n).air = s.air := rfl
@[simp] theorem State.put_free (s : State) (p : Nat) (f : Fld) (v n : Nat) : (s.put p f v n).free = s.free := rfl
@[simp] theorem State.put_rsp (s : State) (p : Nat) (f : Fld) (v n : Nat) : (s.put p f v n).rsp = s.rsp := rfl
@[simp] theorem State.put_hiLatch (s : State) (p : Nat) (f : Fld) (v n : Nat) : (s.put p f v n).hiLatch = s.hiLatch := rfl
@[simp] theorem State.put_loStage (s : State) (p : Nat) (f : Fld) (v n : Nat) : (s.put p f v n).loStage = s.loStage := rfl
@[simp] theorem State.put_capCy (s : State) (p : Nat) (f : Fld) (v n : Nat) : (s.put p f v n).capCy = s.capCy := rfl
@[simp] theorem State.put_samples (s : State) (p : Nat) (f : Fld) (v n : Nat) : (s.put p f v n).samples = s.samples := rfl
@[simp] theorem State.put_mem (s : State) (p : Nat) (f : Fld) (v n : Nat) : (s.put p f v n).mem = s.mem := rfl
@[simp] theorem State.put_py (s : State) (p : Nat) (f : Fld) (v n : Nat) : (s.put p f v n).py = s.py := rfl
@[simp] theorem State.put_gp (s : State) (p : Nat) (f : Fld) (v n : Nat) : (s.put p f v n).gp = s.gp := rfl
@[simp] theorem State.put_mu (s : State) (p : Nat) (f : Fld) (v n : Nat) : (s.put p f v n).mu = s.mu := rfl
@[simp] theorem State.put_nt (s : State) (p : Nat) (f : Fld) (v n : Nat) : (s.put p f v n).nt = s.nt := rfl
@[simp] theorem State.put_dk (s : State) (p : Nat) (f : Fld) (v n : Nat) : (s.put p f v n).dk = s.dk := rfl
@[simp] theorem State.put_keys (s : State) (p : Nat) (f : Fld) (v n : Nat) : (s.put p f v n).keys = s.keys := rfl
@[simp] theorem State.put_tr (s : State) (p : Nat) (f : Fld) (v n : Nat) : (s.put p f v n).tr = s.tr := rfl
@[simp] theorem State.put_piers (s : State) (p : Nat) (f : Fld) (v n : Nat) : (s.put p f v n).piers = s.piers := rfl
@[simp] theorem State.put_en (s : State) (p : Nat) (f : Fld) (v n : Nat) : (s.put p f v n).en = s.en := rfl
@[simp] theorem State.put_lanes (s : State) (p : Nat) (f : Fld) (v n : Nat) : (s.put p f v n).lanes = s.lanes := rfl
@[simp] theorem State.put_pw (s : State) (p : Nat) (f : Fld) (v n : Nat) : (s.put p f v n).pw = s.pw := rfl
@[simp] theorem State.put_ab (s : State) (p : Nat) (f : Fld) (v n : Nat) : (s.put p f v n).ab = s.ab := rfl
@[simp] theorem State.put_fh (s : State) (p : Nat) (f : Fld) (v n : Nat) : (s.put p f v n).fh = s.fh := rfl
@[simp] theorem State.put_ks (s : State) (p : Nat) (f : Fld) (v n : Nat) : (s.put p f v n).ks = s.ks := rfl
@[simp] theorem State.put_pl (s : State) (p : Nat) (f : Fld) (v n : Nat) : (s.put p f v n).pl = s.pl := rfl
@[simp] theorem State.put_sec (s : State) (p : Nat) (f : Fld) (v n : Nat) : (s.put p f v n).sec = s.sec := rfl
@[simp] theorem State.put_ts (s : State) (p : Nat) (f : Fld) (v n : Nat) : (s.put p f v n).ts = s.ts := rfl
@[simp] theorem State.put_io (s : State) (p : Nat) (f : Fld) (v n : Nat) : (s.put p f v n).io = s.io := rfl
@[simp] theorem State.put_pending (s : State) (p : Nat) (f : Fld) (v n : Nat) : (s.put p f v n).pending = s.pending := rfl

@[simp] theorem State.put64_uptime (s : State) (p : Nat) (f : Fld) (v n : Nat) : (s.put64 p f v n).uptime = s.uptime := rfl
@[simp] theorem State.put64_air (s : State) (p : Nat) (f : Fld) (v n : Nat) : (s.put64 p f v n).air = s.air := rfl
@[simp] theorem State.put64_free (s : State) (p : Nat) (f : Fld) (v n : Nat) : (s.put64 p f v n).free = s.free := rfl
@[simp] theorem State.put64_rsp (s : State) (p : Nat) (f : Fld) (v n : Nat) : (s.put64 p f v n).rsp = s.rsp := rfl
@[simp] theorem State.put64_hiLatch (s : State) (p : Nat) (f : Fld) (v n : Nat) : (s.put64 p f v n).hiLatch = s.hiLatch := rfl
@[simp] theorem State.put64_loStage (s : State) (p : Nat) (f : Fld) (v n : Nat) : (s.put64 p f v n).loStage = s.loStage := rfl
@[simp] theorem State.put64_capCy (s : State) (p : Nat) (f : Fld) (v n : Nat) : (s.put64 p f v n).capCy = s.capCy := rfl
@[simp] theorem State.put64_samples (s : State) (p : Nat) (f : Fld) (v n : Nat) : (s.put64 p f v n).samples = s.samples := rfl
@[simp] theorem State.put64_mem (s : State) (p : Nat) (f : Fld) (v n : Nat) : (s.put64 p f v n).mem = s.mem := rfl
@[simp] theorem State.put64_py (s : State) (p : Nat) (f : Fld) (v n : Nat) : (s.put64 p f v n).py = s.py := rfl
@[simp] theorem State.put64_gp (s : State) (p : Nat) (f : Fld) (v n : Nat) : (s.put64 p f v n).gp = s.gp := rfl
@[simp] theorem State.put64_mu (s : State) (p : Nat) (f : Fld) (v n : Nat) : (s.put64 p f v n).mu = s.mu := rfl
@[simp] theorem State.put64_nt (s : State) (p : Nat) (f : Fld) (v n : Nat) : (s.put64 p f v n).nt = s.nt := rfl
@[simp] theorem State.put64_dk (s : State) (p : Nat) (f : Fld) (v n : Nat) : (s.put64 p f v n).dk = s.dk := rfl
@[simp] theorem State.put64_keys (s : State) (p : Nat) (f : Fld) (v n : Nat) : (s.put64 p f v n).keys = s.keys := rfl
@[simp] theorem State.put64_tr (s : State) (p : Nat) (f : Fld) (v n : Nat) : (s.put64 p f v n).tr = s.tr := rfl
@[simp] theorem State.put64_piers (s : State) (p : Nat) (f : Fld) (v n : Nat) : (s.put64 p f v n).piers = s.piers := rfl
@[simp] theorem State.put64_en (s : State) (p : Nat) (f : Fld) (v n : Nat) : (s.put64 p f v n).en = s.en := rfl
@[simp] theorem State.put64_lanes (s : State) (p : Nat) (f : Fld) (v n : Nat) : (s.put64 p f v n).lanes = s.lanes := rfl
@[simp] theorem State.put64_pw (s : State) (p : Nat) (f : Fld) (v n : Nat) : (s.put64 p f v n).pw = s.pw := rfl
@[simp] theorem State.put64_ab (s : State) (p : Nat) (f : Fld) (v n : Nat) : (s.put64 p f v n).ab = s.ab := rfl
@[simp] theorem State.put64_fh (s : State) (p : Nat) (f : Fld) (v n : Nat) : (s.put64 p f v n).fh = s.fh := rfl
@[simp] theorem State.put64_ks (s : State) (p : Nat) (f : Fld) (v n : Nat) : (s.put64 p f v n).ks = s.ks := rfl
@[simp] theorem State.put64_pl (s : State) (p : Nat) (f : Fld) (v n : Nat) : (s.put64 p f v n).pl = s.pl := rfl
@[simp] theorem State.put64_sec (s : State) (p : Nat) (f : Fld) (v n : Nat) : (s.put64 p f v n).sec = s.sec := rfl
@[simp] theorem State.put64_ts (s : State) (p : Nat) (f : Fld) (v n : Nat) : (s.put64 p f v n).ts = s.ts := rfl
@[simp] theorem State.put64_io (s : State) (p : Nat) (f : Fld) (v n : Nat) : (s.put64 p f v n).io = s.io := rfl
@[simp] theorem State.put64_pending (s : State) (p : Nat) (f : Fld) (v n : Nat) : (s.put64 p f v n).pending = s.pending := rfl

@[simp] theorem State.satAdd_uptime (s : State) (p : Nat) (f : Fld) (v n : Nat) : (s.satAdd p f v n).uptime = s.uptime := rfl
@[simp] theorem State.satAdd_air (s : State) (p : Nat) (f : Fld) (v n : Nat) : (s.satAdd p f v n).air = s.air := rfl
@[simp] theorem State.satAdd_free (s : State) (p : Nat) (f : Fld) (v n : Nat) : (s.satAdd p f v n).free = s.free := rfl
@[simp] theorem State.satAdd_rsp (s : State) (p : Nat) (f : Fld) (v n : Nat) : (s.satAdd p f v n).rsp = s.rsp := rfl
@[simp] theorem State.satAdd_hiLatch (s : State) (p : Nat) (f : Fld) (v n : Nat) : (s.satAdd p f v n).hiLatch = s.hiLatch := rfl
@[simp] theorem State.satAdd_loStage (s : State) (p : Nat) (f : Fld) (v n : Nat) : (s.satAdd p f v n).loStage = s.loStage := rfl
@[simp] theorem State.satAdd_capCy (s : State) (p : Nat) (f : Fld) (v n : Nat) : (s.satAdd p f v n).capCy = s.capCy := rfl
@[simp] theorem State.satAdd_samples (s : State) (p : Nat) (f : Fld) (v n : Nat) : (s.satAdd p f v n).samples = s.samples := rfl
@[simp] theorem State.satAdd_mem (s : State) (p : Nat) (f : Fld) (v n : Nat) : (s.satAdd p f v n).mem = s.mem := rfl
@[simp] theorem State.satAdd_py (s : State) (p : Nat) (f : Fld) (v n : Nat) : (s.satAdd p f v n).py = s.py := rfl
@[simp] theorem State.satAdd_gp (s : State) (p : Nat) (f : Fld) (v n : Nat) : (s.satAdd p f v n).gp = s.gp := rfl
@[simp] theorem State.satAdd_mu (s : State) (p : Nat) (f : Fld) (v n : Nat) : (s.satAdd p f v n).mu = s.mu := rfl
@[simp] theorem State.satAdd_nt (s : State) (p : Nat) (f : Fld) (v n : Nat) : (s.satAdd p f v n).nt = s.nt := rfl
@[simp] theorem State.satAdd_dk (s : State) (p : Nat) (f : Fld) (v n : Nat) : (s.satAdd p f v n).dk = s.dk := rfl
@[simp] theorem State.satAdd_keys (s : State) (p : Nat) (f : Fld) (v n : Nat) : (s.satAdd p f v n).keys = s.keys := rfl
@[simp] theorem State.satAdd_tr (s : State) (p : Nat) (f : Fld) (v n : Nat) : (s.satAdd p f v n).tr = s.tr := rfl
@[simp] theorem State.satAdd_piers (s : State) (p : Nat) (f : Fld) (v n : Nat) : (s.satAdd p f v n).piers = s.piers := rfl
@[simp] theorem State.satAdd_en (s : State) (p : Nat) (f : Fld) (v n : Nat) : (s.satAdd p f v n).en = s.en := rfl
@[simp] theorem State.satAdd_lanes (s : State) (p : Nat) (f : Fld) (v n : Nat) : (s.satAdd p f v n).lanes = s.lanes := rfl
@[simp] theorem State.satAdd_pw (s : State) (p : Nat) (f : Fld) (v n : Nat) : (s.satAdd p f v n).pw = s.pw := rfl
@[simp] theorem State.satAdd_ab (s : State) (p : Nat) (f : Fld) (v n : Nat) : (s.satAdd p f v n).ab = s.ab := rfl
@[simp] theorem State.satAdd_fh (s : State) (p : Nat) (f : Fld) (v n : Nat) : (s.satAdd p f v n).fh = s.fh := rfl
@[simp] theorem State.satAdd_ks (s : State) (p : Nat) (f : Fld) (v n : Nat) : (s.satAdd p f v n).ks = s.ks := rfl
@[simp] theorem State.satAdd_pl (s : State) (p : Nat) (f : Fld) (v n : Nat) : (s.satAdd p f v n).pl = s.pl := rfl
@[simp] theorem State.satAdd_sec (s : State) (p : Nat) (f : Fld) (v n : Nat) : (s.satAdd p f v n).sec = s.sec := rfl
@[simp] theorem State.satAdd_ts (s : State) (p : Nat) (f : Fld) (v n : Nat) : (s.satAdd p f v n).ts = s.ts := rfl
@[simp] theorem State.satAdd_io (s : State) (p : Nat) (f : Fld) (v n : Nat) : (s.satAdd p f v n).io = s.io := rfl
@[simp] theorem State.satAdd_pending (s : State) (p : Nat) (f : Fld) (v n : Nat) : (s.satAdd p f v n).pending = s.pending := rfl

@[simp] theorem State.irq_uptime (s : State) (p b : Nat) : (s.irq p b).uptime = s.uptime := rfl
@[simp] theorem State.irq_air (s : State) (p b : Nat) : (s.irq p b).air = s.air := rfl
@[simp] theorem State.irq_free (s : State) (p b : Nat) : (s.irq p b).free = s.free := rfl
@[simp] theorem State.irq_rsp (s : State) (p b : Nat) : (s.irq p b).rsp = s.rsp := rfl
@[simp] theorem State.irq_hiLatch (s : State) (p b : Nat) : (s.irq p b).hiLatch = s.hiLatch := rfl
@[simp] theorem State.irq_loStage (s : State) (p b : Nat) : (s.irq p b).loStage = s.loStage := rfl
@[simp] theorem State.irq_capCy (s : State) (p b : Nat) : (s.irq p b).capCy = s.capCy := rfl
@[simp] theorem State.irq_samples (s : State) (p b : Nat) : (s.irq p b).samples = s.samples := rfl
@[simp] theorem State.irq_mem (s : State) (p b : Nat) : (s.irq p b).mem = s.mem := rfl
@[simp] theorem State.irq_py (s : State) (p b : Nat) : (s.irq p b).py = s.py := rfl
@[simp] theorem State.irq_gp (s : State) (p b : Nat) : (s.irq p b).gp = s.gp := rfl
@[simp] theorem State.irq_mu (s : State) (p b : Nat) : (s.irq p b).mu = s.mu := rfl
@[simp] theorem State.irq_nt (s : State) (p b : Nat) : (s.irq p b).nt = s.nt := rfl
@[simp] theorem State.irq_dk (s : State) (p b : Nat) : (s.irq p b).dk = s.dk := rfl
@[simp] theorem State.irq_keys (s : State) (p b : Nat) : (s.irq p b).keys = s.keys := rfl
@[simp] theorem State.irq_tr (s : State) (p b : Nat) : (s.irq p b).tr = s.tr := rfl
@[simp] theorem State.irq_piers (s : State) (p b : Nat) : (s.irq p b).piers = s.piers := rfl
@[simp] theorem State.irq_en (s : State) (p b : Nat) : (s.irq p b).en = s.en := rfl
@[simp] theorem State.irq_lanes (s : State) (p b : Nat) : (s.irq p b).lanes = s.lanes := rfl
@[simp] theorem State.irq_pw (s : State) (p b : Nat) : (s.irq p b).pw = s.pw := rfl
@[simp] theorem State.irq_ab (s : State) (p b : Nat) : (s.irq p b).ab = s.ab := rfl
@[simp] theorem State.irq_fh (s : State) (p b : Nat) : (s.irq p b).fh = s.fh := rfl
@[simp] theorem State.irq_ks (s : State) (p b : Nat) : (s.irq p b).ks = s.ks := rfl
@[simp] theorem State.irq_pl (s : State) (p b : Nat) : (s.irq p b).pl = s.pl := rfl
@[simp] theorem State.irq_sec (s : State) (p b : Nat) : (s.irq p b).sec = s.sec := rfl
@[simp] theorem State.irq_ts (s : State) (p b : Nat) : (s.irq p b).ts = s.ts := rfl
@[simp] theorem State.irq_io (s : State) (p b : Nat) : (s.irq p b).io = s.io := rfl
@[simp] theorem State.irq_pending (s : State) (p b : Nat) : (s.irq p b).pending = s.pending := rfl

@[simp] theorem State.answer_uptime (s : State) (st data : Nat) : (s.answer st data).uptime = s.uptime := rfl
@[simp] theorem State.answer_air (s : State) (st data : Nat) : (s.answer st data).air = s.air := rfl
@[simp] theorem State.answer_free (s : State) (st data : Nat) : (s.answer st data).free = s.free := rfl
@[simp] theorem State.answer_regs (s : State) (st data : Nat) : (s.answer st data).regs = s.regs := rfl
@[simp] theorem State.answer_hiLatch (s : State) (st data : Nat) : (s.answer st data).hiLatch = s.hiLatch := rfl
@[simp] theorem State.answer_loStage (s : State) (st data : Nat) : (s.answer st data).loStage = s.loStage := rfl
@[simp] theorem State.answer_capCy (s : State) (st data : Nat) : (s.answer st data).capCy = s.capCy := rfl
@[simp] theorem State.answer_samples (s : State) (st data : Nat) : (s.answer st data).samples = s.samples := rfl
@[simp] theorem State.answer_mem (s : State) (st data : Nat) : (s.answer st data).mem = s.mem := rfl
@[simp] theorem State.answer_py (s : State) (st data : Nat) : (s.answer st data).py = s.py := rfl
@[simp] theorem State.answer_gp (s : State) (st data : Nat) : (s.answer st data).gp = s.gp := rfl
@[simp] theorem State.answer_mu (s : State) (st data : Nat) : (s.answer st data).mu = s.mu := rfl
@[simp] theorem State.answer_nt (s : State) (st data : Nat) : (s.answer st data).nt = s.nt := rfl
@[simp] theorem State.answer_dk (s : State) (st data : Nat) : (s.answer st data).dk = s.dk := rfl
@[simp] theorem State.answer_keys (s : State) (st data : Nat) : (s.answer st data).keys = s.keys := rfl
@[simp] theorem State.answer_tr (s : State) (st data : Nat) : (s.answer st data).tr = s.tr := rfl
@[simp] theorem State.answer_piers (s : State) (st data : Nat) : (s.answer st data).piers = s.piers := rfl
@[simp] theorem State.answer_en (s : State) (st data : Nat) : (s.answer st data).en = s.en := rfl
@[simp] theorem State.answer_lanes (s : State) (st data : Nat) : (s.answer st data).lanes = s.lanes := rfl
@[simp] theorem State.answer_pw (s : State) (st data : Nat) : (s.answer st data).pw = s.pw := rfl
@[simp] theorem State.answer_ab (s : State) (st data : Nat) : (s.answer st data).ab = s.ab := rfl
@[simp] theorem State.answer_fh (s : State) (st data : Nat) : (s.answer st data).fh = s.fh := rfl
@[simp] theorem State.answer_ks (s : State) (st data : Nat) : (s.answer st data).ks = s.ks := rfl
@[simp] theorem State.answer_pl (s : State) (st data : Nat) : (s.answer st data).pl = s.pl := rfl
@[simp] theorem State.answer_sec (s : State) (st data : Nat) : (s.answer st data).sec = s.sec := rfl
@[simp] theorem State.answer_ts (s : State) (st data : Nat) : (s.answer st data).ts = s.ts := rfl
@[simp] theorem State.answer_io (s : State) (st data : Nat) : (s.answer st data).io = s.io := rfl
@[simp] theorem State.answer_pending (s : State) (st data : Nat) : (s.answer st data).pending = s.pending := rfl

@[simp] theorem State.touch_uptime (s : State) (d : Nat) : (s.touch d).uptime = s.uptime := rfl
@[simp] theorem State.touch_air (s : State) (d : Nat) : (s.touch d).air = s.air := rfl
@[simp] theorem State.touch_free (s : State) (d : Nat) : (s.touch d).free = s.free := rfl
@[simp] theorem State.touch_rsp (s : State) (d : Nat) : (s.touch d).rsp = s.rsp := rfl
@[simp] theorem State.touch_regs (s : State) (d : Nat) : (s.touch d).regs = s.regs := rfl
@[simp] theorem State.touch_hiLatch (s : State) (d : Nat) : (s.touch d).hiLatch = s.hiLatch := rfl
@[simp] theorem State.touch_loStage (s : State) (d : Nat) : (s.touch d).loStage = s.loStage := rfl
@[simp] theorem State.touch_capCy (s : State) (d : Nat) : (s.touch d).capCy = s.capCy := rfl
@[simp] theorem State.touch_samples (s : State) (d : Nat) : (s.touch d).samples = s.samples := rfl
@[simp] theorem State.touch_mem (s : State) (d : Nat) : (s.touch d).mem = s.mem := rfl
@[simp] theorem State.touch_py (s : State) (d : Nat) : (s.touch d).py = s.py := rfl
@[simp] theorem State.touch_gp (s : State) (d : Nat) : (s.touch d).gp = s.gp := rfl
@[simp] theorem State.touch_mu (s : State) (d : Nat) : (s.touch d).mu = s.mu := rfl
@[simp] theorem State.touch_nt (s : State) (d : Nat) : (s.touch d).nt = s.nt := rfl
@[simp] theorem State.touch_dk (s : State) (d : Nat) : (s.touch d).dk = s.dk := rfl
@[simp] theorem State.touch_keys (s : State) (d : Nat) : (s.touch d).keys = s.keys := rfl
@[simp] theorem State.touch_tr (s : State) (d : Nat) : (s.touch d).tr = s.tr := rfl
@[simp] theorem State.touch_piers (s : State) (d : Nat) : (s.touch d).piers = s.piers := rfl
@[simp] theorem State.touch_en (s : State) (d : Nat) : (s.touch d).en = s.en := rfl
@[simp] theorem State.touch_lanes (s : State) (d : Nat) : (s.touch d).lanes = s.lanes := rfl
@[simp] theorem State.touch_ab (s : State) (d : Nat) : (s.touch d).ab = s.ab := rfl
@[simp] theorem State.touch_fh (s : State) (d : Nat) : (s.touch d).fh = s.fh := rfl
@[simp] theorem State.touch_ks (s : State) (d : Nat) : (s.touch d).ks = s.ks := rfl
@[simp] theorem State.touch_pl (s : State) (d : Nat) : (s.touch d).pl = s.pl := rfl
@[simp] theorem State.touch_sec (s : State) (d : Nat) : (s.touch d).sec = s.sec := rfl
@[simp] theorem State.touch_ts (s : State) (d : Nat) : (s.touch d).ts = s.ts := rfl
@[simp] theorem State.touch_io (s : State) (d : Nat) : (s.touch d).io = s.io := rfl
@[simp] theorem State.touch_pending (s : State) (d : Nat) : (s.touch d).pending = s.pending := rfl

@[simp] theorem State.bump_uptime (s : State) (p code v : Nat) : (s.bump p code v).uptime = s.uptime := rfl
@[simp] theorem State.bump_air (s : State) (p code v : Nat) : (s.bump p code v).air = s.air := rfl
@[simp] theorem State.bump_free (s : State) (p code v : Nat) : (s.bump p code v).free = s.free := rfl
@[simp] theorem State.bump_rsp (s : State) (p code v : Nat) : (s.bump p code v).rsp = s.rsp := rfl
@[simp] theorem State.bump_regs (s : State) (p code v : Nat) : (s.bump p code v).regs = s.regs := rfl
@[simp] theorem State.bump_hiLatch (s : State) (p code v : Nat) : (s.bump p code v).hiLatch = s.hiLatch := rfl
@[simp] theorem State.bump_loStage (s : State) (p code v : Nat) : (s.bump p code v).loStage = s.loStage := rfl
@[simp] theorem State.bump_capCy (s : State) (p code v : Nat) : (s.bump p code v).capCy = s.capCy := rfl
@[simp] theorem State.bump_mem (s : State) (p code v : Nat) : (s.bump p code v).mem = s.mem := rfl
@[simp] theorem State.bump_py (s : State) (p code v : Nat) : (s.bump p code v).py = s.py := rfl
@[simp] theorem State.bump_gp (s : State) (p code v : Nat) : (s.bump p code v).gp = s.gp := rfl
@[simp] theorem State.bump_mu (s : State) (p code v : Nat) : (s.bump p code v).mu = s.mu := rfl
@[simp] theorem State.bump_nt (s : State) (p code v : Nat) : (s.bump p code v).nt = s.nt := rfl
@[simp] theorem State.bump_dk (s : State) (p code v : Nat) : (s.bump p code v).dk = s.dk := rfl
@[simp] theorem State.bump_keys (s : State) (p code v : Nat) : (s.bump p code v).keys = s.keys := rfl
@[simp] theorem State.bump_tr (s : State) (p code v : Nat) : (s.bump p code v).tr = s.tr := rfl
@[simp] theorem State.bump_piers (s : State) (p code v : Nat) : (s.bump p code v).piers = s.piers := rfl
@[simp] theorem State.bump_en (s : State) (p code v : Nat) : (s.bump p code v).en = s.en := rfl
@[simp] theorem State.bump_lanes (s : State) (p code v : Nat) : (s.bump p code v).lanes = s.lanes := rfl
@[simp] theorem State.bump_pw (s : State) (p code v : Nat) : (s.bump p code v).pw = s.pw := rfl
@[simp] theorem State.bump_ab (s : State) (p code v : Nat) : (s.bump p code v).ab = s.ab := rfl
@[simp] theorem State.bump_fh (s : State) (p code v : Nat) : (s.bump p code v).fh = s.fh := rfl
@[simp] theorem State.bump_ks (s : State) (p code v : Nat) : (s.bump p code v).ks = s.ks := rfl
@[simp] theorem State.bump_pl (s : State) (p code v : Nat) : (s.bump p code v).pl = s.pl := rfl
@[simp] theorem State.bump_sec (s : State) (p code v : Nat) : (s.bump p code v).sec = s.sec := rfl
@[simp] theorem State.bump_ts (s : State) (p code v : Nat) : (s.bump p code v).ts = s.ts := rfl
@[simp] theorem State.bump_io (s : State) (p code v : Nat) : (s.bump p code v).io = s.io := rfl
@[simp] theorem State.bump_pending (s : State) (p code v : Nat) : (s.bump p code v).pending = s.pending := rfl

@[simp] theorem State.setByte_uptime (s : State) (a : Nat) (v : Byte) : (s.setByte a v).uptime = s.uptime := rfl
@[simp] theorem State.setByte_air (s : State) (a : Nat) (v : Byte) : (s.setByte a v).air = s.air := rfl
@[simp] theorem State.setByte_free (s : State) (a : Nat) (v : Byte) : (s.setByte a v).free = s.free := rfl
@[simp] theorem State.setByte_rsp (s : State) (a : Nat) (v : Byte) : (s.setByte a v).rsp = s.rsp := rfl
@[simp] theorem State.setByte_regs (s : State) (a : Nat) (v : Byte) : (s.setByte a v).regs = s.regs := rfl
@[simp] theorem State.setByte_hiLatch (s : State) (a : Nat) (v : Byte) : (s.setByte a v).hiLatch = s.hiLatch := rfl
@[simp] theorem State.setByte_loStage (s : State) (a : Nat) (v : Byte) : (s.setByte a v).loStage = s.loStage := rfl
@[simp] theorem State.setByte_capCy (s : State) (a : Nat) (v : Byte) : (s.setByte a v).capCy = s.capCy := rfl
@[simp] theorem State.setByte_samples (s : State) (a : Nat) (v : Byte) : (s.setByte a v).samples = s.samples := rfl
@[simp] theorem State.setByte_py (s : State) (a : Nat) (v : Byte) : (s.setByte a v).py = s.py := rfl
@[simp] theorem State.setByte_gp (s : State) (a : Nat) (v : Byte) : (s.setByte a v).gp = s.gp := rfl
@[simp] theorem State.setByte_mu (s : State) (a : Nat) (v : Byte) : (s.setByte a v).mu = s.mu := rfl
@[simp] theorem State.setByte_nt (s : State) (a : Nat) (v : Byte) : (s.setByte a v).nt = s.nt := rfl
@[simp] theorem State.setByte_dk (s : State) (a : Nat) (v : Byte) : (s.setByte a v).dk = s.dk := rfl
@[simp] theorem State.setByte_keys (s : State) (a : Nat) (v : Byte) : (s.setByte a v).keys = s.keys := rfl
@[simp] theorem State.setByte_tr (s : State) (a : Nat) (v : Byte) : (s.setByte a v).tr = s.tr := rfl
@[simp] theorem State.setByte_piers (s : State) (a : Nat) (v : Byte) : (s.setByte a v).piers = s.piers := rfl
@[simp] theorem State.setByte_en (s : State) (a : Nat) (v : Byte) : (s.setByte a v).en = s.en := rfl
@[simp] theorem State.setByte_lanes (s : State) (a : Nat) (v : Byte) : (s.setByte a v).lanes = s.lanes := rfl
@[simp] theorem State.setByte_pw (s : State) (a : Nat) (v : Byte) : (s.setByte a v).pw = s.pw := rfl
@[simp] theorem State.setByte_ab (s : State) (a : Nat) (v : Byte) : (s.setByte a v).ab = s.ab := rfl
@[simp] theorem State.setByte_fh (s : State) (a : Nat) (v : Byte) : (s.setByte a v).fh = s.fh := rfl
@[simp] theorem State.setByte_ks (s : State) (a : Nat) (v : Byte) : (s.setByte a v).ks = s.ks := rfl
@[simp] theorem State.setByte_pl (s : State) (a : Nat) (v : Byte) : (s.setByte a v).pl = s.pl := rfl
@[simp] theorem State.setByte_sec (s : State) (a : Nat) (v : Byte) : (s.setByte a v).sec = s.sec := rfl
@[simp] theorem State.setByte_ts (s : State) (a : Nat) (v : Byte) : (s.setByte a v).ts = s.ts := rfl
@[simp] theorem State.setByte_io (s : State) (a : Nat) (v : Byte) : (s.setByte a v).io = s.io := rfl
@[simp] theorem State.setByte_pending (s : State) (a : Nat) (v : Byte) : (s.setByte a v).pending = s.pending := rfl

@[simp] theorem State.store_uptime (s : State) (a n v : Nat) : (s.store a n v).uptime = s.uptime := rfl
@[simp] theorem State.store_air (s : State) (a n v : Nat) : (s.store a n v).air = s.air := rfl
@[simp] theorem State.store_free (s : State) (a n v : Nat) : (s.store a n v).free = s.free := rfl
@[simp] theorem State.store_rsp (s : State) (a n v : Nat) : (s.store a n v).rsp = s.rsp := rfl
@[simp] theorem State.store_regs (s : State) (a n v : Nat) : (s.store a n v).regs = s.regs := rfl
@[simp] theorem State.store_hiLatch (s : State) (a n v : Nat) : (s.store a n v).hiLatch = s.hiLatch := rfl
@[simp] theorem State.store_loStage (s : State) (a n v : Nat) : (s.store a n v).loStage = s.loStage := rfl
@[simp] theorem State.store_capCy (s : State) (a n v : Nat) : (s.store a n v).capCy = s.capCy := rfl
@[simp] theorem State.store_samples (s : State) (a n v : Nat) : (s.store a n v).samples = s.samples := rfl
@[simp] theorem State.store_py (s : State) (a n v : Nat) : (s.store a n v).py = s.py := rfl
@[simp] theorem State.store_gp (s : State) (a n v : Nat) : (s.store a n v).gp = s.gp := rfl
@[simp] theorem State.store_mu (s : State) (a n v : Nat) : (s.store a n v).mu = s.mu := rfl
@[simp] theorem State.store_nt (s : State) (a n v : Nat) : (s.store a n v).nt = s.nt := rfl
@[simp] theorem State.store_dk (s : State) (a n v : Nat) : (s.store a n v).dk = s.dk := rfl
@[simp] theorem State.store_keys (s : State) (a n v : Nat) : (s.store a n v).keys = s.keys := rfl
@[simp] theorem State.store_tr (s : State) (a n v : Nat) : (s.store a n v).tr = s.tr := rfl
@[simp] theorem State.store_piers (s : State) (a n v : Nat) : (s.store a n v).piers = s.piers := rfl
@[simp] theorem State.store_en (s : State) (a n v : Nat) : (s.store a n v).en = s.en := rfl
@[simp] theorem State.store_lanes (s : State) (a n v : Nat) : (s.store a n v).lanes = s.lanes := rfl
@[simp] theorem State.store_pw (s : State) (a n v : Nat) : (s.store a n v).pw = s.pw := rfl
@[simp] theorem State.store_ab (s : State) (a n v : Nat) : (s.store a n v).ab = s.ab := rfl
@[simp] theorem State.store_fh (s : State) (a n v : Nat) : (s.store a n v).fh = s.fh := rfl
@[simp] theorem State.store_ks (s : State) (a n v : Nat) : (s.store a n v).ks = s.ks := rfl
@[simp] theorem State.store_pl (s : State) (a n v : Nat) : (s.store a n v).pl = s.pl := rfl
@[simp] theorem State.store_sec (s : State) (a n v : Nat) : (s.store a n v).sec = s.sec := rfl
@[simp] theorem State.store_ts (s : State) (a n v : Nat) : (s.store a n v).ts = s.ts := rfl
@[simp] theorem State.store_io (s : State) (a n v : Nat) : (s.store a n v).io = s.io := rfl
@[simp] theorem State.store_pending (s : State) (a n v : Nat) : (s.store a n v).pending = s.pending := rfl

@[simp] theorem State.setPier_uptime (s : State) (p : Nat) (x : Pier) : (s.setPier p x).uptime = s.uptime := rfl
@[simp] theorem State.setPier_air (s : State) (p : Nat) (x : Pier) : (s.setPier p x).air = s.air := rfl
@[simp] theorem State.setPier_free (s : State) (p : Nat) (x : Pier) : (s.setPier p x).free = s.free := rfl
@[simp] theorem State.setPier_rsp (s : State) (p : Nat) (x : Pier) : (s.setPier p x).rsp = s.rsp := rfl
@[simp] theorem State.setPier_regs (s : State) (p : Nat) (x : Pier) : (s.setPier p x).regs = s.regs := rfl
@[simp] theorem State.setPier_hiLatch (s : State) (p : Nat) (x : Pier) : (s.setPier p x).hiLatch = s.hiLatch := rfl
@[simp] theorem State.setPier_loStage (s : State) (p : Nat) (x : Pier) : (s.setPier p x).loStage = s.loStage := rfl
@[simp] theorem State.setPier_capCy (s : State) (p : Nat) (x : Pier) : (s.setPier p x).capCy = s.capCy := rfl
@[simp] theorem State.setPier_samples (s : State) (p : Nat) (x : Pier) : (s.setPier p x).samples = s.samples := rfl
@[simp] theorem State.setPier_mem (s : State) (p : Nat) (x : Pier) : (s.setPier p x).mem = s.mem := rfl
@[simp] theorem State.setPier_py (s : State) (p : Nat) (x : Pier) : (s.setPier p x).py = s.py := rfl
@[simp] theorem State.setPier_gp (s : State) (p : Nat) (x : Pier) : (s.setPier p x).gp = s.gp := rfl
@[simp] theorem State.setPier_mu (s : State) (p : Nat) (x : Pier) : (s.setPier p x).mu = s.mu := rfl
@[simp] theorem State.setPier_nt (s : State) (p : Nat) (x : Pier) : (s.setPier p x).nt = s.nt := rfl
@[simp] theorem State.setPier_dk (s : State) (p : Nat) (x : Pier) : (s.setPier p x).dk = s.dk := rfl
@[simp] theorem State.setPier_keys (s : State) (p : Nat) (x : Pier) : (s.setPier p x).keys = s.keys := rfl
@[simp] theorem State.setPier_tr (s : State) (p : Nat) (x : Pier) : (s.setPier p x).tr = s.tr := rfl
@[simp] theorem State.setPier_en (s : State) (p : Nat) (x : Pier) : (s.setPier p x).en = s.en := rfl
@[simp] theorem State.setPier_lanes (s : State) (p : Nat) (x : Pier) : (s.setPier p x).lanes = s.lanes := rfl
@[simp] theorem State.setPier_pw (s : State) (p : Nat) (x : Pier) : (s.setPier p x).pw = s.pw := rfl
@[simp] theorem State.setPier_ab (s : State) (p : Nat) (x : Pier) : (s.setPier p x).ab = s.ab := rfl
@[simp] theorem State.setPier_fh (s : State) (p : Nat) (x : Pier) : (s.setPier p x).fh = s.fh := rfl
@[simp] theorem State.setPier_ks (s : State) (p : Nat) (x : Pier) : (s.setPier p x).ks = s.ks := rfl
@[simp] theorem State.setPier_pl (s : State) (p : Nat) (x : Pier) : (s.setPier p x).pl = s.pl := rfl
@[simp] theorem State.setPier_sec (s : State) (p : Nat) (x : Pier) : (s.setPier p x).sec = s.sec := rfl
@[simp] theorem State.setPier_ts (s : State) (p : Nat) (x : Pier) : (s.setPier p x).ts = s.ts := rfl
@[simp] theorem State.setPier_io (s : State) (p : Nat) (x : Pier) : (s.setPier p x).io = s.io := rfl
@[simp] theorem State.setPier_pending (s : State) (p : Nat) (x : Pier) : (s.setPier p x).pending = s.pending := rfl

end Sys2Proof.Machine
end

