-- ==== Sys2Proof/Laws/Ops.lean ====
section
/-! SUPPORT. What each shared operation gives: registers and fields, memory, an event, an access, and a pier's operation; and that each of
them keeps the canonical form of the store that it writes. -/
namespace Sys2Proof.Machine

/-! ## Registers -/

theorem setReg_reg_same (s : State) (p off : Nat) (v : Word) (h : Sparse.wf resetVal s.regs = true) :
    (s.setReg p off v).reg p off = v := Sparse.get_set_same resetVal (regKey p off) v s.regs 0 h

theorem setReg_reg_other (s : State) (p off q off' : Nat) (v : Word) (h : regKey q off' ≠ regKey p off) :
    (s.setReg p off v).reg q off' = s.reg q off' := Sparse.get_set_other resetVal v h s.regs

theorem setReg_wf {s : State} (p off : Nat) (v : Word) (h : Sparse.wf resetVal s.regs = true) :
    Sparse.wf resetVal (s.setReg p off v).regs = true := Sparse.set_wf _ _ h

theorem put_wf {s : State} (p : Nat) (f : Fld) (v n : Nat) (h : Sparse.wf resetVal s.regs = true) :
    Sparse.wf resetVal (s.put p f v n).regs = true := setReg_wf _ _ _ h

theorem put64_wf {s : State} (p : Nat) (f : Fld) (v n : Nat) (h : Sparse.wf resetVal s.regs = true) :
    Sparse.wf resetVal (s.put64 p f v n).regs = true := setReg_wf _ _ _ (setReg_wf _ _ _ h)

theorem satAdd_wf {s : State} (p : Nat) (f : Fld) (v n : Nat) (h : Sparse.wf resetVal s.regs = true) :
    Sparse.wf resetVal (s.satAdd p f v n).regs = true := put_wf _ _ _ _ h

theorem wrapAdd_wf {s : State} (p : Nat) (f : Fld) (v n : Nat) (h : Sparse.wf resetVal s.regs = true) :
    Sparse.wf resetVal (s.wrapAdd p f v n).regs = true := put_wf _ _ _ _ h

theorem irq_wf {s : State} (p b : Nat) (h : Sparse.wf resetVal s.regs = true) :
    Sparse.wf resetVal (s.irq p b).regs = true := setReg_wf _ _ _ h

theorem resetPages_wf {s : State} (p : Nat → Bool) (h : Sparse.wf resetVal s.regs = true) :
    Sparse.wf resetVal (s.resetPages p).regs = true := Sparse.drop_wf (fun k => p (k / 1024)) h

/-- A field that has just been put into a word reads as the value, cut to the field's width. -/
theorem fldGet_fldPut (f : Fld) (w : Word) (v : Nat) (h1 : f.lo ≤ f.hi) (h2 : f.hi < 32) :
    fldGet f (fldPut f w v) = v % 2 ^ (f.hi + 1 - f.lo) := by
  have hc : (2 : Nat) ^ 32 = 2 ^ f.lo * (2 ^ (f.hi + 1 - f.lo) * 2 ^ (31 - f.hi)) := by
    rw [← Nat.pow_add, ← Nat.pow_add]
    congr 1
    omega
  have ha : 0 < 2 ^ f.lo := Nat.two_pow_pos _
  simp only [fldGet, fldPut, bits, BitVec.toNat_ofNat, Nat.shiftRight_eq_div_pow, Nat.shiftLeft_eq, hc]
  generalize w.toNat = x
  generalize 2 ^ f.lo = a at ha
  generalize 2 ^ (f.hi + 1 - f.lo) = b
  generalize 2 ^ (31 - f.hi) = c
  have hx : x - x / a % b * a + v % b * a = x % a + a * (b * (x / a / b) + v % b) := by
    have e1 := Nat.div_add_mod x a
    have e2 := Nat.div_add_mod (x / a) b
    generalize x / a / b = q at *
    generalize x / a % b = r at *
    rw [← e2] at e1
    have : a * (b * q + r) = a * (b * q) + r * a := by rw [Nat.mul_add, Nat.mul_comm a r]
    have : a * (b * q + v % b) = a * (b * q) + v % b * a := by rw [Nat.mul_add, Nat.mul_comm a (v % b)]
    omega
  rw [hx, Nat.mod_mul_right_div_self, Nat.mod_mul_right_mod, Nat.add_mul_div_left _ _ ha, Nat.div_eq_of_lt (Nat.mod_lt _ ha), Nat.zero_add,
    Nat.mul_add_mod, Nat.mod_mod]

/-- A field that has just been written reads as the value, cut to the field's width. -/
theorem put_get_same (s : State) (p : Nat) (f : Fld) (v n : Nat) (h : Sparse.wf resetVal s.regs = true) (h1 : f.lo ≤ f.hi) (h2 : f.hi < 32) :
    (s.put p f v n).get p f n = v % 2 ^ (f.hi + 1 - f.lo) := by
  simp only [State.get, State.put, setReg_reg_same _ _ _ _ h]
  exact fldGet_fldPut f _ v h1 h2

/-- Writing a field leaves the fields of every other register. -/
theorem put_get_other (s : State) (p q : Nat) (f g : Fld) (v n m : Nat)
    (h : regKey q (g.off + m * g.str) ≠ regKey p (f.off + n * f.str)) : (s.put p f v n).get q g m = s.get q g m := by
  simp only [State.get, State.put, setReg_reg_other _ _ _ _ _ _ h]

/-- Registers of different pages, or of different words of a page, have different keys. -/
theorem regKey_ne {p q off off' : Nat} (h1 : off < 4096) (h2 : off' < 4096) (h : p ≠ q ∨ off / 4 ≠ off' / 4) : regKey p off ≠ regKey q off' := by
  unfold regKey
  omega

/-! ## Memory -/

theorem memPut_wf : ∀ (n : Nat) {m : List Host.Cell} (a v : Nat), memWf m = true → memWf (memPut m a n v) = true
  | 0, _, _, _, h => h
  | n + 1, _, a, v, h => memPut_wf n (a + 1) (v / 256) (Sparse.set_wf _ _ h)

/-- What a memory holds after a store: the bytes of the value, and elsewhere what it held. -/
theorem memPut_get : ∀ (n : Nat) {m : List Host.Cell} (a v j : Nat), memWf m = true →
    Sparse.get memDefault (memPut m a n v) j
      = if a ≤ j ∧ j < a + n then BitVec.ofNat 8 (v / 256 ^ (j - a)) else Sparse.get memDefault m j
  | 0, m, a, v, j, _ => by
    have : ¬ (a ≤ j ∧ j < a + 0) := by omega
    simp only [memPut, this, if_false]
  | n + 1, m, a, v, j, h => by
    rw [memPut, memPut_get n (a + 1) (v / 256) j (Sparse.set_wf _ _ h)]
    by_cases hj : j = a
    · subst hj
      have h1 : ¬ (j + 1 ≤ j ∧ j < j + 1 + n) := by omega
      have h2 : j ≤ j ∧ j < j + (n + 1) := by omega
      rw [if_neg h1, if_pos h2, Sparse.get_set_same memDefault j _ m 0 h]
      simp
    · rw [Sparse.get_set_other memDefault _ hj]
      by_cases h1 : a + 1 ≤ j ∧ j < a + 1 + n
      · have h2 : a ≤ j ∧ j < a + (n + 1) := by omega
        obtain ⟨d, hd⟩ : ∃ d, j - a = d + 1 := ⟨j - a - 1, by omega⟩
        have hd' : j - (a + 1) = d := by omega
        rw [if_pos h1, if_pos h2, hd, hd', Nat.div_div_eq_div_mul, Nat.pow_succ, Nat.mul_comm]
      · have h2 : ¬ (a ≤ j ∧ j < a + (n + 1)) := by omega
        rw [if_neg h1, if_neg h2]

theorem setByte_wf {s : State} (a : Nat) (v : Byte) (h : memWf s.mem = true) : memWf (s.setByte a v).mem = true := Sparse.set_wf _ _ h

theorem store_wf {s : State} (a n v : Nat) (h : memWf s.mem = true) : memWf (s.store a n v).mem = true := memPut_wf n a v h

theorem store_byte {s : State} (a n v j : Nat) (h : memWf s.mem = true) :
    (s.store a n v).byte j = if a ≤ j ∧ j < a + n then BitVec.ofNat 8 (v / 256 ^ (j - a)) else s.byte j := memPut_get n a v j h

theorem copyBytes_wf {s : State} (b a n : Nat) (h : memWf s.mem = true) : memWf (s.copyBytes b a n).mem = true := store_wf _ _ _ h

theorem storeAll_wf : ∀ (l : List Nat) {s : State} (a w : Nat), memWf s.mem = true → memWf (s.storeAll a w l).mem = true
  | [], _, _, _, h => h
  | v :: l, _, a, w, h => storeAll_wf l (a + w) w (store_wf a w v h)

theorem forgetMem_wf {s : State} (lo hi : Nat) (h : memWf s.mem = true) : memWf (s.forgetMem lo hi).mem = true :=
  Sparse.drop_wf (fun a => decide (lo ≤ a) && decide (a < hi)) h

theorem forgetDomains_wf {s : State} (p : Nat → Bool) (h : memWf s.mem = true) : memWf (s.forgetDomains p).mem = true :=
  Sparse.drop_wf (fun a => (isBulk a || inDeck a) && p (memDomain a)) h

/-! ## Events and accesses -/

theorem capture_regs_wf {s : State} (p code ctx c2 c3 : Nat) (h : Sparse.wf resetVal s.regs = true) :
    Sparse.wf resetVal (s.capture p code ctx c2 c3).regs = true := by
  unfold State.capture
  extract_lets held sameCy s1 s2 s3 s4
  split
  · exact put_wf _ _ _ _ h
  · exact setReg_wf _ _ _ (setReg_wf _ _ _ (setReg_wf _ _ _ (setReg_wf _ _ _ h)))

/-- A capture changes registers and its own instant, nothing else. -/
theorem capture_frame (s : State) (p code ctx c2 c3 : Nat) :
    ∃ r c, s.capture p code ctx c2 c3 = { s with regs := r, capCy := c } := by
  unfold State.capture
  extract_lets held sameCy s1 s2 s3 s4
  split
  · exact ⟨_, _, rfl⟩
  · exact ⟨_, _, rfl⟩

/-- Recording an event changes registers and the instant of a capture, nothing else. -/
theorem event_frame (s : State) (p code ctx c2 c3 : Nat) : ∃ r c, s.event p code ctx c2 c3 = { s with regs := r, capCy := c } := by
  unfold State.event
  extract_lets s1 s2
  have h1 : ∃ r, s1 = { s with regs := r } := by
    show ∃ r, (match pageOf p with
      | some (k, _) => match irqBitOf k code with
        | some b => s.irq p b
        | none => s
      | none => s) = { s with regs := r }
    split
    · split
      · exact ⟨_, rfl⟩
      · exact ⟨_, rfl⟩
    · exact ⟨_, rfl⟩
  have h2 : ∃ r c, s2 = { s with regs := r, capCy := c } := by
    obtain ⟨r, e⟩ := h1
    obtain ⟨r', c', e'⟩ := capture_frame s1 p code ctx c2 c3
    show ∃ r c, (match severity code with
      | .info | .corrected => s1
      | _ => (s1.capture p code ctx c2 c3).irq p 31) = { s with regs := r, capCy := c }
    split
    · exact ⟨r, s.capCy, e⟩
    · exact ⟨r, s.capCy, e⟩
    · rw [e', e]; exact ⟨_, _, rfl⟩
  obtain ⟨r, c, e⟩ := h2
  split
  · rw [e]; exact ⟨_, _, rfl⟩
  · rw [e]; exact ⟨_, _, rfl⟩

/-- An access is refused, with the answer and the event of R694, or has its effect. -/
theorem access_cases (s : State) (w : Who) (p off : Nat) (write : Bool) (f : State → State) :
    (∃ st ev, checkPage s w p off 4 write false = .denied st ev
        ∧ s.access w p off write f = s.deny w (pagesBase + p * 4096 + off) write st ev)
      ∨ ∃ q k inst o d, checkPage s w p off 4 write false = .reg q k inst o d
        ∧ s.access w p off write f = f ((s.answer 0 0).touch (pageDomain k inst)) := by
  unfold State.access
  simp only []
  split
  · next st ev h => exact .inl ⟨st, ev, h, rfl⟩
  · next q k inst o d h => exact .inr ⟨q, k, inst, o, d, h, rfl⟩

/-- A command's write is refused, or the register takes the written bits and the command has its effect. -/
theorem command_cases (s : State) (w : Who) (p off v : Nat) (f : State → State) :
    (∃ st ev, checkPage s w p off 4 true false = .denied st ev
        ∧ s.command w p off v f = s.deny w (pagesBase + p * 4096 + off) true st ev)
      ∨ ∃ q k inst o d, checkPage s w p off 4 true false = .reg q k inst o d
        ∧ s.command w p off v f = f (((s.answer 0 0).touch (pageDomain k inst)).writeReg w q k inst o d v) := by
  unfold State.command
  split
  · next st ev h => exact .inl ⟨st, ev, h, rfl⟩
  · next q k inst o d h => exact .inr ⟨q, k, inst, o, d, h, rfl⟩

/-- A refused access changes registers of the SYS page, the instant of its capture and the answer, nothing else. -/
theorem deny_frame (s : State) (w : Who) (addr : Nat) (write : Bool) (st ev : Nat) :
    ∃ r c a, s.deny w addr write st ev = { s with regs := r, capCy := c, rsp := a } := by
  unfold State.deny
  extract_lets s1
  have h : ∃ r c, s1 = { s with regs := r, capCy := c } := by
    show ∃ r c, (if ev = 0 then s else s.sysEvent ev addr w write) = { s with regs := r, capCy := c }
    split
    · exact ⟨_, _, rfl⟩
    · exact event_frame s _ _ _ _ _
  obtain ⟨r, c, e⟩ := h
  exact ⟨r, c, ⟨if write && w.source = 233 then 0 else st, 0⟩, by rw [e]; rfl⟩

theorem put_frame (s : State) (p : Nat) (f : Fld) (v n : Nat) : s.put p f v n = { s with regs := (s.put p f v n).regs } := rfl

/-- An event of the deck changes registers, the instant of a capture and whether the plan stops, nothing else. -/
theorem deckEvent_frame (s : State) (code addr detail ctx : Nat) :
    ∃ r c b, s.deckEvent code addr detail ctx = { s with regs := r, capCy := c, dk := { s.dk with stopping := b } } := by
  unfold State.deckEvent
  extract_lets s1
  obtain ⟨r, c, e⟩ : ∃ r c, s1 = { s with regs := r, capCy := c } := event_frame s _ _ _ _ _
  clear_value s1
  subst e
  split
  · rw [put_frame]
    exact ⟨_, c, true, rfl⟩
  · exact ⟨r, c, s.dk.stopping, rfl⟩

/-! ## Bank ports -/

/-- An access that is suppressed after all takes its pending effects with it and the status record of an FFT, nothing else. -/
theorem losePort_frame (s : State) (e : PortUse) :
    ∃ l p n, s.losePort e = { s with mu := { s.mu with later := l }, piers := p, en := { s.en with runs := n } } := by
  unfold State.losePort
  extract_lets k lat mine record
  split
  · exact ⟨_, _, s.en.runs, rfl⟩
  · cases record
    · exact ⟨_, s.piers, s.en.runs, rfl⟩
    · exact ⟨_, s.piers, _, rfl⟩

/-- A bank that no access has taken in this cycle serves the next one, which takes its port. -/
theorem takePort_free {s : State} {e : PortUse} (h : ∀ x ∈ s.mu.ports, ¬ (x.bank = e.bank ∧ x.at_ = s.uptime + 1)) :
    (s.takePort e).1 = true ∧ e ∈ (s.takePort e).2.mu.ports ∧ (s.takePort e).2.mu.later = s.mu.later
      ∧ (s.takePort e).2.mem = s.mem ∧ (s.takePort e).2.piers = s.piers ∧ (s.takePort e).2.dk = s.dk := by
  have hn : s.mu.ports.find? (fun x => x.bank = e.bank && x.at_ = s.uptime + 1) = none := by
    rw [List.find?_eq_none]; intro x hx; simpa using h x hx
  unfold State.takePort
  simp only [hn]
  unfold State.bayServed
  split <;> simp [State.bump]

/-- A bank that an access has taken in this cycle serves only the one that comes before it under R131 and R384. -/
theorem takePort_taken {s : State} {e x : PortUse}
    (h : s.mu.ports.find? (fun x => x.bank = e.bank && x.at_ = s.uptime + 1) = some x) : (s.takePort e).1 = e.beats x := by
  unfold State.takePort
  simp only [h]
  split
  · next hb => exact hb.symm
  · next hb => simpa using hb

/-! ## Piers -/

/-- An operation of a slot that does not issue changes nothing; one that issues changes its pier and counts. -/
theorem pierOp_cases (s : State) (p slot op lat : Nat) (chk : Fin 3) (checked reads : Bool) (f : Pier → Nat → List (Nat × PierVal × Nat)) :
    s.pierOp p slot op lat chk checked reads f = s
      ∨ ∃ x, s.pierOp p slot op lat chk checked reads f = s.setPier p x
        ∨ s.pierOp p slot op lat chk checked reads f = (s.setPier p x).bumpOnce (pgPier p) 0x0C := by
  unfold State.pierOp
  split
  · exact .inl rfl
  · extract_lets x k l acts x1 x2 x3 s1
    refine .inr ⟨x3, ?_⟩
    split
    · exact .inr rfl
    · exact .inl rfl

end Sys2Proof.Machine
end

