-- ==== Sys2Proof/Tests/Slice0.lean ====
section
/-! SUPPORT. The model's own tests: ill-formed commands that WellFormed refuses, witnesses that meet the hypotheses of the statements, and one step
of each command on a small state. Expected values are computed by hand from the rules of spec/. -/
namespace Sys2Proof.Tests
set_option Elab.async false
open Sys2Proof Sys2Proof.Machine Sys2Proof.Claims

/-! ## Fixtures -/

/-- The command ends in a next state that the test accepts. -/
def holds (i : Instr) (s : State) (p : State → Bool) : Bool :=
  match exec i s with
  | .next t => p t
  | _ => false

/-- The Keeper as the sender of a command. -/
def kw : Who := ⟨232, 3, 0, 0⟩

/-- A state with fields set: page, field, value, number in its array. -/
def withFields (s : State) (l : List (Nat × Fld × Nat × Nat)) : State := l.foldl (fun s e => s.put e.1 e.2.1 e.2.2.1 e.2.2.2) s

/-- A state with whole registers set: page, offset, value. -/
def withRegs (s : State) (l : List (Nat × Nat × Nat)) : State := l.foldl (fun s e => s.setReg e.1 e.2.1 (BitVec.ofNat 32 e.2.2)) s

/-- PORST_N is high and every domain is ON, 10,000 cy after reset. -/
def up : State :=
  { State.reset with
    uptime := 10000
    pw := { Power.zero with porst := false }
    regs := (List.range 79).map fun d => (regKey (page .domain (d + 1)) 0x104, 0) }

/-- A plan of one variant whose table holds one entry at offset 500. -/
def planOf (e : SlotEntry) (drained : Bool := false) : Plan :=
  { id := 5, rev := 1, plevel := 0, period := 1, hotLimit := 105, variants := [⟨drained, false, 0xFFFF, 0, 0, 0, 0, 1, 1, 2⟩],
    sections := [⟨9, .slots [e]⟩], foot := [], bulk := [], trigs := [], defaults := [0], rings := [], loads := [] }

def nopEntry : SlotEntry := ⟨12, 500, false, 0, 0, 0⟩

/-- LOCKED at air count `air`, with a deck that runs `e` in slot 0 since the span at 983,040. -/
def deckState (d : Deck) (air : Nat) : State :=
  let s : State := { up with air := BitVec.ofNat 64 air, dk := d }
  withFields s [(pgPylon, Rg.PY_STATE_STATE, 2, 0), (pgDeck, Rg.DK_SPAN_LO, 983040, 0), (pgDeck, Rg.DK_STAT_GRID_V, 1, 0)]

def running (e : SlotEntry) : Deck := { Deck.zero with slot0 := some (planOf e), run := some 0 }

/-- The entry is due now, 500 cy into the span. -/
def dueState (e : SlotEntry) : State := deckState (running e) 983540

/-- Both stacks of bulk memory are trained. -/
def trained (s : State) : State := withFields s [(pgPhy, Rg.PHY_STAT_TRAINED, 3, 0)]

/-! ## Ill-formed commands -/

/-- A packet of one flit to a router. -/
def onePkt : Packet := { dx := 1, dy := 1, cmd := 0, cls := 1, priv := 0, ctx := 0, len := 1, source := 216, tag := 0, addr := 64 }

/-- The checks of initiators, values, slots, issues. -/
theorem smoke_initiators :
    (Instr.load kw 1).wellFormed = true ∧ (Instr.load { kw with source := 256 } 1).wellFormed = false
      ∧ (Instr.load { kw with priv := 4 } 1).wellFormed = false ∧ (Instr.load { kw with ctx := 4096 } 1).wellFormed = false
      ∧ (Instr.load { kw with fn := 64 } 1).wellFormed = false
      ∧ (Instr.coarseStep kw (2 ^ 32 - 1)).wellFormed = true ∧ (Instr.coarseStep kw (2 ^ 32)).wellFormed = false
      ∧ (Instr.slotNop 8 65535).wellFormed = true ∧ (Instr.slotNop 9 0).wellFormed = false ∧ (Instr.slotNop 0 65536).wellFormed = false := by decide +kernel

theorem smoke_operands :
    (Instr.engFft (.table 8 0)).wellFormed = true ∧ (Instr.engFft (.table 9 0)).wellFormed = false ∧ (Instr.engFft (.chain 65536)).wellFormed = false
      ∧ (Instr.engFft (.lent 0 (2 ^ 48) 0)).wellFormed = false ∧ (Instr.refSecondBoundary [] [] [] 0 0).wellFormed = false
      ∧ (Instr.fecCodewordDecode 0 (List.replicate 9 0)).wellFormed = false ∧ (Instr.rspTimeout 0 65536).wellFormed = false
      ∧ (Instr.hbmTempRead (some 127) none).wellFormed = true ∧ (Instr.hbmTempRead (some 128) none).wellFormed = false
      ∧ (Instr.extest (2 ^ 94) 0 0).wellFormed = false ∧ (Instr.ptAction 0 0 0 (2 ^ 48)).wellFormed = false := by decide +kernel

theorem smoke_packets :
    (Instr.trussPacketRoute 0 0 onePkt 1 0).wellFormed = true ∧ (Instr.trussPacketRoute 0 0 onePkt 2 0).wellFormed = false
      ∧ (Instr.trussPacketRoute 0 0 { onePkt with dx := 10 } 1 0).wellFormed = false ∧ (Instr.trussPacketRoute 0 0 { onePkt with len := 17 } 1 0).wellFormed = false
      ∧ (Instr.trussPacketRoute 0 0 { onePkt with len := 0 } 0 0).wellFormed = false ∧ (Instr.trussPacketRoute 0 0 { onePkt with addr := 65 } 1 0).wellFormed = false
      ∧ (Instr.dynamicMemoryAccess kw 0 2 .write 65536 false).wellFormed = false ∧ (Instr.dynamicMemoryAccess kw 0 2 .read 1 false).wellFormed = false
      ∧ (Instr.dynamicMemoryAccess kw 0 8 (.amo 9 0) 0 false).wellFormed = false := by decide +kernel

theorem smoke_host :
    (Instr.hostRequest 0 0 0 2 (some 65535)).wellFormed = true ∧ (Instr.hostRequest 0 0 0 2 (some 65536)).wellFormed = false
      ∧ (Instr.outboundRequest 256 0 none 4 none).wellFormed = false ∧ (Instr.outboundRequest 216 0 (some [256]) 1 none).wellFormed = false
      ∧ (Instr.pcieLinkChange true 17 5).wellFormed = false ∧ (Instr.pcieLinkChange true 16 6).wellFormed = false
      ∧ (Instr.vfTokenWrite 0 0 0 [256]).wellFormed = false ∧ (Instr.vfCidxWrite 0 false [256]).wellFormed = false := by decide +kernel

/-! ## The piers -/

/-- The registers of pier 3: S1 = −16, S2 = 3, S4–S7, X1, N2, G1, G2, G3 = 0, V1, V2, V3, W0, W1. -/
def pierRegs : List (Nat × Nat) :=
  [(kV 1, 1000 + (65536 - 2000) <<< 16 + 32767 <<< 32), (kV 2, 30000 + 5 <<< 16 + 1 <<< 32), (kV 3, 0x00000003_00000002), (kV 4, 0),
   (kV 5, 0), (kV 6, 0), (kW 0, 100 + (2 ^ 32 - 7) <<< 32 + 0x7FFFFFFF <<< 64), (kW 1, 5 + 2 <<< 32 + 1 <<< 64), (kW 2, 0),
   (kS 0 1, 0xFFFFFFF0), (kS 0 2, 3), (kS 0 4, 0x12345678), (kS 0 5, 0x7FFFFFFF), (kS 0 6, 0x80000000), (kS 0 7, 64),
   (kX 0 1, 0x20040), (kX 0 2, 0x20044), (kY 0 1, 0x50040), (kN 0 2, 8), (kM 0 0, 0), (kG 0 1, 0xFF00), (kG 0 2, 0x0FF0), (kG 0 3, 0),
   (kC 2, 3), (kC 3, 0x55), (kC 4, 500), (kC 5, 0x400), (kC 6, 0x800), (kC 8, 0)]

/-- Pier 3 issues now a bundle that holds `w` in a slot. -/
def pierState (slot w : Nat) (x : Pier := Pier.zero) : State :=
  let y := { x with running := true, state := 1, begun := true, at_ := 10000, ctx := 9, tag := 7, regs := pierRegs }
  { up with
    piers := [(3, y)]
    mem := memPut [] (pierAddr 3 x.pc) 32 (w <<< [0, 48, 96, 144, 176, 208].getD slot 0) }

/-- A word of slot SC: opcode, D, A, B, IMM. -/
def scWord (op d a b imm : Nat) : Nat := op <<< 40 + d <<< 32 + a <<< 27 + b <<< 22 + imm

/-- A word of slot VA: opcode, D, A, B, SH. -/
def vaWord (op d a b sh : Nat) : Nat := op <<< 40 + d <<< 32 + a <<< 27 + b <<< 22 + sh <<< 17

/-- A word of slot VP: opcode, D, A, B, C, IMM. -/
def vpWord (op d a b c imm : Nat) : Nat := op <<< 40 + d <<< 32 + a <<< 27 + b <<< 22 + c <<< 17 + imm

/-- A word of slots LX and LY: opcode, A, AM, IMM5 or N, R, E. -/
def lsWord (op a am i r e : Nat) : Nat := op <<< 27 + a <<< 21 + am <<< 18 + i <<< 10 + r <<< 5 + e

/-- The command issues the word from its slot and gives these writes. -/
def gives (i : Instr) (s : State) (l : List (Nat × PierVal × Nat × Nat)) : Bool :=
  holds i s fun t => (t.pier 3).writes.map (fun w => (w.key, w.val, w.due - 10000, w.sat)) == l

theorem witness_scalar_issues :
    (pierState 5 (scWord 1 4 1 2 0)).canonical = true ∧ (pierState 5 (scWord 1 4 1 2 0)).pierReady 3 5 1 = true
      ∧ (gReg (pierState 5 (scWord 1 4 1 2 0)) 3 0).testBit 0 = true := by decide +kernel

theorem test_scalar_register_forms :
    ([(.pierAdd 3 0, 0x01, 0xFFFFFFF3), (.pierSub 3 0, 0x02, 0xFFFFFFED), (.pierAnd 3 0, 0x05, 0), (.pierOr 3 0, 0x06, 0xFFFFFFF3),
      (.pierXor 3 0, 0x07, 0xFFFFFFF3), (.pierAndn 3 0, 0x08, 0xFFFFFFF0), (.pierShl 3 0, 0x09, 0xFFFFFF80), (.pierShrl 3 0, 0x0A, 0x1FFFFFFE),
      (.pierShra 3 0, 0x0B, 0xFFFFFFFE), (.pierMin 3 0, 0x0C, 0xFFFFFFF0), (.pierMax 3 0, 0x0D, 3), (.pierMinu 3 0, 0x0E, 3),
      (.pierMaxu 3 0, 0x0F, 0xFFFFFFF0)] : List (Instr × Nat × Nat)).all
      (fun e => gives e.1 (pierState 5 (scWord e.2.1 4 1 2 0)) [(kS 0 4, .put 0xFFFFFFFF e.2.2, 1, 0)]) = true := by decide +kernel

theorem test_scalar_other_forms :
    ([(.pierClz 3 0, scWord 0x10 4 1 0 0, 0, 1), (.pierAddi 3 0, scWord 0x18 4 1 0 0x8001, 0xFFFF7FF1, 1),
      (.pierAndi 3 0, scWord 0x19 4 1 0 0x8001, 0x8000, 1), (.pierOri 3 0, scWord 0x1A 4 1 0 0x8001, 0xFFFFFFF1, 1),
      (.pierShli 3 0, scWord 0x1B 4 1 0 3, 0xFFFFFF80, 1), (.pierShrli 3 0, scWord 0x1C 4 1 0 3, 0x1FFFFFFE, 1),
      (.pierShrai 3 0, scWord 0x1D 4 1 0 3, 0xFFFFFFFE, 1), (.pierMovi 3 0, scWord 0x1E 4 0 0 0x8001, 0xFFFF8001, 1),
      (.pierMovih 3 0, scWord 0x1F 4 0 0 0x8001, 0x80015678, 1), (.pierMul 3 0, scWord 0x30 4 1 2 0, 0xFFFFFFD0, 3),
      (.pierMulhs 3 0, scWord 0x31 4 1 2 0, 0xFFFFFFFF, 3), (.pierMulhu 3 0, scWord 0x32 4 1 2 0, 2, 3)] : List (Instr × Nat × Nat × Nat)).all
      (fun e => gives e.1 (pierState 5 e.2.1) [(kS 0 4, .put 0xFFFFFFFF e.2.2.1, e.2.2.2, 0)]) = true := by decide +kernel

theorem test_scalar_saturates :
    gives (.pierAdds 3 0) (pierState 5 (scWord 3 4 5 2 0)) [(kS 0 4, .put 0xFFFFFFFF 0x7FFFFFFF, 1, 8)] = true
      ∧ gives (.pierSubs 3 0) (pierState 5 (scWord 4 4 6 2 0)) [(kS 0 4, .put 0xFFFFFFFF 0x80000000, 1, 8)] = true := by decide +kernel

theorem test_scalar_compares_and_guards :
    ([(.pierCmpeq 3 0, scWord 0x20 3 1 2 0, 0), (.pierCmpne 3 0, scWord 0x21 3 1 2 0, 0xFFFFFFFF), (.pierCmplt 3 0, scWord 0x22 3 1 2 0, 0xFFFFFFFF),
      (.pierCmpge 3 0, scWord 0x23 3 1 2 0, 0), (.pierCmpltu 3 0, scWord 0x24 3 1 2 0, 0), (.pierCmpgeu 3 0, scWord 0x25 3 1 2 0, 0xFFFFFFFF),
      (.pierCmpeqi 3 0, scWord 0x28 3 2 0 3, 0xFFFFFFFF), (.pierCmplti 3 0, scWord 0x29 3 1 0 0x8001, 0),
      (.pierGand 3 0, scWord 0x2C 3 1 2 0, 0x0F00), (.pierGor 3 0, scWord 0x2D 3 1 2 0, 0xFFF0),
      (.pierGnot 3 0, scWord 0x2E 3 1 0 0, 0xFFFF00FF)] : List (Instr × Nat × Nat)).all
      (fun e => gives e.1 (pierState 5 e.2.1) [(kG 0 3, .put 0xFFFFFFFF e.2.2, 1, 0)]) = true := by decide +kernel

theorem test_movr : gives (.pierMovr 3 0) (pierState 5 (0x38 <<< 40 + 2 <<< 32 + 1 <<< 27 + 1 <<< 24)) [(kX 0 2, .put 0xFFFFFFFF 0xFFFFFFF0, 1, 0)]
    = true := by decide +kernel

theorem test_transfers :
    holds (.pierBr 3 0) (pierState 5 (0xC0 <<< 40 + 5)) (fun t => (t.pier 3).jump == .to 160 && (t.pier 3).turn) = true
      ∧ holds (.pierBr 3 0) (pierState 5 (0xC0 <<< 40 + 3 <<< 37 + 5)) (fun t => (t.pier 3).jump == .stay && (t.pier 3).turn) = true
      ∧ gives (.pierBrl 3 0) (pierState 5 (0xC1 <<< 40 + 4 <<< 32 + 5)) [(kS 0 4, .put 0xFFFFFFFF 96, 1, 0)] = true
      ∧ holds (.pierBrr 3 0) (pierState 5 (0xC2 <<< 40 + 7 <<< 27)) (fun t => (t.pier 3).jump == .to 64) = true
      ∧ holds (.pierEnd 3 0) (pierState 5 (0xC9 <<< 40)) (fun t => (t.pier 3).jump == .fin) = true
      ∧ holds (.pierRep 3 0) (pierState 5 (0xE0 <<< 40 + 1 <<< 35 + 4 <<< 16 + 9)) (fun t => (t.pier 3).rep == some (1, 9, 128)) = true := by
  decide +kernel

/-- Lanes 0, 1 and 2 of the first pending write, and its SAT bits. -/
def firstLanes (i : Instr) (s : State) (w : Nat) (l : List Int) (sat : Nat) : Bool :=
  holds i s fun t => match (t.pier 3).writes with
    | ⟨_, _, _, _, .put _ v, q⟩ :: _ => (List.range 3).map (fun n => toInt w (v >>> (w * n))) == l && q == sat
    | _ => false

theorem witness_vector_issues :
    (pierState 0 (vaWord 1 4 1 2 0)).pierReady 3 0 1 = true ∧ gReg (pierState 0 (vaWord 1 4 1 2 0)) 3 0 % 2 ^ 32 ≠ 0
      ∧ (pierState 1 (vaWord 0x10 4 1 2 0)).pierReady 3 1 0x10 = true ∧ (pierState 0 (vaWord 0x28 4 0 0 0)).pierReady 3 0 0x28 = true := by
  decide +kernel

theorem test_vector_lanes :
    ([(.pierVadd 3 0 0, vaWord 0x01 4 1 2 0, [31000, -1995, 32767], 1), (.pierVsub 3 0 0, vaWord 0x02 4 1 2 0, [-29000, -2005, 32766], 0),
      (.pierVneg 3 0 0, vaWord 0x03 4 1 0 0, [-1000, 2000, -32767], 0), (.pierVabs 3 0 0, vaWord 0x04 4 1 0 0, [1000, 2000, 32767], 0),
      (.pierVconj 3 0 0, vaWord 0x05 4 1 0 0, [1000, 2000, 32767], 0), (.pierVshl 3 0 0, vaWord 0x0C 4 1 0 4, [16000, -32000, 32767], 1),
      (.pierVsra 3 0 0, vaWord 0x0D 4 1 0 2, [250, -500, 8191], 0), (.pierVclip 3 0 0, vaWord 0x0E 4 1 0 10, [1000, -1024, 1023], 0),
      (.pierVcmul 3 0 0, vaWord 0x18 4 1 2 15, [915, -1831, 0], 0), (.pierVrmul 3 0 0, vaWord 0x19 4 1 2 0, [32767, -10000, 32767], 1),
      (.pierVand 3 0 0, vaWord 0x08 4 1 2 0, [288, 0, 1], 0), (.pierVrdo 3 0 0, vaWord 0x28 4 0 0 0, [100, -7, 32767], 4),
      (.pierVbfly 3 0 0, vaWord 0x10 4 1 2 1, [15500, -998, 16384], 0)] : List (Instr × Nat × List Int × Nat)).all
      (fun e => firstLanes e.1 (pierState 0 e.2.1) 16 e.2.2.1 e.2.2.2) = true := by decide +kernel

theorem test_accumulators :
    firstLanes (.pierVwset 3 0 0) (pierState 0 (vaWord 0x29 2 1 0 4)) 32 [16000, -32000, 524272] 0 = true
      ∧ firstLanes (.pierVwadd 3 0 0) (pierState 0 (vaWord 0x2A 2 0 1 0)) 32 [105, -5, 2147483647] 1 = true
      ∧ firstLanes (.pierVwsub 3 1 0) (pierState 1 (vaWord 0x2B 2 0 1 0)) 32 [95, -9, 2147483646] 0 = true
      ∧ firstLanes (.pierVrmacz 3 0 0) (pierState 0 (vaWord 0x24 2 1 2 0)) 32 [30000000, -10000, 32767] 0 = true
      ∧ firstLanes (.pierVcmacz 3 0 0) (pierState 0 (vaWord 0x22 2 1 2 0)) 32 [30010000, -59995000, 32767] 0 = true
      ∧ holds (.pierVcmacn 3 0 0) (pierState 0 (vaWord 0x21 2 1 2 0)) (fun t => match (t.pier 3).writes with
        | [⟨10005, _, _, _, .mac _ l, _⟩] => l.take 3 == [-30010000, 59995000, -32767]
        | _ => false) = true := by decide +kernel

/-- Element 0, 1 of the first pending write. -/
def firstElems (i : Instr) (s : State) (l : List Nat) : Bool :=
  holds i s fun t => match (t.pier 3).writes with
    | ⟨_, _, _, _, .put _ v, _⟩ :: _ => (List.range 2).map (fun n => elemOf v n) == l
    | _ => false

theorem test_permutes :
    ([(.pierVperm 3 0, vpWord 0x01 4 1 2 3 0, [0, 0]), (.pierVrot 3 0, vpWord 0x02 4 1 0 0 1, [32767, 0]),
      (.pierValign 3 0, vpWord 0x03 4 1 2 0 32, [30000 + 5 <<< 16, 1]), (.pierVintl 3 0, vpWord 0x05 4 1 2 0 0,
        [1000 + 63536 <<< 16, 30000 + 5 <<< 16]), (.pierVbcast 3 0, vpWord 0x06 4 0 2 0 0x10000, [3, 3]),
      (.pierVins 3 0, vpWord 0x08 4 1 2 0 1, [1000 + 63536 <<< 16, 3]), (.pierVramp 3 0, vpWord 0x0A 4 1 0 0 2, [0xFFF0, 0xFFF2]),
      (.pierVdeint 3 0, vpWord 0x04 4 1 2 0 2, [1000 + 63536 <<< 16, 0]), (.pierVsign 3 0, vpWord 0x09 4 1 3 0 0,
        [1000 + 2000 <<< 16, 32767])] : List (Instr × Nat × List Nat)).all
      (fun e => firstElems e.1 (pierState 2 e.2.1) e.2.2) = true := by decide +kernel

theorem test_reductions :
    gives (.pierVext 3 0) (pierState 2 (vpWord 0x07 4 1 0 0 1)) [(kS 0 4, .put 0xFFFFFFFF 32767, 3, 0)] = true
      ∧ gives (.pierVmax 3 0) (pierState 2 (vpWord 0x18 4 1 0 0 0x10000)) [(kS 0 4, .put 0xFFFFFFFF (32767 + 2 <<< 16), 4, 0)] = true
      ∧ gives (.pierVmin 3 0) (pierState 2 (vpWord 0x19 4 1 0 0 0x10000)) [(kS 0 4, .put 0xFFFFFFFF (63536 + 1 <<< 16), 4, 0)] = true
      ∧ gives (.pierVbexp 3 0) (pierState 2 (vpWord 0x1A 4 1 0 0 0)) [(kS 0 4, .put 0xFFFFFFFF 0, 4, 0)] = true
      ∧ gives (.pierVcmplt 3 0) (pierState 2 (vpWord 0x21 3 1 2 0 0)) [(kG 0 3, .put 0xFFFFFFFF 1, 2, 0)] = true := by decide +kernel

theorem test_sequences :
    holds (.pierVseqi 3 0) (pierState 2 (vpWord 0x10 4 0 2 0 0)) (fun t => (t.pier 3).writes.length == 1) = true
      ∧ (match (pierState 2 (vpWord 0x12 4 3 0 0 1)).pierReady 3 2 0x12 with
        | true => firstElems (.pierVseqa 3 0) (pierState 2 (vpWord 0x12 4 3 0 0 1)) [1, 1]
        | false => false) = true := by decide +kernel

theorem witness_pier_memory :
    (pierState 3 (lsWord 3 2 0 0 4 0)).pierReady 3 3 3 = true ∧ effAddr (pierState 3 (lsWord 3 2 0 0 4 0)) 3 0 4 = 0x20044
      ∧ pierPlace 0 0x20044 4 false = .xm ∧ eccHits (pierState 3 (lsWord 3 2 0 0 4 0)) (pierSys 3 0x20044) 4 = []
      ∧ (addrMode ((pierState 3 (lsWord 3 2 1 0 4 0)).pier 3) (lsF (lsWord 3 2 1 0 4 0)) 0 4).2 = some (some 0x20048) := by decide +kernel

theorem test_loads_and_stores :
    gives (.pierLds 3 0 0) ((pierState 3 (lsWord 3 2 1 0 4 0)).store (pierAddr 3 0x20044) 4 0xDEADBEEF)
        [(kS 0 4, .put 0xFFFFFFFF 0xDEADBEEF, 4, 0), (kX 0 2, .put 0xFFFFFFFF 0x20048, 1, 0)] = true
      ∧ holds (.pierSts 3 0 0) (pierState 3 (lsWord 0x0A 2 0 0 1 0)) (fun t => t.mu.later.map (fun l => (l.due, l.eff))
          == [(10002, .bytes (pierAddr 3 0x20044) [0xF0, 0xFF, 0xFF, 0xFF] false)]) = true
      ∧ gives (.pierLdb 3 1 0) ((pierState 4 (lsWord 5 1 0 0 4 0)).store (pierAddr 3 0x50040) 4 7)
          [(kV 4, .put (2 ^ 1024 - 1) (broadcast 7), 4, 0)] = true
      ∧ gives (.pierAupd 3 0 0) (pierState 3 (lsWord 0x10 1 2 0 0 0)) [(kX 0 1, .put 0xFFFFFFFF 0x1FFC0, 1, 0)] = true := by decide +kernel

theorem test_pier_faults :
    holds (.pierLds 3 0 0) (pierState 3 (lsWord 3 7 0 0 4 0) |>.setPier 3 { (pierState 3 (lsWord 3 7 0 0 4 0)).pier 3 with
        regs := [(kX 0 7, 0x20042)] }) (fun t => (t.pier 3).traps == [⟨10000, Ev.ALIGN, 0⟩]) = true
      ∧ holds (.pierLds 3 0 0) (pierState 3 (lsWord 3 7 0 0 4 0) |>.setPier 3 { (pierState 3 (lsWord 3 7 0 0 4 0)).pier 3 with
        regs := [(kX 0 7, 0x50040)] }) (fun t => (t.pier 3).traps == [⟨10000, Ev.ADDR, 0⟩]) = true := by decide +kernel

theorem test_settle :
    (({ Pier.zero with writes := [⟨5, 1, 0, kW 0, .mac (2 ^ 2048 - 1) (List.replicate 64 7), 1⟩], regs := [(kW 0, 0)] } : Pier).settle 5).reg (kW 0)
        % 2 ^ 64 = 7 + 7 <<< 32
      ∧ (({ Pier.zero with writes := [⟨5, 1, 5, kS 0 2, .put 0xFFFFFFFF 9, 0⟩], regs := [(kS 0 2, 0)] } : Pier).settle 5).reg (kS 0 2) = 9 := by
  decide +kernel

theorem test_delay_slots :
    ((({ Pier.zero with turn := true, jump := .to 320, pc := 64, at_ := 10 } : Pier).advance 1 0).bind fun y => (y.advance 1 0).bind fun z =>
      (z.advance 1 0).map fun u => (y.pc, z.pc, u.pc, u.at_)) = some (96, 128, 320, 13) := by decide +kernel

/-- Pier 3 with its deck signal line raised now. -/
def evState : State :=
  let s := pierState 5 0
  { s with py := { s.py with trigOut := [⟨10000, 0, 0, 8, 0x55⟩] } }

theorem test_pier_events :
    holds (.ev0 3) evState (fun t => (t.pier 3).ev0 == some 10000) = true
      ∧ holds (.ev1 3) ((pierState 5 0 { Pier.zero with arm1 := true }).setReg pgDeck 0 0 |> fun s => { s with air := 500 })
          (fun t => (t.pier 3).ev1 == some 10000 && !(t.pier 3).arm1) = true
      ∧ holds (.pierEventTake 3) (pierState 5 0 { Pier.zero with ev0 := some 9999, pc := 96 })
          (fun t => (t.pier 3).shadow && (t.pier 3).evret == 96 && (t.pier 3).pc == 0x400 && (t.pier 3).at_ == 10003) = true := by decide +kernel


/-! ## The deck -/

theorem witness_deck_commands :
    (deckState Deck.zero 100).canonical = true ∧ (deckState Deck.zero 100).reaches kw pgDeck 0x104 true = true
      ∧ (deckState Deck.zero 100).flag pgDeck Rg.DK_STAT_PEND = false
      ∧ armRefusal (begun (withFields (deckState { Deck.zero with slot0 := some (planOf nopEntry) } 100) [(pgDeck, Rg.DK_ARM_LO, 1966080, 0)]) pgDeck) 0
          = none
      ∧ armRefusal (begun (withFields (deckState { Deck.zero with slot0 := some (planOf nopEntry) } 100) [(pgDeck, Rg.DK_ARM_LO, 983040, 0)]) pgDeck) 0
          = some (Ev.ARM_LATE, 0, 0) := by decide +kernel

theorem test_arm :
    holds (.arm kw 0) (withFields (deckState { Deck.zero with slot0 := some (planOf nopEntry) } 100) [(pgDeck, Rg.DK_ARM_LO, 1966080, 0)])
        (fun t => t.dk.armed == some ⟨0, 1966080, 0, 0, 0, false⟩ && t.get pgDeck Rg.DK_RESULT_OK == 1 && t.get pgDeck Rg.DK_STAT_STATE == 2) = true
      ∧ holds (.arm kw 0) (withFields (deckState { Deck.zero with slot0 := some (planOf nopEntry) } 100) [(pgDeck, Rg.DK_ARM_LO, 983040, 0)])
        (fun t => t.dk.armed == none && t.get pgDeck Rg.DK_RESULT_OK == 0 && t.get pgDeck Rg.DK_RESULT_EVENT == Ev.ARM_LATE) = true := by
  decide +kernel

theorem test_disarm_stop_unload :
    holds (.disarm kw) (deckState { Deck.zero with slot0 := some (planOf nopEntry), armed := some ⟨0, 1966080, 0, 0, 0, false⟩ } 100)
        (fun t => t.dk.armed == none && t.get pgDeck Rg.DK_RESULT_OK == 1 && t.get pgDeck Rg.DK_STAT_GRID_V == 0) = true
      ∧ holds (.stop kw) (withFields (dueState nopEntry) [(pgDeck, Rg.DK_ARM_LO, 2949120, 0)]) (fun t => t.dk.stopAt == some 2949120) = true
      ∧ holds (.unload kw 1) (deckState { Deck.zero with slot1 := some (planOf nopEntry) } 100) (fun t => t.dk.slot1 == none) = true
      ∧ holds (.unload kw 0) (dueState nopEntry) (fun t => t.get pgDeck Rg.DK_RESULT_EVENT == Ev.SLOT_BUSY) = true := by decide +kernel

theorem test_load :
    holds (.load kw 1) (deckState Deck.zero 100) (fun t => t.dk.loading == none && t.get pgDeck Rg.DK_RESULT_DONE == 1) = true
      ∧ holds .planLoadDone (deckState { Deck.zero with loading := some (1, planOf nopEntry) } 100)
          (fun t => t.dk.slot1 == some (planOf nopEntry) && t.dk.loading == none && t.get pgDeck Rg.DK_PLAN1 == 5) = true := by decide +kernel

theorem test_span_boundary :
    holds .variantLatch (deckState (running nopEntry) 1966080) (fun t => t.get64 pgDeck Rg.DK_SPAN_LO == 1966080 && t.get pgDeck Rg.DK_POS == 0) = true
      ∧ holds .swapCommit (deckState { Deck.zero with slot0 := some (planOf nopEntry), armed := some ⟨0, 1966080, 0, 0, 0, false⟩ } 983040)
          (fun t => t.dk.armed == some ⟨0, 1966080, 0, 0, 0, true⟩) = true
      ∧ holds .swapCommit (deckState { (running nopEntry) with slot1 := some (planOf nopEntry), armed := some ⟨1, 1966080, 0, 0, 0, false⟩ } 983040)
          (fun t => t.dk.armed == none && t.dk.slot1 == some (planOf nopEntry)) = true
      ∧ holds .planStart (deckState { Deck.zero with slot0 := some (planOf nopEntry), armed := some ⟨0, 1966080, 0, 0, 0, true⟩ } 1966080)
          (fun t => t.dk.run == some 0 && t.dk.armed == none && t.get64 pgDeck Rg.DK_LEASE_END_LO == 1966080 + 16 * 983040) = true
      ∧ holds .planStop (deckState { (running nopEntry) with stopAt := some 1966080 } 1966080)
          (fun t => t.dk.run == none && t.dk.slot0 == none && t.get pgDeck Rg.DK_STAT_GRID_V == 0) = true := by decide +kernel

theorem test_deck_upkeep :
    holds (.variantSelect kw 3) (dueState nopEntry) (fun t => t.dk.selected && t.get pgVar Rg.DV_SEL_VAR == 3) = true
      ∧ holds (.leaseRenew kw 1) (dueState nopEntry) (fun t => t.get64 pgDeck Rg.DK_LEASE_END_LO == 17 * 983040) = true
      ∧ holds .leaseLapse (dueState nopEntry) (fun t => t.get pgDeck Rg.DK_LEASE_STAT == 1 && records (dueState nopEntry) t pgDeck Ev.LEASE_LAPSE) = true
      ∧ holds (.failSet kw 0x2005) (dueState nopEntry) (fun t => t.get pgDeck Rg.DK_FAIL_UNIT == 0x2005 && t.get pgDeck Rg.DK_FAIL_VALID == 1) = true
      ∧ holds (.failRemove kw 0 0x80000000) (withFields (dueState nopEntry) [(pgDeck, Rg.DK_FAIL_VALID, 1, 0)]) (fun t => t.dk.failDrop == [0]) = true
      ∧ holds (.unitFault 0x2005) { dueState nopEntry with dk := { running nopEntry with jobs := [⟨0x2005, 1, 0, false, false, 0, 0, 0, 0, 0⟩] } }
          (fun t => t.dk.faults.head? == some (0x2005, 1)) = true
      ∧ holds (.replayRun 2) { dueState nopEntry with dk := { running nopEntry with replays := [⟨1, 2, 500, 0, false, false, false⟩] } }
          (fun t => t.dk.replays == [⟨1, 2, 500, 0, true, false, false⟩]) = true := by decide +kernel

theorem witness_slot_due :
    (dueState ⟨7, 500, false, 0x5003, 0, 0⟩).entryDue 0 0 = some (⟨7, 500, false, 0x5003, 0, 0⟩, 9)
      ∧ (dueState ⟨7, 500, false, 0x5003, 0, 0⟩).fenced 0x5003 = false ∧ (dueState ⟨7, 500, false, 0x5003, 0, 0⟩).occupied 0x5003 = false
      ∧ (dueState ⟨7, 500, false, 0x5003, 0, 0⟩).domOn (unitDomain 0x5003) = true
      ∧ rxDescOk 2 0x58000000 ((dueState ⟨3, 500, false, 0x4002, 0x58000000, 0⟩).descWords 0x58000000) = false := by decide +kernel

/-- The job that a due entry leaves: unit, operation, CTX, issue, free, fin. -/
def jobOfEntry (i : Instr) (e : SlotEntry) : Option (Nat × Nat × Nat × Nat × Nat × Nat) :=
  match exec i (dueState e) with
  | .next t => t.dk.jobs.getLast?.map fun j => (j.unit, j.op, j.ctx, j.issue - 10000, j.free - 10000, j.fin - 10000)
  | _ => none

theorem test_slot_issue :
    (jobOfEntry (.slotBmRefresh 0 0) ⟨7, 500, false, 0x5003, 0, 0⟩ == some (0x5003, 7, 9, 0, 8, 8)) = true
      ∧ (jobOfEntry (.slotRingWrite 0 0) ⟨8, 500, false, 0x6003, 0x40000000, 0⟩ == some (0x6003, 8, 9, 0, 1, 4)) = true
      ∧ holds (.slotPierStart 0 0) (dueState ⟨1, 500, false, 0x2005, 0x80, 0⟩)
          (fun t => (t.pier 5).running && (t.pier 5).pc == 0x80 && (t.pier 5).at_ == 10004 && (t.pier 5).ctx == 9) = true
      ∧ holds (.slotLend 0 0) (dueState ⟨9, 500, false, 0x3002, 64, 0⟩) (fun t => t.dk.lent == [(0x3002, 10000, 10064)]) = true
      ∧ (jobOfEntry (.slotBmXfer 0 0) ⟨6, 500, false, 0x5003, 0x40000000, 0⟩).isSome = true
      ∧ (jobOfEntry (.slotPower 0 0) ⟨10, 500, false, 0x6110, 2, 0⟩ == some (0x6110, 10, 9, 0, 64, 64)) = true
      ∧ holds (.slotNop 0 0) (dueState nopEntry) (fun t => t.dk.jobs == []) = true := by decide +kernel

theorem test_slot_collides :
    holds (.slotBmRefresh 0 0) { dueState ⟨7, 500, false, 0x5003, 0, 0⟩ with
        dk := { running ⟨7, 500, false, 0x5003, 0, 0⟩ with jobs := [⟨0x5003, 6, 0, false, false, 0, 0, 0, 10001, 10001⟩] } }
      (fun t => t.dk.jobs.length == 1 && t.flag pgDeck Rg.PG_ERR_CAP0_VALID && t.get pgDeck Rg.PG_ERR_CAP0_EVENT == Ev.COLL_UNIT) = true := by
  decide +kernel


/-! ## Steps and registers -/

/-- Page `p`, offset `off` holds a register of codes only, which `w` may write. -/
def plainWritable (s : State) (w : Who) (p off v : Nat) : Bool :=
  match checkPage s w p off 4 true false with
  | .reg q k i o d => q == p && o == off && plainPage k o && (ownWrite w p k i o v).isNone && !d.pair && !isHiHalf k i o && (regDefs k i).contains d
  | .denied .. => false

theorem test_step_takes_the_front :
    (match step { up with pending := [.todLabelWrite kw 5, .pyAirRead kw] } with
      | .next t => t.pending == [.pyAirRead kw] && t.flag pgPylon Rg.PPS_STAT_TOD_PEND
      | _ => false) = true
      ∧ (match step up with
      | .next t => t.pending == [] && t.uptime == 10001 && t.air == 1
      | _ => false) = true := by decide +kernel

theorem test_canonical_is_not_all : { up with mem := [(5, 0)] }.canonical = false ∧ { up with mem := [(5, 1), (4, 1)] }.canonical = false
    ∧ { up with mem := [(4, 1), (5, 1)] }.canonical = true ∧ up.canonical = true := by decide +kernel

theorem witness_register_write :
    plainWritable up kw pgGpio 0x104 0xFFFFFFFF = true ∧ plainWritable up kw (page .lane 3) 0x100 0xFF = false
      ∧ plainWritable up kw (page .bay 2) 0x104 1 = true ∧ plainWritable up kw pgPylon 0x104 0 = true
      ∧ plainWritable up kw (page .em 1) 0x104 3 = true := by decide +kernel

/-- A register write by the Keeper. -/
def wr (p off v : Nat) : Instr := .registerWrite kw (BitVec.ofNat 48 (pagesBase + p * 4096 + off)) 4 (BitVec.ofNat 64 v)

theorem test_register_write :
    holds (wr pgGpio 0x104 0x12345678) up (fun t => t.get pgGpio Rg.GPIO_LIM_STUCK == 0x1234 && t.get pgGpio Rg.GPIO_LIM_RATE == 0x5678) = true
      ∧ holds (wr pgPylon 0x104 0xFFFFFFFF) up (fun t => t.reg pgPylon 0x104 == 0xFFFF0037) = true
      ∧ holds (wr (page .bay 2) 0x104 1) (withRegs up [(page .bay 2, 0xFF0, 1)])
          (fun t => t.get (page .bay 2) Rg.BAY_DYN == 0 && t.get pgSys Rg.PG_ERR_CAP0_EVENT == 6) = true
      ∧ holds (wr (page .em 1) 0x104 3) (withRegs up [(page .em 1, 8, 1)])
          (fun t => t.get (page .em 1) Rg.EM_CFG2 == 0 && t.get pgSys Rg.PG_ERR_CAP0_EVENT == 6) = true
      ∧ holds (wr pgGpio 0x018 5) (withRegs up [(pgGpio, 0x018, 7)]) (fun t => t.reg pgGpio 0x018 == 2) = true := by decide +kernel

/-- A register read by the Keeper. -/
def rd (p off : Nat) : Instr := .loReadLatch kw (BitVec.ofNat 48 (pagesBase + p * 4096 + off)) 4

theorem test_low_read_latches :
    (match checkPage up kw pgTrig 0x120 4 false false with
      | .reg _ k i o d => d.pair && (ownRead kw k i o).isNone && o == 0x120
      | _ => false) = true
      ∧ holds (rd pgTrig 0x120) (withRegs up [(pgTrig, 0x120, 7), (pgTrig, 0x124, 9)])
          (fun t => t.rsp == ⟨0, 7⟩ && Sparse.get resetVal t.hiLatch (regKey pgTrig 0x124) == 9
            && holds (rd pgTrig 0x124) (withRegs t [(pgTrig, 0x124, 1)]) fun u => u.rsp == ⟨0, 9⟩) = true := by decide +kernel

theorem witness_common_page :
    pageOf pgGpio = some (.gpio, 0) ∧ pageOf (page .au 1) = some (.au, 1)
      ∧ up.reaches kw (page .au 1) 0x008 true = true ∧ enWritable .au = true
      ∧ up.locked (page .au 1) = false ∧ up.reaches kw pgGpio 0x01C true = true ∧ up.reaches kw pgGpio 0x020 true = true
      ∧ up.reaches kw pgGpio 0xFF0 true = true := by decide +kernel

theorem test_common_page :
    holds (.pgCtrlWrite kw (Fin.ofNat 4096 (page .au 1)) 1) up (fun t => t.enabled (page .au 1)) = true
      ∧ holds (.pgIrqForceWrite kw (Fin.ofNat 4096 pgGpio) 5) (withFields up [(pgSys, Rg.SYS_MODE_MODE, modeDiag, 0)]) (fun t => t.reg pgGpio 0x018 == 5) = true
      ∧ holds (.pgIrqForceWrite kw (Fin.ofNat 4096 pgGpio) 5) up (fun t => t.reg pgGpio 0x018 == 0 && records up t pgSys Ev.FORCE_DENIED) = true
      ∧ holds (.errCapClear kw (Fin.ofNat 4096 pgGpio)) (withRegs up [(pgGpio, 0x020, 0x80000001), (pgGpio, 0x024, 3)])
          (fun t => t.reg pgGpio 0x020 == 0 && t.reg pgGpio 0x024 == 0) = true
      ∧ holds (.pageLock kw (Fin.ofNat 4096 pgGpio) 0xA5C3) up (fun t => t.locked pgGpio) = true
      ∧ holds (.pageLock kw (Fin.ofNat 4096 pgGpio) 0xA5C2) up (fun t => !t.locked pgGpio && records up t pgSys Ev.LOCK_KEY) = true := by
  decide +kernel

/-- A host function that reaches nothing, and a core in user mode. -/
def hostW : Who := ⟨233, 0, 0, 4⟩
def userW : Who := ⟨216, 0, 0, 0⟩

theorem test_refused_accesses :
    checkPage up userW pgGpio 0x104 4 true false = .denied 4 Ev.PRIVILEGE
      ∧ checkPage up kw 0xFFF 0 4 true false = .denied 1 Ev.UNMAPPED
      ∧ holds (.registerWrite userW (BitVec.ofNat 48 (pagesBase + pgGpio * 4096 + 0x104)) 4 7) up
          (fun t => t.rsp == ⟨4, 0⟩ && t.reg pgGpio 0x104 == 0 && records up t pgSys Ev.PRIVILEGE) = true
      ∧ holds (.registerWrite hostW (BitVec.ofNat 48 (pagesBase + pgGpio * 4096 + 0x104)) 4 7) up (fun t => t.rsp == ⟨0, 0⟩ && t.reg pgGpio 0x104 == 0) = true
      ∧ holds (.loReadLatch kw (BitVec.ofNat 48 (pagesBase + 0xFFF * 4096)) 4) up (fun t => t.rsp == ⟨1, 0⟩) = true := by decide +kernel


/-! ## The Pylon and the GPIO block -/

/-- The air count is `air`, the Pylon in the given state. -/
def airAt (air st : Nat) : State :=
  let s : State := { up with air := BitVec.ofNat 64 air }
  withFields s [(pgPylon, Rg.PY_STATE_STATE, st, 0)]

/-- Slot 0 of the reference table in a state, with its latched KIND. -/
def slotAt (air st kind : Nat) : State :=
  let s := airAt air 2
  let s : State := { s with py := { s.py with slots := [(0, ⟨kind, 0, false, 0, 0, 0⟩)] } }
  withFields s [(pgRef, Rg.REF_STAT_STATE, st, 0), (pgRef, Rg.REF_CFG_EN, 1, 0)]

theorem witness_air_time :
    (airAt 5 0).canonical = true ∧ Sparse.wf (fun _ => Trig.zero) (airAt 5 0).py.trigs = true ∧ (airAt 5 0).reaches kw pgPylon 0x108 false = true
      ∧ (airAt 5 0).reaches kw pgPylon 0x13C true = true ∧ (airAt 5 0).reaches kw pgPylon 0x1D4 true = true
      ∧ (airAt 5 0).planBusy = false := by decide +kernel

theorem test_air_time :
    holds (.pyAirRead kw) (airAt (8589934592 + 5) 0) (fun t => t.rsp == ⟨0, 5⟩ && Sparse.get resetVal t.hiLatch (regKey pgPylon 0x10C) == 2
        && t.get64 pgPylon Rg.PY_SEC_LO == 315964819 + 4) = true
      ∧ holds (.coarseStep kw 1) { airAt 5 0 with loStage := [(regKey pgPylon 0x138, 7)] }
        (fun t => t.now == 4294967296 + 12 && t.py.stepped && records up t pgPylon Ev.TIME_STEP) = true
      ∧ holds (.coarseStep kw 1) (airAt 5 2) (fun t => t.now == 5 && records up t pgPylon Ev.COARSE_DENIED) = true
      ∧ holds (.todLabelWrite kw 0x30001) { airAt 5 0 with loStage := [(regKey pgPylon 0x1D0, 7)] }
        (fun t => t.get64 pgPylon Rg.TOD_LO == 4294967303 && t.flag pgPylon Rg.PPS_STAT_TOD_PEND) = true := by decide +kernel

theorem test_pps :
    holds (.ppsInEdge 0) (airAt 1000 0) (fun t => t.py.ppsEdge == 10001 && t.get64 pgPylon Rg.PPS_CAP_LO == 804 && t.get pgPylon Rg.PPS_STAT_LEVEL == 1)
        = true
      ∧ holds (.ppsInEdge 0) { airAt 1000 0 with py := { Pylon.zero 0 with ppsEdge := 9000 } }
        (fun t => t.py.ppsEdge == 9000 && records up t pgPylon Ev.PPS_FAST) = true
      ∧ holds (.ppsInEdge 0) (withFields (slotAt 1000 3 2) [(pgPylon, Rg.PY_STATE_TSEL_V, 1, 0)])
        (fun t => t.now == 1000 && t.get pgPylon Rg.PY_PHASE == 804 * 256) = true
      ∧ holds (.ppsInEdge 0) (withFields (slotAt 1000 3 2) [(pgPylon, Rg.PY_STATE_TSEL_V, 1, 0), (pgPylon, Rg.PY_STATE_STATE, 1, 0)])
        (fun t => t.now == 196) = true
      ∧ holds .ppsAcceptedChange (airAt 1000 0) (fun t => t.py.ppsChange == 10000 && t.get pgPylon Rg.PPS_STAT_LEVEL == 0) = true
      ∧ holds .ppsMiss { airAt 1000 0 with uptime := 3000000000, py := { Pylon.zero 0 with ppsEdge := 9000 } }
        (fun t => t.py.ppsMisses == 1 && records up t pgPylon Ev.PPS_MISS) = true
      ∧ holds .ppsStuck { airAt 1000 0 with uptime := 3932160000, py := Pylon.zero 0 }
        (fun t => t.flag pgPylon Rg.PPS_STAT_STUCK && records up t pgPylon Ev.PPS_STUCK) = true
      ∧ holds .ppsOutPulse (withFields (airAt 1966080000 2) [(pgPylon, Rg.PPSO_CFG, 3, 0), (pgPylon, Rg.OUT_ADV0_PPSO_ADV, 0, 0)])
        (fun t => t.py.ppsOutEnd == 13073) = true
      ∧ holds .ppsOutEnd { airAt 5 2 with py := { Pylon.zero 0 with ppsOutEnd := 10001 } } (fun t => t.py.ppsOutEnd == 0) = true
      ∧ holds (.syncOutPulseEnd 1) { airAt 5 2 with py := { Pylon.zero 0 with pulses := [⟨1, 5, 9000⟩, ⟨1, 5, 10001⟩, ⟨2, 5, 7⟩] } }
        (fun t => t.py.pulses == [⟨1, 5, 10001⟩, ⟨2, 5, 7⟩]) = true := by decide +kernel

theorem test_reference_slots :
    holds (.refSlotEnable kw 0 0x505) (airAt 1000 2) (fun t => slotState t 0 == 1 && t.slot 0 == ⟨2, 5, false, 1000, 0, 10000⟩) = true
      ∧ holds (.refSlotDisable kw 0 4) (slotAt 1000 2 2) (fun t => slotState t 0 == 0 && !t.flag pgRef Rg.REF_CFG_EN 0) = true
      ∧ holds (.refLossOfSignal 0) { withFields (slotAt 1000 3 3) [(pgRef, Rg.REF_STAT_SEL_T, 1, 0), (pgPylon, Rg.PY_STATE_TSEL_V, 1, 0)] with
          uptime := 7864320000 }
        (fun t => slotState t 0 == 4 && t.get pgRef Rg.REF_STAT_CAUSE == 2 && t.get pgRef Rg.REF_STAT_WTR_LEFT == 0x100
          && t.get pgPylon Rg.PY_STATE_STATE == 3 && t.get64 pgPylon Rg.PY_HOLD_AIR_LO == 1000) = true
      ∧ holds (.refOfsCommit kw 0 900 0) (slotAt 1000 2 3) (fun t => (t.slot 0).commit == 10000 && t.get pgRef Rg.REF_OFS_AIR == 900) = true
      ∧ holds (.refSecondBoundary [5] [] [] 7 0) (slotAt (16 * 1966080000) 1 2)
        (fun t => (slotState t 0 == 2 || slotState t 0 == 3) && t.get pgPylon Rg.HM_TDIE == 7 && t.get pgRef Rg.REF_Y1 == 5) = true
      ∧ holds (.refSecondBoundary [4600001] [] [] 7 0) (slotAt (16 * 1966080000) 1 2)
        (fun t => slotState t 0 == 4 && t.get pgRef Rg.REF_STAT_CAUSE == 5) = true := by decide +kernel

/-- Slots 0 and 1 QUALIFIED since the start, with 1 s offsets; the local oscillator's offset is the third. -/
def driftState (a b lo : Nat) : State :=
  let s := airAt (3 * 1966080000 + 1966080) 2
  withFields s [(pgRef, Rg.REF_STAT_STATE, 2, 0), (pgRef, Rg.REF_STAT_STATE, 2, 1), (pgRef, Rg.REF_Y1, a, 0), (pgRef, Rg.REF_Y1, b, 1),
    (pgRef, Rg.LO_Y1, lo, 0), (pgPylon, Rg.HM_CTL_MODEL_V, 1, 0)]

theorem test_drift_and_model :
    holds .driftResultPost (driftState 0 5 7) (fun t => t.get pgRef Rg.DRIFT_W1_RESULT == 0 && t.get pgRef Rg.DRIFT_W1_DIS == 0) = true
      ∧ holds .driftResultPost (driftState 0 5 200000) (fun t => t.get pgRef Rg.DRIFT_W1_RESULT == 1 && t.get pgRef Rg.DRIFT_W1_WHO == 8
          && t.get pgRef Rg.DRIFT_W1_DIS == 0x103 && t.get pgPylon Rg.HM_CTL_MODEL_V == 0) = true
      ∧ holds (.holdoverModelUpdate 9) { airAt (256 * 1966080000) 2 with py := { Pylon.zero 0 with learnS := 86144 } }
        (fun t => t.py.learnS == 86400) = true := by decide +kernel

/-- The trigger table's staging registers hold these: index, target, PER, ARG, COUNT, ACTION. -/
def trigState (idx tgt per arg count action : Nat) (l : List (Nat × Trig) := []) : State :=
  let s := airAt 5000 2
  let s : State := { s with py := { s.py with trigs := l } }
  withFields s [(pgTrig, Rg.TRG_IDX, idx, 0), (pgTrig, Rg.TRG_TGT_LO, tgt, 0), (pgTrig, Rg.TRG_PER, per, 0), (pgTrig, Rg.TRG_ARG, arg, 0),
    (pgTrig, Rg.TRG_CTL_COUNT, count, 0), (pgTrig, Rg.TRG_CTL_ACTION, action, 0)]

theorem test_triggers :
    holds (.trgIdxWrite kw 3) (trigState 0 0 0 0 0 0 [(3, ⟨true, false, false, 77, 20, 2, 1, 9, 0, 0⟩)])
        (fun t => t.get pgTrig Rg.TRG_IDX == 3 && t.get64 pgTrig Rg.TRG_TGT_LO == 77 && t.get pgTrig Rg.TRG_PER == 20 && t.get pgTrig Rg.TRG_ARG == 9) = true
      ∧ holds (.trgArm kw) (trigState 3 6000 20 9 2 1) (fun t => t.trig 3 == ⟨true, false, false, 6000, 20, 2, 1, 9, 0, 0⟩) = true
      ∧ holds (.trgArm kw) (trigState 3 5000 20 9 2 1) (fun t => (t.trig 3).fired == 1 && (t.trig 3).late && (t.trig 3).armed && (t.trig 3).last == 5000
          && records up t pgTrig Ev.TRIG_LATE && t.py.trigOut == [⟨10008, 5000, 3, 1, 9⟩]) = true
      ∧ holds (.trgArm kw) (trigState 768 6000 20 9 2 1) (fun t => t.py.trigs == [] && records up t pgTrig Ev.TRIG_OWNER) = true
      ∧ holds (.trgArm kw) (trigState 3 6000 15 9 2 1) (fun t => t.py.trigs == [] && records up t pgTrig Ev.TRIG_RANGE) = true
      ∧ holds (.trgDisarm kw) (trigState 3 6000 20 9 2 1 [(3, ⟨true, false, false, 77777, 20, 2, 1, 9, 0, 0⟩)]) (fun t => !(t.trig 3).armed) = true
      ∧ holds (.triggerFire 3) (trigState 0 0 0 0 0 0 [(3, ⟨true, false, false, 5000, 0, 0, 2, 41, 0, 0⟩)])
          (fun t => !(t.trig 3).armed && t.py.pulses == [⟨1, 10006, 10016⟩]) = true
      ∧ holds (.triggerFire 3) (trigState 0 0 0 0 0 0 [(3, ⟨true, false, false, 5001, 0, 0, 2, 41, 0, 0⟩)]) (fun t => t.py.pulses == []) = true := by
  decide +kernel

theorem test_gpio :
    holds (.gpioInputChange 40 true true) (withFields (airAt 5000 2) [(pgGpio, Rg.GPIO_CFG_EDGE, 1, 40), (pgGpio, Rg.GPIO_CFG_CAP, 1, 40),
          (pgGpio, Rg.GPIO_CFG_FILT, 16, 40)])
        (fun t => gpioIn t 40 && t.gp.queue == [⟨4984, 40, true⟩] && irqSet t pgGpio 0) = true
      ∧ holds (.gpioInputChange 40 true false) (airAt 5000 2) (fun t => !gpioIn t 40 && records up t pgGpio Ev.GLITCH) = true
      ∧ holds (.stuck 40) { withFields (airAt 5000 2) [(pgGpio, Rg.GPIO_LIM_STUCK, 1, 40)] with uptime := 1966090, gp := { Gpio.zero with high := [(40, 9)] } }
        (fun t => t.get pgGpio Rg.GPIO_STUCK1 == 256 && records up t pgGpio Ev.STUCK) = true
      ∧ holds (.gpioCapPop kw) { airAt 5000 2 with gp := { Gpio.zero with queue := [⟨4984, 40, true⟩, ⟨4985, 2, false⟩] } }
        (fun t => t.rsp == ⟨0, 0x80010128⟩ && t.get64 pgGpio Rg.GPIO_CAP_LO == 4984 && t.gp.queue == [⟨4985, 2, false⟩]) = true
      ∧ holds (.gpioCapPop kw) (airAt 5000 2) (fun t => t.rsp == ⟨0, 0⟩) = true := by decide +kernel


/-! ## The memories and the Truss -/

/-- A state with these memories beside their contents. -/
def memState (m : Mem) (up_ : Nat := 10000) : State := { up with mu := m, uptime := up_ }

theorem witness_memory_init :
    up.reaches kw (page .bay 2) 0x218 true = true ∧ up.reaches kw (page .bm 1) 0x10C true = true
      ∧ initRange 2 3 = some (pierBase + 19 * 0x80000, 0x7FF80) ∧ initLines 3 = 7167 ∧ up.domOn (memDomain (pierBase + 19 * 0x80000)) = true
      ∧ initPcs up 1 0x8001 = [16, 31] := by decide +kernel

theorem test_memory_init :
    holds (.memInitStart kw 2 0x80000003) up (fun t => t.flag (page .bay 2) Rg.MEM_INIT_STAT_BUSY && t.mu.inits == [⟨page .bay 2, 3, 10000⟩]) = true
      ∧ holds (.memInitDone 2) { memState { Mem.zero with inits := [⟨page .bay 2, 3, 1⟩] } with mem := [(pierBase + 19 * 0x80000, 5), (pierBase + 20 * 0x80000, 6)] }
        (fun t => t.mem == [(pierBase + 20 * 0x80000, 6)] && t.flag (page .bay 2) Rg.MEM_INIT_STAT_DONE && irqSet t (page .bay 2) 5) = true
      ∧ holds (.memInitDone 2) { memState { Mem.zero with inits := [⟨page .bay 2, 3, 9999⟩] } with mem := [(pierBase + 19 * 0x80000, 5)] }
        (fun t => t.mem == [(pierBase + 19 * 0x80000, 5)]) = true
      ∧ holds (.bmInitStart kw 1 3) up (fun t => t.flag (page .bm 1) Rg.BM_INIT_STAT_BUSY && t.mu.inits == [⟨page .bm 1, 3, 10000⟩]) = true
      ∧ holds (.initDone 1) { memState { Mem.zero with inits := [⟨page .bm 1, 3, 1⟩] } 6291457 with mem := [(17 * 0x30000000, 5), (18 * 0x30000000, 6)] }
        (fun t => t.mem == [(18 * 0x30000000, 6)] && t.flag (page .bm 1) Rg.BM_INIT_STAT_DONE && irqSet t (page .bm 1) 4) = true := by
  decide +kernel

/-- The scrubber of a page stands here. -/
def scrubState (p : Nat) (c : Scrub) (l : List (Nat × Ecc) := []) : State :=
  withFields (memState { Mem.zero with scrubs := [(p, c)], ecc := l }) [(page .bay 2, Rg.MEM_SCR_CFG_EN, 1, 0), (page .bm 1, Rg.BM_CFG_SCR_EN, 1, 0)]

theorem test_scrubbers :
    holds (.scrubRead 2) (scrubState (page .bay 2) { Scrub.zero with pos := 7 })
        (fun t => t.scrubOf (page .bay 2) == { Scrub.zero with pos := 8, last := 10001 }) = true
      ∧ holds (.scrubRead 2) (scrubState (page .bay 2) { Scrub.zero with pos := 237559, air0 := 9 })
        (fun t => (t.scrubOf (page .bay 2)).pos == 0 && t.get (page .bay 2) Rg.MEM_SCR_STAT_LAPS == 1 && t.get64 (page .bay 2) Rg.MEM_LAP_AIR_LO == 9) = true
      ∧ holds (.bmScrubRead 1) (scrubState (page .bm 1) { Scrub.zero with pos := 50331647 })
        (fun t => (t.scrubOf (page .bm 1)).pos == 0 && t.get (page .bm 1) Rg.BM_SCR_STAT_LAPS == 1) = true
      ∧ holds (.scrubWriteback 2) (scrubState (page .bay 2) { Scrub.zero with back := [(pierBase, 64, false)] } [(pierBase / 8 + 1, ⟨1, 3⟩)])
        (fun t => t.mu.ecc == [] && (t.scrubOf (page .bay 2)).back == []) = true
      ∧ holds (.scrubWriteback 2) (scrubState (page .bay 2) { Scrub.zero with back := [(pierBase, 64, true)] } [(pierBase / 8 + 1, ⟨1, 3⟩)])
        (fun t => t.mu.ecc == [(pierBase / 8 + 1, ⟨1, 3⟩)] && (t.scrubOf (page .bay 2)).defer == 1) = true
      ∧ holds (.celPop kw 2) (memState { Mem.zero with cel := [(page .bay 2, [⟨0x1122334455, 7, true, 99, 3⟩, ⟨1, 1, false, 1, 1⟩])] })
        (fun t => t.rsp == ⟨0, 0xC1030007⟩ && t.reg (page .bay 2) 0x224 == 0x22334455) = true
      ∧ holds (.celPop kw 2) up (fun t => t.rsp == ⟨0, 0⟩) = true := by decide +kernel

theorem test_bulk_memory :
    holds (.controllerRefresh 17) up (fun t => t.mu.refAt == [(17, 10001)] && t.mu.refBusy == [(17, 10563)]) = true
      ∧ holds (.refreshMiss 17) (withFields { up with dk := { Deck.zero with run := some 0 } } [(page .bm 1, Rg.BM_STAT_PLAN_PC, 2, 0)])
        (fun t => t.mu.refAt == [(17, 10001)] && t.get (page .bm 1) Rg.BM_REF_STAT_MISS == 1 && records up t pgDeck Ev.REFRESH_MISS && t.dk.stopping) = true
      ∧ holds (.bmRelease kw 1 2) (withFields up [(page .bm 1, Rg.BM_STAT_HALT, 6, 0)]) (fun t => t.get (page .bm 1) Rg.BM_STAT_HALT == 4) = true
      ∧ holds (.hbmTempRead (some 80) (some 85)) up (fun t => t.get pgPhy Rg.HBM_T0 == 80 * 256 && t.get pgDeck Rg.DK_THERM_HBM_T == 85 * 256) = true
      ∧ holds (.hbmTempRead none (some 85)) up (fun t => t.get pgPhy Rg.HBM_T0 == 105 * 256 && records up t pgPhy Ev.TEMP_FAIL) = true
      ∧ holds (.phyTrain kw 2) up (fun t => t.mu.train1 == 10001) = true
      ∧ holds (.trainComplete 1 true) (memState { Mem.zero with train1 := 9 }) (fun t => t.get pgPhy Rg.PHY_STAT_TRAINED == 2 && t.mu.train1 == 0) = true
      ∧ holds (.trainComplete 1 false) (memState { Mem.zero with train1 := 9 }) (fun t => t.get pgPhy Rg.PHY_STAT_TRAINED == 0 && records up t pgPhy Ev.TRAIN_FAIL)
        = true
      ∧ holds (.srefRequest kw 0x20) up (fun t => t.get pgPhy Rg.PHY_STAT_SREF == 2) = true
      ∧ holds (.srefRequest kw 0x20) (withFields up [(page .bm 2, Rg.BM_STAT_PLAN_PC, 2, 0)])
        (fun t => t.get pgPhy Rg.PHY_STAT_SREF == 0 && records up t pgPhy Ev.SREF_DENIED) = true
      ∧ holds (.srefRequest kw 0) (withFields up [(pgPhy, Rg.PHY_CMD_SREF, 2, 0), (pgPhy, Rg.PHY_STAT_SREF, 2, 0)])
        (fun t => t.get pgPhy Rg.PHY_STAT_SREF == 0 && t.mu.wake1 == 13933) = true
      ∧ holds (.caParity 1) up (fun t => t.get pgPhy Rg.PHY_ERR == 1 && records up t pgPhy Ev.CA_PARITY) = true := by decide +kernel

/-- A class-1 read of a pier's memory from SOURCE 216, towards column 4 of row 0. -/
def pkt : Packet := { dx := 4, dy := 0, cmd := 3, cls := 1, priv := 3, ctx := 0, len := 1, source := 216, tag := 5, addr := pierBase }

/-- Router 2 holds the packet at its local input since uptime 9,000. -/
def meshState (out : Nat) : State := { up with nt := { Mesh.zero with bufs := [⟨2, 4, pkt, 9000, false, out⟩] } }

theorem witness_mesh :
    headerOk pkt = true ∧ (meshState 1).roomAhead ⟨2, 4, pkt, 9000, false, 1⟩ = true ∧ (meshState 1).clearAhead ⟨2, 4, pkt, 9000, false, 1⟩ = true
      ∧ up.reaches kw (page .router 7) 0x108 true = true ∧ up.reaches kw (page .router 7) 0x130 true = true
      ∧ headerOk { pkt with dx := 10 } = false := by decide +kernel

theorem test_truss :
    holds (.trussPacketRoute 2 4 pkt 0 0) up (fun t => t.nt.bufs == [⟨2, 4, pkt, 10000, false, 1⟩]) = true
      ∧ holds (.trussPacketRoute 2 4 { pkt with dx := 2, dy := 5 } 0 0) up (fun t => (t.nt.bufs.map (·.out)) == [2]) = true
      ∧ holds (.trussPacketRoute 2 4 pkt 0 2) up (fun t => t.nt.bufs == [] && records up t (page .router 2) Ev.HDR_UNCORR) = true
      ∧ holds (.trussPacketRoute 2 4 { pkt with dx := 10 } 0 0) up (fun t => t.nt.bufs == [] && records up t (page .router 2) Ev.BAD_HEADER) = true
      ∧ holds (.dynamicPacketForward 2 1) (meshState 1) (fun t => t.nt.bufs == [⟨3, 3, pkt, 10001, false, 1⟩] && t.nt.portEnd == [(11, 10002)]) = true
      ∧ holds (.rtRevive kw 7 0x80000021) (up.setReg (page .router 7) 0x144 6) (fun t => t.reg (page .router 7) 0x144 == 4) = true
      ∧ holds (.rspTimeout 216 5) { up with uptime := 5000000, nt := { Mesh.zero with reqs := [⟨216, 5, 7, 1, 9⟩] } }
        (fun t => t.nt.reqs == [] && t.rsp == ⟨7, 0⟩ && records up t (page .router 7) Ev.RSP_TIMEOUT) = true
      ∧ holds (.trussMonitorWindow 1) { up with nt := { Mesh.zero with mon := [(1, [3, 4, 5, 6, 7])] } }
        (fun t => t.get pgTruss Rg.TR_MON_REQ 1 == 3 && t.get pgTruss Rg.TR_MON_LAT_MAX 1 == 6 && irqSet t pgTruss 0) = true
      ∧ holds (.rtClr kw 7 1) (withFields up [(page .router 7, Rg.RT_HOLD, 5, 2), (page .router 7, Rg.RT_WAIT_MAX, 5, 0)])
        (fun t => t.get (page .router 7) Rg.RT_HOLD 2 == 0 && t.get (page .router 7) Rg.RT_WAIT_MAX == 0) = true := by decide +kernel


/-! ## The engines -/

/-- The descriptor address, and 32-bit deck addresses of a table, a second table, the status record and a buffer. -/
def descAt : Nat := 0x00100A004000
def tabA : Nat := 0x0A002000
def tabB : Nat := 0x0A003000
def stA : Nat := 0x0A001000
def bufA : Nat := 0x02000000

def engPlan (e : SlotEntry) : Plan := { planOf e with bulk := [⟨0, 16, 9, 1⟩] }

/-- An entry of `unit` is due whose descriptor has these words 4 on; `l` holds words elsewhere in memory. -/
def engState (unit op : Nat) (ws : List Nat) (l : List (Nat × Nat) := []) : State :=
  let e : SlotEntry := ⟨2, 500, false, unit, descAt, 0⟩
  let s := deckState { Deck.zero with slot0 := some (engPlan e), run := some 0 } 983540
  let s := s.storeAll descAt 4 ([op <<< 24, 0, stA, 0x77] ++ ws)
  l.foldl (fun s x => s.store x.1 4 x.2) s

/-- A row of the engine families with a sound descriptor: the row, its unit, OP, words 4 on, and the words of its tables. -/
structure EngCase where
  row : EngineRow
  unit : Nat
  op : Nat
  ws : List Nat
  mem : List (Nat × Nat)

def EngCase.state (c : EngCase) : State := engState c.unit c.op c.ws c.mem

/-- The case meets what the statement on issue assumes. -/
def EngCase.meets (c : EngCase) : Bool :=
  let s := c.state
  s.canonical && s.entryDue 0 0 == some (⟨2, 500, false, c.unit, descAt, 0⟩, 9) && !s.fenced c.unit && !s.occupied c.unit && s.domOn (unitDomain c.unit)
    && classEng (c.unit / 256) == some c.row.kind && (unitPage c.unit).isSome && c.row.mine (s.descWords descAt) && descriptorGood s c.row descAt

/-- Its operation is in flight, for the occupancy and the latency of R99. -/
def EngCase.runs (c : EngCase) (occ lat : Nat) : Bool :=
  match exec (c.row.cmd (.table 0 0)) c.state with
  | .next t => t.dk.jobs.map (fun j => (j.unit, j.free - 10000, j.fin - 10000)) == [(c.unit, occ, lat)]
      && t.en.runs.map (fun r => (r.job.unit, r.status, r.user)) == [(c.unit, deckOf stA, 0x77)]
  | _ => false

def fftCase : EngCase := ⟨⟨.engFft, .fe, fun _ => true, fftOk⟩, 0x3001, 1, [0x10010, bufA, 0, bufA + 0x1000, 64, bufA + 0x2000], []⟩

theorem test_fft : fftCase.meets = true ∧ fftCase.runs 9 98 = true := by decide +kernel

def meWords (d w15 : Nat) : List Nat := [0x10000, d, bufA, 0, bufA, 0, bufA, 0, 0x10001, 1, 0, w15]

def gemmCase : EngCase := ⟨⟨.engGemm, .me, fun w => !(isOp 2 w || isOp 3 w || isOp 4 w), meOk⟩, 0x3601, 1, meWords 0x010101 0, []⟩
def gramCase : EngCase := ⟨⟨.engGram, .me, isOp 2, meOk⟩, 0x3601, 2, meWords 0x010100 0, []⟩
def solveCase : EngCase := ⟨⟨.engSolve, .me, isOp 3, meOk⟩, 0x3601, 3, meWords 0x010100 0x10000000, []⟩
def applyCase : EngCase := ⟨⟨.engApply, .me, isOp 4, meOk⟩, 0x3601, 4, [0, 0x010001, bufA, 0, bufA, 1, bufA, 0, 0x10001, 0x10001, 0, 0], []⟩

theorem witness_matrix : gemmCase.meets = true
      ∧ gramCase.meets = true
      ∧ solveCase.meets = true
      ∧ applyCase.meets = true := by decide +kernel

theorem test_gemm : gemmCase.runs 1 49 = true := by decide +kernel

def adWords (mode w5 w10 : Nat) (c : Nat := 0) (l : Nat := 0) : List Nat :=
  [0x01010100 + mode, w5, bufA, 0, 0, 0, w10, c, bufA, 0, l, 0x3F800000]

/-- A candidate of one root and one lag. -/
def candMem : List (Nat × Nat) := [(deckOf tabB + 4, 0x10000)]

def prachCase : EngCase :=
  ⟨⟨.engDetectPrach, .ad, fun w => !(inRange 3 5 (df w 4 3 0)), adOk⟩, 0x3801, 1, adWords 1 (0x10000 + 139) tabA tabB, candMem⟩
def nprachCase : EngCase := ⟨⟨.engDetectNprach, .ad, fun w => df w 4 3 0 = 3, adOk⟩, 0x3801, 1, adWords 3 (0x10000 + 48) tabA tabB, candMem⟩
def umtsCase : EngCase := ⟨⟨.engDetectUmtsRach, .ad, fun w => df w 4 3 0 = 4, adOk⟩, 0x3801, 1, adWords 4 4096 4, []⟩
def gsmCase : EngCase := ⟨⟨.engDetectGsmAccess, .ad, fun w => df w 4 3 0 = 5, adOk⟩, 0x3801, 1, adWords 5 8 tabA, []⟩

theorem witness_detectors : prachCase.meets = true
      ∧ nprachCase.meets = true
      ∧ umtsCase.meets = true
      ∧ gsmCase.meets = true := by decide +kernel

def ldCase : EngCase :=
  ⟨⟨.engLdpcDecode, .ld, fun _ => true, ldOk⟩, 0x3101, 1, [0x01010002, 0x00010004, tabA, bufA, 0],
    [(deckOf tabA, bufA), (deckOf tabA + 4, bufA + 64), (deckOf tabA + 8, 0x00300008)]⟩
def leCase : EngCase := ⟨⟨.engLdpcEncode, .le, fun _ => true, leOk⟩, 0x3201, 1, [0x00080802, 0, bufA, bufA + 64], []⟩
def peCase : EngCase := ⟨⟨.engPolarEncode, .pe, fun w => !(isOp 2 w), peOk⟩, 0x3301, 1, [0x50060010, 32, bufA, bufA + 64], []⟩
def pdCase : EngCase := ⟨⟨.engPolarDecode, .pe, isOp 2, peOk⟩, 0x3301, 2, [0x50060010, 32, bufA, bufA + 64], []⟩
def tdCase : EngCase := ⟨⟨.engTurboDecode, .td, fun _ => true, tdOk⟩, 0x3401, 1, [0x10020028, bufA, 0, bufA + 64, 0, 0], []⟩
def vdCase : EngCase := ⟨⟨.engTrellisDecode, .vd, fun _ => true, vdOk⟩, 0x3501, 1, [0x52000008, 0x3A13, 0, 0, bufA, bufA + 64, 0], []⟩

theorem witness_coding : ldCase.meets = true
      ∧ leCase.meets = true
      ∧ peCase.meets = true
      ∧ pdCase.meets = true
      ∧ tdCase.meets = true
      ∧ vdCase.meets = true := by
  decide +kernel

theorem test_vd : vdCase.runs 8 40 = true := by decide +kernel

def combineCase : EngCase :=
  ⟨⟨.engCombine, .hq, fun w => !(isOp 2 w || isOp 3 w), hqOk⟩, 0x3A01, 1, [0x40800002, 0x00400014, 64, 2, bufA, bufA + 64, 0, 0, 0, 0, 0, 0], []⟩
def selectCase : EngCase := ⟨⟨.engSelect, .hq, isOp 2, hqOk⟩, 0x3A01, 2, [0x40800002, 0x00400014, 64, 2, bufA, bufA + 64, 0, 0, 0, 0, 0, 0], []⟩
def storeCase : EngCase := ⟨⟨.engStore, .hq, isOp 3, hqOk⟩, 0x3A01, 3, [0x40000002, 0x00400014, 0, 0, bufA, 0, 0, 0, 0, 0, 0, 0], []⟩

theorem witness_harq : combineCase.meets = true
      ∧ selectCase.meets = true
      ∧ storeCase.meets = true := by decide +kernel

def xcCase (op : Nat) (row : EngineRow) (ws : List Nat) (code : Nat) : EngCase :=
  ⟨row, 0x3701, op, ws, [(deckOf tabA + 8, bufA), (deckOf tabA + 16, code)]⟩
def despreadCase : EngCase :=
  xcCase 1 ⟨.engDespread, .xc, fun w => !(isOp 2 w || isOp 3 w), xcOk⟩ [0x10100, 0x10000, bufA, 0, tabA, tabB, 0, 0, 0, 0, 0, 0] 0x10000000
def searchCase : EngCase := xcCase 2 ⟨.engSearch, .xc, isOp 2, xcOk⟩ [0x10100, 0x10000, bufA, 0, tabA, tabB, bufA, 0, 0, 0, 0, 0] 0x80000000
def spreadCase : EngCase :=
  ⟨⟨.engSpread, .xc, isOp 3, xcOk⟩, 0x3701, 3, [0x10100, 0, 0, 0, tabA, 0, bufA, 0, 0, 0, 0, 0], [(deckOf tabA, 0x08000000), (deckOf tabA + 8, bufA)]⟩
def equalizeCase : EngCase :=
  ⟨⟨.engEqualize, .nb, fun w => !(isOp 2 w), nbOk⟩, 0x3901, 1, [0x00100002, 0, bufA, 0, bufA, 0, 0, 0x3F800000, 0, 0, 0x01000000, 0], []⟩
def measureCase : EngCase := ⟨⟨.engMeasure, .nb, isOp 2, nbOk⟩, 0x3901, 2, [0x00100000, 0x10000, bufA, 0, 0, 0, 0, 0, 0, 0, 0, 0], []⟩

theorem witness_spread_and_narrowband : despreadCase.meets = true
      ∧ searchCase.meets = true
      ∧ spreadCase.meets = true
      ∧ equalizeCase.meets = true
   
      ∧ measureCase.meets = true := by decide +kernel

/-- The reserved word 15 of the descriptor is not 0. -/
def badFft : State := engState 0x3001 1 [0x10010, bufA, 0, bufA + 0x1000, 64, bufA + 0x2000, 0, 0, 0, 0, 0, 1]

theorem test_descriptor_refused :
    descriptorGood badFft fftCase.row descAt = false
      ∧ holds (.engFft (.table 0 0)) badFft (fun t => t.dk.jobs.map (fun j => (j.free - 10000, j.fin - 10000)) == [(4, 5)] && t.en.runs == []
          && t.get (engPage 0x3001) Rg.ENG_ERRS_DESC == 1 && t.get (engPage 0x3001) Rg.ENG_STAT_LAST_STATE == 4) = true
      ∧ holds (.engGram (.table 0 0)) gemmCase.state (fun t => t.dk.jobs == []) = true := by decide +kernel

/-- One operation of unit 0x3001 with one item. -/
def runState (it : EngItem) : State :=
  { deckState (running nopEntry) 983640 with
    en := { Engines.zero with runs := [⟨⟨0x3001, 2, 0, false, false, descAt, 9, 9900, 9950, 10000⟩, false, deckOf stA, 0x77, 5, none, [it], 0, 3, []⟩] } }

theorem test_engine_items :
    holds (.fftTransformComplete 0x3001 0 true) (runState ⟨10000, [], 0, 0, 0, 1, false, false⟩)
        (fun t => t.en.runs.map (fun r => (r.items, r.code)) == [([⟨10000, [], 0, 0, 0, 1, false, true⟩], 0x3004)]
          && t.get (engPage 0x3001) Rg.ENG_ACT_ITEMS == 1 && t.get (engPage 0x3001) Rg.ENG_FAULTS_FAULT == 1) = true
      ∧ holds (.engineOpComplete 0x3001 0) (runState ⟨10000, [], 0, 0, 0, 1, false, true⟩)
        (fun t => t.en.runs == [] && t.load (deckOf stA) 4 == 0x10000005 && t.load (deckOf stA + 4) 4 == 0x77 && t.load (deckOf stA + 8) 4 == 0x30000
          && t.get (engPage 0x3001) Rg.ENG_STAT_LAST_STATE == 1) = true := by decide +kernel

theorem test_harq_epochs :
    up.reaches kw (page (.eng .hq) 0) 0x148 true = true ∧ up.reaches kw (page (.eng .hq) 0) 0x144 true = true
      ∧ holds (.hqFlush kw 0x80000000) up (fun t => t.en.changes == [⟨10002, 4096, none⟩] && t.get (page (.eng .hq) 0) Rg.HQ_EPOCH == 1
          && t.get (page (.eng .hq) 0) Rg.HQ_FLUSH_CNT == 1) = true
      ∧ holds (.hqEpochWrite kw 7) up (fun t => t.en.changes == [⟨10002, 0, some 7⟩] && t.get (page (.eng .hq) 0) Rg.HQ_EPOCH == 7) = true := by
  decide +kernel


/-! ## The lanes -/

/-- Lane 5 is enabled with these fields of its page, and its state beside them. -/
def laneState (l : List (Fld × Nat)) (x : Lane := Lane.zero) : State :=
  let s : State := { up.setReg (pgLane 5) 0x008 1 with lanes := [(5, { x with inj := 1 })] }
  withFields s ([(pgLane 5, Rg.LN_CFG_PERS, 1, 0), (pgLane 5, Rg.LN_STAT_QPLL_LOCK, 1, 0), (pgLane 5, Rg.LN_STAT_RX_STATE, 1, 0),
    (pgLane 4, Rg.LN_QPLL_ETH_LOCK, 1, 0)] ++ l.map fun e => (pgLane 5, e.1, e.2, 0))

theorem witness_lanes :
    (laneState []).canonical = true ∧ Sparse.wf (fun _ => Lane.zero) (laneState []).lanes = true ∧ (laneState []).laneOn 5 = true
      ∧ (laneState []).rxRuns 5 = true ∧ (laneState []).pllLocked 1 false = true ∧ usesCpri ((laneState []).pers 5) = false
      ∧ (laneState []).reaches kw (pgLane 5) 0x144 true = true ∧ (laneState []).reaches kw (pgLane 5) 0x11C true = true
      ∧ (laneState []).reaches kw (pgLane 5) 0x188 true = true ∧ (laneState []).reaches kw (pgLane 5) 0x150 true = true
      ∧ (laneState []).reaches kw (pgLane 5) 0x158 true = true := by decide +kernel

theorem test_lane_locks :
    holds (.blockLockAcquired 5 0 9) (laneState []) (fun t => t.flag (pgLane 5) Rg.LN_STAT_BLOCK_LOCK && t.get (pgLane 5) Rg.LN_RX_VAR == 9) = true
      ∧ holds (.lockLoss 5 3) (laneState [(Rg.LN_STAT_BLOCK_LOCK, 1)])
        (fun t => !t.flag (pgLane 5) Rg.LN_STAT_BLOCK_LOCK && t.get (pgLane 5) Rg.LN_BADHDR == 16 && records up t (pgLane 5) Ev.LOCK_LOSS) = true
      ∧ holds (.hiBer 5 16) { laneState [(Rg.LN_STAT_BLOCK_LOCK, 1)] with uptime := 245760 }
        (fun t => t.flag (pgLane 5) Rg.LN_STAT_HI_BER && (t.lane 5).win == 245760 && records up t (pgLane 5) Ev.HI_BER) = true
      ∧ holds (.hiBer 5 15) { laneState [(Rg.LN_STAT_BLOCK_LOCK, 1)] with uptime := 245760 } (fun t => !t.flag (pgLane 5) Rg.LN_STAT_HI_BER) = true
      ∧ holds (.amLockChange 5 true 9) (laneState [(Rg.LN_CFG_PERS, 3)]) (fun t => t.flag (pgLane 5) Rg.LN_STAT_AM_LOCK) = true
      ∧ holds (.amLockChange 5 false 9) (laneState [(Rg.LN_CFG_PERS, 3), (Rg.LN_STAT_AM_LOCK, 1)])
        (fun t => !t.flag (pgLane 5) Rg.LN_STAT_AM_LOCK && records up t (pgLane 5) Ev.LOCK_LOSS) = true
      ∧ holds (.fecCodewordDecode 5 [4, 11]) (laneState [(Rg.LN_CFG_PERS, 3), (Rg.LN_STAT_AM_LOCK, 1)])
        (fun t => t.get64 (pgLane 5) Rg.LN_FEC_CORR_LO == 1 && t.get (pgLane 5) Rg.LN_FEC_SYM == 4 && t.get (pgLane 5) Rg.LN_FEC_UNC == 0) = true
      ∧ holds (.fecCodewordDecode 5 [5, 11]) (laneState [(Rg.LN_CFG_PERS, 3), (Rg.LN_STAT_AM_LOCK, 1)] { Lane.zero with serErr := 402 })
        (fun t => t.get64 (pgLane 5) Rg.LN_FEC_CORR_LO == 0 && t.get (pgLane 5) Rg.LN_FEC_UNC == 1 && irqSet t (pgLane 5) 2
          && t.flag (pgLane 5) Rg.LN_STAT_HI_SER) = true := by decide +kernel

theorem test_lane_receiver :
    holds (.signalDetectChange 5 true) (laneState []) (fun t => t.flag (pgLane 5) Rg.LN_STAT_SD) = true
      ∧ holds (.signalDetectChange 5 false) (laneState [(Rg.LN_STAT_SD, 1), (Rg.LN_STAT_CDR_LOCK, 1)])
        (fun t => !t.flag (pgLane 5) Rg.LN_STAT_CDR_LOCK && t.get (pgLane 5) Rg.LN_LOCKEV_LOS == 1 && records up t (pgLane 5) Ev.LOS) = true
      ∧ holds (.cdrLockAcquired 5) (laneState [(Rg.LN_STAT_SD, 1)]) (fun t => t.flag (pgLane 5) Rg.LN_STAT_CDR_LOCK) = true
      ∧ holds (.cdrUnlock 5) (laneState [(Rg.LN_STAT_CDR_LOCK, 1)]) (fun t => !t.flag (pgLane 5) Rg.LN_STAT_CDR_LOCK && records up t (pgLane 5) Ev.CDR_UNLOCK)
        = true
      ∧ holds (.adaptDone 5) (laneState []) (fun t => t.flag (pgLane 5) Rg.LN_STAT_ADAPT_DONE) = true
      ∧ holds (.adaptTimeout 5) { laneState [] with uptime := 98304000 } (fun t => (t.lane 5).timedOut && records up t (pgLane 5) Ev.ADAPT_TIMEOUT) = true
      ∧ holds (.adaptRestart kw 5 1) (laneState [(Rg.LN_STAT_ADAPT_DONE, 1)]) (fun t => (t.lane 5).cold == 10000 && !t.flag (pgLane 5) Rg.LN_STAT_ADAPT_DONE)
        = true
      ∧ holds (.prbsLockAcquired 5 6) (laneState [(Rg.LN_PRBS_RX_PAT, 3), (Rg.LN_PRBS_ERR, 2)])
        (fun t => t.flag (pgLane 5) Rg.LN_STAT_PRBS_LOCK && t.get (pgLane 5) Rg.LN_PRBS_ERR == 8) = true
      ∧ holds (.lnCntClear kw 5) (laneState [(Rg.LN_PRBS_ERR, 2), (Rg.LN_BADHDR, 5)])
        (fun t => t.get (pgLane 5) Rg.LN_PRBS_ERR == 0 && t.get (pgLane 5) Rg.LN_BADHDR == 0) = true := by decide +kernel

theorem test_lane_scans :
    holds (.eyeScanStart kw 5) (laneState [(Rg.LN_STAT_CDR_LOCK, 1)]) (fun t => t.flag (pgLane 5) Rg.LN_ES_STAT_BUSY && (t.lane 5).scan == 10000) = true
      ∧ holds (.eyeScanStart kw 5) (laneState []) (fun t => !t.flag (pgLane 5) Rg.LN_ES_STAT_BUSY && t.get (pgLane 5) Rg.LN_ES_STAT_RESULT == 2) = true
      ∧ holds (.eyeScanDone 5 0x100000002 7) { laneState [(Rg.LN_ES_STAT_BUSY, 1), (Rg.LN_ES_DWELL, 1)] with uptime := 13072 }
        (fun t => t.get (pgLane 5) Rg.LN_ES_SAMP_LO == 2 && t.get (pgLane 5) Rg.LN_ES_SAMP_HI == 1 && t.get (pgLane 5) Rg.LN_ES_ERR == 7
          && irqSet t (pgLane 5) 4) = true
      ∧ holds (.eyeScanAbort kw 5 9 7) (laneState [(Rg.LN_ES_STAT_BUSY, 1)]) (fun t => t.get (pgLane 5) Rg.LN_ES_STAT_RESULT == 1) = true := by
  decide +kernel

theorem test_lane_sleep :
    holds (.laneSleepRequest kw 5 1) (laneState [(Rg.LN_STAT_TX_STATE, 1)]) (fun t => t.get (pgLane 5) Rg.LN_STAT_TX_STATE == 2) = true
      ∧ holds (.laneSleepRequest kw 5 0) (laneState [(Rg.LN_STAT_TX_STATE, 2)]) (fun t => t.get (pgLane 5) Rg.LN_STAT_TX_STATE == 3 && (t.lane 5).txWake) = true
      ∧ holds (.laneSleepRequest kw 5 0x10) (laneState []) (fun t => t.get (pgLane 5) Rg.LN_STAT_RX_STATE == 2) = true
      ∧ holds (.laneSleepRequest kw 5 0x20) (laneState [(Rg.LN_STAT_CDR_LOCK, 1)])
        (fun t => t.get (pgLane 5) Rg.LN_STAT_RX_STATE == 3 && !t.flag (pgLane 5) Rg.LN_STAT_CDR_LOCK) = true
      ∧ holds (.laneSleepRequest kw 5 0) (laneState [(Rg.LN_STAT_RX_STATE, 2)]) (fun t => (t.lane 5).rxWake && t.flag (pgLane 5) Rg.LN_SLEEP_STAT_BUSY) = true
      ∧ holds (.wakeOs 5) (laneState [(Rg.LN_SLEEP_WAKE_OS_EN, 1), (Rg.LN_STAT_RX_STATE, 2), (Rg.LN_SLEEP_WAKE_AUTO, 1), (Rg.LN_SLEEP_RX_REQ, 1)])
        (fun t => (t.lane 5).rxWake && t.get (pgLane 5) Rg.LN_SLEEP_RX_REQ == 0 && records up t (pgLane 5) Ev.WAKE_OS
          && t.get (pgLane 5) Rg.LN_SLEEP_STAT_LAST_WAKE == 1) = true
      ∧ holds (.laneWakeComplete 5 true) (laneState [(Rg.LN_STAT_TX_STATE, 3)] { Lane.zero with txWake := true })
        (fun t => t.get (pgLane 5) Rg.LN_STAT_TX_STATE == 1 && !(t.lane 5).txWake) = true
      ∧ holds (.laneWakeComplete 5 false) (laneState [(Rg.LN_STAT_RX_STATE, 2)] { Lane.zero with rxWake := true })
        (fun t => t.get (pgLane 5) Rg.LN_STAT_RX_STATE == 1 && !(t.lane 5).rxWake) = true
      ∧ holds (.wakeOsSend kw 5 0x201) (laneState [(Rg.LN_STAT_TX_STATE, 1)])
        (fun t => t.get (pgLane 5) Rg.LN_WAKE_OS_SENT == 1 && (t.lane 5).burst == 10000 + burstCy 1 2) = true := by decide +kernel

theorem test_lane_clocks :
    holds (.pllUnlock 1 false) (laneState [(Rg.LN_STAT_CDR_LOCK, 1), (Rg.LN_STAT_TX_STATE, 1)])
        (fun t => !t.pllLocked 1 false && !t.flag (pgLane 5) Rg.LN_STAT_QPLL_LOCK && t.get (pgLane 5) Rg.LN_STAT_TX_STATE == 0
          && records up t (pgLane 5) Ev.PLL_UNLOCK) = true
      ∧ holds (.qpllLock 1 false) (withFields (laneState [(Rg.LN_STAT_QPLL_LOCK, 0)]) [(pgLane 4, Rg.LN_QPLL_ETH_LOCK, 0, 0)])
        (fun t => t.pllLocked 1 false && t.flag (pgLane 5) Rg.LN_STAT_QPLL_LOCK && t.get (pgLane 5) Rg.LN_STAT_TX_STATE == 1) = true
      ∧ holds (.enabled 5) (laneState []) (fun t => t.reg (pgLane 5) 0x00C == 1) = true := by decide +kernel


/-! ## Ethernet and CPRI -/

/-- EM port 3 is enabled and drives its output on lane 5; AU 0 has one receive flow of the port, number 7 with eAxC ID 0x1234. -/
def emState (x : EmPort := EmPort.zero) (fh : Fh := Fh.zero) (l : List (Fld × Nat) := []) : State :=
  let s : State := { (up.setReg (pgEm 3) 0x008 3).setReg (pgCp 1) 0x008 3 with
    fh := { fh with em := [(3, { x with clean := 1 })], flows := [(7, { Flow.zero with w0 := 4 <<< 29 + 3 <<< 16 + 0x1234 })] } }
  withFields s ([(pgEm 3, Rg.EM_CFG_LANE, 5, 0), (pgEm 3, Rg.EM_CFG_MAXLEN, 1518, 0)] ++ l.map fun e => (pgEm 3, e.1, e.2, 0))

/-- A frame to the broadcast address, padded to 60 bytes. -/
def frameOf (ty : Nat) (pay : List Nat) : List Nat :=
  let b := List.replicate 6 255 ++ List.replicate 6 1 ++ [ty / 256, ty % 256] ++ pay
  b ++ List.replicate (60 - b.length) 0

/-- A U-plane message of no section. -/
def uFrame : List Nat := frameOf 0xAEFE [0x10, 0, 0, 8, 0x12, 0x34, 0, 0x80, 0x10, 1, 0, 0]

def fins (l : List Nat) : List (Fin 256) := l.map fun b => Fin.ofNat 256 b

theorem witness_reception :
    emState.canonical = true ∧ emState.enabled (pgEm 3) = true ∧ emState.domOn 72 = true ∧ emState.daOk 3 0xFFFFFFFFFFFF = true
      ∧ emState.rxFlow 0 3 0x1234 = some 7 ∧ (uCheck (emState.flow 0 7) uFrame).map List.length = some 0 := by decide +kernel

theorem test_frame_receive :
    holds (.frameReceive 3 (fins (uFrame.take 59)) false) emState (fun t => t.get (pgEm 3) Rg.EM_RUNT == 1 && t.fh.ingress == []) = true
      ∧ holds (.frameReceive 3 (fins uFrame) true) emState (fun t => t.get (pgEm 3) Rg.EM_FCS == 1 && t.get64 (pgEm 3) Rg.EM_RX_OK_LO == 0) = true
      ∧ holds (.frameReceive 3 (fins (frameOf 0x8808 [])) false) emState (fun t => t.get (pgEm 3) Rg.EM_MACCTL == 1) = true
      ∧ holds (.frameReceive 3 (fins (frameOf 0x0800 (List.replicate 1501 0))) false) emState (fun t => t.get (pgEm 3) Rg.EM_LONG == 1) = true
      ∧ holds (.frameReceive 3 (fins (9 :: (frameOf 0x0800 []).tail)) false) emState (fun t => t.get (pgEm 3) Rg.EM_DA_DROP == 1) = true
      ∧ holds (.frameReceive 3 (fins uFrame) false) emState
        (fun t => t.fh.ingress.map (fun y => (y.au, y.port, y.flow, y.bytes)) == [(0, 3, 7, uFrame)] && t.get64 (pgEm 3) Rg.EM_RX_OK_LO == 1) = true := by
  decide +kernel

/-- The frame waits since air count 900; the time is 2,948 or later. -/
def waiting (b : List Nat) (fh : Fh := Fh.zero) : State :=
  { emState EmPort.zero { fh with ingress := [⟨0, 3, 7, b, 900⟩] } with air := 2948 }

def rxBuf : RxBuf := ⟨0, 1, 3, 7, 1 <<< 24, 0, 0, 1, 800, [], 0, 0, 0, 0, 0, []⟩

theorem test_uplane_place :
    holds (.uplanePlace 0) (waiting (frameOf 0xAEFE [])) (fun t => t.fh.ingress == [] && (t.flow 0 7).cnt == [0, 0, 0, 0, 0, 0, 1, 0, 0]) = true
      ∧ holds (.uplanePlace 0) (waiting uFrame) (fun t => (t.flow 0 7).cnt == [0, 1, 0, 0, 0, 0, 0, 0, 0]) = true
      ∧ holds (.uplanePlace 0) (waiting uFrame { Fh.zero with closed := [⟨0, 3, 7, 1 <<< 24, 10000⟩] }) (fun t => (t.flow 0 7).cnt == [0, 0, 1, 0, 0, 0, 0, 0, 0])
        = true
      ∧ holds (.uplanePlace 0) (waiting uFrame { Fh.zero with rx := [rxBuf] }) (fun t => (t.flow 0 7).cnt == [1, 0, 0, 0, 0, 0, 0, 0, 0]) = true
      ∧ holds (.uplanePlace 0) { waiting uFrame with air := 2947 } (fun t => t.fh.ingress.length == 1) = true := by decide +kernel

/-- LOCKED in SERVICE mode with a running plan whose lease holds. -/
def sending (x : EmPort) : State :=
  withFields { emState x with dk := running nopEntry } [(pgSys, Rg.SYS_MODE_MODE, modeService, 0), (pgPylon, Rg.PY_STATE_STATE, 2, 0)]

def txF : TxFrame := ⟨9990, none, uFrame, 0, 9⟩

theorem witness_departure :
    (sending { EmPort.zero with det := [txF] }).txBlocked 3 txF = false ∧ (emState { EmPort.zero with det := [txF] }).txBlocked 3 txF = true
      ∧ (sending EmPort.zero).emFault 3 = false ∧ (sending EmPort.zero).portDrives (pgEm 3) 72 = true
      ∧ (sending EmPort.zero).detWithin 3 4096 = false ∧ emState.reaches kw (pgEm 3) 0x170 false = true := by decide +kernel

theorem test_frame_depart :
    holds (.frameDepart 3) (sending { EmPort.zero with det := [txF] })
        (fun t => (t.em 3).det == [] && (t.em 3).line == uFrame && (t.em 3).sent == 9990 && t.get64 (pgEm 3) Rg.EM_TX_OK_LO == 1) = true
      ∧ holds (.frameDepart 3) (emState { EmPort.zero with det := [txF] })
        (fun t => (t.em 3).det == [] && (t.em 3).line == [] && t.get (pgEm 3) Rg.EM_TX_DROP == 1) = true
      ∧ holds (.frameDepart 3) (sending { EmPort.zero with det := [txF], free := 9995 })
        (fun t => (t.em 3).det == [{ txF with due := 9995 }] && records up t (pgAu 0) Ev.TX_OVERLAP) = true
      ∧ holds (.frameDepart 3) (sending { EmPort.zero with dyn := [⟨[1, 2], 1, 7⟩] })
        (fun t => (t.em 3).dyn == [] && (t.em 3).line == [1, 2] ++ List.replicate 58 0 && (t.em 3).ts == [(0, 7)]) = true
      ∧ holds (.dynamicFrameSend 3 (fins [1, 2]) 1 7) emState (fun t => (t.em 3).dyn == [⟨[1, 2], 1, 7⟩]) = true
      ∧ holds (.tsPop kw 3) (emState { EmPort.zero with ts := [(77, 5), (78, 6)] })
        (fun t => t.rsp == ⟨0, 0x80000005⟩ && t.get64 (pgEm 3) Rg.EM_TS_LO == 77 && (t.em 3).ts == [(78, 6)]) = true
      ∧ holds (.tsPop kw 3) emState (fun t => t.rsp == ⟨0, 0⟩) = true := by decide +kernel

theorem test_link_and_tables :
    holds (.remoteFault 3 true) (emState EmPort.zero Fh.zero [(Rg.EM_STAT_LINK_UP, 1)])
        (fun t => t.flag (pgEm 3) Rg.EM_STAT_REMOTE_FAULT && !t.flag (pgEm 3) Rg.EM_STAT_LINK_UP) = true
      ∧ holds (.remoteFault 3 false) (emState EmPort.zero Fh.zero [(Rg.EM_STAT_REMOTE_FAULT, 1)])
        (fun t => !t.flag (pgEm 3) Rg.EM_STAT_REMOTE_FAULT && (t.em 3).clean == 10000) = true
      ∧ holds (.linkUp 3) { emState with uptime := 1966081 } (fun t => t.flag (pgEm 3) Rg.EM_STAT_LINK_UP) = true
      ∧ holds (.lpiEnter 3) { emState EmPort.zero Fh.zero [(Rg.EM_EEE_EN, 1), (Rg.EM_EEE_IDLE, 1)] with uptime := 20000 }
        (fun t => (t.em 3).lpi && t.flag (pgLane 5) Rg.LN_SLEEP_TX_REQ) = true
      ∧ holds (.lpiExit 3) (withFields (emState { EmPort.zero with lpi := true, dyn := [⟨[1], 0, 0⟩] }) [(pgLane 5, Rg.LN_SLEEP_TX_REQ, 1, 0)])
        (fun t => !(t.em 3).lpi && !t.flag (pgLane 5) Rg.LN_SLEEP_TX_REQ) = true
      ∧ holds (.lpiReceived 3 true) (emState EmPort.zero Fh.zero [(Rg.EM_EEE_EN, 1)]) (fun t => (t.em 3).rxLpi && t.get (pgLane 5) Rg.LN_SLEEP_RX_REQ == 1) = true
      ∧ holds (.lpiReceived 3 false) (emState { EmPort.zero with rxLpi := true }) (fun t => !(t.em 3).rxLpi) = true
      ∧ holds (.partnerLost 0 2) { emState EmPort.zero { Fh.zero with partners := [(2, ⟨5, 2 <<< 30, 9⟩)] } with uptime := 3000000000 }
        (fun t => bits (t.partner 0 2).ctl 31 30 == 3 && records up t (pgAu 0) Ev.PARTNER_LOST) = true
      ∧ holds (.auFlowIdxWrite kw 0 7) emState (fun t => t.get (pgAu 0) Rg.AU_FLOW_IDX == 7 && t.reg (pgAu 0) 0x114 == 0x80031234) = true
      ∧ holds (.auFlowWrite kw 0 1) (withRegs emState [(pgAu 0, 0x110, 9), (pgAu 0, 0x114, 5), (pgAu 0, 0x118, 6)])
        (fun t => (t.flow 0 9).w0 == 5 && (t.flow 0 9).w1 == 6) = true
      ∧ holds (.auPtIdxWrite kw 0 2) (emState EmPort.zero { Fh.zero with partners := [(2, ⟨5, 2 <<< 30, 9⟩)] })
        (fun t => t.get64 (pgAu 0) Rg.AU_PT_MAC_LO == 5 && t.reg (pgAu 0) 0x16C == 0x80000000) = true
      ∧ holds (.auPtWrite kw 0 1) (withRegs emState [(pgAu 0, 0x160, 2), (pgAu 0, 0x164, 5), (pgAu 0, 0x16C, 6)])
        (fun t => t.partner 0 2 == ⟨5, 6, 10000⟩) = true := by decide +kernel

/-- CP port 1 in a state of its start-up. -/
def cpState (st : Nat) (x : CpPort := CpPort.zero) (l : List (Fld × Nat) := []) : State :=
  let s := sending EmPort.zero
  let s : State := { s with fh := { s.fh with cp := [(1, { x with deg := 1 })] } }
  withFields s ((pgCp 1, Rg.CP_STAT_STATE, st, 0) :: l.map fun e => (pgCp 1, e.1, e.2, 0))

def cpBuf : RxBuf := { rxBuf with kind := 2, port := 1, openAir := 0, count := 4 }

theorem test_cpri_startup :
    holds (.cpriHfSync 1 77) (cpState 1 CpPort.zero [(Rg.CP_STAT_DEF, 2)])
        (fun t => t.get (pgCp 1) Rg.CP_STAT_STATE == 2 && t.get (pgCp 1) Rg.CP_RXOFS == 77 && t.get (pgCp 1) Rg.CP_STAT_DEF == 0) = true
      ∧ holds (.cpriHfSyncLoss 1) (cpState 5) (fun t => t.get (pgCp 1) Rg.CP_STAT_STATE == 1 && t.get (pgCp 1) Rg.CP_STAT_DEF == 2) = true
      ∧ holds (.cpriProtocolSetup 1) (cpState 2) (fun t => t.get (pgCp 1) Rg.CP_STAT_STATE == 3) = true
      ∧ holds (.cpriCmSetup 1 21) (cpState 3 CpPort.zero [(Rg.CP_CM, 21)]) (fun t => t.get (pgCp 1) Rg.CP_STAT_STATE == 4) = true
      ∧ holds (.cpriGoF kw 1 1) (cpState 4) (fun t => t.get (pgCp 1) Rg.CP_STAT_STATE == 5 && irqSet t (pgCp 1) 1) = true := by decide +kernel

theorem test_cpri_frames :
    holds (.cpriBasicFrameRelease 1 none 5) (cpState 5) (fun t => t.get (pgCp 1) Rg.CP_CNT 0 == 1 && t.get (pgCp 1) Rg.CP_CNT 1 == 1
        && records up t (pgCp 1) Ev.RX_LATE) = true
      ∧ holds (.cpriBasicFrameRelease 1 (some 32769) 5) (cpState 5) (fun t => t.get (pgCp 1) Rg.CP_CNT 2 == 1 && records up t (pgCp 1) Ev.RX_EARLY) = true
      ∧ holds (.cpriBasicFrameRelease 1 (some 9) 5) { cpState 5 with fh := { (cpState 5).fh with rx := [cpBuf] } }
        (fun t => t.fh.rx.map (fun y => (y.next, y.pend.length)) == [(1, 1)] && t.get (pgCp 1) Rg.CP_CNT 0 == 0) = true
      ∧ holds (.cpriBasicFrameSend 1) (cpState 4 { CpPort.zero with line := 9, sdi := true }) (fun t => (t.cp 1).line == 0 && !(t.cp 1).sdi) = true
      ∧ holds (.cpriControlWordReceive 1 false true 0x55) (cpState 5) (fun t => t.get (pgCp 1) Rg.CP_CW_RX == 0x55 && (t.cp 1).sdiIn
          && records up t (pgCp 1) Ev.CP_SDI) = true := by decide +kernel

/-- The transmit page holds one container of stream 3 at bit 8, and its data stand ready. -/
def cpSend : State :=
  (withRegs (cpState 5 { CpPort.zero with data := [⟨3, 1024, [0x00010002], 0⟩] })
    [(pgCp 1, 0xA00, 2 ^ 31 + 3 <<< 24 + 8), (pgCp 1, 0x40C, 2 ^ 31 + 16 <<< 16 + 1)])

theorem witness_cpri_send :
    { cpSend with air := 1024 }.containers 1 true 0 = [(3, 8, 32)] ∧ stEn (cpSend.cpStream 1 true 3) = true ∧ cpSend.leaseHolds = true
      ∧ cpSend.planTx = true ∧ cpSend.portDrives (pgCp 1) 72 = true := by decide +kernel

theorem test_cpri_pages :
    holds (.cpriTsiSwitchRequest kw 1 1) { cpState 5 with air := 5 } (fun t => (t.cp 1).tsi == some 5) = true
      ∧ holds (.pageSwitched 1) { cpState 5 { CpPort.zero with tsi := some 5 } with air := 131072 }
        (fun t => (t.cp 1).tsi == none && t.get (pgCp 1) Rg.CP_STAT_ACT_PAGE == 1 && (t.cp 1).rxSwitch == some 131072 && records up t (pgCp 1) Ev.PAGE_SWITCHED)
        = true
      ∧ holds (.pageSwitched 1) { (cpState 5 { CpPort.zero with tsi := some 5 }).setReg (pgCp 1) 0xC00 (BitVec.ofNat 32 (2 ^ 31 + 8000)) with air := 131072 }
        (fun t => (t.cp 1).tsi == none && t.get (pgCp 1) Rg.CP_STAT_ACT_PAGE == 0 && records up t (pgCp 1) Ev.PAGE_BAD) = true
      ∧ holds (.cpDeg 1 1) { cpState 5 with air := 2000000000 } (fun t => t.get (pgCp 1) Rg.CP_STAT_DEF == 4 && (t.cp 1).deg == 2000000000) = true
      ∧ holds (.cpriSubstEnd 1) { cpState 5 { CpPort.zero with subst := true } with air := 131072 * 65536 } (fun t => !(t.cp 1).subst) = true
      ∧ holds (.cpPartnerLost 1) { cpState 5 { CpPort.zero with fault := some 9 } with uptime := 3000000000 }
        (fun t => (t.cp 1).lost && records up t (pgCp 1) Ev.CP_PARTNER_LOST) = true := by decide +kernel


/-! ## The Trestle -/

/-- Queue 5 delivers to template 2, operand 0; template 2 takes `n` operands and sends its tasks to `dest`. -/
def trState (n dest tgt : Nat) (f : Trestle → Trestle := id) : State :=
  { up with
    uptime := 20000
    tr := f { Trestle.zero with
      queues := [(5, ⟨2 ^ 31 + 1 <<< 30 + 2 <<< 16 + 9, 4⟩)]
      temps := [(2, ⟨2 ^ 31 + dest <<< 28 + (n - 1) <<< 24 + 3 <<< 16 + tgt, 0, 0, 0, 0x55, 0⟩)] } }

/-- A token of queue 5 with key 0x77. -/
def tok : Token := ⟨5, 9, [0, 0x77] ++ List.replicate 14 0, 216, none⟩

def taskA : Task := ⟨2, 0x77, 9, 0, none, [[0, 0x77] ++ List.replicate 14 0], 0⟩

theorem witness_tokens :
    (trState 1 0 0 fun t => { t with internal := [tok] }).canonical = true ∧ trCanonical (trState 1 0 0) = true
      ∧ (trState 1 0 0).tokenHeld tok = false ∧ tokensPass (trState 1 0 0) = true ∧ (trState 1 0 0).tokenCheck tok = 0
      ∧ (trState 1 0 0).ringTurn = none ∧ (trState 1 0 0).tokenCheck { tok with queue := 6 } = Ev.Q_INVALID
      ∧ (trState 1 0 0 fun t => { t with rings := [(7, ⟨0, 8, 5, 0, [(9, tok.words)]⟩)] }).ringTurn = some 7
      ∧ up.reaches kw pgTr0 0x140 true = true := by decide +kernel

theorem test_token_admit :
    holds .tokenAdmit (trState 1 0 0 fun t => { t with internal := [tok] })
        (fun t => t.tr.internal == [] && t.tr.ready.map (fun x => (x.tt, x.key, x.ctx)) == [(2, 0x77, 9)] && (t.queue 5).count == 5 && t.tr.lastAdmit == 20001)
        = true
      ∧ holds .tokenAdmit (trState 2 0 0 fun t => { t with fifo := [tok] })
        (fun t => t.tr.fifo == [] && t.tr.ready == [] && t.tr.entries.map (fun x => (x.tt, x.key, x.ctx, x.ops.length)) == [(2, 0x77, 9, 2)]) = true
      ∧ holds .tokenAdmit (trState 2 0 0 fun t => { t with fifo := [tok], entries := [⟨2, 0x77, 9, [[], [1]], 0⟩] })
        (fun t => t.tr.entries == [] && t.tr.ready.map (fun x => x.ops.map List.length) == [[16, 1]]) = true
      ∧ holds .tokenAdmit (trState 1 0 0 fun t => { t with fifo := [{ tok with queue := 6 }] })
        (fun t => t.tr.fifo == [] && t.tr.ready == [] && records up t pgTr0 Ev.Q_INVALID) = true
      ∧ holds .tokenAdmit (trState 1 0 0 fun t => { t with rings := [(7, ⟨0, 8, 5, 0, [(9, tok.words)]⟩)] })
        (fun t => (Sparse.get ring0 t.tr.rings 7).items == [] && t.tr.lastRing == 7 && t.tr.ready.length == 1) = true
      ∧ holds .tokenAdmit (trState 1 0 0 fun t => { t with internal := [tok], lastAdmit := 20000 }) (fun t => t.tr.internal == [tok]) = true := by
  decide +kernel

theorem test_send_and_expiry :
    holds (.trSend ⟨217, 3, 9, 0⟩ 5) (withRegs up [(pgTr0, 0x444, 0x77)])
        (fun t => t.tr.fifo == [{ tok with source := 217 }]) = true
      ∧ holds (.trSend kw 5) up (fun t => t.tr.fifo.length == 1) = true
      ∧ holds (.trSend ⟨235, 3, 0, 0⟩ 5) up (fun t => t.tr.fifo == [] && records up t pgTr0 Ev.BAD_TOKEN) = true
      ∧ holds .matchExpiry { trState 2 0 0 fun t => { t with entries := [⟨2, 0x77, 9, [[], [1]], 0⟩, ⟨2, 0x78, 9, [[], [1]], 5⟩] } with air := 3 * 983040 }
        (fun t => t.tr.entries.map (·.key) == [0x78] && records up t pgTr1 Ev.EXPIRED) = true := by decide +kernel

theorem witness_tasks :
    (trState 1 2 5 fun t => { t with ready := [taskA], hosts := [(5, ⟨0, 0, 2 ^ 31 + 4, 0, 0, []⟩)] }).nextTask [taskA] [] = some (taskA, .host 5)
      ∧ (withFields (trState 1 0 8 fun t => { t with ready := [taskA] }) [(pgTr2, Rg.TR_C_CFG_EN, 1, 3)]).nextTask [taskA] [] = some (taskA, .core 3)
      ∧ up.reaches kw pgTr2 0x10C false = true ∧ up.reaches kw pgTr2 0x200 true = true ∧ up.reaches kw pgTr2 0x204 true = true
      ∧ up.reaches kw pgTr2 0x280 false = true := by decide +kernel

/-- The descriptor of taskA's engine job is at deck address 0x0A004000; its window at unit 0x3001 is open. -/
def engTask : Task := { taskA with ops := [[0, 0x77, 0, 0, 0x0A004000] ++ List.replicate 11 0] }
def lentState : State :=
  let s := trState 1 1 0x30 fun t => { t with ready := [engTask], temps := [(2, ⟨2 ^ 31 + 1 <<< 28 + 0x30, 0, 2, 0, 0x55, 0⟩)] }
  { s with dk := { Deck.zero with lent := [(0x3001, 19000, 90000)] } }

theorem witness_engine_task : lentState.nextTask [engTask] [] = some (engTask, .eng 0x3001 20096) := by decide +kernel

theorem test_task_place :
    holds .taskPlace lentState (fun t => t.tr.ready == [] && t.tr.jobs == [⟨0x3001, 20096, engTask⟩]) = true
      ∧ holds .taskPlace (trState 1 2 5 fun t => { t with ready := [taskA], hosts := [(5, ⟨0, 0, 2 ^ 31 + 4, 0, 0, []⟩)] })
        (fun t => t.tr.ready == [] && (t.hostRing 5).pidx == 1 && (t.hostRing 5).items == [(0, taskA)]) = true
      ∧ holds .taskPlace (trained (withFields (trState 1 0 8 fun t => { t with ready := [{ taskA with ctx := 0 }] }) [(pgTr2, Rg.TR_C_CFG_EN, 1, 3),
          (pgTr2, Rg.TR_C_AREA_LO, 0x20000, 3)]))
        (fun t => t.tr.ready == [] && t.tr.held == [⟨3, 0, false, 20000, { taskA with ctx := 0 }⟩]) = true := by decide +kernel

def heldA : Held := ⟨3, 7, false, 19000, taskA⟩

theorem test_task_end :
    holds (.taskPop kw 3) (trState 1 0 8 fun t => { t with held := [heldA] })
        (fun t => t.rsp == ⟨0, 0x800000C7⟩ && t.tr.held == [{ heldA with popped := true }] && t.get pgTr2 Rg.TR_C_WAIT 3 == 1000) = true
      ∧ holds (.taskPop kw 3) up (fun t => t.rsp == ⟨0, 0⟩) = true
      ∧ holds (.trDone kw 0xC7) (trState 1 0 8 fun t => { t with held := [heldA] }) (fun t => t.tr.held == [] && t.get pgTr2 Rg.TR_C_DONE 3 == 1) = true
      ∧ holds (.trDone kw 0xC6) (trState 1 0 8 fun t => { t with held := [heldA] }) (fun t => t.tr.held == [heldA] && records up t pgTr2 Ev.BAD_DONE) = true
      ∧ holds (.trCFlush kw 8) (trState 1 0 8 fun t => { t with held := [heldA, { heldA with slot := 8, popped := true }] })
        (fun t => t.tr.held == [] && t.tr.ready == [taskA] && records up t pgTr2 Ev.TASK_DROP) = true
      ∧ holds (.trWaitRead kw 3) (withFields up [(pgTr2, Rg.TR_C_WAIT, 9, 3)]) (fun t => t.rsp == ⟨0, 9⟩ && t.get pgTr2 Rg.TR_C_WAIT 3 == 0) = true := by
  decide +kernel

/-- The link to the host is up, virtual function 4 is live, and its first window delivers to queue 5. -/
def vfState : State :=
  let s := trState 1 2 9 fun t => { t with vfs := [(4, ⟨2 ^ 31 + 5, 0, 0, 0, 0⟩)], hosts := [(9, ⟨0, 0, 2 ^ 31 + 4, 0, 2, [(0, taskA), (1, taskA)]⟩)] }
  withFields { s with ab := { Abut.zero with pcie := { Pcie.zero with sriov := true, ctx := [(4, 9)], bme := [(4, 1)] } } } [(pgPcie, Rg.PCIE_STAT_LINK_UP, 1, 0)]

theorem witness_host_functions : vfState.canonical = true ∧ trCanonical vfState = true ∧ vfState.vfLive 4 = true ∧ vfState.linkUp = true := by
  decide +kernel

theorem test_host_functions :
    holds (.vfTokenWrite 4 0 0 ([0, 0, 0, 0, 0x77] ++ List.replicate 59 0)) vfState (fun t => t.tr.fifo == [{ tok with source := 233 }]) = true
      ∧ holds (.vfTokenWrite 4 0 0 [1]) vfState (fun t => t.tr.fifo == [] && (t.vfWin 4).drop == 1 && records up t pgTr3 Ev.VF_DROP) = true
      ∧ holds (.vfTokenWrite 4 1 0 (List.replicate 64 0)) vfState (fun t => t.tr.fifo == [] && (t.vfWin 4).drop == 1) = true
      ∧ holds (.vfCidxWrite 4 true [1, 0, 0, 0]) vfState (fun t => (t.hostRing 9).cidx == 1 && (t.hostRing 9).items == [(1, taskA)]) = true
      ∧ holds (.flr 4) vfState (fun t => t.ab.pcie.bme == [] && (t.hostRing 9).items == [] && (t.hostRing 9).cfg == 4 && (t.vfWin 4).q0 == 5
          && records up t pgPcie Ev.FLR) = true := by decide +kernel

/-- Pool 2 has four buffers of 64 bytes, of which context 9 owns 0 and context 8 owns 1. -/
def poolTr : State := trState 1 0 0 fun t => { t with pools := [(2, ⟨0, 2 ^ 31 + 4, 0, [(0, 10), (1, 9)]⟩)] }

theorem witness_buffers :
    poolTr.canonical = true ∧ trCanonical poolTr = true ∧ Sparse.wf nat0 (poolTr.pool 2).owner = true ∧ (poolTr.pool 2).valid = true
      ∧ up.reaches kw pgTr3 0x208 false = true ∧ up.reaches kw pgTr3 0x240 true = true ∧ up.reaches kw pgTr3 0x244 true = true
      ∧ up.reaches kw pgTr3 0x128 true = true := by decide +kernel

/-- Core 0 in machine mode under context 9. -/
def core9 : Who := ⟨216, 3, 9, 0⟩

theorem test_buffers :
    holds (.bufferAlloc core9 2) poolTr (fun t => t.rsp == ⟨0, 0x80020002⟩ && (t.pool 2).owner == [(0, 10), (1, 9), (2, 10)]) = true
      ∧ holds (.bufferAlloc core9 3) poolTr (fun t => t.rsp == ⟨0, 0⟩ && irqSet t pgTr3 1) = true
      ∧ holds (.bufferFree core9 0x20000) poolTr (fun t => (t.pool 2).owner == [(1, 9)]) = true
      ∧ holds (.bufferFree core9 0x20001) poolTr (fun t => (t.pool 2).owner == [(0, 10), (1, 9)] && records up t pgTr3 Ev.FOREIGN_FREE) = true
      ∧ holds (.bufferFree core9 0x20002) poolTr (fun t => records up t pgTr3 Ev.DOUBLE_FREE) = true
      ∧ holds (.bufferFree core9 0x20004) poolTr (fun t => records up t pgTr3 Ev.BAD_HANDLE) = true
      ∧ holds (.bufferGive core9 0x00720001) poolTr (fun t => records up t pgTr3 Ev.FOREIGN_FREE) = true
      ∧ holds (.bufferGive core9 0x00720002) poolTr (fun t => records up t pgTr3 Ev.DOUBLE_FREE) = true
      ∧ holds (.bufferGive core9 0x00720004) poolTr (fun t => records up t pgTr3 Ev.BAD_HANDLE) = true
      ∧ holds (.bufferGive core9 0x00720000) poolTr (fun t => (t.pool 2).owner == [(0, 8), (1, 9)]) = true
      ∧ holds (.trPoolCfgWrite kw 3 0x81000008) poolTr (fun t => (t.pool 3).valid && (t.pool 3).count == 8 && (t.pool 3).size == 128) = true
      ∧ holds (.trPoolCfgWrite kw 2 0x81000008) poolTr (fun t => (t.pool 2).cfg == 2 ^ 31 + 4) = true := by decide +kernel


/-! ## Tables behind an index register -/

/-- A state whose tables hold something at entry 5, or at what entry 5 belongs to. -/
def tables : State :=
  let tr : Trestle := { Trestle.zero with
    queues := [(5, ⟨0x81230456, 9⟩)], rings := [(5, ⟨64, 8, 3, 2, [(1, [7])]⟩)], temps := [(5, ⟨1, 2, 3, 4, 5, 6⟩)]
    pools := [(0, ⟨0, 2 ^ 31 + 9, 0, [(5, 10)]⟩)], hosts := [(5, ⟨512, 0x100000004, 7, 8, 9, []⟩)], vfs := [(5, ⟨1, 2, 3, 4, 5⟩)] }
  let ab : Abut := { Abut.zero with
    hub := ⟨[(5, 0x80100003)], [(5, 1)], []⟩
    pcie := { Pcie.zero with ctx := [(5, 9)], wins := [(20, 1), (23, 4)] } }
  { up with
    tr := tr
    ab := ab
    ts := { up.ts with slots := [(5, ⟨0x80000001, 4, 64, 3, 2, 1⟩)] } }

/-- The command shows its entry 5. -/
def shows5 (e : IndexRow) : Bool :=
  holds (e.cmd kw 5) tables fun t => (e.shows tables 5).all fun f => t.get e.page f.1 == f.2 % 2 ^ (f.1.hi + 1 - f.1.lo)

theorem witness_index_rows : ∀ e, IndexRows e → tables.reaches kw e.page e.off true = true := by
  intro e h
  simp only [IndexRows, List.mem_append, List.mem_cons, List.not_mem_nil, or_false] at h
  rcases h with (h | h) | h <;> rcases h with rfl | rfl | rfl | rfl | rfl | rfl | rfl <;> decide +kernel

theorem test_index_rows : ∀ e, IndexRows e → shows5 e = true := by
  intro e h
  simp only [IndexRows, List.mem_append, List.mem_cons, List.not_mem_nil, or_false] at h
  rcases h with (h | h) | h <;> rcases h with rfl | rfl | rfl | rfl | rfl | rfl | rfl <;> decide +kernel

/-- The staging registers of every table name entry 7. -/
def staged : State :=
  withRegs up
    [(pgTr0, 0x100, 7), (pgTr0, 0x104, 0x81230456), (pgTr0, 0x110, 7), (pgTr0, 0x114, 0x00080040), (pgTr0, 0x118, 3), (pgTr1, 0x100, 7), (pgTr1, 0x108, 2),
      (pgTr3, 0x300, 7), (pgTr3, 0x304, 0x3FF), (pgTr3, 0x314, 5), (pgTr3, 0x340, 7), (pgTr3, 0x348, 6), (pgHub, 0x100, 7), (pgPcie, 0x120, 7),
      (pgPcie, 0x124, 9), (pgPool, 0x170, 7), (pgPool, 0x178, 0x7F), (pgPool, 0x1C0, 7), (pgPool, 0x1C8, 99), (pgParapet, 0x170, 7),
      (pgParapet, 0x178, 0x55), (pgToll, 0x110, 7), (pgToll, 0x118, 0x1F), (pgToll, 0x128, 3)]

theorem witness_apply_rows : staged.canonical = true ∧ tablesCanonical staged = true ∧ tablesCanonical tables = true ∧ staged.planRings = []
    ∧ staged.entriesOf 7 = 0 ∧ staged.readyOf 7 = 0 ∧ staged.get pgHub Rg.EH_IDX = 7 ∧ staged.ts.run = none := by decide +kernel

theorem witness_apply_reaches : ∀ e, ApplyRows e → staged.reaches kw e.page e.off true = true := by
  intro e h
  simp only [ApplyRows, List.mem_append, List.mem_cons, List.not_mem_nil, or_false] at h
  rcases h with h | h <;> rcases h with rfl | rfl | rfl | rfl | rfl | rfl | rfl <;> decide +kernel

theorem test_apply_rows :
    holds (.trQWrite kw) staged (fun t => (t.queue 7).cfg == 0x81230456) = true
      ∧ holds (.trRWrite kw) staged (fun t => let r := Sparse.get ring0 t.tr.rings 7; r.base == 64 && r.size == 8 && r.queue == 3) = true
      ∧ holds (.trRWrite kw) (withFields { staged with dk := { running nopEntry with slot0 := some { planOf nopEntry with rings := [(7, 4)] } } } [])
        (fun t => t.tr.rings == [] && records up t pgTr0 Ev.RING_CFG) = true
      ∧ holds (.trTWrite kw) staged (fun t => (t.temp 7).flow == 2) = true
      ∧ holds (.trTWrite kw) { staged with tr := { Trestle.zero with entries := [⟨7, 0, 0, [[1]], 0⟩] } }
        (fun t => t.tr.temps == [] && records up t pgTr1 Ev.TT_BUSY) = true
      ∧ holds (.trHWrite kw) staged (fun t => (t.hostRing 7).base == 512 && (t.hostRing 7).cfg == 5) = true
      ∧ holds (.trVWrite kw) staged (fun t => (t.vfWin 7).q1 == 6) = true
      ∧ holds (.ehRouteWrite kw 0xFFF00003) staged (fun t => bits (t.route 7) 31 20 == 0xFFF && bits (t.route 7) 10 0 == 3) = true
      ∧ holds (.pcieVfWrite kw) staged (fun t => t.ab.pcie.ctx == [(7, 9)]) = true
      ∧ holds (.poolGWrite kw) staged (fun t => (t.guard 7).mir == 0x40) = true
      ∧ holds (.poolOpWrite kw 1) staged (fun t => (t.opSlot 7).t == 99) = true
      ∧ holds (.saWrite kw 1) staged (fun t => (t.sa 0 7).sci == 0x55) = true
      ∧ holds (.tsSlotWrite kw 1) staged (fun t => (t.tsSlot 7).list == 0x1C && (t.tsSlot 7).depth == 3) = true := by decide +kernel


/-! ## The short-vector extension -/

/-- Hart 5 runs in machine mode with these registers. -/
def hartState (q x : List (Nat × Nat)) (pc : Nat := 0x1000) (csr : List (Nat × Nat) := []) : State :=
  { up with ab := { Abut.zero with harts := [(5, { Hart.zero with running := true, pc := pc, x := x, q := q, csr := csr })] } }

/-- q1: halves −2, 3, 0x7FFF, …; q2: halves 5, −4, 0x7FFF, …; x3 = 0x10007; q4 a mask. -/
def vecState : State :=
  hartState [(1, 0xFFFE + 3 <<< 16 + 0x7FFF <<< 32 + 0x8000 <<< 112), (2, 5 + 0xFFFC <<< 16 + 0x7FFF <<< 32 + 0x8000 <<< 112), (4, 0xFF00FF00)]
    [(3, 0x10007)]

theorem witness_hart : vecState.canonical = true ∧ Sparse.wf nat0 (vecState.hart 5).q = true ∧ Sparse.wf nat0 (vecState.hart 5).x = true
    ∧ Sparse.wf csrReset (vecState.hart 5).csr = true ∧ (vecState.hart 5).running = true ∧ vecState.domOn 9 = true ∧ (vecState.hart 5).fs = 1
    ∧ (vecState.hart 5).get csrXsvstart = 0 := by decide +kernel

/-- What the instruction leaves in q6, and XSVSAT. -/
def inQ6 (c : Fin 16 → Fin 4 → Fin 8 → Fin 32 → Fin 32 → Fin 32 → Instr) (ew : Fin 4) (fmt : Fin 8) (s2 : Fin 32) (v sat : Nat) (s : State := vecState) : Bool :=
  holds (c 5 ew fmt s2 1 6) s fun t => (t.hart 5).vec 6 == v && (t.hart 5).get csrXsvsat == sat && (t.hart 5).pc == 0x1004 && (t.hart 5).fs == 3

theorem test_xsv_each :
    inQ6 .xsvVadd 1 0 2 (3 + 0xFFFF <<< 16 + 0xFFFE <<< 32) 0 = true
      ∧ inQ6 .xsvVsub 1 0 2 (0xFFF9 + 7 <<< 16) 0 = true
      ∧ inQ6 .xsvVadds 1 0 2 (3 + 0xFFFF <<< 16 + 0x7FFF <<< 32 + 0x8000 <<< 112) 1 = true
      ∧ inQ6 .xsvVsubs 1 0 2 (0xFFF9 + 7 <<< 16) 0 = true
      ∧ inQ6 .xsvVmul 1 0 2 (0xFFF6 + 0xFFF4 <<< 16 + 1 <<< 32) 0 = true
      ∧ inQ6 .xsvVmulh 1 0 2 (0xFFFF + 0xFFFF <<< 16 + 0x3FFF <<< 32 + 0x4000 <<< 112) 0 = true
      ∧ inQ6 .xsvVmulq 1 0 2 (0 + 0 <<< 16 + 0x7FFE <<< 32 + 0x7FFF <<< 112) 1 = true
      ∧ inQ6 .xsvVmin 1 0 2 (0xFFFE + 0xFFFC <<< 16 + 0x7FFF <<< 32 + 0x8000 <<< 112) 0 = true
      ∧ inQ6 .xsvVmax 1 0 2 (5 + 3 <<< 16 + 0x7FFF <<< 32 + 0x8000 <<< 112) 0 = true
      ∧ inQ6 .xsvVminu 1 0 2 (5 + 3 <<< 16 + 0x7FFF <<< 32 + 0x8000 <<< 112) 0 = true
      ∧ inQ6 .xsvVmaxu 1 0 2 (0xFFFE + 0xFFFC <<< 16 + 0x7FFF <<< 32 + 0x8000 <<< 112) 0 = true := by decide +kernel

theorem test_xsv_bits :
    inQ6 .xsvVand 1 0 2 (4 + 0 <<< 16 + 0x7FFF <<< 32 + 0x8000 <<< 112) 0 = true
      ∧ inQ6 .xsvVor 1 0 2 (0xFFFF + 0xFFFF <<< 16 + 0x7FFF <<< 32 + 0x8000 <<< 112) 0 = true
      ∧ inQ6 .xsvVxor 1 0 2 (0xFFFB + 0xFFFF <<< 16) 0 = true
      ∧ inQ6 .xsvVsll 1 2 4 (0xFFE0 + 0x30 <<< 16 + 0xFFF0 <<< 32) 0 = true
      ∧ inQ6 .xsvVsrl 1 2 4 (0x0FFF + 0 <<< 16 + 0x7FF <<< 32 + 0x800 <<< 112) 0 = true
      ∧ inQ6 .xsvVsra 1 2 4 (0xFFFF + 0 <<< 16 + 0x7FF <<< 32 + 0xF800 <<< 112) 0 = true
      ∧ inQ6 .xsvVseq 1 0 2 (0xFFFF <<< 32 + 0xFFFFFFFFFFFFFFFFFFFF <<< 48) 0 = true
      ∧ inQ6 .xsvVslt 1 0 2 0xFFFF 0 = true ∧ inQ6 .xsvVsltu 1 0 2 (0xFFFF <<< 16) 0 = true
      ∧ inQ6 .xsvVadd 1 1 3 (5 + 10 <<< 16 + 0x8006 <<< 32 + 7 <<< 48 + 7 <<< 64 + 7 <<< 80 + 7 <<< 96 + 0x8007 <<< 112) 0 = true
      ∧ inQ6 .xsvVcmulq 1 0 2 (0 + 0 <<< 16 + 0x7FFE <<< 32 + 0x8000 <<< 96) 0 = true := by decide +kernel

theorem test_xsv_others :
    inQ6 .xsvVsel 0 0 2 (5 + 0xFFFC <<< 16 + 0x7FFF <<< 32 + 0x8000 <<< 112) 0 = true
      ∧ inQ6 .xsvVredsum 1 0 0 0 0 = true
      ∧ holds (.xsvVdup 5 1 3 0 3 6) vecState (fun t => (t.hart 5).vec 6 == 7 * 0x00010001000100010001000100010001) = true
      ∧ holds (.xsvVmvqx 5 1 3 2 3 1) vecState (fun t => (t.hart 5).vec 1 == 0xFFFE + 3 <<< 16 + 7 <<< 32 + 0x8000 <<< 112) = true
      ∧ holds (.xsvVmvxq 5 1 3 7 1 9) vecState (fun t => (t.hart 5).reg 9 == 2 ^ 64 - 0x8000 && (t.hart 5).pc == 0x1004) = true
      ∧ holds (.xsvVperm 5 0 0 1 2 6) vecState (fun t => (t.hart 5).vec 6 % 65536 == 0) = true := by decide +kernel

theorem test_xsv_illegal :
    holds (.xsvVmulq 5 0 0 2 1 6) vecState (fun t => (t.hart 5).vec 6 == 0 && (t.hart 5).get csrMcause == 2 && (t.hart 5).get csrMepc == 0x1000) = true
      ∧ holds (.xsvVadd 5 1 0 2 1 6) (hartState [(1, 1)] [] 0x1000 [(csrXsvstart, 1)]) (fun t => (t.hart 5).get csrMcause == 2) = true
      ∧ holds (.xsvVadd 5 1 3 2 1 6) vecState (fun t => (t.hart 5).get csrMcause == 2) = true
      ∧ holds (.xsvVmvxq 5 1 3 8 1 9) vecState (fun t => (t.hart 5).reg 9 == 0 && (t.hart 5).get csrMcause == 2) = true := by decide +kernel


/-! ## Dynamic accesses, harts and clusters -/

theorem witness_dynamic :
    isBulk 0x1000 = true ∧ (trained up).dynRefusal kw 0x1000 8 .write = (0, 0) ∧ (up.dynRefusal kw 0x1000 0 .write).1 = 3 ∧ noErrors up = true
      ∧ tablesCanonical up = true ∧ (dynLines kw .write false 10000 64 0x1038 16 0).map (fun l => (l.addr, l.len)) = [(0x1038, 8), (0x1040, 8)]
      ∧ up.bankTaken 0x1000 = false ∧ up.asleep (memDomain 0x1000) = false := by decide +kernel

/-- A line waits at its bank; memory holds 5 at 0x1000. -/
def dynState (k : DynKind) (data : Nat) : State :=
  { up with mem := memPut [] 0x1000 8 5, mu := { Mem.zero with dyn := [⟨kw, 0x1000, 8, k, data, false, 9000⟩] } }

theorem test_dynamic :
    holds (.dynamicMemoryAccess kw 0x1000 0 .write 7 false) up (fun t => t.rsp == ⟨3, 0⟩ && t.mu.dyn == [] && records up t pgSys Ev.ACCESS_WIDTH) = true
      ∧ holds (.dynamicMemoryAccess kw 0x1038 16 .write (2 ^ 64 + 7) false) (trained up)
        (fun t => t.mu.dyn == [⟨kw, 0x1038, 8, .write, 7, false, 10000⟩, ⟨kw, 0x1040, 8, .write, 1, false, 10000⟩]) = true
      ∧ holds .dynamicAccessServed (dynState .read 0) (fun t => t.rsp == ⟨0, 5⟩ && t.mu.dyn == [] && t.load 0x1000 8 == 5) = true
      ∧ holds .dynamicAccessServed (dynState .write 0x102) (fun t => t.rsp == ⟨0, 0⟩ && t.mu.dyn == [] && t.load 0x1000 8 == 0x102) = true
      ∧ holds .dynamicAccessServed (dynState (.amo 1 0) (2 ^ 64 - 2)) (fun t => t.rsp == ⟨0, 5⟩ && t.load 0x1000 8 == 3) = true
      ∧ holds .dynamicAccessServed (dynState (.amo 5 0) (2 ^ 64 - 2)) (fun t => t.load 0x1000 8 == 2 ^ 64 - 2) = true := by decide +kernel

/-- Hart 5 runs bare; x7 = 0x1008 in a cached line that holds 0x80000005 there, x8 = 3. -/
def bareState (resv : List (Nat × Nat)) (l : List (Nat × Nat) := []) : State :=
  let x : Hart := { Hart.zero with running := true, pc := 0x1000, x := [(7, 0x1008), (8, 3)] ++ l, q := [(4, 0x1111), (5, 0x2222)] }
  { trained up with ab := { Abut.zero with harts := [(5, x)], cache := [⟨0x40, 0x80000005 <<< 64, false, 0⟩] }, mu := { Mem.zero with resv := resv } }

theorem witness_bare :
    (bareState []).canonical = true ∧ ((bareState []).hart 5).priv = 3 ∧ (((bareState []).hart 5).get csrMstatus).testBit 17 = false
      ∧ (List.range 16).all (fun i => ((bareState []).hart 5).pmpcfg i == 0) = true ∧ (bareState []).cached 0x1008 = some ⟨0x40, 0x80000005 <<< 64, false, 0⟩
      ∧ Sparse.wf nat0 ((bareState []).hart 5).q = true ∧ Sparse.wf csrReset ((bareState []).hart 5).csr = true := by decide +kernel

theorem test_hart_atomics :
    holds (.lrSc 5 false false 7 0 9) (bareState []) (fun t => (t.hart 5).reg 9 == 0xFFFFFFFF80000005 && t.mu.resv == [(221, 0x40)] && (t.hart 5).pc == 0x1004) = true
      ∧ holds (.lrSc 5 true false 7 8 9) (bareState [(221, 0x40), (222, 0x40)]) (fun t => (t.hart 5).reg 9 == 0 && t.peek 0x1008 4 == 3 && t.mu.resv == []) = true
      ∧ holds (.lrSc 5 true false 7 8 9) (bareState [(222, 0x40)]) (fun t => (t.hart 5).reg 9 == 1 && t.peek 0x1008 4 == 0x80000005) = true
      ∧ holds (.coreAmo 5 1 false 7 8 9) (bareState []) (fun t => (t.hart 5).reg 9 == 0xFFFFFFFF80000005 && t.peek 0x1008 4 == 0x80000008) = true
      ∧ holds (.coreAmo 5 1 true 8 8 9) (bareState []) (fun t => (t.hart 5).get csrMcause == 6 && (t.hart 5).get csrMtval == 3) = true := by decide +kernel

theorem test_hart_others :
    holds (.cbo 5 0 7) (bareState []) (fun t => t.cached 0x1008 == none && (t.hart 5).pc == 0x1004) = true
      ∧ holds (.cbo 5 1 7) { bareState [] with ab := { (bareState []).ab with cache := [⟨0x40, 6, true, 5⟩] } }
        (fun t => t.cached 0x1008 == some ⟨0x40, 6, false, 5⟩ && t.load 0x1000 8 == 6) = true
      ∧ holds (.fence 5) (bareState []) (fun t => (t.hart 5).pc == 0x1004) = true
      ∧ holds (.wfi 5) (bareState []) (fun t => (t.hart 5).wfi && (t.hart 5).pc == 0x1004) = true
      ∧ holds (.xsvLoad 5 1 true 2 0 7 0 4) (bareState [])
        (fun t => (t.hart 5).vec 4 == 0x80000005 && (t.hart 5).vec 5 == 0 && (t.hart 5).reg 7 == 0x1028) = true
      ∧ holds (.xsvStore 5 1 true 1 0 7 0 4) (bareState []) (fun t => t.peek 0x1008 4 == 0x22221111 && t.mem == []) = true := by decide +kernel

theorem test_clusters :
    holds (.coreHold kw 5) (bareState [(221, 0x40)]) (fun t => !(t.hart 5).running && t.mu.resv == [] && (t.get (pgCluster 1) Rg.CL_RST).testBit 1) = true
      ∧ holds (.coreRelease kw 5) (withFields up [(pgCluster 1, Rg.CL_BOOT_LO, 0x2003, 0), (pgCluster 1, Rg.CL_RST, 15, 0)])
        (fun t => (t.hart 5).running && (t.hart 5).pc == 0x2000 && t.get (pgCluster 1) Rg.CL_RST == 13) = true
      ∧ holds (.mtimecmpMatch 5) (withFields { bareState [] with air := 9 } [(pgCluster 1, Rg.CL_MTIMECMP_LO, 9, 1), (pgCluster 1, Rg.CL_MTIMECMP_HI, 0, 1)]) (fun t => (t.hart 5).mti) = true
      ∧ holds (.clusterPlevelRequest kw 1 3) up (fun t => t.get (pgCluster 1) Rg.CL_PLEVEL_REQ == 3 && t.flag (pgCluster 1) Rg.CL_PLEVEL_BUSY) = true
      ∧ holds (.plevelDone 1) (withFields { up with ab := { Abut.zero with target := [(1, 3)] } } [(pgCluster 1, Rg.CL_PLEVEL_BUSY, 1, 0), (pgCluster 1, Rg.CL_PLEVEL_REQ, 3, 0)])
        (fun t => t.get (pgCluster 1) Rg.CL_PLEVEL_CUR == 3 && !t.flag (pgCluster 1) Rg.CL_PLEVEL_BUSY) = true
      ∧ up.reaches kw (pgCluster 1) 0x104 true = true ∧ up.reaches kw (pgCluster 1) 0x110 true = true := by decide +kernel


/-! ## The event hub, the host and the debug port -/

/-- Source `src` is routed by `r`; the link to the host is up and the physical function may send. -/
def hubState (src r : Nat) (pend insvc : List (Nat × Nat)) (f : Pcie → Pcie := id) : State :=
  withFields { up with ab := { Abut.zero with hub := ⟨[(src, r)], pend, insvc⟩, pcie := f { Pcie.zero with bme := [(0, 1)] } } }
    [(pgPcie, Rg.PCIE_STAT_LINK_UP, 1, 0)]

/-- Routes of PRIO 1: to context 3; to vector 2 of the physical function. -/
def toCtx : Nat := 2 ^ 31 + 1 <<< 28 + 3
def toVec : Nat := 2 ^ 31 + 1 <<< 28 + 1 <<< 26 + 2

/-- The GPIO page's interrupt is pending and enabled: source `pgGpio`. -/
def gpioIrq (s : State) : State := withRegs s [(pgGpio, 0x018, 1), (pgGpio, 0x014, 1), (pgGpio, 0x010, 1)]

theorem witness_hub :
    (hubState pgGpio toVec [] []).canonical = true ∧ (hubState pgGpio toVec [] []).linkUp = true ∧ routeEn toVec = true ∧ routeKind toVec = 1 ∧ routeKind toCtx = 0
      ∧ (gpioIrq (hubState pgGpio toVec [] [])).irqLine pgGpio = true ∧ (hubState pgGpio toVec [] []).irqLine pgGpio = false
      ∧ up.reaches kw pgHub 0x10C true = true ∧ up.reaches kw pgHub 0x21C false = true ∧ up.reaches kw pgHub 0x21C true = true := by decide +kernel

theorem test_hub :
    holds (.eventMessage (Fin.ofNat 4096 pgGpio)) (gpioIrq (hubState pgGpio toCtx [] [])) (fun t => t.ab.hub.pend == [(pgGpio, 1)] && t.ab.pcie.sent == none) = true
      ∧ holds (.eventMessage (Fin.ofNat 4096 pgGpio)) (hubState pgGpio toCtx [(pgGpio, 1)] []) (fun t => t.ab.hub.pend == []) = true
      ∧ holds (.eventMessage (Fin.ofNat 4096 pgGpio)) (gpioIrq (hubState pgGpio toVec [] [] fun p => { p with msix := [(8, 0x1000), (9, 1), (10, 0x55), (11, 0)] }))
        (fun t => t.ab.pcie.sent == some (0x100001000, [0x55, 0, 0, 0])) = true
      ∧ holds (.eventMessage (Fin.ofNat 4096 pgGpio)) (gpioIrq (hubState pgGpio toVec [] [])) (fun t => t.ab.pcie.sent == none && t.ab.pcie.pba == [(2, 1)]) = true
      ∧ holds (.ehDoorbell kw 5) (hubState 4357 toCtx [] []) (fun t => t.ab.hub.pend == [(4357, 1)]) = true
      ∧ holds (.ehClaim kw 3) (hubState 4357 toCtx [(4357, 1)] []) (fun t => t.rsp == ⟨0, 0x80001105⟩ && t.ab.hub == ⟨[(4357, toCtx)], [], [(4357, 1)]⟩) = true
      ∧ holds (.ehClaim kw 4) (hubState 4357 toCtx [(4357, 1)] []) (fun t => t.rsp == ⟨0, 0⟩) = true
      ∧ holds (.ehComplete kw 3 4357) (hubState 4357 toCtx [] [(4357, 1)]) (fun t => t.ab.hub.insvc == []) = true
      ∧ holds (.ehComplete kw 4 4357) (hubState 4357 toCtx [] [(4357, 1)]) (fun t => t.ab.hub.insvc == [(4357, 1)] && records up t pgHub Ev.BAD_COMPLETE) = true := by
  decide +kernel

theorem test_claim_order :
    ({ up with ab := { Abut.zero with hub := ⟨[(7, toCtx), (9, toCtx + 1 <<< 28), (11, toCtx + 1 <<< 28)], [(7, 1), (9, 1), (11, 1)], []⟩ } } : State).hubBest 3 = some 9
      ∧ (hubState 4357 toCtx [] []).hubBest 3 = none := by decide +kernel

theorem test_outbound :
    holds (.outboundRequest 216 (outboundBase + 16) (some [1, 2]) 2 none) (hubState 0 0 [] []) (fun t => t.rsp == ⟨0, 0⟩ && t.ab.pcie.sent == some (16, [1, 2])) = true
      ∧ holds (.outboundRequest 216 (outboundBase + 16) none 4 (some (0, 77))) (hubState 0 0 [] []) (fun t => t.rsp == ⟨0, 77⟩) = true
      ∧ holds (.outboundRequest 216 (outboundBase + 16) none 4 (some (1, 77))) (hubState 0 0 [] []) (fun t => t.rsp.status == 1) = true
      ∧ holds (.outboundRequest 216 (outboundBase + 16) none 4 none) (hubState 0 0 [] []) (fun t => t.ab.pcie.reads == [⟨216, outboundBase + 16, 4⟩]) = true
      ∧ holds (.outboundRequest 216 (outboundBase + 16) none 4 none) up (fun t => t.rsp == ⟨7, 0⟩ && t.ab.pcie.reads == []) = true
      ∧ holds .cplTimeout (hubState 0 0 [] [] fun p => { p with reads := [⟨216, 1, 4⟩, ⟨217, 2, 4⟩] })
        (fun t => t.rsp == ⟨7, 0⟩ && t.ab.pcie.reads == [⟨217, 2, 4⟩] && t.get pgPcie Rg.PCIE_ERRCNT_CTO == 1 && records up t pgPcie Ev.CPL_TIMEOUT) = true := by
  decide +kernel

theorem test_link :
    holds (.pcieLinkChange true 8 4) up (fun t => t.linkUp && t.get pgPcie Rg.PCIE_STAT_WIDTH == 8 && records up t pgPcie Ev.LINK_UP_59) = true
      ∧ holds (.pcieLinkChange false 0 0) (hubState 0 0 [] []) (fun t => !t.linkUp && records up t pgPcie Ev.LINK_DOWN) = true
      ∧ holds .pciePerst (hubState 0 0 [] []) (fun t => !t.linkUp && t.ab.pcie.perst && t.ab.pcie.bme == []) = true
      ∧ holds .pePerstRelease (hubState 0 0 [] [] fun p => { p with perst := true }) (fun t => !t.ab.pcie.perst) = true := by decide +kernel

theorem witness_host :
    (trained (hubState 0 0 [] [])).dynRefusal ((trained (hubState 0 0 [] [])).hostWho 0) 0x1000 8 .write = (0, 0)
      ∧ noErrors (trained (hubState 0 0 [] [])) = true ∧ (trained up).dynRefusal ⟨235, 3, 0, 0⟩ 0x1000 8 .read = (0, 0) ∧ up.debugMemory = true
      ∧ (withFields up [(pgParapet, Rg.PP_LC_LC, 2, 0)]).debugMemory = false := by decide +kernel

theorem test_host_requests :
    holds (.hostRequest 0 4 0x14 4 (some 0x99)) (hubState 0 0 [] []) (fun t => t.ab.pcie.msix == [(5, 0x99)]) = true
      ∧ holds (.hostRequest 0 4 0x14 4 none) (hubState 0 0 [] [] fun p => { p with msix := [(5, 0x99)] }) (fun t => t.rsp == ⟨0, 0x99⟩) = true
      ∧ holds (.hostRequest 0 2 0x1000 8 (some 0x77)) (trained (hubState 0 0 [] [])) (fun t => t.rsp == ⟨0, 0⟩ && t.load 0x1000 8 == 0x77) = true
      ∧ holds (.hostRequest 0 2 0x1000 8 none) { trained (hubState 0 0 [] []) with mem := memPut [] 0x1000 8 0x77 } (fun t => t.rsp == ⟨0, 0x77⟩) = true
      ∧ holds (.hostRequest 3 2 0x1000 8 (some 1)) (hubState 0 0 [] [] fun p => { p with sriov := true }) (fun t => t.rsp == ⟨1, 0⟩) = true := by decide +kernel

theorem test_debug_access :
    holds (.debugAccess 0x1000 8 none) { trained up with mem := memPut [] 0x1000 8 0x77 } (fun t => t.rsp == ⟨0, 0x77⟩) = true
      ∧ holds (.debugAccess 0x1000 8 (some 5)) (withFields (trained up) [(pgParapet, Rg.PP_LC_LC, 2, 0)])
        (fun t => t.rsp == ⟨4, 0⟩ && t.mem == [] && records up t pgSys Ev.PRIVILEGE) = true
      ∧ holds (.debugAccess (BitVec.ofNat 48 (pagesBase + pgGpio * 4096 + 0x104)) 4 (some 7)) up (fun t => t.reg pgGpio 0x104 == 7) = true := by decide +kernel


/-! ## The Keystone -/

/-- The Keystone is ready, with arguments 0, 1, … -/
def ksState (k : Ks) (args : List Nat) : State :=
  withFields { up with ks := k } ((pgKeystone, Rg.KS_STAT_READY, 1, 0) :: args.zipIdx.map fun a => (pgKeystone, Rg.KS_ARG, a.1, a.2))

theorem witness_keystone : up.reaches kw pgKeystone 0x104 true = true ∧ (ksState Ks.zero []).canonical = true
    ∧ up.flag pgKeystone Rg.KS_STAT_READY = false := by decide +kernel

/-- The command begins with this value of KS_CMD; while the Keystone is not ready it is refused. -/
def ksBegins (i : Instr) (v : Nat) : Bool :=
  holds i (ksState Ks.zero []) (fun t => t.ks.cmd == some ⟨v, 10000⟩ && t.flag pgKeystone Rg.KS_STAT_BUSY)
    && holds i up fun t => t.ks.cmd == none && records up t pgKeystone Ev.BAD_CMD_08

theorem test_keystone_begin :
    ksBegins (.ksWrite kw 3) 0x301 = true ∧ ksBegins (.ksDelete kw 3) 0x302 = true ∧ ksBegins (.ksLookup kw 3) 0x303 = true
      ∧ ksBegins (.ksNext kw 3) 0x304 = true ∧ ksBegins (.epochOpen kw true) 0x8005 = true ∧ ksBegins (.epochCommit kw) 6 = true
      ∧ ksBegins (.epochDiscard kw) 7 = true ∧ ksBegins (.trialBegin kw) 8 = true ∧ ksBegins (.confirm kw) 9 = true
      ∧ ksBegins (.abandon kw) 10 = true ∧ ksBegins (.rollback kw) 11 = true ∧ ksBegins (.ksCompact kw) 12 = true := by decide +kernel

/-- The command in progress ends with this event in RESULT (0: OK). -/
def ksEnds (k : Ks) (v : Nat) (args : List Nat) (ev : Nat) (p : State → Bool := fun _ => true) : Bool :=
  holds .ksCommandComplete (ksState { k with cmd := some ⟨v, 0⟩ } args) fun t =>
    t.ks.cmd == none && t.get pgKeystone Rg.KS_RESULT_EVENT == ev && t.flag pgKeystone Rg.KS_RESULT_OK == (ev == 0)
      && (ev == 0 || (t.ks.words == [] && records up t pgKeystone ev)) && p t

/-- A record of PLAN for class 5, instance 6, at word 100. -/
def ksRec : KsRec := ⟨2, 5, 6, 0, 0, 8, 77, 100, 0, false, false, false, false⟩

theorem test_keystone_end :
    ksEnds Ks.zero 0x101 [5, 6, 0, 0] Ev.BAD_CMD_08 = true ∧ ksEnds Ks.zero 6 [0, 0, 0, 9] Ev.BAD_CMD_08 = true
      ∧ ksEnds Ks.zero 7 [0, 0, 0, 9] Ev.BAD_CMD_08 = true ∧ ksEnds Ks.zero 8 [0, 0, 0, 0, 0, 0, 2] Ev.BAD_CMD_08 = true
      ∧ ksEnds Ks.zero 9 [] Ev.BAD_CMD_08 = true ∧ ksEnds Ks.zero 10 [] Ev.BAD_CMD_08 = true ∧ ksEnds Ks.zero 11 [] Ev.BAD_CMD_08 = true
      ∧ ksEnds { Ks.zero with recs := [ksRec] } 0x203 [5, 6] 0 (fun t => t.get pgKeystone Rg.KS_RES 0 == 800 && t.get pgKeystone Rg.KS_RES 1 == 0x20
        && t.get pgKeystone Rg.KS_RES 2 == 77) = true := by decide +kernel

theorem witness_keystone_scan :
    ({ up with ks := { Ks.zero with scan := true } } : State).canonical = true ∧ Sparse.wf ksSeg0 Ks.zero.segs = true
      ∧ Sparse.wf ksWord0 Ks.zero.words = true ∧ up.sec.crash = [] := by decide +kernel

theorem test_keystone_compaction :
    holds .backgroundCompaction (ksState { Ks.zero with segs := [(0, ⟨2, 3, 8192, 4, false⟩)], words := [(0, 4), (9, 7), (8192, 6)] } [])
      (fun t => (t.seg 0).state == 1 && (t.seg 0).erases == 5 && t.ksRaw 9 == 2 ^ 64 - 1 && t.ksRaw 0 % 2 ^ 32 == 5 && t.ksRaw 8192 == 6) = true := by
  decide +kernel

theorem test_keystone_patrol :
    holds (.patrolRead 0 9) (ksState { Ks.zero with segs := [(0, ⟨4, 3, 8192, 4, false⟩)] } []) (fun t => (t.seg 0).mark == false) = true
      ∧ holds (.patrolRead 0 9) { ksState { Ks.zero with segs := [(0, ⟨4, 3, 8192, 4, false⟩)] } [] with mu := { Mem.zero with ecc := [(ksEcc0 + 9, ⟨1, 0⟩)] } }
        (fun t => (t.seg 0).mark) = true
      ∧ holds (.patrolRead 0 101) { ksState { Ks.zero with segs := [(0, ⟨4, 3, 8192, 4, false⟩)], recs := [ksRec] } [] with
          mu := { Mem.zero with ecc := [(ksEcc0 + 101, ⟨2, 0⟩)] } }
        (fun t => irqSet t pgKeystone 31 && t.ks.recs == [{ ksRec with corrupt := true }]) = true := by decide +kernel


/-! ## Power -/

/-- Domain `d` in state `st`, at rest. -/
def domAt (s : State) (d st : Nat) : State := withFields s [(pgDom d, Rg.D_STAT_CUR, st, 0), (pgDom d, Rg.D_STAT_TARGET, st, 0)]

theorem witness_domains :
    up.canonical = true ∧ up.reaches kw (pgDom 20) 0x100 true = true ∧ up.refuser 20 2 0 = none ∧ up.refuser 3 2 0 = some 3
      ∧ up.flag (pgDom 20) Rg.D_STAT_BUSY = false ∧ up.get (pgDom 20) Rg.D_STAT_TARGET = 0 ∧ up.domCur 20 = 0 := by decide +kernel

/-- D20 on its way to RET. -/
def domBusy : State :=
  let s : State := withFields up [(pgDom 20, Rg.D_STAT_BUSY, 1, 0), (pgDom 20, Rg.D_STAT_TARGET, 2, 0)]
  { s with pw := { s.pw with trans := [⟨20, 0, 2, 64, some 10000⟩] } }

/-- D20 in RET, and eight wakes within the last 512 cy. -/
def domLimited : State :=
  let s : State := domAt up 20 2
  { s with pw := { s.pw with begun := (List.range 8).map fun i => ⟨30 + i, 9900 + i, 20000, false⟩ } }

theorem test_domain_request :
    holds (.domainRequest kw 0 20 0) up (fun t => t.reg (pgDom 20) 0x104 == up.reg (pgDom 20) 0x104 && t.pw.trans == []) = true
      ∧ holds (.domainRequest kw 0 3 2) up (fun t => t.get (pgDom 3) Rg.D_REFUSE_REFUSER == 3 && t.get (pgDom 3) Rg.D_REFUSE_COUNT == 1
        && records up t (pgDom 3) Ev.REFUSED && irqSet t (pgDom 3) 0) = true
      ∧ holds (.domainRequest kw 0 20 2) up (fun t => t.transOf 20 == some ⟨20, 0, 2, 64, some 10064⟩ && t.flag (pgDom 20) Rg.D_STAT_BUSY
        && t.get (pgDom 20) Rg.D_STAT_TARGET == 2 && t.domCur 20 == 0) = true
      ∧ holds (.domainRequest kw 0 20 0) (domAt up 20 3) (fun t => t.transOf 20 == some ⟨20, 0, 3, 39322, some 49322⟩) = true
      ∧ domLimited.wakeFits (changeCy 20 2 0) false = false
      ∧ holds (.domainRequest kw 0 20 0) domLimited (fun t => t.get (pgDom 20) Rg.D_DEFER == 1 && t.domCur 20 == 2
        && (t.transOf 20).map Trans.due == some none) = true
      ∧ domBusy.refuser 20 0 0 = none
      ∧ holds (.domainRequest kw 0 20 0) domBusy (fun t => t.transOf 20 == some ⟨20, 0, 2, 3933, some 13933⟩ && t.get (pgDom 20) Rg.D_ABORT_COUNT == 1
        && records domBusy t (pgDom 20) Ev.ABORTED && t.get (pgDom 20) Rg.D_STAT_TARGET == 0) = true := by decide +kernel

/-- A due firing asks D20 for RET (ARG 0x214). -/
def domFired : State := { up with py := { up.py with trigOut := [{ action := 5, arg := 0x214, due := 10000, air := 0, idx := 0 }] } }

/-- D20 is idle-gated. -/
def domGated : State := withFields (domAt up 20 1) [(pgDom 20, Rg.D_STAT_IDLE, 1, 0)]

/-- The idle timer of D20 is on: 1,024 cy, state RET. -/
def domIdle (st : Nat) : State :=
  withFields up [(pgDom 20, Rg.D_CFG_IDLE_EN, 1, 0), (pgDom 20, Rg.D_CFG_IDLE_T, 1, 0), (pgDom 20, Rg.D_CFG_IDLE_ST, st, 0)]

theorem test_domain_triggered :
    holds (.domainRequest kw 1 20 0) domFired (fun t => t.transOf 20 == some ⟨20, 2, 2, 64, some 10064⟩ && t.py.trigOut.isEmpty) = true
      ∧ domGated.refuser 20 0 5 = none
      ∧ holds (.domainRequest kw 2 20 0) domGated (fun t => t.transOf 20 == some ⟨20, 5, 1, 2, some 10002⟩) = true
      ∧ (domIdle 1).planDomain 20 = false ∧ (domIdle 1).refuser 20 1 4 = none ∧ (domIdle 2).refuser 20 2 4 = none
      ∧ holds (.idleTimerExpiry 20) (domIdle 1) (fun t => t.transOf 20 == some ⟨20, 4, 1, 2, some 10002⟩) = true
      ∧ holds (.idleTimerExpiry 20) (domIdle 2) (fun t => t.transOf 20 == some ⟨20, 4, 2, 64, some 10064⟩) = true := by decide +kernel

/-- A deferred wake of D20 from OFF; a transition of D20 to `st` that ends now. -/
def domDeferred : State :=
  let s : State := domAt up 20 3
  { s with pw := { s.pw with trans := [⟨20, 0, 3, 39322, none⟩] } }
def domEnding (from_ st : Nat) : State :=
  let s : State := withFields (domAt up 20 from_) [(pgDom 20, Rg.D_STAT_BUSY, 1, 0), (pgDom 20, Rg.D_STAT_TARGET, st, 0)]
  { s with
    pw := { s.pw with trans := [⟨20, 2, max from_ st, 256, some 10000⟩] }
    mem := memPut [] (caissonBase + 8) 1 7 }

theorem test_domain_transitions :
    domDeferred.wakeFits 39322 true = true
      ∧ holds (.deferredWakeStart 20) domDeferred (fun t => t.transOf 20 == some ⟨20, 0, 3, 39322, some 49322⟩
        && t.pw.begun.getLast? == some ⟨20, 10000, 49322, true⟩) = true
      ∧ holds (.domainTransitionDone 20) (domEnding 0 3) (fun t => t.domCur 20 == 3 && !t.flag (pgDom 20) Rg.D_STAT_BUSY && t.transOf 20 == none
        && t.get (pgDom 20) Rg.D_STAT_LAST_REQ == 2 && irqSet t (pgDom 20) 2 && t.byte (caissonBase + 8) == 7) = true
      ∧ holds (.domainTransitionDone 20) (domEnding 3 0) (fun t => t.domCur 20 == 0 && t.get (pgDom 20) Rg.D_STAT_LAST_REQ == 2) = true := by
  decide +kernel

/-- A plan runs. -/
def planRuns : State := withFields up [(pgDeck, Rg.DK_STAT_STATE, 3, 0)]

theorem witness_pads_levels :
    up.reaches kw (pgDom 6) 0x10C true = true ∧ up.domOn 6 = true ∧ up.reaches kw pgPwr 0x100 true = true ∧ up.planBusy = false
      ∧ planRuns.planBusy = true ∧ planRuns.reaches kw pgPwr 0x100 true = true ∧ up.reaches kw pgPm 0x104 true = true := by
  decide +kernel

/-- D06 with latched pads; a change to level 2 in progress. -/
def padsHeld : State := withFields up [(pgDom 6, Rg.D_STAT_LATCHED, 1, 0)]
def levelBusy : State :=
  let s : State := withFields up [(pgPwr, Rg.PWR_DECK_BUSY, 1, 0), (pgPwr, Rg.PWR_DECK_REQ, 1, 0)]
  { s with pw := { s.pw with level := some 2 } }

theorem test_pads_levels :
    holds (.padRelease kw 6 1) padsHeld (fun t => !t.flag (pgDom 6) Rg.D_STAT_LATCHED) = true
      ∧ holds (.padRelease kw 6 0) padsHeld (fun t => t.flag (pgDom 6) Rg.D_STAT_LATCHED) = true
      ∧ holds (.deckLevelRequest kw 2) planRuns (fun t => t.get pgPwr Rg.PWR_DECK_REQ == 0 && irqSet t pgPwr 2) = true
      ∧ holds (.deckLevelRequest kw 3) up (fun t => t.get pgPwr Rg.PWR_DECK_REQ == 3 && t.flag pgPwr Rg.PWR_DECK_BUSY && t.pw.level == some 2
        && t.get pgPwr Rg.PWR_DECK_CUR == 0) = true
      ∧ holds (.deckLevelRequest kw 0) levelBusy (fun t => t.get pgPwr Rg.PWR_DECK_REQ == 0 && t.pw.level == some 2) = true
      ∧ levelBusy.now % 4 = 0
      ∧ holds .deckPlevelDone levelBusy (fun t => t.get pgPwr Rg.PWR_DECK_CUR == 2 && irqSet t pgPwr 2 && t.pw.level == some 1
        && t.flag pgPwr Rg.PWR_DECK_BUSY) = true := by decide +kernel

/-- A read of four bytes at address 0x21 on port 0 is in progress. -/
def pmBusy : State :=
  let s : State := withFields up [(pgPm, Rg.PM_STAT_BUSY, 1, 0)]
  { s with pw := { s.pw with pm := some 0xD0210000 } }

theorem test_pmbus :
    holds (.pmbusTransaction kw 0x80000000) up (fun t => t.flag pgPm Rg.PM_STAT_BUSY && t.pw.pm == some 0x80000000) = true
      ∧ holds (.pmbusTransaction kw 0) up (fun t => t.pw.pm == none) = true
      ∧ holds (.pmbusDone false false false 0x12345678) pmBusy (fun t => t.pw.pm == none && !t.flag pgPm Rg.PM_STAT_BUSY
        && t.get pgPm Rg.PM_DATA == 0x12345678 && irqSet t pgPm 0 && !irqSet t pgPm 1) = true
      ∧ holds (.pmbusDone true false false 0x12345678) pmBusy (fun t => t.flag pgPm Rg.PM_STAT_NACK && t.get pgPm Rg.PM_DATA == 0
        && irqSet t pgPm 1) = true := by decide +kernel

theorem test_porst :
    holds .porst { up with ks := { Ks.zero with words := [(3, 9)] } } (fun t => t.pw == Power.zero && t.mem == [] && t.piers == []
      && t.ks.words == [(3, 9)] && t.domCur 20 == 3) = true
      ∧ holds (.porstRelease 1 0) State.reset (fun t => !t.pw.porst && t.uptime == 0 && t.get pgSys Rg.SYS_MODE_STRAP == 1
        && t.flag pgKeeper Rg.KP_STAT_KEEPER_UP && t.pw.test && t.flag pgParapet Rg.PP_CAISSON_WIPING) = true
      ∧ holds (.porstRelease 0 3) State.reset (fun t => t.pw.test == false && records State.reset t pgPwr Ev.STRAP_BAD
        && t.flag pgParapet Rg.PP_FAULT_STRAP) = true := by decide +kernel

/-- The self-test runs, with these fuses. -/
def selfTest (f lc : Nat) : State :=
  let s : State := withFields State.reset [(pgParapet, Rg.PP_LC_LC, lc, 0)]
  { s with
    pw := { s.pw with porst := false, test := true }
    sec := { s.sec with fuses := f } }

theorem test_self_test :
    KeeperActs (selfTest 3 1) ∧ (selfTest 3 1).flag pgKeystone Rg.KS_STAT_READY = false
      ∧ holds .selfTestDone (selfTest 255 4) (fun t => t.pw.test && t.mode == 0) = true
      ∧ holds .selfTestDone (selfTest 3 1) (fun t => t.mode == modeBringup && !t.pw.test && t.ks.scan && t.pw.seq.kind == 1
        && t.pw.seq.steps == .scan :: bringUpSteps && irqSet t pgPwr 0) = true
      ∧ holds .selfTestDone (selfTest 2 0) (fun t => t.sec.fuses == 3 && t.flag pgParapet Rg.PP_LC_TORN && irqSet t pgParapet 3) = true := by
  unfold KeeperActs; decide +kernel

/-- Rail 2 comes up: its timeout is 10 ms, its delay 1 ms, and the sequence began at `b`. -/
def railUp (b : Nat) : State :=
  let s : State := withFields up [(pgPwr, Rg.PWR_RAIL_B_TMO, 1, 2), (pgPwr, Rg.PWR_RAIL_B_DELAY, 1, 2), (pgSys, Rg.SYS_MODE_MODE, 1, 0)]
  { s with
    uptime := 4000000
    pw := { s.pw with seq := ⟨1, [.rail 2], true, b, [], 4000000, none⟩ } }

theorem test_rails :
    holds (.railPoll (some 0x2000)) (railUp 3000000) (fun t => t.mode == modeInert && t.get pgPwr Rg.PWR_RAIL_STAT_FAIL == 2
      && t.get pgPwr Rg.PWR_RAIL_STAT_ON == 0 && t.pw.seq.steps == [] && records (railUp 3000000) t pgPwr Ev.RAIL_FAULT) = true
      ∧ holds (.railPoll (some 0)) (railUp 3000000) (fun t => t.get pgPwr Rg.PWR_RAIL_STAT_ON == 4 && t.pw.seq.good == some 4000000) = true
      ∧ holds (.railPoll (some 0x800)) (railUp 0) (fun t => t.mode == modeInert && records (railUp 0) t pgPwr Ev.RAIL_TIMEOUT) = true
      ∧ holds (.railPoll none) (railUp 3000000) (fun t => t.mode == 1 && t.pw.seq.poll == 4196608 && irqSet t pgPm 1) = true := by decide +kernel

/-- Every domain is OFF; WARMRST_N is low. -/
def warmHeld : State := { up with regs := [], pw := { Power.zero with porst := false, warmPin := true } }

theorem test_warm_resets :
    up.pw.warmPin = false ∧ up.pw.porst = false
      ∧ warmHeld.canonical = true ∧ warmHeld.refuser 1 0 1 = none ∧ warmHeld.domCur 1 = 3
      ∧ holds .warmrstRelease warmHeld (fun t => !t.pw.warmPin && t.pw.seq.kind == 1 && t.pw.seq.steps == bringUpSteps
        && t.get (pgDom 1) Rg.D_STAT_TARGET == 0 && t.flag (pgDom 1) Rg.D_STAT_BUSY) = true := by decide +kernel

/-- Mode `cur`, with KP_ARG `arg`; the mailbox is busy. -/
def modeAt (cur arg : Nat) : State := withFields up [(pgSys, Rg.SYS_MODE_MODE, cur, 0), (pgKeeper, Rg.KP_ARG, arg, 0)]
def mailBusy : State := withFields up [(pgKeeper, Rg.KP_STAT_BUSY, 1, 0)]
def modeGoing : State :=
  let s : State := withFields (modeAt 2 3) [(pgSys, Rg.SYS_MODE_TARGET, 3, 0), (pgSys, Rg.SYS_MODE_BUSY, 1, 0), (pgKeeper, Rg.KP_STAT_BUSY, 1, 0)]
  { s with pw := { s.pw with mail := some 1 } }

theorem test_modes :
    KeeperActs up ∧ up.reaches kw pgKeeper 0x100 true = true
      ∧ holds (.modeSet kw) mailBusy (fun t => records mailBusy t pgKeeper Ev.BAD_CMD_01 && t.pw.mail == none) = true
      ∧ holds (.warmReset kw) mailBusy (fun t => records mailBusy t pgKeeper Ev.BAD_CMD_01) = true
      ∧ (modeAt modeBringup modeService).modeCause modeService = 2
      ∧ holds (.modeSet kw) (modeAt modeBringup modeService) (fun t => t.mode == modeBringup && t.get pgKeeper Rg.KP_RESULT_CAUSE == 2
        && t.flag pgKeeper Rg.KP_RESULT_DONE && !t.flag pgKeeper Rg.KP_RESULT_OK && t.get pgKeeper Rg.KP_RESULT_EVENT == Ev.MODE_REFUSED) = true
      ∧ holds (.modeSet kw) (modeAt modeService modeDrain) (fun t => t.mode == modeService && t.get pgSys Rg.SYS_MODE_TARGET == modeDrain
        && t.flag pgSys Rg.SYS_MODE_BUSY && t.pw.mail == some 1) = true
      ∧ holds .modeDone modeGoing (fun t => t.mode == 3 && !t.flag pgSys Rg.SYS_MODE_BUSY && t.flag pgKeeper Rg.KP_RESULT_OK
        && !t.flag pgKeeper Rg.KP_STAT_BUSY && irqSet t pgPwr 0 && irqSet t pgKeeper 0) = true := by
  unfold KeeperActs; decide +kernel

/-- QUIET, with every domain OFF and a wake source; the states it saved are all ON. -/
def quiet : State :=
  let s : State := withFields { up with regs := [] } [(pgSys, Rg.SYS_MODE_MODE, modeQuiet, 0)]
  { s with pw := { s.pw with
      wake := some ⟨2, 4, 0, 9990⟩
      saved := List.replicate 80 0 } }

/-- A trial image runs; its confirm deadline is `due`. -/
def trialRun (due now_ up_ : Nat) : State :=
  let s : State := withFields up [(pgKeystone, Rg.KS_BOOT0_AS_TRIAL, 1, 0)]
  let s : State := s.put64 pgKeystone Rg.KS_DEADLINE_LO due
  { s with
    uptime := up_
    air := BitVec.ofNat 64 now_
    ks := { s.ks with boot := { s.ks.boot with state := 1 } } }

theorem test_quiet_trial :
    quiet.canonical = true ∧ quiet.wakeSteps.head? = some (.domains [(1, 0)]) ∧ quiet.refuser 1 0 1 = none
      ∧ holds .quietWake quiet (fun t => t.get pgSys Rg.SYS_MODE_TARGET == modeBringup && t.flag pgSys Rg.SYS_MODE_BUSY && t.pw.seq.kind == 3
        && t.get (pgDom 1) Rg.D_STAT_TARGET == 0 && t.flag (pgDom 1) Rg.D_STAT_BUSY) = true
      ∧ (trialRun 500 600 10000).trialRuns = true ∧ (trialRun 500 600 10000).domOn 0 = true
      ∧ holds .confirmExpired (trialRun 500 400 10000) (fun t => t.reg pgPwr 0x120 == up.reg pgPwr 0x120 && !irqSet t pgKeystone 4) = true := by decide +kernel

/-! ## The pool -/

/-- Chip 7 takes part in a pool in state `st`, ten spans into its air count; link 2 carries frames to every member. -/
def poolState (st : Nat) (p : Pool) (l : List (Nat × Fld × Nat × Nat) := []) : State :=
  let s : State := { up with air := 9830400, uptime := 9830400, pl := p }
  withFields (withRegs s [(pgPool, 8, 1), (pgLk 2, 8, 1)])
    ([(pgPylon, Rg.PY_STATE_STATE, 2, 0), (pgPool, Rg.POOL_STAT_STATE, st, 0), (pgPool, Rg.POOL_CFG_CHIP_ID, 7, 0)] ++ l)

/-- A received frame from chip 9 on link 2. -/
def ron (type : Nat) (body : List Nat) : Ronris := ⟨2, 9830000, 9829000, 0x020000000009, type, 9, 0x8000, 0, 1, 0, body⟩

/-- A Ronris frame of chip 9 to every member. -/
def ronFrame (type : Nat) (body : List Nat) (len : Nat := body.length) : List (Fin 256) :=
  (beBytes 6 0xFFFFFFFFFFFF ++ beBytes 6 0x020000000009 ++ beBytes 2 0x88B5 ++ [1, type, 0, 0] ++ beBytes 2 9 ++ beBytes 2 0x8000 ++ beBytes 4 0
    ++ beBytes 4 1 ++ beBytes 8 0 ++ beBytes 2 len ++ [0, 0] ++ beBytes 4 (crc32c body) ++ body).map (Fin.ofNat 256)

def helloBody : List Nat := beBytes 8 0x1234 ++ [2, 0, 0, 0] ++ beBytes 4 0

/-- What is known of chip 9, heard `last` and marked FAILED or not. -/
def peer9 (failed : Bool) (last : Nat) (miss : Nat := 0) : Peer := ⟨0x020000000009, 2, 1, 0x1234, last, miss, failed, failed, 9000000, false, []⟩

def seeking : State := poolState plSeeking Pool.zero

theorem witness_ronris :
    poolCanonical seeking = true ∧ seeking.enabled (pgLk 2) = true ∧ seeking.domOn 4 = true ∧ seeking.flag (pgLk 2) Rg.LK_STAT_LOCAL_FAULT = false
      ∧ seeking.lkDaOk 2 0xFFFFFFFFFFFF = true ∧ seeking.lkDaOk 2 5 = false ∧ groupLinks seeking = 1 ∧ seeking.poolActs = true := by decide +kernel

theorem test_ronris :
    holds (.ronrisReceive 3 (ronFrame 1 helloBody) false) seeking (fun t => t.pl == seeking.pl) = true
      ∧ holds (.ronrisReceive 2 [1, 2] false) seeking (fun t => counted seeking t (pgLk 2) Rg.LK_RUNT && t.pl == seeking.pl) = true
      ∧ holds (.ronrisReceive 2 (ronFrame 1 helloBody) true) seeking (fun t => counted seeking t (pgLk 2) Rg.LK_FCS && t.pl == seeking.pl) = true
      ∧ holds (.ronrisReceive 2 ((ronFrame 1 helloBody).set 0 2) false) seeking (fun t => counted seeking t (pgLk 2) Rg.LK_DA_DROP) = true
      ∧ holds (.ronrisReceive 2 (ronFrame 1 helloBody 40) false) seeking (fun t => counted seeking t (pgLk 2) Rg.LK_BAD_RONRIS && t.pl.inbox == []) = true
      ∧ holds (.ronrisReceive 2 (ronFrame 1 helloBody) false) seeking (fun t => t.pl.inbox.map (fun r => (r.link, r.type, r.src, r.mac, r.seq, r.body))
        == [(2, 1, 9, 0x020000000009, 1, helloBody)]) = true
      ∧ holds (.ronrisReceive 2 (ronFrame 1 helloBody) false) { seeking with pl := { Pool.zero with seen := [(9, 1, 1)] } }
        (fun t => counted seeking t (pgLk 2) Rg.LK_DUP && t.pl.inbox == []) = true := by decide +kernel

/-- One frame of a TYPE has been queued for a destination. -/
def sent1 (t : State) (type dst : Nat) : Bool := t.pl.out.map (fun f => (f.type, f.dst)) == [(type, dst)]

theorem witness_membership :
    seeking.reaches kw pgPool 0x120 true = true ∧ seeking.reaches kw pgPool 0x124 true = true ∧ seeking.reaches kw pgPool 0x150 true = true
      ∧ seeking.reaches kw pgPool 0x11C true = true := by decide +kernel

theorem test_hello :
    holds (.helloSend kw 1) seeking (fun t => sent1 t 1 0x8000) = true
      ∧ holds (.helloSend kw 0) seeking (fun t => t.pl == seeking.pl) = true
      ∧ holds .hello (poolState plSeeking { Pool.zero with inbox := [ron 1 helloBody] })
        (fun t => t.pl.inbox == [] && (t.peer 9).mac == 0x020000000009 && (t.peer 9).link == 2
          && (t.peer 9).disc == 9830401 && (t.peer 9).uid == 0x1234) = true
      ∧ holds (.discoveryExpiry 9) { poolState plSeeking { Pool.zero with peers := [(9, peer9 false 0)] } with uptime := 125829120 }
        (fun t => (t.peer 9).disc == 0) = true
      ∧ holds .seekTimeout { seeking with uptime := 188743680 } (fun t => t.plState == plAlone && t.pl.active == some ⟨0, [7]⟩ && irqSet t pgPool 4)
        = true
      ∧ holds (.poolSend kw 0x05008000) seeking (fun t => t.pl == seeking.pl && irqSet t pgPool 9) = true
      ∧ holds (.poolSend kw 0x10008000) (trained seeking) (fun t => sent1 t 0x10 0x8000) = true := by decide +kernel

/-- Two HELLOs with this chip's own ID; one of them has another UID, whatever UID the chip has. -/
theorem witness_conflict :
    (∀ u ∈ [1, 2], let r := { ron 1 (beBytes 8 u) with src := 7 }
      (poolState plSeeking { Pool.zero with inbox := [r] }).pl.inbox.find? (fun r => r.type = 1) = some r ∧ beAt r.body 0 8 = u)
      ∧ seeking.chipId = 7 ∧ seeking.poolOn = true := by decide +kernel

/-- The view of chips 5 to 7 stands in bulk memory at 0x40000, for air count `at_`. -/
def viewSt (at_ : Nat) (chips : List Nat) : State :=
  let s : State := trained (withFields seeking [(pgPool, Rg.POOL_VS_ADDR_LO, 0x40000, 0), (pgPool, Rg.POOL_VS_AIR_LO, at_, 0),
    (pgPool, Rg.POOL_VS_NUM, 4, 0), (pgPool, Rg.POOL_VS_CNT, chips.length - 1, 0)])
  { s with mem := memPut [] 0x40000 (2 * chips.length) (ofBytes (chips.flatMap fun c => [c % 256, c / 256])) }

theorem test_views :
    holds (.viewLoad kw) (viewSt 10813440 [5, 7]) (fun t => t.pl.loaded == some ⟨10813440, ⟨4, [5, 7]⟩, false⟩) = true
      ∧ holds (.viewWithdraw kw) (viewSt 10813440 [5, 6]) (fun t => t.pl.loaded == some ⟨10813440, ⟨4, [5, 6]⟩, true⟩) = true
      ∧ holds (.viewLoad kw) (viewSt 10813441 [5, 7]) (fun t => t.pl == Pool.zero && irqSet t pgPool 5) = true
      ∧ holds (.viewLoad kw) (viewSt 9830400 [5, 7]) (fun t => t.pl == Pool.zero && irqSet t pgPool 5) = true
      ∧ holds .viewActive (poolState plAlone { Pool.zero with loaded := some ⟨9830400, ⟨4, [5, 7, 9]⟩, false⟩, active := some ⟨0, [7]⟩ })
        (fun t => t.plState == plMember && t.get pgPool Rg.POOL_VIEW == 4 && t.get pgPool Rg.POOL_STAT_N == 2 && t.pl.active == some ⟨4, [5, 7, 9]⟩
          && t.pl.prev == some ⟨0, [7]⟩ && irqSet t pgPool 6) = true
      ∧ holds .viewActive (poolState plMember { Pool.zero with loaded := some ⟨9830400, ⟨4, [5, 9]⟩, true⟩, active := some ⟨3, [5, 7, 9]⟩ })
        (fun t => t.plState == plSeeking && t.pl.active == none && t.pl.prev == some ⟨3, [5, 7, 9]⟩) = true := by decide +kernel

/-- Member of the view of chips 5, 7 and 9. -/
def member (p : Pool) (l : List (Nat × Fld × Nat × Nat) := []) : State := poolState plMember { p with active := some ⟨3, [5, 7, 9]⟩ } l

def beatBody9 : List Nat := beBytes 4 10 ++ [3, 0, 0, 0]

theorem test_heartbeats :
    holds (.beat kw 1) (member Pool.zero) (fun t => t.pl.beat == 11 && sent1 t 2 0x8000) = true
      ∧ holds (.beat kw 1) (member { Pool.zero with beat := 11 }) (fun t => t.pl.out == [] && irqSet t pgPool 7) = true
      ∧ holds .heartbeat (member { Pool.zero with inbox := [ron 2 beatBody9], evalAt := 11, peers := [(9, peer9 false 3)] })
        (fun t => (t.peer 9).last == 11 && (t.peer 9).mac == 0x020000000009) = true
      ∧ (member Pool.zero).evalDue = true ∧ (member Pool.zero).others = [5, 9]
      ∧ holds .peerEvaluation (member { Pool.zero with peers := [(5, peer9 false 10), (9, peer9 false 3)] }) (fun t => t.pl.evalAt == 11
        && t.get pgPool Rg.POOL_STAT_OWN_MISS == 1 && (t.peer 5).miss == 0 && !(t.peer 5).failed && (t.peer 9).miss == 6 && (t.peer 9).failed
        && (t.peer 9).failedAt == 9830400 && irqSet t pgPool 1) = true
      ∧ holds .peerEvaluation (member { Pool.zero with peers := [(9, { peer9 true 10 with back := true })] })
        (fun t => !(t.peer 9).failed && irqSet t pgPool 2) = true := by decide +kernel

/-- Guard 4: STANDBY or ACTIVE, for context 0x21, with partner 9. -/
def standby : Guard :=
  { Guard.zero with cfg := 2 ^ 31 + 2 ^ 30 + 9 <<< 16 + 0x21, mir := 0x80000, stg := 0x40000, size := 64, committed := some 3, fenced := true }
def active : Guard := { Guard.zero with cfg := 2 ^ 31 + 9 <<< 16 + 0x21, h := 19660800 }

/-- Guard 4 is `g`; chip 9 has failed or not. -/
def guarded (g : Guard) (failed : Bool := false) (p : Pool := Pool.zero) : State :=
  member { p with guards := [(4, g)], peers := [(5, { peer9 false 10 with lists := [9] }), (9, peer9 failed 10)] } [(pgPool, Rg.POOL_G_IDX, 4, 0)]

theorem witness_guards :
    poolCanonical (guarded standby) = true ∧ (guarded standby).reaches kw pgPool 0x19C true = true ∧ (guarded standby).offGrid = false
      ∧ (guarded active).fenceCond active = 0 ∧ (guarded standby).quorum standby = (1, 1) := by decide +kernel

theorem test_take :
    holds (.take kw) (guarded { standby with copy := some ⟨0, 4, none, []⟩ }) (fun t => (t.guard 4).takeWait) = true
      ∧ holds (.take kw) (guarded standby) (fun t => (t.guard 4).fcause == 1 && (t.guard 4).take == none && irqSet t pgPool 10) = true
      ∧ holds (.take kw) (guarded { standby with committed := none } true) (fun t => (t.guard 4).fcause == 2 && irqSet t pgPool 10) = true
      ∧ holds (.take kw) (guarded standby true) (fun t => (t.guard 4).fenced && (t.guard 4).take == some (11796480, false)) = true
      ∧ holds (.take kw) (guarded { standby with final := some 19660800 }) (fun t => (t.guard 4).take == some (19660800, true)) = true
      ∧ holds (.take kw) (guarded active) (fun t => t.pl == (guarded active).pl) = true
      ∧ holds (.unfence kw) (guarded standby) (fun t => t.guard 4 == { standby with fenced := false }) = true
      ∧ holds (.unfence kw) (guarded { standby with take := some (5, true) }) (fun t => (t.guard 4).fenced && irqSet t pgPool 10) = true
      ∧ holds (.unfence kw) (guarded active) (fun t => t.pl == (guarded active).pl) = true
      ∧ holds (.handover kw) (guarded active) (fun t => t.guard 4 == { active with move := some 19660800 }) = true := by decide +kernel

theorem test_handover_takeover :
    holds (.handoverLate 4) (guarded { active with move := some 10813440 }) (fun t => t.guard 4 == active && irqSet t pgPool 22) = true
      ∧ holds (.handoverEffect 4) (guarded { active with move := some 9830400, finalAcked := true })
        (fun t => t.guard 4 == { active with finalAcked := true, fenced := true, fcond := 4 } && irqSet t pgPool 8) = true
      ∧ holds (.handoverEffect 4) (guarded { standby with take := some (9830400, true) })
        (fun t => !(t.guard 4).fenced && (t.guard 4).taken && (t.guard 4).alone && irqSet t pgPool 11) = true
      ∧ holds (.takeoverEffect 4) (guarded { standby with take := some (9830400, false) }) (fun t => (t.guard 4).fcause == 1 && irqSet t pgPool 10) = true
      ∧ holds (.takeoverEffect 4) (guarded { standby with take := some (9830400, false) } true)
        (fun t => !(t.guard 4).fenced && (t.guard 4).taken && irqSet t pgPool 11) = true := by decide +kernel

/-- The body of DELTA 2 of epoch 4 with four data bytes at offset 8; of the COMMIT of an epoch 4 whose one DELTA is `body`. -/
def deltaBody (index : Nat) : List Nat := beBytes 4 4 ++ beBytes 2 0x21 ++ beBytes 2 index ++ beBytes 4 8 ++ [0, 0, 0, 0] ++ [1, 2, 3, 4]
def commitBody (flags : Nat) (body : List Nat) : List Nat :=
  beBytes 4 4 ++ beBytes 2 0x21 ++ beBytes 2 flags ++ beBytes 4 1 ++ beBytes 4 (crc32c body) ++ beBytes 8 0x9999

/-- A frame waits at guard `g`; its memories answer. -/
def ckState (g : Guard) (type : Nat) (body : List Nat) : State := trained (guarded g false { Pool.zero with inbox := [ron type body] })

theorem test_checkpoint_send :
    (member Pool.zero).reaches kw pgPool 0x1AC true = true
      ∧ holds (.ckGo kw 4) (guarded { active with alone := true }) (fun t => t.pl == (guarded { active with alone := true }).pl && irqSet t pgPool 15) = true
      ∧ holds (.ckGo kw 4) (guarded { active with sendEnd := 9999999 }) (fun t => irqSet t pgPool 13) = true
      ∧ holds (.ckGo kw 4) (guarded { active with needFull := true }) (fun t => irqSet t pgPool 14) = true
      ∧ holds (.ckGo kw 0x304) (trained (guarded { active with needFull := true })) (fun t => (t.guard 4).sent == 1 && (t.guard 4).sentFinal
        && !(t.guard 4).needFull) = true
      ∧ holds .ack (ckState { active with sent := 4, sentFinal := true } 0xA (beBytes 4 4 ++ beBytes 2 0x21 ++ [0, 0]))
        (fun t => (t.guard 4).acked == 4 && (t.guard 4).finalAcked) = true
      ∧ holds .ack (ckState active 0xA (beBytes 4 4 ++ beBytes 2 0x21 ++ [0, 1])) (fun t => (t.guard 4).needFull) = true := by decide +kernel

theorem test_checkpoint_stage :
    holds .delta (ckState { standby with committed := some 4 } 8 (deltaBody 0)) (fun t => (t.guard 4).rx == none && t.mem == []) = true
      ∧ holds .delta (ckState { standby with rx := some 4, size := 0 } 8 (deltaBody 0)) (fun t => (t.guard 4).bad && (t.guard 4).rx == some 4
        && (t.guard 4).deadline == 11796480) = true
      ∧ holds .delta (ckState { standby with rx := some 4 } 8 (deltaBody 2)) (fun t => (t.guard 4).deltas == [(2, 8, deltaBody 2)]
        && t.byte 0x40008 == 1 && t.byte 0x4000B == 4) = true
      ∧ holds .commit (ckState { standby with rx := some 4, deltas := [(0, 8, deltaBody 0)] } 9 (commitBody 3 (deltaBody 0)))
        (fun t => (t.guard 4).rx == none && (t.guard 4).copy == some ⟨9834497, 4, some 0x9999, [(8, 4)]⟩) = true
      ∧ holds .commit (ckState { standby with rx := some 4, deltas := [(2, 8, deltaBody 2)] } 9 (commitBody 3 (deltaBody 0)))
        (fun t => (t.guard 4).copy == none && (t.guard 4).rx == some 4 && (t.guard 4).commit.isSome) = true
      ∧ holds (.checkpointCopyDone 4) { trained (guarded { standby with copy := some ⟨9830400, 4, some 0x9999, [(8, 4)]⟩ }) with
          mem := memPut [] 0x40008 4 0x04030201 } (fun t => (t.guard 4).committed == some 4 && (t.guard 4).final == some 0x9999 && t.byte 0x80008 == 1
        && t.byte 0x8000B == 4) = true
      ∧ holds (.ckBad 4) (guarded { standby with rx := some 4, deadline := 9830400 }) (fun t => (t.guard 4).rx == none && (t.guard 4).committed == some 3
        && irqSet t pgPool 12) = true := by decide +kernel

/-- Reference slot 2 is of KIND 5 on link 2 with partner chip 9. -/
def timed (p : Pool) : State :=
  let s : State := member { p with peers := [(9, peer9 false 10)] } [(pgRef, Rg.REF_CFG_EN, 1, 2), (pgPool, Rg.POOL_TIME, 9, 0)]
  { s with py := { s.py with slots := [(2, ⟨5, 2, false, 0, 0, 0⟩)] } }

/-- A TIME_RSP to the exchange that left at 9,828,000: received at 9,828,300, answered at 9,828,500, back at t4. -/
def rsp (t4 : Nat) : Ronris := { ron 7 (beBytes 8 9828000 ++ beBytes 8 9828300 ++ beBytes 8 9828500) with tin := t4 }

def exchange : TimeX := ⟨2, 2, 9828000, 9000000⟩

theorem test_pool_time :
    (timed Pool.zero).poolSlot 2 = true ∧ poolCanonical (timed Pool.zero) = true
      ∧ holds (.timeExchangeStart 2) (timed Pool.zero) (fun t => t.timeOf 2 == some ⟨2, 2, 0, 9830400⟩ && sent1 t 6 9) = true
      ∧ holds (.timeExchangeStart 2) (timed { Pool.zero with timeAt := [(2, 9830000)] }) (fun t => t.pl.out == [] && t.timeOf 2 == none) = true
      ∧ holds .timeReq (timed { Pool.zero with inbox := [ron 6 (beBytes 8 5)] }) (fun t => sent1 t 7 9 && t.pl.inbox == []) = true
      ∧ holds (.timeRsp 0) (timed { Pool.zero with inbox := [rsp 9848500], time := [exchange] })
        (fun t => counted (timed Pool.zero) t pgPool Rg.POOL_TIME_FAIL && t.timeOf 2 == none) = true
      ∧ holds (.timeRsp 0) (timed { Pool.zero with inbox := [rsp 9828900], time := [exchange] })
        (fun t => t.get pgPool Rg.POOL_TIME_OFS == 12800 && t.get pgPool Rg.POOL_TIME_FAIL == 0 && t.timeOf 2 == none) = true
      ∧ holds (.timeExchangeTimeout 2) (timed { Pool.zero with time := [{ exchange with up := 8000000 }] })
        (fun t => counted (timed Pool.zero) t pgPool Rg.POOL_TIME_FAIL && t.timeOf 2 == none) = true
      ∧ holds (.timeExchangeTimeout 2) (timed { Pool.zero with time := [exchange] }) (fun t => t.timeOf 2 == some exchange) = true := by decide +kernel

/-- Op slot 6 holds an operation of a KIND for air count `t`. -/
def opState (kind at_ : Nat) (p : Pool := Pool.zero) : State :=
  trained (member { p with
    slots := [(6, ⟨kind, at_, 0x40000, 0⟩)]
    peers := [(5, peer9 false 10), (9, peer9 false 10)] } [(pgPool, Rg.POOL_OP_IDX, 6, 0)])

theorem witness_op_issue :
    (opState 1 0).reaches kw pgPool 0x1D8 true = true ∧ poolCanonical (opState 1 0) = true ∧ issueView (opState 1 0) = some ⟨3, [5, 7, 9]⟩
      ∧ issueView seeking = none ∧ leadOf (opState 1 0) 1 ⟨3, [5, 7, 9]⟩ = 360448 := by decide +kernel

theorem test_op_issue :
    holds (.opIssue kw false 2) (opState 1 3000000000) (fun t => t.pl.runs == [] && irqSet t pgPool 17) = true
      ∧ holds (.opIssue kw false 2) (opState 1 10190847) (fun t => t.pl.runs == [] && irqSet t pgPool 16) = true
      ∧ holds (.opIssue kw false 2) (opState 1 10190848) (fun t => t.pl.runs.map (fun o => (o.init, o.h, o.kind, o.t, o.mine)) == [(7, 6, 1, 10190848, false)]
        && (t.opSlot 6).stat == 2 ^ 30) = true
      ∧ holds (.opIssue kw false 2) (opState 1 10190848 { Pool.zero with held := [(7, 6)] }) (fun t => t.pl.runs.map (·.mine) == [true]) = true
      ∧ holds (.opIssue kw false 2) (withFields (opState 1 10190848) [(pgPool, Rg.POOL_STAT_STATE, plSeeking, 0)])
        (fun t => t.pl.runs == [] && irqSet t pgPool 17) = true
      ∧ holds (.opIssue kw true 0) { opState 1 10190848 with py := { up.py with trigOut := [{ action := 7, arg := 6, due := 5, air := 0, idx := 0 }] } }
        (fun t => t.pl.runs.map (fun o => (o.init, o.h, o.t)) == [(7, 6, 10190848)] && t.py.trigOut.isEmpty) = true := by decide +kernel

/-- An operation of chip `init`, slot 6, for `t`. -/
def runOf (init kind at_ : Nat) : OpRun := ⟨init, 6, kind, at_, ⟨3, [5, 7, 9]⟩, 3, [], false, 0, none, false, false⟩

/-- Frames of a view that the chip does not hold: it holds none. -/
def viewless (type : Nat) : State := poolState plSeeking { Pool.zero with inbox := [ron type []] }

theorem test_op_drop :
    holds .op (viewless 3) (fun t => t.pl.runs == [] && irqSet t pgPool 20) = true
      ∧ holds .arrive (viewless 4) (fun t => t.pl.runs == [] && irqSet t pgPool 20) = true
      ∧ holds .result (viewless 5) (fun t => t.pl.runs == [] && irqSet t pgPool 20) = true := by decide +kernel

/-- The view of a frame is held when its number, whatever it is, is the one of the active view. -/
theorem witness_view_held (s : State) (num : Nat) (l : List Nat) (h : s.pl.active = some ⟨num, l⟩) : s.heldView num = some ⟨num, l⟩ := by
  simp [State.heldView, h]

/-- The operation that a frame names, whatever it names, is found when it runs. -/
theorem witness_run_found (s : State) (init h : Nat) (o : OpRun) (hr : s.pl.runs = [{ o with init := init, h := h }]) :
    s.findRun init h = some { o with init := init, h := h } := by
  simp [State.findRun, OpRun.same, hr]

theorem test_arrivals :
    holds (.poolArrive kw 0x00090006) (opState 1 0 { Pool.zero with runs := [runOf 9 1 19660800] }) (fun t => (t.findRun 9 6).map (·.mine) == some true) = true
      ∧ holds (.poolArrive kw 0x00090006) (opState 1 0 { Pool.zero with runs := [runOf 9 1 9830400] }) (fun t => (t.findRun 9 6).map (·.mine) == some false) = true
      ∧ holds (.poolArrive kw 0x00090006) (opState 1 0) (fun t => t.pl.held == [(9, 6)]) = true
      ∧ holds (.poolArrive kw 0x00090006) (opState 1 0 { Pool.zero with held := List.replicate 64 (1, 1) }) (fun t => t.pl.held == List.replicate 64 (1, 1))
        = true
      ∧ (opState 1 0 { Pool.zero with runs := [runOf 9 1 9830400] }).dueRun false = some (runOf 9 1 9830400)
      ∧ holds .arriveSend (opState 1 0 { Pool.zero with runs := [runOf 9 1 9830400] }) (fun t => (t.findRun 9 6).map (·.sent) == some true
        && t.pl.out.map (fun f => (f.type, f.dst)) == [(4, 9)]) = true
      ∧ (opState 1 0 { Pool.zero with runs := [{ runOf 7 1 9830400 with mine := true, count := 2 }] }).dueRun true
        = some { runOf 7 1 9830400 with mine := true, count := 2 }
      ∧ holds .resultSend (opState 1 0 { Pool.zero with runs := [{ runOf 7 1 9830400 with mine := true, count := 2 }] })
        (fun t => (t.findRun 7 6).map (·.result) == some (some 3)) = true := by decide +kernel

/-- The operation reaches its instant; it is delivered with this status. -/
def delivers (o : OpRun) (stat : Nat) (p : State → Bool := fun _ => true) : Bool :=
  holds .opDeliver (opState 0 0 { Pool.zero with runs := [o] })
    fun t => t.pl.runs == [] && t.tr.internal.length == 1 && (t.opSlot 6).stat == stat && p t

theorem test_op_deliver :
    delivers { runOf 7 1 9830400 with result := some 3 } (2 ^ 31 + 3) = true ∧ delivers { runOf 7 1 9830400 with result := some 2 } (2 ^ 31 + 2 ^ 28 + 2) = true
      ∧ delivers (runOf 7 3 9830400) (2 ^ 31 + 3) (fun t => t.py.trigOut == [⟨9830400, 9830400, 1024, 4, 3⟩]) = true
      ∧ delivers { runOf 7 2 9830400 with late := true } (2 ^ 31 + 2 ^ 29 + 3) = true
      ∧ delivers { runOf 7 4 9830400 with payload := [255, 255] } (2 ^ 31 + 3 * 2 ^ 28 + 3) (fun t => irqSet t pgPool 21) = true
      ∧ KeeperActs (opState 0 0) ∧ (opState 0 0).domOn 0 = true ∧ namesChip [1, 0, 7, 0] 7 = true
      ∧ (withFields (opState 0 0) [(pgPool, Rg.POOL_CFG2_RESET_EN, 1, 0)]).flag pgPool Rg.POOL_CFG2_RESET_EN = true := by
  unfold KeeperActs; decide +kernel

/-! ## Security -/

/-- Fields of the security pages, and the state of the block beside them. -/
def secState (l : List (Nat × Fld × Nat × Nat) := []) (f : Sec → Sec := id) : State :=
  let s : State := withFields up l
  { s with sec := f s.sec }

theorem witness_keeper :
    up.canonical = true ∧ Sparse.wf (fun _ => 0) up.sec.silent = true ∧ up.ks.cmd = none ∧ up.reaches kw pgParapet 0x1C8 true = true
      ∧ up.reaches ⟨216, 3, 0, 0⟩ pgParapet 0x1C8 true = true ∧ up.reaches kw pgParapet 0x108 true = true := by decide +kernel

theorem witness_fuses : fusesWhole (secState [] fun x => { x with fuses := 15 }) := by
  intro n h1 h4
  have h : n = 1 ∨ n = 2 ∨ n = 3 ∨ n = 4 := by omega
  rcases h with rfl | rfl | rfl | rfl <;> decide +kernel

/-- The Keeper is in self-reset, with this many before it in the last second; it serves MODE_SET. -/
def keeperDown : State := { up with pw := { up.pw with down := true, resets := [9000] } }
def serving (resets : List Nat) : State :=
  { secState [(pgKeeper, Rg.KP_STAT_BUSY, 1, 0), (pgSys, Rg.SYS_MODE_BUSY, 1, 0), (pgSys, Rg.SYS_MODE_TARGET, 2, 0)] with
    pw := { up.pw with mail := some 1, resets := resets } }

theorem test_self_reset :
    holds .keeperSelfReset (serving [9000]) (fun t => t.pw.down && t.pw.resets == [9000, 10000] && !t.flag pgKeeper Rg.KP_STAT_KEEPER_UP
        && t.get pgParapet Rg.KW_CNT_KRST == 1 && t.get pgKeeper Rg.KP_RESULT_EVENT == Ev.CMD_ABORTED && !t.flag pgKeeper Rg.KP_STAT_BUSY
        && !t.flag pgSys Rg.SYS_MODE_BUSY && t.get pgSys Rg.SYS_MODE_TARGET == 0) = true
      ∧ holds .keeperSelfReset (serving [9000, 9001, 9002]) (fun t => t.flag pgParapet Rg.KW_STAT_KEEPER_HALTED && irqSet t pgParapet 3) = true
      ∧ holds .keeperRestart keeperDown (fun t => !t.pw.down && t.flag pgKeeper Rg.KP_STAT_KEEPER_UP && t.ks.scan && irqSet t pgParapet 3) = true
      ∧ holds .keeperRestart (withFields keeperDown [(pgParapet, Rg.KW_STAT_KEEPER_HALTED, 1, 0)]) (fun t => t.pw.down) = true := by decide +kernel

/-- Hart 3 is in the mask and has not kicked for `n` periods; the second boundary comes. -/
def silentHart (n kicks : Nat) : State :=
  { secState [(pgParapet, Rg.KW_MASK, 9, 0)] fun x => { x with silent := if n = 0 then [] else [(3, n)], kicks := kicks, period := 1 } with
    uptime := 2 * 983040 }

theorem test_ladder :
    holds (.kwKick ⟨219, 3, 0, 0⟩ 8) up (fun t => t.sec.kicks == 8 && !(t.get pgParapet Rg.KW_STAT_MISSED).testBit 3) = true
      ∧ holds (.kwKick ⟨219, 3, 0, 0⟩ 4) up (fun t => t.sec.kicks == 0) = true
      ∧ holds .ladderEvaluation (silentHart 3 1) (fun t => t.pw.rung == 1 && t.pw.rungHarts == 8 && t.flag pgParapet Rg.KW_STAT_RUNG_PEND
        && t.sec.period == 2 && t.sec.kicks == 0 && Sparse.get (fun _ => 0) t.sec.silent 3 == 4) = true
      ∧ holds .ladderEvaluation (silentHart 2 1) (fun t => t.pw.rung == 0 && Sparse.get (fun _ => 0) t.sec.silent 3 == 3) = true
      ∧ holds .ladderEvaluation (silentHart 3 9) (fun t => t.pw.rung == 0 && t.sec.silent == []) = true
      ∧ holds .wdogExpired { up with uptime := 31457280 } (fun t => t.flag pgParapet Rg.KW_STAT_WDT_EXPIRED && t.flag pgParapet Rg.PP_FAULT_WDOG) = true
      ∧ holds .wdogExpired { up with uptime := 31457279 } (fun t => !t.flag pgParapet Rg.KW_STAT_WDT_EXPIRED) = true := by decide +kernel

/-- Tamper input 2 is enabled with an action. -/
def tampered (act : Nat) (l : List (Nat × Fld × Nat × Nat) := []) : State :=
  { secState ([(pgParapet, Rg.PP_TAMP_CFG_EN, 1, 2), (pgParapet, Rg.PP_TAMP_CFG_ACTION, act, 2)] ++ l) with mem := memPut [] caissonBase 1 9 }

theorem test_tamper :
    holds (.tamper 2 false) (tampered 0) (fun t => (t.get pgParapet Rg.PP_TAMP_STAT_ACTIVE).testBit 2 && (t.get pgParapet Rg.PP_TAMP_STAT_LATCH).testBit 2
        && t.get64 pgParapet Rg.PP_TAMP_UP_LO == 10000 && irqSet t pgParapet 0 && t.byte caissonBase == 9) = true
      ∧ holds (.tamper 2 false) (tampered 1) (fun t => t.byte caissonBase == 0 && t.flag pgParapet Rg.PP_CAISSON_WIPING && t.flag pgParapet Rg.PP_CAISSON_LOCKED)
        = true
      ∧ holds (.tamperInactive 2) (tampered 1 [(pgParapet, Rg.PP_TAMP_STAT_ACTIVE, 4, 0), (pgParapet, Rg.PP_CAISSON_LOCKED, 1, 0)])
        (fun t => t.get pgParapet Rg.PP_TAMP_STAT_ACTIVE == 0 && !t.flag pgParapet Rg.PP_CAISSON_LOCKED) = true
      ∧ holds (.ppFaultSet kw 0x80) up (fun t => t.flag pgParapet Rg.PP_FAULT_FW) = true := by decide +kernel

/-- The Keeper boots the golden image. -/
def booting : State :=
  { secState [(pgKeystone, Rg.KS_STAT_READY, 1, 0), (pgSys, Rg.SYS_MODE_STRAP, 1, 0), (pgPhy, Rg.PHY_STAT_TRAINED, 3, 0)] with
    pw := { up.pw with seq := { KSeq.none with kind := 1, steps := [.boot, .start] } } }

theorem test_golden_boot :
    booting.imageFits [] = true ∧ booting.imageCheck 2 [] = 1
      ∧ holds (.bootImageLoad [] [] [] true) booting (fun t => t.pw.seq == KSeq.none && t.get pgParapet Rg.PP_BOOT_REASON == 1
        && bits (t.get pgParapet Rg.PP_BOOT_RES) 5 4 == 2 && irqSet t pgParapet 2) = true := by decide +kernel

theorem witness_keys :
    up.canonical = true ∧ Sparse.wf (fun _ => KeySlot.empty) up.keys = true ∧ Sparse.wf (fun _ => none) up.sec.handles = true
      ∧ up.reaches kw pgKeeper 0x100 true = true ∧ up.flag pgKeeper Rg.KP_STAT_BUSY = false ∧ up.reaches kw pgParapet 0x160 true = true := by decide +kernel

/-- The word that confirms an LC_ADVANCE to state 2, and the registers that hold it. -/
def lcArg : Word := BitVec.ofNat 32 (Nat.xor (up.get pgSys Rg.SYS_UID_LO) 0x4C435F41)
def lcState (l : List (Nat × Word)) : State := { up with regs := (regKey pgKeeper 0x104, 2) :: (l ++ up.regs) }

theorem lcArg_toNat : lcArg.toNat = Nat.xor (up.get pgSys Rg.SYS_UID_LO) 0x4C435F41 := by
  have h : up.get pgSys Rg.SYS_UID_LO < 2 ^ 32 := Nat.mod_lt _ (by decide)
  have hx : Nat.xor (up.get pgSys Rg.SYS_UID_LO) 0x4C435F41 < 2 ^ 32 := Nat.xor_lt_two_pow h (by decide)
  simp only [lcArg, BitVec.toNat_ofNat]
  exact Nat.mod_eq_of_lt hx

/-- The hypotheses under which LC_ADVANCE begins are met in some state, whatever the UID of the device. -/
theorem witness_lc_advance : ∃ s : State, s.canonical = true ∧ s.reaches kw pgKeeper 0x100 true = true ∧ s.flag pgKeeper Rg.KP_STAT_BUSY = false
    ∧ s.lc < s.arg 0 % 8 ∧ s.arg 0 % 8 = 2 ∧ s.arg 1 = Nat.xor (s.get pgSys Rg.SYS_UID_LO) 0x4C435F41 := by
  by_cases h : lcArg = 0
  · refine ⟨lcState [], by decide +kernel, by decide +kernel, by decide +kernel, by decide +kernel, by decide +kernel, ?_⟩
    have e : Nat.xor (up.get pgSys Rg.SYS_UID_LO) 0x4C435F41 = 0 := by rw [← lcArg_toNat, h]; rfl
    have e0 : (lcState []).arg 1 = 0 := by decide +kernel
    have eu : (lcState []).get pgSys Rg.SYS_UID_LO = up.get pgSys Rg.SYS_UID_LO := rfl
    rw [e0, eu, e]
  · have hr : resetVal (regKey pgKeeper 0x108) = 0 := by decide +kernel
    have hv : decide (lcArg ≠ resetVal (regKey pgKeeper 0x108)) = true := by rw [hr]; exact decide_eq_true h
    have hl : Sparse.wf resetVal (lcState [(regKey pgKeeper 0x108, lcArg)]).regs
        = (decide (0 ≤ regKey pgKeeper 0x104) && decide ((2 : Word) ≠ resetVal (regKey pgKeeper 0x104))
          && (decide (regKey pgKeeper 0x104 + 1 ≤ regKey pgKeeper 0x108) && decide (lcArg ≠ resetVal (regKey pgKeeper 0x108))
            && Sparse.wfFrom resetVal (regKey pgKeeper 0x108 + 1) up.regs)) := rfl
    have hc : (lcState [(regKey pgKeeper 0x108, lcArg)]).canonical = true := by
      rw [State.canonical, hl, hv]
      decide +kernel
    refine ⟨_, hc, rfl, rfl, by decide +kernel, rfl, ?_⟩
    have e : (lcState [(regKey pgKeeper 0x108, lcArg)]).arg 1 = bits lcArg.toNat 31 0 := rfl
    have eu : (lcState [(regKey pgKeeper 0x108, lcArg)]).get pgSys Rg.SYS_UID_LO = up.get pgSys Rg.SYS_UID_LO := rfl
    have b : bits lcArg.toNat 31 0 = lcArg.toNat := by have := lcArg.isLt; simp only [bits]; omega
    rw [e, b, eu, lcArg_toNat]

/-- KP_ARG0 holds `a`; fused keys and handles. -/
def mailArg (a : Nat) (f : State → State := id) : State := f (secState [(pgKeeper, Rg.KP_ARG, a, 0)])
def fwSlot : KeySlot := ⟨true, 7, 1, 1, false⟩

/-- The mailbox command has answered with this event (0: OK). -/
def answered (t : State) (ev : Nat) : Bool :=
  t.flag pgKeeper Rg.KP_RESULT_DONE && t.flag pgKeeper Rg.KP_RESULT_OK == (ev == 0) && t.get pgKeeper Rg.KP_RESULT_EVENT == ev
    && !t.flag pgKeeper Rg.KP_STAT_BUSY && t.pw.mail == none

theorem test_mailbox_keys :
    holds (.lcAdvance kw) (mailArg 5) (fun t => answered t Ev.LC_REFUSED && t.sec == up.sec) = true
      ∧ holds (.keyFuse kw false) (mailArg 0x105 fun s => { s with keys := [(5, fwSlot)] }) (fun t => answered t Ev.KEY_REFUSED) = true
      ∧ holds (.keyFuse kw false) (mailArg 0x105 trained) (fun t => answered t 0 && (t.key 5).used && (t.key 5).purpose == 1 && !(t.key 5).revoked) = true
      ∧ holds (.keyFuse kw true) (mailArg 0x105 trained) (fun t => answered t Ev.KEY_REFUSED && (t.key 5).used && (t.key 5).revoked) = true
      ∧ holds (.keyRevoke kw) (mailArg 5 fun s => { s with keys := [(5, fwSlot)] }) (fun t => answered t Ev.KEY_REFUSED && !(t.key 5).revoked) = true
      ∧ holds (.keyRevoke kw) (mailArg 5 fun s => { s with keys := [(5, fwSlot), (6, fwSlot)] }) (fun t => answered t 0 && (t.key 5).revoked
        && !(t.key 6).revoked) = true
      ∧ holds (.minverAdvance kw) (mailArg 5) (fun t => answered t Ev.KEY_REFUSED && t.sec.minver == 0) = true
      ∧ holds (.minverAdvance kw) (mailArg 5 fun s => { s with sec := { s.sec with svn := 6 } }) (fun t => answered t 0 && t.sec.minver == 5
        && t.get pgParapet Rg.PP_MINVER == 5) = true := by decide +kernel

/-- Handle 9 holds a key. -/
def handled (s : State) : State := { s with sec := { s.sec with handles := [(9, some ⟨2, 77⟩)] } }

theorem test_handles :
    holds (.wrap kw) (mailArg 9) (fun t => answered t Ev.KEY_HANDLE) = true
      ∧ holds (.wrap kw) (mailArg 9 handled) (fun t => t.free == 1 && t.pw.mail == none) = true
      ∧ holds (.unwrap kw) (mailArg 9 fun s => withFields s [(pgParapet, Rg.PP_CAISSON_LOCKED, 1, 0)]) (fun t => answered t Ev.CAISSON_LOCKED) = true
      ∧ holds (.keyLoad kw 2 9) (secState [] fun x => { x with kdata := [77, 0, 0, 0, 0, 0, 0, 0] }) (fun t => t.keyOf 9 == some ⟨2, 77⟩
        && t.sec.kdata == List.replicate 8 0) = true
      ∧ holds (.keyLoad kw 2 9) (secState [(pgParapet, Rg.PP_CAISSON_LOCKED, 1, 0)]) (fun t => t.keyOf 9 == none && irqSet t pgParapet 3) = true
      ∧ holds (.keyErase kw 9) (handled up) (fun t => t.keyOf 9 == none) = true := by decide +kernel

theorem witness_debug :
    up.reaches kw pgParapet 0x1A0 false = true ∧ up.reaches kw pgDebug 0x1A0 true = true ∧ up.mayRelease = true ∧ up.scanAllowed = true
      ∧ up.flag pgDebug Rg.DBG_STAT_LOCKOUT = false ∧ up.sec.nonce = false := by decide +kernel

theorem test_debug :
    holds (.rngRead kw) up (fun t => t.free == 1 && t.rsp.status == 0) = true
      ∧ holds (.dbgNew kw) up (fun t => t.sec.nonce && t.free == 1) = true
      ∧ holds (.dbgVerify kw) up (fun t => !t.flag pgDebug Rg.DBG_STAT_AUTH && t.get pgDebug Rg.DBG_STAT_FAILS == 1 && records up t pgDebug Ev.DBG_AUTH_FAIL)
        = true
      ∧ holds (.dbgVerify kw) (secState [(pgDebug, Rg.DBG_STAT_FAILS, 7, 0)]) (fun t => t.flag pgDebug Rg.DBG_STAT_LOCKOUT) = true
      ∧ holds (.dbgVerify kw) (secState [(pgDebug, Rg.DBG_STAT_LOCKOUT, 1, 0)]) (fun t => t.get pgDebug Rg.DBG_STAT_FAILS == 0) = true
      ∧ holds (.dbgDeauth kw) (secState [(pgDebug, Rg.DBG_STAT_AUTH, 1, 0)]) (fun t => !t.flag pgDebug Rg.DBG_STAT_AUTH
        && t.get pgDebug Rg.DBG_STAT_ACCESS == 2) = true
      ∧ holds (.releaseHalt kw) { up with pw := { up.pw with halted := true } } (fun t => t.mode == modeBringup && !t.pw.halted && t.ks.scan) = true
      ∧ holds (.releaseHalt kw) up (fun t => t.mode == 0 && !t.ks.scan) = true := by decide +kernel

theorem test_tap :
    holds (.extest 5 6 7) up (fun t => t.io.tap == ⟨0, 5, 6, 7⟩ && t.rsp == ⟨0, 5⟩) = true
      ∧ holds (.samplePreload 5 6 7) up (fun t => t.io.tap == ⟨2, 5, 6, 7⟩) = true
      ∧ holds .idcode up (fun t => t.rsp == ⟨0, 0x177200FF⟩ && t.io.tap.ir == 1) = true
      ∧ holds .bypass up (fun t => t.rsp == ⟨0, 0⟩ && t.io.tap.ir == 0xFF) = true := by decide +kernel

/-! ## Counters, snapshots, perturbation -/

/-- Fields of the Tollhouse's page, and its state beside them, at air count 2,000,000. -/
def tollState (t : Toll) (l : List (Nat × Fld × Nat × Nat) := []) : State :=
  trained (withFields { up with ts := t, air := 2000000, uptime := 2000000 } ([(pgPylon, Rg.PY_STATE_STATE, 2, 0)] ++ l))

/-- Counter 2 of pier 5 has wrapped; counter 3 counts its wraps. -/
def wrappedCnt : State := tollState { Toll.zero with wraps := [(page .pier 5, 2)] } [(page .pier 5, Rg.CNT_SEL_CHAIN, 1, 2)]

/-- Slot 8 lists page `p` of the directory at 0x40000 and writes its records to 0x80000. -/
def slot8 : TsSlot := ⟨2 ^ 31, 0x40000, 0x80000, 4, 1, 6⟩
def snapState (t : Toll) (p : Nat := page .pier 5) (l : List (Nat × Fld × Nat × Nat) := []) : State :=
  { tollState { t with slots := [(8, slot8)] } l with mem := memPut [] 0x40000 2 p }

/-- A readout of two pages of slot 8, of which the first has answered. -/
def readout : Snap := ⟨8, 1999000, 1000000, [⟨page .pier 5, List.replicate 8 1, true⟩, ⟨page .pier 6, List.replicate 8 2, false⟩]⟩

theorem witness_toll :
    tollCanonical (tollState Toll.zero) = true ∧ (tollState Toll.zero).reaches kw pgToll 0x100 true = true
      ∧ (tollState Toll.zero).reaches kw pgToll 0x260 true = true ∧ (tollState Toll.zero).py.trigOut = []
      ∧ ((snapState Toll.zero).dynRead ⟨236, 2, 0, 0⟩ 0x40000 2).1 = some (page .pier 5) := by decide +kernel

theorem test_counters_snapshots :
    holds (.counterWrap (Fin.ofNat 4096 (page .pier 5)) 2) wrappedCnt (fun t => t.flag (page .pier 5) Rg.CNT_SEL_OVF 2 && t.cntOf (page .pier 5) 3 == 1) = true
      ∧ holds (.snapTake kw 0x80000008) (tollState Toll.zero) (fun t => t.ts.takes == [(2000016, 8)]) = true
      ∧ holds (.snapTake kw 8) (tollState Toll.zero) (fun t => t.ts.takes == []) = true
      ∧ holds .snapshotCapture (snapState { Toll.zero with takes := [(1999000, 8)], run := some readout }) (fun t => t.ts.takes == []
        && t.get pgToll Rg.TS_STAT_OVERRUN == 1 && irqSet t pgToll 1) = true
      ∧ holds .snapshotCapture (tollState { Toll.zero with takes := [(1999000, 8)] }) (fun t => t.ts.run == none && irqSet t pgToll 1) = true
      ∧ holds .snapshotCapture (snapState { Toll.zero with takes := [(1999000, 8)] }) (fun t => t.flag pgToll Rg.TS_STAT_BUSY
        && t.get pgToll Rg.TS_STAT_SLOT == 8 && (t.ts.run.map fun r => (r.slot, r.c, r.pages.map (·.page))) == some (8, 1999000, [page .pier 5])) = true
      ∧ holds (.snapshotPageReply 0) (snapState { Toll.zero with run := some { readout with pages := readout.pages.map ({ · with here := false }) } })
        (fun t => (t.ts.run.map fun r => r.pages.map (·.here)) == some [true, false]) = true := by decide +kernel

/-- The last page of a readout answers: the record stands behind the record before it, header first. -/
theorem test_snapshot_record :
    holds (.snapshotPageReply 1) (snapState { Toll.zero with run := some readout }) (fun t => t.ts.run == none && (t.tsSlot 8).seq == 7
        && (t.tsSlot 8).widx == 2 && t.get64 pgToll Rg.TS_LAST_AIR_LO == 1999000 && irqSet t pgToll 0 && t.byte (0x80000 + 192) == 1999000 % 256
        && t.byte (0x80000 + 192 + 64) == 1 && t.byte (0x80000 + 192 + 128) == 2) = true
      ∧ holds .snapPartial (snapState { Toll.zero with run := some readout }) (fun t => t.ts.run == none && irqSet t pgToll 1 && irqSet t pgToll 0
        && (t.tsSlot 8).seq == 7 && t.byte (0x80000 + 192 + 128) == 0) = true
      ∧ holds .snapPartial (snapState { Toll.zero with run := some { readout with up := 1999999 } }) (fun t => t.ts.run.isSome) = true := by decide +kernel

/-- Monitor 3 measures counter 2 of pier 5, 16 bytes a count, over one span. -/
def monitored (m : BwMon) : State :=
  tollState { Toll.zero with bw := [(3, m)] } [(pgToll, Rg.TS_BW_CFG_EN, 1, 3), (pgToll, Rg.TS_BW_CFG_COUNTER, 2, 3),
    (pgToll, Rg.TS_BW_CFG_PAGE, page .pier 5, 3), (pgToll, Rg.TS_BW_WIN_SCALE, 16, 3), (pgToll, Rg.TS_BW_THR, 100, 3), (page .pier 5, Rg.CNT_LO, 50, 2)]

theorem test_bandwidth :
    (monitored ⟨some 40, false, 1000000, 1000000⟩).bwRead 3 = some 50
      ∧ holds (.bandwidthWindow 3) (monitored ⟨some 40, false, 1000000, 1000000⟩) (fun t => t.get pgToll Rg.TS_BW_RATE 3 == 2560
        && t.get64 pgToll Rg.TS_BW_BYTES_LO 3 == 160 && t.get pgToll Rg.TS_BW_MAX 3 == 2560 && t.flag pgToll Rg.TS_BW_TAG_VALID 3
        && t.flag pgToll Rg.TS_BW_TAG_ABOVE 3 && irqSet t pgToll 2 && t.bwMon 3 == ⟨some 50, false, 2000000, 2000000⟩) = true
      ∧ holds (.bandwidthWindow 3) (monitored ⟨none, false, 1000000, 1000000⟩) (fun t => !t.flag pgToll Rg.TS_BW_TAG_VALID 3
        && t.bwMon 3 == ⟨some 50, false, 2000000, 2000000⟩) = true
      ∧ holds (.bandwidthWindow 3) (monitored ⟨some 40, false, 1990000, 1990000⟩) (fun t => t.bwMon 3 == ⟨some 40, false, 1990000, 1990000⟩) = true
      ∧ holds (.bwCfgWrite kw 3 0) (monitored ⟨some 40, true, 5, 5⟩) (fun t => t.bwMon 3 == ⟨none, false, 2000000, 2000000⟩
        && t.get pgToll Rg.TS_BW_MAX 3 == 0) = true := by decide +kernel

/-- Channel 0 of a page is armed or active with KIND `kind`, PARAM 7, N = 1. -/
def ptState (k : PageKind) (n kind : Nat) (t : Toll := Toll.zero) (ctl : Nat := 2 ^ 30 + 1) : State :=
  let p := page k n
  withRegs (withFields (tollState t) [(pgSys, Rg.SYS_MODE_MODE, modeDiag, 0), (p, Rg.PT_CFG_KIND, kind, 0), (p, Rg.PT_PARAM, 7, 0),
    (p, Rg.PT_RATE_N, 1, 0)]) [(p, 0xF00, ctl)]

def ptPage (k : PageKind) (n : Nat) : Fin 4096 := Fin.ofNat 4096 (page k n)

theorem test_pt_arm :
    up.reaches kw (page .em 3) 0xF00 true = true ∧ up.reaches kw (page .em 3) 0xF0C true = true ∧ ptSupports .em 3 7 = true
      ∧ holds (.ptArm kw (ptPage .em 3) 0x80000001) up (fun t => t.reg (page .em 3) 0xF00 == 0 && t.get pgToll Rg.TS_PT_DENIED == 1 && irqSet t pgToll 3) = true
      ∧ holds (.ptArm kw (ptPage .em 3) 0x80000001) (ptState .em 3 3 Toll.zero 0) (fun t => t.flag (page .em 3) Rg.PT_CTL_ARM && t.get (page .em 3) Rg.PT_CTL_EN == 1)
        = true
      ∧ holds (.ptArm kw (ptPage .em 3) 0) (ptState .em 3 3) (fun t => !t.flag (page .em 3) Rg.PT_CTL_ACTIVE) = true
      ∧ holds (.ptStart (ptPage .em 3)) (ptState .em 3 3 Toll.zero (2 ^ 31 + 1)) (fun t => t.flag (page .em 3) Rg.PT_CTL_ACTIVE) = true
      ∧ holds (.ptStart (ptPage .em 3)) (withFields (ptState .em 3 3 Toll.zero (2 ^ 31 + 1)) [(page .em 3, Rg.PT_AT_LO, 2000001, 0)])
        (fun t => !t.flag (page .em 3) Rg.PT_CTL_ACTIVE) = true
      ∧ holds (.ptSeedWrite kw (ptPage .em 3) 0) up (fun t => t.lfsr (page .em 3) == 1) = true
      ∧ holds (.ptSeedWrite kw (ptPage .em 3) 0x99) up (fun t => t.lfsr (page .em 3) == 0x99) = true := by decide +kernel

/-- The items that channel 0 has seen. -/
def seenItems (k : PageKind) (n items : Nat) : Toll := { Toll.zero with chans := [(4 * page k n, ⟨items, 0⟩)] }

theorem test_pt_action :
    holds (.ptAction (ptPage .em 3) 0 0 0) up (fun t => t.get (page .em 3) Rg.PT_SEEN == 0) = true
      ∧ holds (.ptAction (ptPage .em 3) 0 0 0) (ptState .em 3 3) (fun t => t.get (page .em 3) Rg.PT_SEEN == 1 && t.get (page .em 3) Rg.PT_HIT == 0
        && t.ptChan (page .em 3) 0 == ⟨1, 0⟩ && t.ts.hits == []) = true
      ∧ holds (.ptAction (ptPage .em 3) 0 0 0) (ptState .em 3 3 (seenItems .em 3 1)) (fun t => t.get (page .em 3) Rg.PT_SEEN == 1
        && t.get (page .em 3) Rg.PT_HIT == 1 && t.ptChan (page .em 3) 0 == ⟨0, 1⟩ && t.ts.hits == [⟨page .em 3, 3, 7⟩]) = true
      ∧ holds (.ptAction (ptPage .router 9) 0 0 0) (ptState .router 9 2 (seenItems .router 9 1))
        (fun t => Sparse.get (fun _ => 0) t.ts.press (page .router 9) == 2000007) = true
      ∧ holds (.ptDelayRelease (ptPage .lk 2)) (withRegs (tollState { Toll.zero with held := [⟨page .lk 2, 2, 5, [1, 2], false⟩] }) [(pgLk 2, 8, 1)])
        (fun t => t.ts.held == [] && t.get (pgLk 2) Rg.LK_RUNT == 1) = true := by decide +kernel

/-! ## The slow interfaces, and the loss of power -/

theorem witness_slow :
    up.reaches kw pgXspi 0x104 true = true ∧ up.reaches kw pgUart 0x148 true = true ∧ up.reaches kw pgUart 0x14C false = true
      ∧ up.domOn 6 = true ∧ Sparse.wf ecc0 up.mu.ecc = true ∧ up.ks.cmd = none := by decide +kernel

/-- The xSPI port's registers: address 0x40, length 4, buffer 0x30000. -/
def xsState (l : List (Nat × Fld × Nat × Nat) := []) (x : Option XsCmd := none) : State :=
  let s : State := trained (withFields up ([(pgXspi, Rg.XS_ADDR, 0x40, 0), (pgXspi, Rg.XS_LEN, 4, 0), (pgXspi, Rg.XS_BUF_LO, 0x30000, 0)] ++ l))
  { s with io := { s.io with xs := x } }

/-- The command begins; while another is in progress it has no effect. -/
def xsBegins (i : Instr) (kind : Nat) : Bool :=
  holds i (xsState []) (fun t => t.flag pgXspi Rg.XS_STAT_BUSY && t.io.xs == some ⟨2 ^ 31 + kind * 2 ^ 29 + 6, 0x40, 4, 0x30000, 0⟩)
    && holds i (xsState [(pgXspi, Rg.XS_STAT_BUSY, 1, 0)]) fun t => t.io.xs == none

theorem test_xspi_begin :
    xsBegins (.xsRead kw 6) 0 = true ∧ xsBegins (.xsProgram kw 6) 1 = true ∧ xsBegins (.xsErase kw 6) 2 = true ∧ xsBegins (.xsRegister kw 6) 3 = true
      ∧ holds (.xsRegister kw 5) (xsState [(pgParapet, Rg.PP_LC_LC, 2, 0)]) (fun t => t.io.xs == none && t.flag pgXspi Rg.XS_STAT_ERR
        && t.get pgXspi Rg.XS_STAT_EVENT == Ev.XS_PROTECT && irqSet t pgXspi 0) = true := by decide +kernel

/-- A command of a KIND is in progress; it has ended with this event. -/
def xsGoing (cmd : Nat) : State :=
  xsState [(pgXspi, Rg.XS_STAT_BUSY, 1, 0), (pgXspi, Rg.XS_CFG_OCTAL, 1, 0)] (some ⟨cmd, 0x40, 4, 0x30000, 0x5500000000⟩)
def xsOver (ev : Nat) (p : State → Bool := fun _ => true) (t : State) : Bool :=
  t.io.xs == none && !t.flag pgXspi Rg.XS_STAT_BUSY && t.flag pgXspi Rg.XS_STAT_DONE && t.flag pgXspi Rg.XS_STAT_ERR == (ev != 0)
    && t.get pgXspi Rg.XS_STAT_EVENT == ev && p t

theorem test_xspi_end :
    holds (.xsDone [9, 8, 7, 6] true) (xsGoing (2 ^ 31)) (xsOver Ev.XS_DQS fun t => t.byte 0x30000 == 0) = true
      ∧ holds (.xsDone [9, 8, 7, 6] false) (xsGoing (2 ^ 31)) (xsOver 0 fun t => t.byte 0x30000 == 9 && t.byte 0x30003 == 6) = true
      ∧ holds (.xsDone [] false) (xsGoing (2 ^ 31 + 2 ^ 29)) (xsOver 0) = true
      ∧ holds (.xsDone [] false) (xsGoing (2 ^ 31 + 2 * 2 ^ 29)) (xsOver 0) = true
      ∧ holds (.xsDone [9, 8, 7, 6] false) (xsGoing (2 ^ 31 + 3 * 2 ^ 29 + 2 ^ 28)) (xsOver 0 fun t => t.get64 pgXspi Rg.XS_DATA_LO == 0x5506070809)
        = true := by decide +kernel

/-- UART 1 with its FIFOs, no parity or odd parity (2) as KIND says, at uptime 10,000,000. -/
def uartState (x : Uart) (l : List (Nat × Fld × Nat × Nat) := []) : State :=
  let s : State := withFields (withRegs { up with uptime := 10000000 } [(pgUart, 8, 3)]) l
  { s with io := { s.io with u1 := x } }

theorem test_uart_send :
    holds (.uartTxWrite kw 1 0x141) (uartState { Uart.zero with tx := [1] }) (fun t => (t.uart 1).tx == [1, 0x41] && t.get pgUart Rg.U_STAT_TXCNT 1 == 2) = true
      ∧ holds (.uartTxWrite kw 1 0x41) (uartState { Uart.zero with tx := List.replicate 64 1 }) (fun t => (t.uart 1).tx.length == 64
        && t.flag pgUart Rg.U_STAT_OVF 1 && irqSet t pgUart 6) = true
      ∧ holds (.uartCharSend 1 false) (uartState { Uart.zero with tx := [0xC1, 2] }) (fun t => (t.uart 1).tx == [2] && (t.uart 1).line == 0xC1
        && (t.uart 1).txEnd == 10000000 + t.charCy 1 && t.get pgUart Rg.U_STAT_TXCNT 1 == 1) = true
      ∧ holds (.uartCharSend 1 false) (uartState { Uart.zero with tx := [0xC1] } [(pgUart, Rg.U_CFG_FLOW, 1, 1)]) (fun t => (t.uart 1).tx == [0xC1]) = true
      ∧ holds (.uartCharSend 1 true) (uartState { Uart.zero with tx := [0xC1] } [(pgUart, Rg.U_CFG_FLOW, 1, 1), (pgUart, Rg.U_CFG_BITS, 1, 1)])
        (fun t => (t.uart 1).tx == [] && (t.uart 1).line == 0x41) = true := by decide +kernel

theorem test_uart_receive :
    holds (.uartCharReceive 1 0x43 true true) (uartState Uart.zero [(pgUart, Rg.U_CFG_PARITY, 2, 1)]) (fun t => (t.uart 1).rx == [⟨0x43, false, true⟩]
        && irqSet t pgUart 4 && t.flag pgUart Rg.U_STAT_PERR 1 && (t.uart 1).rxEnd == 10000000 + t.charCy 1) = true
      ∧ holds (.uartCharReceive 1 0x43 false false) (uartState Uart.zero) (fun t => (t.uart 1).rx == [⟨0x43, true, false⟩] && t.flag pgUart Rg.U_STAT_FERR 1
        && irqSet t pgUart 6) = true
      ∧ holds (.uartCharReceive 1 0x43 false true) (uartState { Uart.zero with rx := List.replicate 64 ⟨1, false, false⟩ })
        (fun t => (t.uart 1).rx.length == 64 && t.flag pgUart Rg.U_STAT_OVF 1 && irqSet t pgUart 6) = true
      ∧ holds (.uartCharReceive 1 0x43 false true) (uartState { Uart.zero with rxEnd := 10000001 }) (fun t => (t.uart 1).rx == []) = true
      ∧ holds (.uartRxPop kw 1) (uartState Uart.zero) (fun t => t.rsp == ⟨0, 0⟩) = true
      ∧ holds (.uartRxPop kw 1) (uartState { Uart.zero with rx := [⟨0x43, true, false⟩, ⟨2, false, false⟩] }) (fun t => t.rsp == ⟨0, 2 ^ 31 + 256 + 0x43⟩
        && (t.uart 1).rx == [⟨2, false, false⟩] && t.get pgUart Rg.U_STAT_RXCNT 1 == 1) = true := by decide +kernel

/-- A loss of power or of REFOSC keeps the Keystone's words, the fuses and the keys. -/
def losing : State :=
  { up with
    ks := { Ks.zero with words := [(3, 9)] }
    sec := { Sec.zero with fuses := 15 }
    keys := [(5, fwSlot)]
    mu := { Mem.zero with ecc := [(ksEcc0 + 3, ⟨1, 0⟩)] } }

theorem test_loss :
    holds .lossOfPower losing (fun t => t.ks.words == [(3, 9)] && t.sec.fuses == 15 && (t.key 5).used) = true
      ∧ holds .refoscStop losing (fun t => t.ks.words == [(3, 9)] && t.sec.fuses == 15 && (t.key 5).used) = true := by
  decide +kernel

theorem test_frame_witness : ∃ t, exec (.uartCharSend 0 true) up = .next t ∧ ¬ Sys2Proof.Claims.MayReachMemory (.uartCharSend 0 true)
    ∧ ¬ Sys2Proof.Claims.MayReachKeys (.uartCharSend 0 true) ∧ ¬ Sys2Proof.Claims.MayReachAir (.uartCharSend 0 true) :=
  ⟨_, rfl, fun h => h, fun h => h, fun h => h⟩

/-! ## Bank ports -/

/-- The mover at the router of engine-buffer slice 0, and its entry. -/
def mvRt : Nat := memRouter descAt
def mvEntry : SlotEntry := ⟨11, 500, false, 0x1100 + mvRt, descAt, 0⟩

/-- The entry is due; its descriptor copies two units from slice 0 to bay 0, inside the footprint. -/
def mvState : State :=
  let s := deckState { Deck.zero with slot0 := some { planOf mvEntry with foot := [⟨deckOf bufA, 64, 9, 1⟩] }, run := some 0 } 983540
  s.storeAll descAt 4 ([0x01000000, 0x0A006000, bufA, 2] ++ List.replicate 12 0)

theorem witness_mover :
    mvState.canonical = true ∧ mvState.entryDue 0 0 = some (mvEntry, 9) ∧ mvState.fenced mvEntry.unit = false ∧ mvState.occupied mvEntry.unit = false
      ∧ mvState.domOn (unitDomain mvEntry.unit) = true ∧ moverOk mvRt descAt (mvState.descWords descAt) = true
      ∧ mvState.domOn (memDomain (deckOf bufA)) = true ∧ mvState.inFoot (deckOf bufA) 128 = true ∧ mvState.mu.ports = [] := by decide +kernel

theorem test_mover_issue :
    holds (.slotDeckXfer 0 0) mvState (fun t => t.mu.later
      == [⟨10003, mvEntry.unit, 240, mvRt, .copy (deckOf 0x0A006000) (deckOf bufA) (hops mvRt (memRouter (deckOf bufA))) 2 9 false false⟩]
      && t.mu.ports.map (fun e => (e.bank, e.src, e.tag)) == [(bankOf descAt, 240, mvRt)]) = true := by decide +kernel

/-- One effect is due now. -/
def landState (e : Eff) : State := { up.storeAll (deckOf bufA) 4 [0x44332211] with mu := { Mem.zero with later := [⟨10000, 0x1105, 240, 5, e⟩] } }

theorem test_mover_unit :
    (landState (.copy (deckOf bufA) (deckOf tabA) 3 2 9 false false)).landDue.mu.later.map (fun l => (l.due, l.tag, match l.eff with
        | .deliver a d p => a == deckOf tabA && d.take 4 == [0x11, 0x22, 0x33, 0x44] && d.length == 64 && !p
        | .copy a b h n c x y => [a, b, h, n, c] == [deckOf bufA + 64, deckOf tabA + 64, 3, 1, 9] && !x && !y
        | _ => false)) = [(10005, 5, true), (10001, 5, true)]
      ∧ (landState (.copy (deckOf bufA) (deckOf tabA) 3 1 9 false true)).landDue.mu.later = []
      ∧ (landState (.deliver (deckOf tabA) [1, 2] false)).landDue.load (deckOf tabA) 2 = 0x201
      ∧ (landState (.deliver pierBase [1, 2] false)).landDue.mu.later = [⟨10002, 0x1105, 240, 5, .pm pierBase [1, 2] false⟩] := by decide +kernel

/-- Bank 40 is taken by SOURCE 240, TAG 5, whose delivery ends with this cycle. -/
def takenState : State :=
  { up with dk := running nopEntry, mu := { Mem.zero with later := [⟨10001, 0x1105, 240, 5, .deliver 640 [1] false⟩], ports := [⟨40, 10001, 240, 5, 0, 640, 0⟩] } }

theorem test_port_collision :
    (takenState.takePort ⟨40, 10001, 240, 6, 0, 700, 0⟩).1 = false
      ∧ (takenState.takePort ⟨40, 10001, 240, 6, 0, 700, 0⟩).2.mu.later.length = 1
      ∧ (takenState.takePort ⟨40, 10001, 3, 0, 3, 700, 0⟩).1 = true
      ∧ (takenState.takePort ⟨40, 10001, 3, 0, 3, 700, 0⟩).2.mu.later = []
      ∧ (takenState.takePort ⟨40, 10001, 3, 0, 3, 700, 0⟩).2.dk.stopping = true
      ∧ records takenState (takenState.takePort ⟨40, 10001, 3, 0, 3, 700, 0⟩).2 pgDeck Ev.COLL_PORT = true
      ∧ (takenState.takePort ⟨41, 10001, 240, 6, 0, 700, 0⟩).1 = true
      ∧ (takenState.takePort ⟨41, 10001, 240, 6, 0, 700, 0⟩).2.mu.ports.length = 2 := by decide +kernel

/-- An FFT of 16 points issued 9 cycles ago whose one input unit, all zero, has been read now. -/
def fftRead : State :=
  let w := [0x01000000, 0, stA, 0x77, 0x10010, bufA, 0, bufA + 0x1000, 64, bufA + 0x2000]
  let j : Job := ⟨0x3001, 2, 0, false, false, descAt, 9, 9991, 10000, 10089⟩
  let s := up.store (deckOf bufA) 64 0
  { s with
    mu := { Mem.zero with later := [⟨10000, 0x3001, 72, 0, .fft 9991 w [] [] 0 0 false false⟩] }
    en := { Engines.zero with runs := [⟨j, false, deckOf stA, 0x77, 1, none, [⟨10089, [], 0, 0, 0, 1, false, false⟩], 0, 0, [0, 0, 0, 0]⟩] } }

theorem test_fft_schedule :
    fftRead.landDue.mu.later.map (fun l => (l.due, match l.eff with
        | .deliver a d _ => (a, d.length)
        | _ => (0, 0))) = [(10088, deckOf bufA + 0x2000, 64), (10089, deckOf bufA + 0x1000, 64)]
      ∧ fftRead.landDue.en.runs.map (fun r => (r.items.map (·.codes), r.words)) = [([[]], [0, 0, 0, 0])] := by decide +kernel

/-- The bundle that pier 3 issues now was fetched in the cycle in which a delivery reached its PM. -/
theorem test_fetch_clash :
    let x := { Pier.zero with running := true, at_ := 10000, pc := 64 }
    let s := ({ up with dk := running nopEntry, mu := { Mem.zero with
      later := [⟨10001, 0x1105, 240, 5, .pm (pierAddr 3 0) [1] false⟩], ports := [⟨48, 9999, 240, 5, 0, pierAddr 3 0, 10001⟩] } } : State).setPier 3 x
    s.portTick.mu.later = [] ∧ s.portTick.dk.stopping = true
      ∧ (s.setPier 3 { x with at_ := 10001 }).portTick.mu.later.length = 1 := by decide +kernel

end Sys2Proof.Tests
end

section
/-! SUPPORT. The events of register accesses (R44) on the SYS page: which registers they change, and that they leave a capture. -/
namespace Sys2Proof.Machine

/-- R44: the events with which the SYS page records an access that fails a check, or a write that has no effect. -/
def accessEvents : List Nat :=
  [Ev.UNMAPPED, Ev.PAGE_ASLEEP, Ev.ACCESS_WIDTH, Ev.PRIVILEGE, Ev.FROZEN_WRITE, Ev.FORCE_DENIED, Ev.LOCK_KEY]

/-- R614, R615: the access events are errors that a page captures, and none of them is fatal. -/
theorem accessEvents_alert : ∀ code ∈ accessEvents, severity code = .alert ∧ fatalBit code = none := by decide

/-! ## The registers that an event changes -/

theorem irq_reg_other (s : State) {p q b off : Nat} (ho : off < 4096) (h : q ≠ p ∨ off < 0x018 ∨ 0x01C ≤ off) :
    (s.irq p b).reg q off = s.reg q off :=
  setReg_reg_other _ _ _ _ _ _ (regKey_ne ho (by decide) (by omega))

theorem irq_irqSet {s : State} (p b : Nat) (hb : b < 32) (h : Sparse.wf resetVal s.regs = true) :
    ((s.irq p b).reg p 0x018).getLsbD b = true := by
  rw [State.irq, setReg_reg_same _ _ _ _ h, BitVec.getLsbD_or, BitVec.getLsbD_ofNat, Nat.testBit_two_pow_self]
  simp [hb]

/-- R30: a capture changes PG_ERR_CAP0–3 of its page and no other register. -/
theorem capture_reg_other (s : State) {p q off : Nat} (code ctx c2 c3 : Nat) (ho : off < 4096) (h : q ≠ p ∨ off < 0x020 ∨ 0x030 ≤ off) :
    (s.capture p code ctx c2 c3).reg q off = s.reg q off := by
  have other : ∀ (t : State) (o : Nat) (v : Word), 0x020 ≤ o → o < 0x030 → (t.setReg p o v).reg q off = t.reg q off :=
    fun t o v h1 h2 => setReg_reg_other _ _ _ _ _ _ (regKey_ne ho (by omega) (by omega))
  unfold State.capture
  extract_lets held sameCy s1 s2 s3 s4
  split
  · exact other s _ _ (by decide) (by decide)
  · calc s4.reg q off = s3.reg q off := other s3 _ _ (by decide) (by decide)
      _ = s2.reg q off := other s2 _ _ (by decide) (by decide)
      _ = s1.reg q off := other s1 _ _ (by decide) (by decide)
      _ = s.reg q off := other s _ _ (by decide) (by decide)

/-- PG_ERR_CAP0 after a capture: a held capture keeps its VALID, and a new one holds VALID and the event's code (R30). -/
theorem capture_cap0 {s : State} (p code ctx c2 c3 : Nat) (h : Sparse.wf resetVal s.regs = true) :
    (s.flag p Rg.PG_ERR_CAP0_VALID = true ∧ (s.capture p code ctx c2 c3).reg p 0x020 = fldPut Rg.PG_ERR_CAP0_OVF (s.reg p 0x020) 1)
      ∨ ∃ ovf : Bool, (s.capture p code ctx c2 c3).reg p 0x020
          = BitVec.ofNat 32 (1 <<< 31 + ovf.toNat <<< 30 + (ctx % 4096) <<< 16 + code % 65536) := by
  unfold State.capture
  extract_lets held sameCy s1 s2 s3 s4
  split
  · next hc =>
    rw [Bool.and_eq_true] at hc
    exact .inl ⟨hc.1, setReg_reg_same _ _ _ _ h⟩
  · refine .inr ⟨held, ?_⟩
    calc s4.reg p 0x020 = s3.reg p 0x020 := setReg_reg_other _ _ _ _ _ _ (regKey_ne (by decide) (by decide) (.inr (by decide)))
      _ = s2.reg p 0x020 := setReg_reg_other _ _ _ _ _ _ (regKey_ne (by decide) (by decide) (.inr (by decide)))
      _ = s1.reg p 0x020 := setReg_reg_other _ _ _ _ _ _ (regKey_ne (by decide) (by decide) (.inr (by decide)))
      _ = _ := setReg_reg_same _ _ _ _ h

theorem fldGet_valid_fldPut_ovf (x : Word) (v : Nat) :
    fldGet Rg.PG_ERR_CAP0_VALID (fldPut Rg.PG_ERR_CAP0_OVF x v) = fldGet Rg.PG_ERR_CAP0_VALID x := by
  have hx := x.isLt
  simp only [fldGet, fldPut, bits, Rg.PG_ERR_CAP0_VALID, Rg.PG_ERR_CAP0_OVF, BitVec.toNat_ofNat, Nat.shiftRight_eq_div_pow, Nat.shiftLeft_eq]
  omega

theorem fldGet_valid_captured (ovf : Bool) (ctx code : Nat) :
    fldGet Rg.PG_ERR_CAP0_VALID (BitVec.ofNat 32 (1 <<< 31 + ovf.toNat <<< 30 + (ctx % 4096) <<< 16 + code % 65536)) = 1 := by
  have ho := Bool.toNat_le ovf
  simp only [fldGet, bits, Rg.PG_ERR_CAP0_VALID, BitVec.toNat_ofNat, Nat.shiftRight_eq_div_pow, Nat.shiftLeft_eq]
  omega

theorem fldGet_event_captured (ovf : Bool) (ctx code : Nat) :
    fldGet Rg.PG_ERR_CAP0_EVENT (BitVec.ofNat 32 (1 <<< 31 + ovf.toNat <<< 30 + (ctx % 4096) <<< 16 + code % 65536)) = code % 65536 := by
  have ho := Bool.toNat_le ovf
  simp only [fldGet, bits, Rg.PG_ERR_CAP0_EVENT, BitVec.toNat_ofNat, Nat.shiftRight_eq_div_pow, Nat.shiftLeft_eq]
  omega

/-- R30: a capture with PG_IRQ source 31 is what `records` asks for. -/
theorem capture_irq_records {s : State} (p code ctx c2 c3 : Nat) (h : Sparse.wf resetVal s.regs = true) :
    Claims.records s ((s.capture p code ctx c2 c3).irq p 31) p code = true := by
  have hirq := irq_irqSet (s := s.capture p code ctx c2 c3) p 31 (by decide) (capture_regs_wf _ _ _ _ _ h)
  have hcap : ((s.capture p code ctx c2 c3).irq p 31).reg p 0x020 = (s.capture p code ctx c2 c3).reg p 0x020 :=
    irq_reg_other _ (by decide) (.inr (.inr (by decide)))
  generalize (s.capture p code ctx c2 c3).irq p 31 = t at hirq hcap ⊢
  obtain ⟨hheld, he⟩ | ⟨ovf, he⟩ := capture_cap0 p code ctx c2 c3 h
  · have hv : t.flag p Rg.PG_ERR_CAP0_VALID = true := by
      rw [← hheld]
      exact congrArg (· != 0) ((congrArg _ (hcap.trans he)).trans (fldGet_valid_fldPut_ovf _ _))
    simp [Claims.records, Claims.irqSet, hv, hirq, hheld]
  · have hv : t.get p Rg.PG_ERR_CAP0_VALID = 1 := (congrArg _ (hcap.trans he)).trans (fldGet_valid_captured ovf ctx code)
    have hev : t.get p Rg.PG_ERR_CAP0_EVENT = code % 65536 := (congrArg _ (hcap.trans he)).trans (fldGet_event_captured ovf ctx code)
    simp [Claims.records, Claims.irqSet, State.flag, hv, hirq, hev]

/-! ## An access event of the SYS page -/

section
variable {code : Nat} (hc : code ∈ accessEvents) (s : State) (addr : Nat) (w : Who) (write : Bool)

theorem sysEvent_frame (s : State) (code addr : Nat) (w : Who) (write : Bool) :
    ∃ r c, s.sysEvent code addr w write = { s with regs := r, capCy := c } := event_frame s _ _ _ _ _

theorem sysEvent_keepsBlocks (s : State) (code addr : Nat) (w : Who) (write : Bool) : KeepsBlocks s (s.sysEvent code addr w write) := by
  obtain ⟨r, c, e⟩ := sysEvent_frame s code addr w write
  rw [e]
  constructor <;> rfl

include hc

/-- The SYS page captures an access event and raises source 31; it has no other source for it. -/
theorem sysEvent_eq_capture : ∃ c2 c3, s.sysEvent code addr w write = (s.capture pgSys code w.ctx c2 c3).irq pgSys 31 := by
  obtain ⟨hsev, hfatal⟩ := accessEvents_alert code hc
  unfold State.sysEvent State.event
  rw [hsev, hfatal]
  exact ⟨_, _, rfl⟩

theorem sysEvent_reg_other {q off : Nat} (ho : off < 4096) (h : q ≠ pgSys ∨ off < 0x018 ∨ 0x030 ≤ off) :
    (s.sysEvent code addr w write).reg q off = s.reg q off := by
  obtain ⟨c2, c3, e⟩ := sysEvent_eq_capture hc s addr w write
  rw [e, irq_reg_other _ ho (by omega), capture_reg_other _ _ _ _ _ ho (by omega)]

theorem sysEvent_wf (h : Sparse.wf resetVal s.regs = true) : Sparse.wf resetVal (s.sysEvent code addr w write).regs = true := by
  obtain ⟨c2, c3, e⟩ := sysEvent_eq_capture hc s addr w write
  rw [e]
  exact irq_wf _ _ (capture_regs_wf _ _ _ _ _ h)

theorem sysEvent_records (h : Sparse.wf resetVal s.regs = true) :
    Claims.records s (s.sysEvent code addr w write) pgSys code = true := by
  obtain ⟨c2, c3, e⟩ := sysEvent_eq_capture hc s addr w write
  rw [e]
  exact capture_irq_records _ _ _ _ _ h

end

end Sys2Proof.Machine
end

section
/-! SUPPORT. What the checks of R694 can answer, and what an access to a register page does by their answer. -/
namespace Sys2Proof.Machine

/-- R694: an access is denied with no event or one of R44, or it reaches the register that the page's layout has at its offset. -/
theorem checkPage_cases (s : State) (w : Who) (p off width : Nat) (write amo : Bool) :
    (∃ st ev, checkPage s w p off width write amo = .denied st ev ∧ (ev = 0 ∨ ev ∈ accessEvents))
      ∨ ∃ k inst d, checkPage s w p off width write amo = .reg p k inst off d ∧ pageOf p = some (k, inst)
        ∧ findReg k inst (off / 4 * 4) = some d := by
  unfold checkPage
  split
  · exact .inl ⟨_, _, rfl, by decide⟩
  · next k inst hpage =>
    extract_lets viaTruss
    split
    · exact .inl ⟨_, _, rfl, by decide⟩
    split
    · exact .inl ⟨_, _, rfl, by decide⟩
    split
    · exact .inl ⟨_, _, rfl, by decide⟩
    split
    · exact .inl ⟨_, _, rfl, by decide⟩
    · next d hreg =>
      extract_lets aligned
      split
      · exact .inl ⟨_, _, rfl, by decide⟩
      split
      · exact .inl ⟨_, _, rfl, by decide⟩
      · exact .inr ⟨k, inst, d, rfl, hpage, hreg⟩

theorem checkPage_denied_event {s : State} {w : Who} {p off width st ev : Nat} {write amo : Bool}
    (h : checkPage s w p off width write amo = .denied st ev) : ev = 0 ∨ ev ∈ accessEvents := by
  obtain ⟨st', ev', h', hev⟩ | ⟨k, inst, d, h', -⟩ := checkPage_cases s w p off width write amo
  · rw [h] at h'
    cases h'
    exact hev
  · rw [h] at h'
    cases h'

theorem reaches_checkPage {s : State} {w : Who} {p off : Nat} {write : Bool} (h : s.reaches w p off write = true) :
    ∃ k inst d, checkPage s w p off 4 write false = .reg p k inst off d ∧ pageOf p = some (k, inst)
      ∧ findReg k inst (off / 4 * 4) = some d := by
  obtain ⟨st, ev, h', -⟩ | hreg := checkPage_cases s w p off 4 write false
  · simp [State.reaches, h'] at h
  · exact hreg

/-! ## Refused accesses -/

theorem pageAccess_denied {s : State} {w : Who} {addr width p off st ev : Nat} {v : Option Nat} (hpl : place addr = .pages p off)
    (h : checkPage s w p off width v.isSome false = .denied st ev) : s.pageAccess w addr width v = s.deny w addr v.isSome st ev := by
  simp only [State.pageAccess, hpl, h]

theorem deny_rsp (s : State) (w : Who) (addr : Nat) (write : Bool) (st ev : Nat) :
    (s.deny w addr write st ev).rsp = ⟨if write && w.source = 233 then 0 else st, 0⟩ := rfl

theorem deny_keepsBlocks (s : State) (w : Who) (addr : Nat) (write : Bool) (st ev : Nat) : KeepsBlocks s (s.deny w addr write st ev) := by
  obtain ⟨r, c, a, e⟩ := deny_frame s w addr write st ev
  rw [e]
  constructor <;> rfl

theorem deny_pw (s : State) (w : Who) (addr : Nat) (write : Bool) (st ev : Nat) : (s.deny w addr write st ev).pw = s.pw := by
  obtain ⟨r, c, a, e⟩ := deny_frame s w addr write st ev
  rw [e]

theorem deny_hiLatch (s : State) (w : Who) (addr : Nat) (write : Bool) (st ev : Nat) : (s.deny w addr write st ev).hiLatch = s.hiLatch := by
  obtain ⟨r, c, a, e⟩ := deny_frame s w addr write st ev
  rw [e]

/-- R44: a refused access changes registers of the SYS page only. -/
theorem deny_keepsRegs (s : State) (w : Who) (addr : Nat) (write : Bool) (st : Nat) {ev : Nat} (hev : ev = 0 ∨ ev ∈ accessEvents) :
    KeepsRegsBut s (s.deny w addr write st ev) (fun pg _ => pg = pgSys) := by
  intro q off ho hq
  show (if ev = 0 then s else s.sysEvent ev addr w write).reg q off = s.reg q off
  split
  · rfl
  · next h0 => exact sysEvent_reg_other (hev.resolve_left h0) _ _ _ _ ho (.inl hq)

/-! ## Writes that reach their register -/

theorem place_page {p off : Nat} (hp : p < 4096) (ho : off < 4096) : place (pagesBase + 4096 * p + off) = .pages p off := by
  have hbase : pagesBase = 0x004000000000 := rfl
  have hslot : (pagesBase + 4096 * p + off - pagesBase) / 4096 = p := by omega
  have hofs : (pagesBase + 4096 * p + off) % 4096 = off := by omega
  have above : ∀ b ≤ pagesBase, ¬ pagesBase + 4096 * p + off < b := fun b hb => by omega
  rw [place]
  iterate 10 rw [if_neg (above _ (by decide))]
  rw [if_pos (by omega), hslot, hofs]

/-- The state in which a write that passes its checks meets its register: the access is answered, and the idle timer of the page's domain
restarts (R593). -/
def State.served (s : State) (k : PageKind) (inst : Nat) : State := (s.answer 0 0).touch (pageDomain k inst)

/-- The two updates that frame a served write change neither a register nor a block. -/
theorem KeepsBlocks.of_served {s t : State} {k : PageKind} {inst : Nat} (st data : Nat) (h : KeepsBlocks (s.served k inst) t) :
    KeepsBlocks s (t.answer st data) := { h with }

/-- R23: a 4-byte write that passes every check is a write of the register there. -/
theorem pageAccess_reaches {s : State} {w : Who} {p off : Nat} (hp : p < 4096) (ho : off < 4096) (h : s.reaches w p off true = true) :
    ∃ k inst d, pageOf p = some (k, inst) ∧ findReg k inst (off / 4 * 4) = some d
      ∧ ∀ v, s.pageAccess w (pagesBase + 4096 * p + off) 4 (some v)
        = ((s.served k inst).regWrite w p k inst off d (v % 2 ^ 32)).answer 0 0 := by
  obtain ⟨k, inst, d, hreg, hpage, hfind⟩ := reaches_checkPage h
  refine ⟨k, inst, d, hpage, hfind, fun v => ?_⟩
  simp only [State.pageAccess, place_page hp ho, Option.isSome_some, hreg]
  rfl

end Sys2Proof.Machine
end

section
/-! SUPPORT. The commands of the common page layout (R27–R33), each by what its write leaves. -/
namespace Sys2Proof.Machine

/-! ## The registers whose write is their own -/

section
variable (s : State) (w : Who) (p : Nat) (k : PageKind) (inst : Nat) (d : RegDef) (v : Nat)

theorem regWrite_ctrl : s.regWrite w p k inst 0x008 d v = s.ctrlWrite w p k inst d v := rfl
theorem regWrite_force : s.regWrite w p k inst 0x01C d v = s.forceWrite w p v := rfl
theorem regWrite_cap : s.regWrite w p k inst 0x020 d v = s.capWrite p v := rfl
theorem regWrite_lock : s.regWrite w p k inst 0xFF0 d v = s.lockWrite w p v := rfl

end

/-! ## PG_CTRL -/

theorem findReg_ctrl (k : PageKind) (inst : Nat) : findReg k inst 0x008 = some (ctrlDef k) := by
  have hoff : (ctrlDef k).stride = 0 ∧ (ctrlDef k).off = 0x008 := by
    unfold ctrlDef
    split <;> exact ⟨rfl, rfl⟩
  simp [findReg, regDefs, commonDefs, regCovers, hoff]

theorem ctrlDef_pair (k : PageKind) : (ctrlDef k).pair = false := by
  unfold ctrlDef
  split <;> rfl

theorem isHiHalf_ctrl (k : PageKind) (inst : Nat) : isHiHalf k inst 0x008 = false := by
  simp [isHiHalf, findReg, regDefs, commonDefs, regCovers]

/-- A write of PG_CTRL whose ENABLE is writable and not locked leaves the written ENABLE, whatever its other fields do (R27). -/
theorem writeFields_ctrl_enable {k : PageKind} (hk : enWritable k = true) (en : Bool) (old v : Nat) :
    (writeFields en false (ctrlDef k).flds old v).1 % 2 = v % 2 := by
  have last : ∀ acc : Nat × Bool, (writeField en false v acc ⟨0x008, 0, 0, .rwl, 0, 0⟩).1 % 2 = v % 2 := by
    intro acc
    simp only [writeField, fldMask, Bool.false_eq_true, if_false]
    show (acc.1 - (acc.1 &&& 1) + (v &&& 1)) % 2 = v % 2
    rw [Nat.and_one_is_mod, Nat.and_one_is_mod]
    omega
  rw [ctrlDef, if_pos hk]
  exact last _

/-- A register that is neither half of a pair is written whole, after the record of a frozen field (R34). -/
theorem writeReg_single (s : State) (w : Who) (p : Nat) {k : PageKind} {inst off : Nat} {d : RegDef} (v : Nat) (hd : d.pair = false)
    (hh : isHiHalf k inst off = false) :
    ∃ t, (t = s ∨ t = s.sysEvent Ev.FROZEN_WRITE (pagesBase + p * 4096 + off) w true)
      ∧ s.writeReg w p k inst off d v
        = t.setReg p off (BitVec.ofNat 32 (writeFields (s.enabled p) (s.locked p) d.flds (s.reg p off).toNat v).1) := by
  simp only [State.writeReg, hd, hh, Bool.false_eq_true, if_false]
  split
  · exact ⟨_, .inr rfl, rfl⟩
  · exact ⟨_, .inl rfl, rfl⟩

/-- A block that is neither a port, a lane nor the pool block takes up ENABLE without a further change of state. -/
theorem enableFollow_of_plain {k : PageKind} (hk : (!([PageKind.lane, .em, .lk, .cp, .pool].contains k)) = true) (s : State) (p inst : Nat)
    (on : Bool) : s.enableFollow p k inst on = s := by
  cases k with
  | lane | em | lk | cp | pool => cases hk
  | _ => rfl

theorem ctrlWrite_enabled {s : State} {k : PageKind} (w : Who) (p inst v : Nat) (h : Sparse.wf resetVal s.regs = true)
    (hen : enWritable k = true) (hk : (!([PageKind.lane, .em, .lk, .cp, .pool].contains k)) = true) (hl : s.locked p = false) :
    (s.ctrlWrite w p k inst (ctrlDef k) v).enabled p = v.testBit 0 ∧ (s.ctrlWrite w p k inst (ctrlDef k) v).mem = s.mem
      ∧ (s.ctrlWrite w p k inst (ctrlDef k) v).dk = s.dk := by
  have hplain : s.ctrlWrite w p k inst (ctrlDef k) v = s.writeReg w p k inst 0x008 (ctrlDef k) v := by
    simp only [State.ctrlWrite, enableFollow_of_plain hk, ite_self]
  obtain ⟨t, ht, e⟩ := writeReg_single s w p v (ctrlDef_pair k) (isHiHalf_ctrl k inst)
  have hwf : Sparse.wf resetVal t.regs = true := by
    obtain rfl | rfl := ht
    · exact h
    · exact sysEvent_wf (by decide) _ _ _ _ h
  have hframe : t.mem = s.mem ∧ t.dk = s.dk := by
    obtain rfl | rfl := ht
    · exact ⟨rfl, rfl⟩
    · obtain ⟨r, c, e'⟩ := sysEvent_frame s Ev.FROZEN_WRITE (pagesBase + p * 4096 + 0x008) w true
      rw [e']
      exact ⟨rfl, rfl⟩
  rw [hplain, e, hl]
  refine ⟨?_, hframe⟩
  have hbit := writeFields_ctrl_enable hen (s.enabled p) (s.reg p 0x008).toNat v
  rw [State.enabled, setReg_reg_same _ _ _ _ hwf, Nat.testBit_zero, ← hbit, bits, BitVec.toNat_ofNat, Nat.shiftRight_zero]
  show decide _ = decide _
  congr 2
  omega

/-! ## PG_IRQ_FORCE -/

/-- R29: in DIAGNOSTIC a forced source is latched. -/
theorem forceWrite_diag {s : State} (w : Who) (p v : Nat) (h : Sparse.wf resetVal s.regs = true) (hm : s.mode = modeDiag) :
    (s.forceWrite w p v).reg p 0x018 = s.reg p 0x018 ||| BitVec.ofNat 32 v := by
  rw [State.forceWrite, if_pos hm, setReg_reg_same _ _ _ _ h]

/-- R29: outside DIAGNOSTIC nothing is forced, and the SYS page records it. -/
theorem forceWrite_denied {s : State} (w : Who) (p v : Nat) (hm : s.mode ≠ modeDiag) :
    s.forceWrite w p v = s.sysEvent Ev.FORCE_DENIED (pagesBase + p * 4096 + 0x01C) w true := by
  rw [State.forceWrite, if_neg hm]

/-! ## PG_ERR_CAP0 -/

/-- What the registers hold after those at the offsets `l` of a page are set to 0. -/
theorem zeroRegs_reg (p q off : Nat) : ∀ (l : List Nat) {s : State}, Sparse.wf resetVal s.regs = true →
    (l.foldl (fun s o => s.setReg p o 0) s).reg q off = if regKey q off ∈ l.map (regKey p) then 0 else s.reg q off
  | [], _, _ => rfl
  | o :: l, s, h => by
    rw [List.foldl_cons, zeroRegs_reg p q off l (setReg_wf p o 0 h), List.map_cons]
    by_cases hl : regKey q off ∈ l.map (regKey p)
    · rw [if_pos hl, if_pos (List.mem_cons_of_mem _ hl)]
    · rw [if_neg hl]
      by_cases ho : regKey q off = regKey p o
      · rw [if_pos (List.mem_cons.mpr (.inl ho))]
        exact (congrArg (Sparse.get resetVal _) ho).trans (setReg_reg_same s p o 0 h)
      · rw [if_neg (List.not_mem_cons_of_ne_of_not_mem ho hl), setReg_reg_other _ _ _ _ _ _ ho]

/-- R30: a write of VALID = 1 clears the four registers of the capture. -/
theorem capWrite_valid (s : State) (p : Nat) :
    s.capWrite p (2 ^ 31) = [0x020, 0x024, 0x028, 0x02C].foldl (fun s o => s.setReg p o 0) s := if_pos (by decide)

theorem capWrite_valid_cleared {s : State} (p off : Nat) (h : Sparse.wf resetVal s.regs = true) (ho : off ∈ [0x020, 0x024, 0x028, 0x02C]) :
    (s.capWrite p (2 ^ 31)).reg p off = 0 := by
  rw [capWrite_valid, zeroRegs_reg p p off _ h, if_pos (List.mem_map_of_mem ho)]

theorem capWrite_valid_keepsRegs {s : State} (p : Nat) (h : Sparse.wf resetVal s.regs = true) :
    KeepsRegsBut s (s.capWrite p (2 ^ 31)) (fun pg o => pg = p ∧ 0x020 ≤ o ∧ o < 0x030) := by
  intro q off ho hq
  have hout : ∀ o ∈ [0x020, 0x024, 0x028, 0x02C], regKey p o ≠ regKey q off := by
    intro o hmem
    have hrange : o < 4096 ∧ 8 ≤ o / 4 ∧ o / 4 < 12 := by
      revert o
      decide
    exact regKey_ne hrange.1 ho (by omega)
  rw [capWrite_valid, zeroRegs_reg p q off _ h, if_neg]
  rw [List.mem_map]
  rintro ⟨o, hmem, he⟩
  exact hout o hmem he

theorem capWrite_valid_keepsBlocks (s : State) (p : Nat) : KeepsBlocks s (s.capWrite p (2 ^ 31)) := by
  rw [capWrite_valid]
  constructor <;> rfl

/-! ## PG_LOCK -/

/-- R33: a write of LOCK = 1 takes effect with the key, and is an event of the SYS page without it. -/
theorem lockWrite_lock (s : State) (w : Who) (p : Nat) (key : BitVec 16) :
    s.lockWrite w p (key.toNat * 2 ^ 16 + 1)
      = if key = 0xA5C3 then s.put p Rg.PG_LOCK_LOCK 1
        else s.sysEvent Ev.LOCK_KEY (pagesBase + p * 4096 + 0xFF0) w true := by
  have hlt := key.isLt
  have hodd : ¬ (key.toNat * 2 ^ 16 + 1) % 2 = 0 := by omega
  have hbits : bits (key.toNat * 2 ^ 16 + 1) 31 16 = key.toNat := by
    simp only [bits, Nat.shiftRight_eq_div_pow]
    omega
  have hkey : key.toNat = 0xA5C3 ↔ key = 0xA5C3 := by bv_omega
  rw [State.lockWrite, if_neg hodd, hbits]
  simp only [hkey]

theorem put_lock_locked {s : State} (p : Nat) (h : Sparse.wf resetVal s.regs = true) : (s.put p Rg.PG_LOCK_LOCK 1).locked p = true := by
  rw [State.locked, put_get_same _ _ _ _ _ h (by decide) (by decide)]
  rfl

/-- An access event is recorded below PG_LOCK, on whatever page the lock is. -/
theorem sysEvent_locked {code : Nat} (hc : code ∈ accessEvents) (s : State) (addr : Nat) (w : Who) (write : Bool) (p : Nat) :
    (s.sysEvent code addr w write).locked p = s.locked p := by
  have hreg := sysEvent_reg_other hc s addr w write (q := p) (off := 0xFF0) (by decide) (.inr (.inr (by decide)))
  exact congrArg (fun x => fldGet Rg.PG_LOCK_LOCK x == 1) hreg

end Sys2Proof.Machine
end

section
/-! The settlement of the statement about the common page commands, one lemma to each of its clauses. -/
namespace Sys2Proof.Claims
open Sys2Proof.Machine

theorem canonical_regs {s : State} (h : s.canonical = true) : Sparse.wf resetVal s.regs = true := by
  simp only [State.canonical, Bool.and_eq_true] at h
  obtain ⟨⟨⟨⟨hregs, -⟩, -⟩, -⟩, -⟩ := h
  exact hregs

section
variable {w : Who} {p : Fin 4096} {s : State} (hs : s.canonical = true)
include hs

/-- R27: PG_CTRL_WRITE of a page that is not locked sets ENABLE. -/
theorem pgCtrlWrite_completes (value : BitVec 32) {k : PageKind} {inst : Nat} (hpage : pageOf p.val = some (k, inst))
    (hr : s.reaches w p.val 0x008 true = true) (hen : enWritable k = true)
    (hk : (!([PageKind.lane, .em, .lk, .cp, .pool].contains k)) = true) (hl : s.locked p.val = false) :
    Completes (.pgCtrlWrite w p value) s fun t => t.enabled p.val = value.getLsbD 0 ∧ t.mem = s.mem ∧ t.dk = s.dk := by
  obtain ⟨k', inst', d, hpage', hfind, hw⟩ := pageAccess_reaches p.isLt (by decide) hr
  obtain ⟨rfl, rfl⟩ : k = k' ∧ inst = inst' := by simpa [hpage] using hpage'
  obtain rfl : ctrlDef k = d := Option.some.inj ((findReg_ctrl k inst).symm.trans hfind)
  refine ⟨_, congrArg Host.Outcome.next (hw _), ?_⟩
  rw [regWrite_ctrl, Nat.mod_eq_of_lt value.isLt]
  exact ctrlWrite_enabled (s := s.served k inst) w p.val inst value.toNat (canonical_regs hs) hen hk hl

/-- R29: PG_IRQ_FORCE_WRITE in DIAGNOSTIC and outside it. -/
theorem pgIrqForceWrite_completes (value : BitVec 32) (hr : s.reaches w p.val 0x01C true = true) :
    Completes (.pgIrqForceWrite w p value) s fun t =>
      (s.mode = modeDiag → t.reg p.val 0x018 = s.reg p.val 0x018 ||| value)
      ∧ (s.mode ≠ modeDiag → KeepsRegsBut s t (fun pg _ => pg = pgSys) ∧ KeepsBlocks s t ∧ records s t pgSys Ev.FORCE_DENIED = true) := by
  obtain ⟨k, inst, d, -, -, hw⟩ := pageAccess_reaches p.isLt (by decide) hr
  have hmode : (s.served k inst).mode = s.mode := rfl
  refine ⟨_, congrArg Host.Outcome.next (hw _), ?_⟩
  rw [regWrite_force, Nat.mod_eq_of_lt value.isLt, ← hmode]
  refine ⟨fun hm => ?_, fun hm => ?_⟩
  · refine (forceWrite_diag (s := s.served k inst) w p.val value.toNat (canonical_regs hs) hm).trans ?_
    rw [BitVec.ofNat_toNat, BitVec.setWidth_eq]
    rfl
  · rw [forceWrite_denied w p.val _ hm]
    exact ⟨fun q off ho hq => sysEvent_reg_other (by decide) (s.served k inst) _ _ _ ho (.inl hq),
      (sysEvent_keepsBlocks _ _ _ _ _).of_served 0 0, sysEvent_records (by decide) (s.served k inst) _ _ _ (canonical_regs hs)⟩

/-- R30: ERR_CAP_CLEAR. -/
theorem errCapClear_completes (hr : s.reaches w p.val 0x020 true = true) :
    Completes (.errCapClear w p) s fun t => t.reg p.val 0x020 = 0 ∧ t.reg p.val 0x024 = 0 ∧ t.reg p.val 0x028 = 0 ∧ t.reg p.val 0x02C = 0
      ∧ KeepsRegsBut s t (fun pg o => pg = p.val ∧ 0x020 ≤ o ∧ o < 0x030) ∧ KeepsBlocks s t := by
  obtain ⟨k, inst, d, -, -, hw⟩ := pageAccess_reaches p.isLt (by decide) hr
  have cleared : ∀ off ∈ [0x020, 0x024, 0x028, 0x02C], ((s.served k inst).capWrite p.val (2 ^ 31)).reg p.val off = 0 :=
    fun off ho => capWrite_valid_cleared p.val off (canonical_regs hs) ho
  exact ⟨_, congrArg Host.Outcome.next (hw _), cleared _ (by decide), cleared _ (by decide), cleared _ (by decide), cleared _ (by decide),
    capWrite_valid_keepsRegs (s := s.served k inst) p.val (canonical_regs hs), (capWrite_valid_keepsBlocks _ _).of_served 0 0⟩

/-- R33: PAGE_LOCK with the key and without it. -/
theorem pageLock_completes (key : BitVec 16) (hr : s.reaches w p.val 0xFF0 true = true) :
    Completes (.pageLock w p key) s fun t => (key = 0xA5C3 → t.locked p.val = true)
      ∧ (key ≠ 0xA5C3 → t.locked p.val = s.locked p.val ∧ records s t pgSys Ev.LOCK_KEY = true) := by
  obtain ⟨k, inst, d, -, -, hw⟩ := pageAccess_reaches p.isLt (by decide) hr
  have hlt : key.toNat * 2 ^ 16 + 1 < 2 ^ 32 := by have := key.isLt; omega
  refine ⟨_, congrArg Host.Outcome.next (hw _), ?_⟩
  rw [regWrite_lock, Nat.mod_eq_of_lt hlt, lockWrite_lock]
  refine ⟨fun hk => ?_, fun hk => ?_⟩
  · rw [if_pos hk]
    exact put_lock_locked (s := s.served k inst) p.val (canonical_regs hs)
  · rw [if_neg hk]
    exact ⟨sysEvent_locked (by decide) (s.served k inst) _ _ _ p.val,
      sysEvent_records (by decide) (s.served k inst) _ _ _ (canonical_regs hs)⟩

end

/-- R41, R44: a refused REGISTER_WRITE. -/
theorem registerWrite_denied {w : Who} {addr : BitVec 48} {width : Fin 17} {s : State} {p off st ev : Nat} (value : BitVec 64)
    (hpl : place addr.toNat = .pages p off) (h : checkPage s w p off width.val true false = .denied st ev) :
    Completes (.registerWrite w addr width value) s fun t => t.rsp = ⟨if w.source = 233 then 0 else st, 0⟩
      ∧ KeepsRegsBut s t (fun pg _ => pg = pgSys) ∧ KeepsBlocks s t ∧ t.pw = s.pw := by
  refine ⟨_, congrArg Host.Outcome.next (pageAccess_denied (v := some value.toNat) hpl h), ?_,
    deny_keepsRegs _ _ _ _ _ (checkPage_denied_event h), deny_keepsBlocks _ _ _ _ _ _, deny_pw _ _ _ _ _ _⟩
  simp [deny_rsp]

/-- R41, R44: a refused LO_READ_LATCH. -/
theorem loReadLatch_denied {w : Who} {addr : BitVec 48} {width : Fin 17} {s : State} {p off st ev : Nat}
    (hpl : place addr.toNat = .pages p off) (h : checkPage s w p off width.val false false = .denied st ev) :
    Completes (.loReadLatch w addr width) s fun t => t.rsp = ⟨st, 0⟩
      ∧ KeepsRegsBut s t (fun pg _ => pg = pgSys) ∧ KeepsBlocks s t ∧ t.hiLatch = s.hiLatch :=
  ⟨_, congrArg Host.Outcome.next (pageAccess_denied (v := none) hpl h), rfl, deny_keepsRegs _ _ _ _ _ (checkPage_denied_event h),
    deny_keepsBlocks _ _ _ _ _ _, deny_hiLatch _ _ _ _ _ _⟩

/-- Settles O19: each command of the common page layout by the write that it is, and a refused access by what its denial changes. -/
theorem commonPageCommandsAndRefusals : Obligations.CommonPageCommandsAndRefusals := by
  unfold Obligations.CommonPageCommandsAndRefusals
  refine ⟨fun w p value key s hs => ⟨?_, ?_, ?_, ?_⟩, fun w addr width value st ev s hs p off hpl => ⟨?_, ?_⟩⟩
  · exact fun k inst hpage hr hen hk hl => pgCtrlWrite_completes hs value hpage hr hen hk hl
  · exact pgIrqForceWrite_completes hs value
  · exact errCapClear_completes hs
  · exact pageLock_completes hs key
  · exact registerWrite_denied value hpl
  · exact loReadLatch_denied hpl

end Sys2Proof.Claims
end

section
/-! SUPPORT. Accesses and commands that reach their register (R23), the write of read-write fields (R8), and the events of a page (R30). -/
namespace Sys2Proof.Machine

/-! ## Accesses and commands that reach their register -/

/-- R23: an access that passes every check has its effect. -/
theorem access_reaches {s : State} {w : Who} {p off : Nat} {write : Bool} (h : s.reaches w p off write = true) :
    ∃ k inst, ∀ f, s.access w p off write f = f (s.served k inst) := by
  obtain ⟨k, inst, d, hreg, -⟩ := reaches_checkPage h
  refine ⟨k, inst, fun f => ?_⟩
  simp only [State.access, hreg]
  rfl

/-- R23: the write of a command that passes every check takes the written bits, then the command has its effect. -/
theorem command_reaches {s : State} {w : Who} {p off : Nat} (h : s.reaches w p off true = true) :
    ∃ k inst d, pageOf p = some (k, inst) ∧ findReg k inst (off / 4 * 4) = some d
      ∧ ∀ v f, s.command w p off v f = f ((s.served k inst).writeReg w p k inst off d v) := by
  obtain ⟨k, inst, d, hreg, hpage, hfind⟩ := reaches_checkPage h
  refine ⟨k, inst, d, hpage, hfind, fun v f => ?_⟩
  simp only [State.command, hreg]
  rfl

/-! ## Read-write fields -/

/-- The bits of a value under a field's mask. -/
theorem and_fldMask (v : Nat) (f : Fld) : v &&& fldMask f = bits v f.hi f.lo * 2 ^ f.lo := by
  rw [← Nat.shiftLeft_eq]
  refine Nat.eq_of_testBit_eq fun j => ?_
  rw [Nat.testBit_and, fldMask, bits, Nat.testBit_shiftLeft, Nat.testBit_shiftLeft, Nat.testBit_two_pow_sub_one, Nat.testBit_mod_two_pow,
    Nat.testBit_shiftRight]
  by_cases hj : f.lo ≤ j
  · rw [Nat.add_sub_cancel' hj]
    simp [hj, Bool.and_comm]
  · simp [hj]

/-- R8: a write of a read-write field replaces its bits. -/
theorem writeField_rw_testBit {f : Fld} (hf : f.acc = .rw) (hlo : f.lo ≤ f.hi) (en locked : Bool) (v : Nat) (acc : Nat × Bool) (j : Nat) :
    (writeField en locked v acc f).1.testBit j = if f.lo ≤ j ∧ j ≤ f.hi then v.testBit j else acc.1.testBit j := by
  obtain ⟨x, b⟩ := acc
  obtain ⟨n, hn⟩ : ∃ n, f.hi + 1 = f.lo + n := ⟨f.hi + 1 - f.lo, by omega⟩
  have hwidth : f.hi + 1 - f.lo = n := by omega
  have hval : (writeField en locked v (x, b) f).1 = 2 ^ f.lo * (2 ^ n * (x / 2 ^ f.lo / 2 ^ n) + v / 2 ^ f.lo % 2 ^ n) + x % 2 ^ f.lo := by
    simp only [writeField, hf, and_fldMask, bits, hwidth, Nat.shiftRight_eq_div_pow]
    have hx := Nat.div_add_mod x (2 ^ f.lo)
    have hq := Nat.div_add_mod (x / 2 ^ f.lo) (2 ^ n)
    have hold : 2 ^ f.lo * (2 ^ n * (x / 2 ^ f.lo / 2 ^ n)) + x / 2 ^ f.lo % 2 ^ n * 2 ^ f.lo = 2 ^ f.lo * (x / 2 ^ f.lo) := by
      rw [Nat.mul_comm _ (2 ^ f.lo), ← Nat.mul_add, hq]
    rw [Nat.mul_add, Nat.mul_comm (v / 2 ^ f.lo % 2 ^ n)]
    omega
  rw [hval, Nat.testBit_two_pow_mul_add _ (Nat.mod_lt _ (Nat.two_pow_pos _)), Nat.testBit_two_pow_mul_add _ (Nat.mod_lt _ (Nat.two_pow_pos _))]
  by_cases h1 : j < f.lo
  · have h2 : ¬ (f.lo ≤ j ∧ j ≤ f.hi) := by omega
    rw [if_pos h1, if_neg h2, Nat.testBit_mod_two_pow]
    simp [h1]
  · have hj : j - f.lo + f.lo = j := by omega
    rw [if_neg h1]
    by_cases h2 : j - f.lo < n
    · have h3 : f.lo ≤ j ∧ j ≤ f.hi := by omega
      rw [if_pos h2, if_pos h3, Nat.testBit_mod_two_pow, Nat.testBit_div_two_pow, hj]
      simp [h2]
    · have h3 : ¬ (f.lo ≤ j ∧ j ≤ f.hi) := by omega
      have hj' : j - f.lo - n + n + f.lo = j := by omega
      rw [if_neg h2, if_neg h3, Nat.testBit_div_two_pow, Nat.testBit_div_two_pow, hj']

/-- R8: a write of read-write fields replaces the bits that they cover. -/
theorem writeFields_rw_testBit (en locked : Bool) (v j : Nat) : ∀ (fs : List Fld) (acc : Nat × Bool),
    (∀ f ∈ fs, f.acc = .rw ∧ f.lo ≤ f.hi) →
    (fs.foldl (writeField en locked v) acc).1.testBit j = if ∃ f ∈ fs, f.lo ≤ j ∧ j ≤ f.hi then v.testBit j else acc.1.testBit j
  | [], _, _ => by simp
  | f :: fs, acc, h => by
    obtain ⟨⟨hf, hlo⟩, hfs⟩ := List.forall_mem_cons.mp h
    rw [List.foldl_cons, writeFields_rw_testBit en locked v j fs _ hfs, writeField_rw_testBit hf hlo]
    by_cases hin : ∃ g ∈ fs, g.lo ≤ j ∧ j ≤ g.hi
    · obtain ⟨g, hg, hcov⟩ := hin
      rw [if_pos ⟨g, hg, hcov⟩, if_pos ⟨g, List.mem_cons_of_mem f hg, hcov⟩]
    · rw [if_neg hin]
      simp only [List.mem_cons, exists_eq_or_imp, hin, or_false]

/-- R8: a field of a register of read-write fields reads, after a write, as what the write held at its place. -/
theorem fldGet_writeFields_rw {f : Fld} {fs : List Fld} (hf : f ∈ fs) (h32 : f.hi < 32) (h : ∀ g ∈ fs, g.acc = .rw ∧ g.lo ≤ g.hi)
    (en locked : Bool) (old v : Nat) : fldGet f (BitVec.ofNat 32 (writeFields en locked fs old v).1) = bits v f.hi f.lo := by
  refine Nat.eq_of_testBit_eq fun j => ?_
  simp only [fldGet, bits, BitVec.toNat_ofNat, Nat.testBit_mod_two_pow, Nat.testBit_shiftRight, writeFields]
  by_cases hj : j < f.hi + 1 - f.lo
  · have hcov : ∃ g ∈ fs, g.lo ≤ f.lo + j ∧ f.lo + j ≤ g.hi := ⟨f, hf, by omega, by omega⟩
    have hlt : f.lo + j < 32 := by omega
    rw [writeFields_rw_testBit _ _ _ _ _ _ h, if_pos hcov]
    simp [hlt]
  · simp [hj]

/-! ## Events of a page -/

/-- R614: an event of severity ALERT that is not fatal raises its source, is captured, and raises source 31. -/
theorem event_alert {p code b : Nat} {k : PageKind} {inst : Nat} (hp : pageOf p = some (k, inst)) (hb : irqBitOf k code = some b)
    (hsev : severity code = .alert) (hf : fatalBit code = none) (s : State) (ctx c2 c3 : Nat) :
    s.event p code ctx c2 c3 = ((s.irq p b).capture p code ctx c2 c3).irq p 31 := by
  simp only [State.event, hp, hb, hsev, hf]

/-- R614: an event of severity INFO that is not fatal raises its source and nothing else. -/
theorem event_info {p code b : Nat} {k : PageKind} {inst : Nat} (hp : pageOf p = some (k, inst)) (hb : irqBitOf k code = some b)
    (hsev : severity code = .info) (hf : fatalBit code = none) (s : State) (ctx c2 c3 : Nat) :
    s.event p code ctx c2 c3 = s.irq p b := by
  simp only [State.event, hp, hb, hsev, hf]

/-- A page that records an event after a source of it was raised records it from the start. -/
theorem records_of_irq {s t : State} {p b q code : Nat} (h : Claims.records (s.irq p b) t q code = true) :
    Claims.records s t q code = true := by
  have hcap : (s.irq p b).flag q Rg.PG_ERR_CAP0_VALID = s.flag q Rg.PG_ERR_CAP0_VALID :=
    congrArg (fun x => fldGet Rg.PG_ERR_CAP0_VALID x != 0) (irq_reg_other s (by decide) (.inr (.inr (by decide))))
  rwa [Claims.records, hcap] at h

end Sys2Proof.Machine
end

section
/-! SUPPORT. The buffer ledger (R502–R505): its events, its pools, and what allocation, a handle and TR_Pp_CFG do to a pool. -/
namespace Sys2Proof.Machine

/-! ## The events of the ledger -/

/-- R504: the events with which the ledger refuses a handle. -/
def handleEvents : List Nat := [Ev.BAD_HANDLE, Ev.DOUBLE_FREE, Ev.FOREIGN_FREE]

theorem handleEvents_alert : ∀ code ∈ handleEvents,
    irqBitOf .trestle3 code = some 0 ∧ severity code = .alert ∧ fatalBit code = none := by decide

theorem trEvent_tr (s : State) (p code item c2 ctx : Nat) : (s.trEvent p code item c2 ctx).tr = s.tr := by
  obtain ⟨r, c, e⟩ := event_frame s p code ctx c2 ((item % 4096) <<< 16)
  rw [State.trEvent, e]

theorem trEvent_records {s : State} {code : Nat} (hc : code ∈ handleEvents) (item c2 ctx : Nat) (h : Sparse.wf resetVal s.regs = true) :
    Claims.records s (s.trEvent pgTr3 code item c2 ctx) pgTr3 code = true := by
  obtain ⟨hb, hsev, hf⟩ := handleEvents_alert code hc
  rw [State.trEvent, event_alert rfl hb hsev hf]
  exact records_of_irq (capture_irq_records _ _ _ _ _ (irq_wf _ _ h))

/-- R503: POOL_EMPTY raises source 1 of its page. -/
theorem trEvent_poolEmpty (s : State) (item c2 ctx : Nat) : s.trEvent pgTr3 Ev.POOL_EMPTY item c2 ctx = s.irq pgTr3 1 :=
  event_info rfl rfl rfl rfl s ctx c2 _

/-! ## Pools -/

@[simp] theorem setReg_pool (s : State) (p off : Nat) (v : Word) (n : Nat) : (s.setReg p off v).pool n = s.pool n := rfl

@[simp] theorem bump_pool (s : State) (p code v : Nat) (n : Nat) : (s.bump p code v).pool n = s.pool n := rfl
@[simp] theorem answer_pool (s : State) (st data : Nat) (n : Nat) : (s.answer st data).pool n = s.pool n := rfl

theorem setPool_pool {s : State} (n : Nat) (x : BufPool) (h : Sparse.wf pool0 s.tr.pools = true) : (s.setPool n x).pool n = x :=
  Sparse.get_set_same pool0 n x s.tr.pools 0 h

/-- R512: what a pool shows in TR_Pp_STAT keeps the least free count, and a pool put in place is that pool with it. -/
theorem showPool_setPool {s : State} (n : Nat) (x : BufPool) (h : Sparse.wf pool0 s.tr.pools = true) :
    ((s.setPool n x).showPool n).pool n = { x with low := min x.low x.free } := by
  show (((s.setPool n x).setPool n
    { (s.setPool n x).pool n with low := min ((s.setPool n x).pool n).low ((s.setPool n x).pool n).free })).pool n = _
  rw [setPool_pool n _ (Sparse.set_wf n x h), setPool_pool n x h]

/-! ## Allocation -/

/-- R503: the lowest free buffer is not owned, and every one below it is. -/
theorem lowestFree_spec : ∀ (l : List (Nat × Nat)) (i : Nat), Sparse.wfFrom nat0 i l = true →
    i ≤ lowestFree l i ∧ Sparse.get nat0 l (lowestFree l i) = 0 ∧ ∀ c, i ≤ c → c < lowestFree l i → Sparse.get nat0 l c ≠ 0
  | [], i, _ => ⟨Nat.le_refl i, rfl, fun c h1 h2 => absurd h2 (Nat.not_lt.mpr h1)⟩
  | (k, v) :: l, i, h => by
    simp only [Sparse.wfFrom, Bool.and_eq_true, decide_eq_true_eq] at h
    obtain ⟨⟨hik, hv⟩, hl⟩ := h
    rw [lowestFree]
    split
    · next hki =>
      subst hki
      obtain ⟨hle, hfree, hbelow⟩ := lowestFree_spec l (k + 1) hl
      refine ⟨by omega, ?_, fun c h1 h2 => ?_⟩
      · rw [Sparse.get, if_neg (by omega), hfree]
      · rw [Sparse.get]
        split
        · exact hv
        · exact hbelow c (by omega) h2
    · refine ⟨Nat.le_refl i, ?_, fun c h1 h2 => absurd h2 (Nat.not_lt.mpr h1)⟩
      rw [Sparse.get, if_neg (by omega)]
      exact Sparse.get_of_lt nat0 l (k + 1) i hl (by omega)

/-- R503: a read of TR_ALLOCp of a pool with a free buffer. -/
theorem trAlloc_free {s : State} {w : Who} {n : Nat} (hv : (s.pool n).valid = true) (hf : 0 < (s.pool n).free)
    (h : Sparse.wf pool0 s.tr.pools = true) :
    (s.trAlloc w n).rsp = ⟨0, 2 ^ 31 + (n * 65536 + lowestFree (s.pool n).owner 0)⟩
      ∧ ((s.trAlloc w n).pool n).owner = Sparse.set nat0 (s.pool n).owner (lowestFree (s.pool n).owner 0) (w.ctx + 1) := by
  have hc : ((s.pool n).valid && decide (0 < (s.pool n).free)) = true := by simp [hv, hf]
  simp only [State.trAlloc, State.alloc, if_pos hc]
  refine ⟨rfl, ?_⟩
  rw [answer_pool, setReg_pool, bump_pool, showPool_setPool n _ h]

/-- R503: a read of TR_ALLOCp of a pool that is not set up or has no free buffer. -/
theorem trAlloc_empty {s : State} {w : Who} {n : Nat} (hn : n < 16) (he : (s.pool n).valid = false ∨ (s.pool n).free = 0)
    (h : Sparse.wf resetVal s.regs = true) :
    (s.trAlloc w n).rsp = ⟨0, 0⟩ ∧ (s.trAlloc w n).tr = s.tr ∧ Claims.irqSet (s.trAlloc w n) pgTr3 1 = true := by
  have hc : ¬ ((s.pool n).valid && decide (0 < (s.pool n).free)) = true := by
    rcases he with he | he <;> simp [he]
  simp only [State.trAlloc, State.alloc, if_neg hc, trEvent_poolEmpty]
  refine ⟨rfl, rfl, ?_⟩
  have hreg : ((s.irq pgTr3 1).setReg pgTr3 (0x200 + 4 * n) 0).reg pgTr3 0x018 = (s.irq pgTr3 1).reg pgTr3 0x018 :=
    setReg_reg_other _ _ _ _ _ _ (regKey_ne (by decide) (by omega) (.inr (by omega)))
  exact (congrArg (·.getLsbD 1) hreg).trans (irq_irqSet pgTr3 1 (by decide) h)

/-! ## Handles -/

section
variable {s : State} {w : Who} {handle : Nat} (new : Nat)

/-- R504: the handle names no buffer of a pool that is set up. -/
theorem ledger_badHandle (h : ¬ ((s.pool (handle / 65536)).valid = true ∧ handle % 65536 < (s.pool (handle / 65536)).count)) :
    s.ledger w handle new = s.trEvent pgTr3 Ev.BAD_HANDLE (handle / 65536) handle w.ctx := by
  refine if_pos ?_
  by_cases hv : (s.pool (handle / 65536)).valid = true
  · simp [Nat.not_lt.mp fun hi => h ⟨hv, hi⟩]
  · simp [hv]

variable (hn : handle / 65536 < 16) (hv : (s.pool (handle / 65536)).valid = true)
  (hi : handle % 65536 < (s.pool (handle / 65536)).count)
include hn hv hi

theorem ledger_handle_passes :
    ¬ (decide (16 ≤ handle / 65536) || !(s.pool (handle / 65536)).valid
      || decide ((s.pool (handle / 65536)).count ≤ handle % 65536)) = true := by
  simp [hn, hv, hi]

/-- R504: the buffer is FREE. -/
theorem ledger_doubleFree (ho : Sparse.get nat0 (s.pool (handle / 65536)).owner (handle % 65536) = 0) :
    s.ledger w handle new = s.trEvent pgTr3 Ev.DOUBLE_FREE (handle / 65536) handle w.ctx :=
  (if_neg (ledger_handle_passes hn hv hi)).trans (if_pos ho)

variable (ho : Sparse.get nat0 (s.pool (handle / 65536)).owner (handle % 65536) ≠ 0)
include ho

/-- R504: the buffer is another context's. -/
theorem ledger_foreignFree (hown : ¬ (w.ctx = 0 ∨ w.ctx + 1 = Sparse.get nat0 (s.pool (handle / 65536)).owner (handle % 65536))) :
    s.ledger w handle new = s.trEvent pgTr3 Ev.FOREIGN_FREE (handle / 65536) handle w.ctx := by
  refine (if_neg (ledger_handle_passes hn hv hi)).trans ((if_neg ho).trans (if_pos ?_))
  simpa [not_or] using hown

/-- R504: the owner, or context 0, gives the buffer its new owner, or frees it. -/
theorem ledger_owner (hown : w.ctx = 0 ∨ w.ctx + 1 = Sparse.get nat0 (s.pool (handle / 65536)).owner (handle % 65536))
    (h : Sparse.wf pool0 s.tr.pools = true) :
    ((s.ledger w handle new).pool (handle / 65536)).owner = Sparse.set nat0 (s.pool (handle / 65536)).owner (handle % 65536) new := by
  have hpass : ¬ (w.ctx ≠ 0 && decide (w.ctx + 1 ≠ Sparse.get nat0 (s.pool (handle / 65536)).owner (handle % 65536))) = true := by
    simp only [Bool.and_eq_true, decide_eq_true_eq]
    exact fun ⟨h0, hne⟩ => hown.elim h0 hne
  simp only [State.ledger, if_neg (ledger_handle_passes hn hv hi), if_neg ho, if_neg hpass]
  split
  · exact congrArg BufPool.owner (showPool_setPool _ _ h)
  · exact congrArg BufPool.owner (showPool_setPool _ _ h)

end

/-! ## TR_Pp_CFG -/

/-- TR_Pp_CFG in the table of its page (R512). -/
def poolCfgDef : RegDef := ⟨0x108, 0x10, 16, false, [Rg.TR_P_CFG_VALID, Rg.TR_P_CFG_SZ, Rg.TR_P_CFG_COUNT]⟩

theorem findReg_poolCfg : ∀ p : Fin 16, findReg .trestle3 3 ((0x108 + 0x10 * p.val) / 4 * 4) = some poolCfgDef := by decide

theorem isHiHalf_poolCfg : ∀ p : Fin 16, isHiHalf .trestle3 3 (0x108 + 0x10 * p.val) = false := by decide

/-- A write of TR_Pp_CFG leaves the written bits in the register, and the Trestle as it was. -/
theorem writeReg_poolCfg (s : State) (w : Who) (p : Fin 16) (v : Nat) (h : Sparse.wf resetVal s.regs = true) :
    let t := s.writeReg w pgTr3 .trestle3 3 (0x108 + 0x10 * p.val) poolCfgDef v
    t.tr = s.tr ∧ Sparse.wf resetVal t.regs = true
      ∧ ∀ f ∈ poolCfgDef.flds, fldGet f (t.reg pgTr3 (0x108 + 0x10 * p.val)) = bits v f.hi f.lo := by
  obtain ⟨u, hu, e⟩ := writeReg_single s w pgTr3 v (d := poolCfgDef) rfl (isHiHalf_poolCfg p)
  have hframe : u.tr = s.tr ∧ Sparse.wf resetVal u.regs = true := by
    obtain rfl | rfl := hu
    · exact ⟨rfl, h⟩
    · exact ⟨(sysEvent_keepsBlocks s _ _ _ _).tr, sysEvent_wf (by decide) _ _ _ _ h⟩
  obtain ⟨htr, hwf⟩ := hframe
  intro t
  refine ⟨(congrArg State.tr e).trans htr, by simpa only [t, e] using setReg_wf _ _ _ hwf, fun f hf => ?_⟩
  simp only [t, e, setReg_reg_same _ _ _ _ hwf]
  exact fldGet_writeFields_rw hf (by revert f; decide) (by decide) _ _ _ _

/-- R502: while every buffer of the pool is FREE, it is set up as TR_Pp_CFG says. -/
theorem poolCfg_free {s : State} {n : Nat} (ho : (s.pool n).owner = []) (h : Sparse.wf pool0 s.tr.pools = true) :
    ((s.poolCfg n).pool n).cfg = (s.reg pgTr3 (0x108 + 0x10 * n)).toNat := by
  have he : (s.pool n).owner.isEmpty = true := by rw [ho]; rfl
  simp only [State.poolCfg, if_pos he, showPool_setPool n _ h]

/-- R502: while a buffer of the pool is OWNED, the pool stays and TR_Pp_CFG shows it again. -/
theorem poolCfg_owned {s : State} {n : Nat} (ho : (s.pool n).owner ≠ []) :
    s.poolCfg n = s.setReg pgTr3 (0x108 + 0x10 * n) (BitVec.ofNat 32 (s.pool n).cfg) :=
  if_neg (by simpa using ho)

end Sys2Proof.Machine
end

section
/-! The settlement of the statement about the buffer ledger, one lemma to each of its commands. -/
namespace Sys2Proof.Claims
open Sys2Proof.Machine

theorem trCanonical_pools {s : State} (h : trCanonical s = true) : Sparse.wf pool0 s.tr.pools = true := by
  simp only [trCanonical, Bool.and_eq_true] at h
  obtain ⟨⟨-, hpools⟩, -⟩ := h
  exact hpools

section
variable {w : Who} {p : Fin 16} {s : State} (hs : s.canonical = true) (htr : trCanonical s = true)
include hs htr

/-- R503: BUFFER_ALLOC of a pool with a free buffer, and of one without. -/
theorem bufferAlloc_completes (hown : Sparse.wf nat0 (s.pool p.val).owner = true) (hr : s.reaches w pgTr3 (0x200 + 4 * p.val) false = true) :
    ((s.pool p.val).valid = true → 0 < (s.pool p.val).free → Completes (.bufferAlloc w p) s fun t =>
      ∃ b, t.rsp = ⟨0, 2 ^ 31 + p.val * 65536 + b⟩ ∧ Sparse.get nat0 (s.pool p.val).owner b = 0
        ∧ (∀ c < b, Sparse.get nat0 (s.pool p.val).owner c ≠ 0) ∧ Sparse.get nat0 (t.pool p.val).owner b = w.ctx + 1
        ∧ ∀ c, c ≠ b → Sparse.get nat0 (t.pool p.val).owner c = Sparse.get nat0 (s.pool p.val).owner c)
    ∧ ((s.pool p.val).valid = false ∨ (s.pool p.val).free = 0 → Completes (.bufferAlloc w p) s fun t =>
      t.rsp = ⟨0, 0⟩ ∧ t.tr = s.tr ∧ irqSet t pgTr3 1 = true) := by
  obtain ⟨k, inst, ha⟩ := access_reaches hr
  refine ⟨fun hv hf => ⟨_, congrArg Host.Outcome.next (ha _), ?_⟩, fun he => ⟨_, congrArg Host.Outcome.next (ha _), ?_⟩⟩
  · obtain ⟨hrsp, howner⟩ := trAlloc_free (s := s.served k inst) (w := w) hv hf (trCanonical_pools htr)
    obtain ⟨-, hfree, hbelow⟩ := lowestFree_spec (s.pool p.val).owner 0 hown
    refine ⟨lowestFree (s.pool p.val).owner 0, ?_, hfree, fun c hc => hbelow c (Nat.zero_le c) hc, ?_, fun c hc => ?_⟩
    · rw [hrsp, Nat.add_assoc]
      rfl
    · rw [howner]
      exact Sparse.get_set_same nat0 _ _ _ 0 hown
    · rw [howner]
      exact Sparse.get_set_other nat0 _ hc _
  · exact trAlloc_empty (s := s.served k inst) p.isLt he (canonical_regs hs)

/-- R504: a write of TR_FREE or TR_GIVE with a handle of pool `p`, by the ledger's answer: the buffer's owner becomes `new` (CTX + 1; 0:
FREE), or the handle is refused. -/
theorem handleWrite_completes {i : Instr} {off value new : Nat}
    (hexec : exec i s = .next (s.access w pgTr3 off true fun s => s.ledger w (bits value 19 0) new))
    (hown : Sparse.wf nat0 (s.pool p.val).owner = true) (hr : s.reaches w pgTr3 off true = true) (hp : bits value 19 16 = p.val) :
    let x := s.pool p.val
    let good := x.valid = true ∧ value % 65536 < x.count
    let o := Sparse.get nat0 x.owner (value % 65536)
    let own := w.ctx = 0 ∨ w.ctx + 1 = o
    (good → o ≠ 0 → own → Completes i s fun t => Sparse.get nat0 (t.pool p.val).owner (value % 65536) = new)
      ∧ (¬ good → Completes i s fun t => t.tr = s.tr ∧ records s t pgTr3 Ev.BAD_HANDLE = true)
      ∧ (good → o = 0 → Completes i s fun t => t.tr = s.tr ∧ records s t pgTr3 Ev.DOUBLE_FREE = true)
      ∧ (good → o ≠ 0 → ¬ own → Completes i s fun t => t.tr = s.tr ∧ records s t pgTr3 Ev.FOREIGN_FREE = true) := by
  obtain ⟨k, inst, ha⟩ := access_reaches hr
  have hpool : bits value 19 0 / 65536 = p.val := by
    rw [← hp]
    simp only [bits, Nat.shiftRight_eq_div_pow]
    omega
  have hidx : bits value 19 0 % 65536 = value % 65536 := by
    simp only [bits, Nat.shiftRight_eq_div_pow]
    omega
  generalize bits value 19 0 = handle at hexec hpool hidx
  rw [ha] at hexec
  rw [← hidx, ← hpool]
  have hn : handle / 65536 < 16 := hpool ▸ p.isLt
  rw [← hpool] at hown
  have refused : ∀ code ∈ handleEvents,
      (s.served k inst).ledger w handle new = (s.served k inst).trEvent pgTr3 code (handle / 65536) handle w.ctx →
      Completes i s fun t => t.tr = s.tr ∧ records s t pgTr3 code = true := fun code hc e =>
    ⟨_, hexec.trans (congrArg Host.Outcome.next e), trEvent_tr _ _ _ _ _ _,
      trEvent_records (s := s.served k inst) hc _ _ _ (canonical_regs hs)⟩
  refine ⟨?_, fun hbad => ?_, ?_, ?_⟩
  · rintro ⟨hv, hi⟩ ho hctx
    have howner := ledger_owner (s := s.served k inst) new hn hv hi ho hctx (trCanonical_pools htr)
    exact ⟨_, hexec, (congrArg (Sparse.get nat0 · _) howner).trans (Sparse.get_set_same nat0 _ _ _ 0 hown)⟩
  · exact refused _ (by decide) (ledger_badHandle (s := s.served k inst) new hbad)
  · rintro ⟨hv, hi⟩ ho
    exact refused _ (by decide) (ledger_doubleFree (s := s.served k inst) new hn hv hi ho)
  · rintro ⟨hv, hi⟩ ho hctx
    exact refused _ (by decide) (ledger_foreignFree (s := s.served k inst) new hn hv hi ho hctx)

/-- R502: TR_POOL_CFG_WRITE while every buffer of the pool is FREE, and while one is OWNED. -/
theorem trPoolCfgWrite_completes (value : Nat) (hr : s.reaches w pgTr3 (0x108 + 0x10 * p.val) true = true) :
    ((s.pool p.val).owner = [] → Completes (.trPoolCfgWrite w p value) s fun t => (t.pool p.val).valid = value.testBit 31
      ∧ (t.pool p.val).count = value % 65536 ∧ (t.pool p.val).size = 64 * 2 ^ bits value 27 24)
    ∧ ((s.pool p.val).owner ≠ [] → Completes (.trPoolCfgWrite w p value) s fun t => (t.pool p.val).cfg = (s.pool p.val).cfg
      ∧ t.reg pgTr3 (0x108 + 0x10 * p.val) = BitVec.ofNat 32 (s.pool p.val).cfg) := by
  obtain ⟨k, inst, d, hpage, hfind, hw⟩ := command_reaches hr
  obtain ⟨rfl, rfl⟩ : .trestle3 = k ∧ 3 = inst := by simpa [pageOf, pgTr3] using hpage
  obtain rfl : poolCfgDef = d := Option.some.inj ((findReg_poolCfg p).symm.trans hfind)
  obtain ⟨htr', hwf, hflds⟩ := writeReg_poolCfg (s.served .trestle3 3) w p value (canonical_regs hs)
  have hexec : exec (.trPoolCfgWrite w p value) s = .next (((s.served .trestle3 3).writeReg w pgTr3 .trestle3 3 (0x108 + 0x10 * p.val)
    poolCfgDef value).poolCfg p.val) := congrArg Host.Outcome.next (hw value _)
  generalize (s.served .trestle3 3).writeReg w pgTr3 .trestle3 3 (0x108 + 0x10 * p.val) poolCfgDef value = u at hexec htr' hwf hflds
  have hpool : u.pool p.val = s.pool p.val := congrArg (fun x : Trestle => Sparse.get pool0 x.pools p.val) htr'
  have hpools : Sparse.wf pool0 u.tr.pools = true := htr' ▸ trCanonical_pools htr
  refine ⟨fun ho => ⟨_, hexec, ?_⟩, fun ho => ?_⟩
  · have hcfg := poolCfg_free (hpool.symm ▸ ho) hpools
    have hvalid : bits ((u.poolCfg p.val).pool p.val).cfg 31 31 = bits value 31 31 := hcfg ▸ hflds Rg.TR_P_CFG_VALID (by decide)
    have hsize : bits ((u.poolCfg p.val).pool p.val).cfg 27 24 = bits value 27 24 := hcfg ▸ hflds Rg.TR_P_CFG_SZ (by decide)
    have hcount : bits ((u.poolCfg p.val).pool p.val).cfg 15 0 = bits value 15 0 := hcfg ▸ hflds Rg.TR_P_CFG_COUNT (by decide)
    have htop : bits value 31 31 = value / 2 ^ 31 % 2 := congrArg (· % 2) (Nat.shiftRight_eq_div_pow value 31)
    refine ⟨?_, hcount, congrArg (64 * 2 ^ ·) hsize⟩
    rw [BufPool.valid, hvalid, htop, Nat.testBit_eq_decide_div_mod_eq]
  · rw [poolCfg_owned (hpool.symm ▸ ho), hpool] at hexec
    exact ⟨_, hexec, congrArg BufPool.cfg hpool, setReg_reg_same _ _ _ _ hwf⟩

end

/-- Settles O35: each command of the ledger by what it does to the pool. -/
theorem bufferLedger : Obligations.BufferLedger := by
  unfold Obligations.BufferLedger
  intro w p value s hs htr hown
  exact ⟨bufferAlloc_completes hs htr hown, handleWrite_completes hs htr rfl hown, handleWrite_completes hs htr rfl hown,
    trPoolCfgWrite_completes hs htr value⟩

end Sys2Proof.Claims
end
